-- ==== Sys2Proof/Word.lean ====
section
/-!
DEFINITION. The words of the device: register words, memory bytes, bit planes and accumulators.
-/

namespace Sys2Proof

/-- A register word or a Corridor address as the hardware holds it. -/
abbrev Word := BitVec 32

/-- A byte of memory or of a transaction. -/
abbrev Byte := BitVec 8

/-- One bit of each of the 16,384 bays; bay (r, c) is bit r × 128 + c (R26). -/
abbrev Plane := BitVec 16384

/-- The word whose every bit is 0. -/
abbrev Word.zero : Word := 0#32

/-- The word of a number, modulo 2^32. -/
abbrev w32 (n : Nat) : Word := BitVec.ofNat 32 n

/-- The byte of a number, modulo 2^8. -/
abbrev b8 (n : Nat) : Byte := BitVec.ofNat 8 n

/-- 1 for true and 0 for false. -/
def bit (b : Bool) : Nat := if b then 1 else 0

/-- Addition that stays at the largest value of a field of `w` bits. -/
def satAdd (w a b : Nat) : Nat := if a + b < 2 ^ w then a + b else 2 ^ w - 1

end Sys2Proof
end

