-- ==== Sys2Proof/Syntax.lean ====
section
/-!
DEFINITION. The commands of the block, one constructor for each row of the table of operations and events
(spec/opcode_table.json). An operand is what the sender of the command, or the environment an event comes from,
supplies: a Corridor initiator, an address, data, a lane, a port, a received message.
-/

namespace Sys2Proof

/-- Who sends a request: the Corridor initiator ID of Table COR.1 and, on a lane's NI, the POS of the device that asks (R385). -/
structure Sender where
  init : Nat
  origin : Nat
  deriving DecidableEq, Repr

/-- An Atrium initiator, and the cycles its access waits at a bank that serves a different access (R415). -/
structure AtriumSender where
  init : Nat
  waited : Nat
  deriving DecidableEq, Repr

/-- How an RD ends: its data is ready by the last dummy cycle (R91), or CS_N rises before the response (R88). -/
structure RdEnd where
  ready : Bool
  cut : Bool
  deriving DecidableEq, Repr

/-- A SET_SERVICE in a slot, with the ports of its unit that are within a character when it takes effect (R213). -/
structure ServiceCmd where
  slot : Nat
  rxing : List Nat
  deriving DecidableEq, Repr

/-- A TRIP_ACK in a slot, with the channels on which a pulse source arrives in its cycle (R327). -/
structure AckCmd where
  slot : Nat
  pulses : Nat
  deriving DecidableEq, Repr

/-- What else falls into the cycle of a write of NWL_ORPHAN: flags that hardware sets, and the reset of the writer (R165, R176). -/
structure OrphanCycle where
  sets : Word
  holderReset : Bool
  deriving DecidableEq, Repr

/-- The end of a character on a port's line, and how many changes of its setting came after its start edge (R186, R216). -/
structure RxEnd where
  port : Nat
  late : Nat
  deriving DecidableEq, Repr

/-- A port that may start a message; RXD has been at mark for one character time (R226). -/
structure TxStart where
  port : Nat
  mark : Bool
  deriving DecidableEq, Repr

/-- A port whose message may be done; its last character had begun before CTS was deasserted (R220). -/
structure TxLast where
  port : Nat
  begun : Bool
  deriving DecidableEq, Repr

/-- Where a remote request or response comes from and goes to, and the hops it has made (R372). -/
structure Route where
  origin : Nat
  dst : Nat
  hops : Nat
  deriving DecidableEq, Repr

/-- One command or event (spec/opcode_table.json). `init` is the Corridor initiator ID of Table COR.1. -/
inductive Instr where
  /-- REGISTER_WRITE: A write to a register that has no row of its own applies according to the field access codes, with W1C set-wins and reserved-bit handling (R7). -/
  | registerWrite (sender : Sender) (addr : Nat) (data : Word) (twin : Bool) (hwSets : Word)
  /-- READ_CLEAR_READ: A completed read of an RC register returns its value and clears it, and an increment in the same cycle is kept (R9). -/
  | readClearRead (sender : Sender) (addr : Nat) (incs : Word)
  /-- TWIN_VALUE_WRITE: A Steward write with TWIN = 1 to a value register becomes the block's pending twin write and opens its 64-cycle window (R435). -/
  | twinValueWrite (addr : Nat) (data : Word)
  /-- TWIN_COMPLEMENT_WRITE: A Steward complement write applies the pending value if it matches, and otherwise raises MISMATCH or ORPHAN (R435). -/
  | twinComplementWrite (addr : Nat) (data : Word)
  /-- TWIN_WINDOW_EXPIRY: When no complement has arrived by t + 64, the pending twin write is discarded at t + 65 with fault INCOMPLETE (R435). -/
  | twinWindowExpiry (block : Nat)
  /-- TWIN_SCRUB_PASS: Every 1 ms the TWN scrubber reads every twin pair and raises fault SCRUB on each pair that does not match (R438). -/
  | twinScrubPass (us : Nat)
  /-- INTEG_COUNT_DECAY: Every 100 ms, SYS_INTEG.COUNT decrements by one while it is above zero (R53). -/
  | integCountDecay
  /-- POWER_UP_AON: Power-up of VDD_AON restores every register class, clears SYS_LIMP, RSTCAUSE and the save status, and starts BOOT (R59). -/
  | powerUpAon (straps : Nat)
  /-- RST_N_RESET: RST_N held low for at least 1 µs performs a DEV reset into BOOT, starts the full reset in RESTING, and is ignored in LANDING (R59). -/
  | rstNReset (straps : Nat) (limpCause : Option (Nat × Nat))
  /-- SYS_RSTREQ: A write of KEY 0xA5 with DEV = 1 performs a DEV reset; any other write has no effect, and in LANDING or RESTING the write is refused (R62). -/
  | sysRstreq (init : Nat) (data : Word)
  /-- PLL_LOCK: PLL lock completes boot step 0x1, and BootROM then runs steps 0x2 to 0x4 and reaches the wait for the image at 0x5 (R71). -/
  | pllLock (fail : Option (Nat × Nat))
  /-- BOOTCTL_GO: A write of SYS_BOOTCTL.GO at step 0x5 starts the bundle checks; at any other step it sets GOERR (R73). -/
  | bootctlGo (init : Nat) (data : Word)
  /-- BOOT_VHOLD_READY: At step 0x8, once VREADY = 1, Wailith restores any valid Landing save, writes the BOOT record and sets MODE = RUN (R506). -/
  | bootVholdReady
  /-- BOOT_DEADLINE_EXPIRY: If VREADY is still 0 when the step 0x8 deadline passes, the device enters LIMP with reason CAP_LOW (R506). -/
  | bootDeadlineExpiry
  /-- SYS_LIMP_CLR: A write of SYS_LIMP.CLR = 1 clears REASON, DETAIL and MORE together, and a cause recorded in the same cycle is kept (R52). -/
  | sysLimpClr (data : Word) (cause : Option (Nat × Nat))
  /-- LIMP_ENTRY: Entry to LIMP resets the Steward into the LIMP service, resets the sequencer and Riser, turns SRD off, takes port banks out of service and holds every channel tripped (R50). -/
  | limpEntry (reason detail : Nat)
  /-- DOZE_ENTRY_COMPLETE: At the end of the current frame the Gallery stops, the GAL and SRD domains turn off and the Steward halts, completing DOZE entry (R47). -/
  | dozeEntryComplete
  /-- WAKE_EVENT: A wake event in DOZE, or one held pending during DOZE entry, starts the return to RUN (R49). -/
  | wakeEvent (limpTag : Option Nat)
  /-- WAKE_RESTORE_COMPLETE: Wailith reloads the active image, retrains the lanes that were IN_SERVICE and returns to RUN within 3 ms (R48). -/
  | wakeRestoreComplete
  /-- STEWARD_RESET: A Steward reset restarts BootROM, which verifies the held Wailith image and restarts it, releasing the Steward's locks as orphaned (R61). -/
  | stewardReset (cause : Nat)
  /-- DRAIN_COMPLETE: A DRAINING unit whose started work has completed moves to OUT_OF_SERVICE, and the bank's buffers are reclaimed where that applies (R56). -/
  | drainComplete (ty idx : Nat)
  /-- DRAIN_TIMEOUT: A port bank that has not drained within 100 ms is forced OUT_OF_SERVICE and its message in progress is abandoned (R545). -/
  | drainTimeout (bank : Nat) (sending : List Nat)
  /-- CS_N_FALL: The falling edge of CS_N latches the status snapshots, selects the SPI mode and wakes the device from DOZE (R83). -/
  | csNFall (sclkHigh : Bool)
  /-- HL_WR: A Host Link WR is checked whole at the rise of CS_N and is either queued to the bridge or discarded with DROP (R86). -/
  | hlWr (bytes : List Byte) (partial_ : Bool)
  /-- HL_RD: A Host Link RD issues one bridged read or is refused, and returns STAT, SEQ and the data decided at the last dummy cycle (R88). -/
  | hlRd (bytes : List Byte) (answer : RdEnd)
  /-- HL_RDLAST: RDLAST returns the held result of the last issued read without issuing a new one (R92). -/
  | hlRdlast (bytes : List Byte)
  /-- HL_RDSUM: RDSUM returns STAT and the ICU summary snapshot (R83). -/
  | hlRdsum (bytes : List Byte)
  /-- HL_ECHO: ECHO returns the L bytes it received, or sets DROP when L is out of range (R99). -/
  | hlEcho (bytes : List Byte)
  /-- HL_CFGWR: CFGWR writes a slice register at the rise of CS_N, and QUAD and CRCEN apply from the next transaction (R97). -/
  | hlCfgwr (bytes : List Byte) (partial_ : Bool)
  /-- HL_CFGRD: CFGRD returns STAT and the value of a slice register (R96). -/
  | hlCfgrd (bytes : List Byte) (partial_ : Bool)
  /-- HL_RESET: A RESET transaction restores the HLK registers, discards the read result, releases the Host Link's locks and clears the host's claims (R98). -/
  | hlReset (bytes : List Byte)
  /-- HL_UNKNOWN_OPCODE: An unlisted opcode sets DROP with cause UNKNOWN, and SIO is not driven for the rest of the transaction (R99). -/
  | hlUnknownOpcode (op : Byte)
  /-- BRIDGE_WRITE_ISSUE: The bridge issues a queued WR as one Corridor write, or as one write per word in the device region (R560). -/
  | bridgeWriteIssue
  /-- BRIDGE_WRITE_RESPONSE: An error response to a bridged write sets HPT_STAT.WERR and captures the first failing address (R87). -/
  | bridgeWriteResponse
  /-- BRIDGE_READ_ISSUE: A bridged read is issued once every earlier host write has received its response, and SEQ increments (R89). -/
  | bridgeReadIssue
  /-- BRIDGE_READ_COMPLETE: A bridged read completes and its outcome is held for RD and RDLAST (R91). -/
  | bridgeReadComplete (cycles : Nat)
  /-- IPT_ID: The Inspection Port ID command returns DEVID and SYS_REV (R102). -/
  | iptId
  /-- IPT_STATUS: The Inspection Port STATUS command returns the 16-byte block sampled at the falling edge of INS_CS_N (R105). -/
  | iptStatus
  /-- IPT_READ: The Inspection Port READ command returns Logbook memory bytes from ADDR, word-whole and wrapping at the top (R103). -/
  | iptRead (addr n : Nat)
  /-- IPT_OTHER_OPCODE: A transaction with any other opcode leaves INS_SIO undriven but is still counted when it completes (R104). -/
  | iptOtherOpcode (op : Byte)
  /-- IPT_COUNT_SAMPLE: Every 10 ms in RUN, Wailith samples IPT_COUNT and posts and logs an inspection-access event when it has changed (R466). -/
  | iptCountSample
  /-- VST_CMD_SLOT_WRITE: A write to a command slot is stored while the slot is FREE, and is otherwise refused with VST_ERR.WRBUSY (R114). -/
  | vstCmdSlotWrite (init slot word : Nat) (data : Word)
  /-- VST_DOORBELL: A doorbell bit posts a FREE slot, and for a slot that is not FREE it sets VST_ERR.RING (R113). -/
  | vstDoorbell (data : Word)
  /-- VST_DONE_WRITE: Writing 1 to a VST_DONE bit frees a slot that is DONE, and has no effect in any other state (R115). -/
  | vstDoneWrite (data : Word)
  /-- VST_COMMAND_TAKE: The server takes the oldest POSTED slot, marks it BUSY and checks its header (R116). -/
  | vstCommandTake
  /-- VST_NOP: NOP returns its payload unchanged (R123). -/
  | vstNop (slot : Nat)
  /-- VST_GET_INFO: GET_INFO returns eight SYS words (R123). -/
  | vstGetInfo (slot : Nat)
  /-- VST_RESET: RESET logs and seals the command and then performs a DEV reset with no slot response (R124). -/
  | vstReset (slot : Nat)
  /-- VST_LIMP: The LIMP command responds OK and then enters LIMP with reason HOST_CMD, or sets MORE when already in LIMP (R125). -/
  | vstLimp (slot : Nat)
  /-- VST_DOZE: DOZE checks the conditions of R47, then sets the wake mask, trips every channel and starts DOZE entry, or returns STATE (R125). -/
  | vstDoze (slot : Nat)
  /-- VST_LOAD_GALLERY: LOAD_GALLERY checks an Adona image and writes it into a bank that is not active and not armed, or refuses it (R127). -/
  | vstLoadGallery (slot : Nat)
  /-- VST_SWITCH_BANK: SWITCH_BANK arms a bank switch, alone or across the group through the lead (R128). -/
  | vstSwitchBank (slot : Nat)
  /-- VST_LOAD_MAP: LOAD_MAP checks a channel-to-bay map and places it in the Riser's second map store (R342). -/
  | vstLoadMap (slot : Nat)
  /-- VST_LOAD_PARSE: LOAD_PARSE checks a parse table in full and then applies it to later frames (R129). -/
  | vstLoadParse (slot : Nat)
  /-- VST_PARSE_STATUS: PARSE_STATUS returns the parse counters (R123). -/
  | vstParseStatus (slot : Nat)
  /-- VST_SET_SERVICE: SET_SERVICE requests a permitted service transition, passing through DRAINING where that applies (R132). -/
  | vstSetService (cmd : ServiceCmd)
  /-- VST_GET_SERVICE: GET_SERVICE returns the state of every unit and column (R123). -/
  | vstGetService (slot : Nat)
  /-- VST_REPAIR_COLUMN: REPAIR_COLUMN arms a repair of a logical column onto a free spare (R133). -/
  | vstRepairColumn (slot : Nat)
  /-- VST_SELFTEST: SELFTEST starts a test on a unit that is UNDER_TEST (R547). -/
  | vstSelftest (slot : Nat)
  /-- VST_TRIP: TRIP asserts the Vestibule-command source for each channel in MASK (R134). -/
  | vstTrip (slot : Nat)
  /-- VST_TRIP_ACK: TRIP_ACK writes the twin acknowledge for the masked channels and reports which were released (R134). -/
  | vstTripAck (cmd : AckCmd)
  /-- VST_SET_CONFIG: SET_CONFIG runs the structural and range passes and then applies the fields under Newel lock 0 (R136). -/
  | vstSetConfig (slot : Nat)
  /-- SET_CONFIG_LOCK_TIMEOUT: When Newel lock 0 is still held by another holder after 100 µs, SET_CONFIG returns BUSY and applies nothing (R141). -/
  | setConfigLockTimeout (slot : Nat)
  /-- VST_GET_CONFIG: GET_CONFIG returns the applied values of the named fields (R142). -/
  | vstGetConfig (slot : Nat)
  /-- VST_LOG_MARK: LOG_MARK writes a NOTE record with the payload as its body (R123). -/
  | vstLogMark (slot : Nat)
  /-- VST_LOG_SEAL: LOG_SEAL seals the chain at once (R465). -/
  | vstLogSeal (slot : Nat)
  /-- VST_LOG_STATUS: LOG_STATUS returns the Logbook position and sealing counts (R123). -/
  | vstLogStatus (slot : Nat)
  /-- FRAME_PARSE: Wailith takes a closed frame, applies the first matching parse rule to write its sample elements, and frees the chain (R130). -/
  | frameParse (port : Nat)
  /-- ICU_CLAIM: A read of ICU_CLAIM returns the highest delivered source, marks it active and raises the running level (R156). -/
  | icuClaim (host pulse : Bool)
  /-- ICU_EOI: A write to ICU_EOI completes an active source, or sets ICU_ERR.EOI when the source is not active (R157). -/
  | icuEoi (host : Bool) (src : Nat) (pulse : Bool)
  /-- ICU_PEND_WRITE: An RMW-plain write of ICU_PEND sets or clears pulse pending bits, and a pulse in the same cycle is kept (R160). -/
  | icuPendWrite (k : Nat) (data pulses : Word)
  /-- ICU_CFG_WRITE: A write to ICU_CFG sets priorities and targets, and clears the active bit of a source moved to the other target (R179). -/
  | icuCfgWrite (k : Nat) (data : Word)
  /-- EVQ_POSTC: A Steward write to EVQ_POSTC posts a Wailith event with BLOCK 0x80 (R169). -/
  | evqPostc (init : Nat) (data : Word)
  /-- EVQ_POP: A Steward write of EVQ_POP.POP removes the head entry (R169). -/
  | evqPop (init : Nat) (data : Word)
  /-- NWL_ACQ: A read of NWL_ACQn attempts to acquire lock n without waiting and returns the outcome and the ORPHAN flag (R171). -/
  | nwlAcq (sender : Sender) (n : Nat) (holderReset : Bool)
  /-- NWL_REL: A write of REL = 1 by the holder frees the lock, and any other requester gets FOREIGN or NOTHELD (R172). -/
  | nwlRel (sender : Sender) (n : Nat) (data : Word) (holderReset : Bool)
  /-- NWL_ORPHAN_CLEAR: The holder of a lock clears its orphan flag by writing 1 to its bit in NWL_ORPHAN (R173). -/
  | nwlOrphanClear (sender : Sender) (k : Nat) (data : Word) (cycle : OrphanCycle)
  /-- NWL_FORCE: A Steward write of NWL_FORCE releases a held lock as orphaned and posts an event (R175). -/
  | nwlForce (init : Nat) (data : Word)
  /-- CHARACTER_RECEIVE: A received character is checked for parity and framing, matched against the address rules and stored, or overruns, and it may close the open frame (R183). -/
  | characterReceive (rx : RxEnd) (ch : Nat) (startMark parityBad stopLow : Bool)
  /-- FRAME_GIVE: Within 1 µs of the close, the port gives the chain to DEST and queues it, or frees it when the queue is full (R199). -/
  | frameGive (port : Nat)
  /-- BREAK_RECEIVE: A received break stores nothing, sets BREAK and closes any open frame with cause BREAK (R195). -/
  | breakReceive (rx : RxEnd)
  /-- IDLE_LINE: RXD at mark for one character time sets PBK_STAT.IDLE once (R194). -/
  | idleLine (port : Nat)
  /-- GAP_EXPIRY: The gap count expires and closes the open frame with cause GAP (R197). -/
  | gapExpiry (port : Nat)
  /-- LINE_DOWN: Space lasting 16 character times sets PBK_STAT.LINEDOWN (R195). -/
  | lineDown (port : Nat)
  /-- LINE_UP: Mark lasting one character time after LINEDOWN clears it (R195). -/
  | lineUp (port : Nat)
  /-- CELL_SPILL: The receive FIFO spills characters into a newly obtained chain cell once one can be had (R200). -/
  | cellSpill (port : Nat)
  /-- RAW_RING_WRITE: In RAW mode the port writes received bytes into its Atrium ring and advances WP, waiting while the ring is full (R203). -/
  | rawRingWrite (port : Nat)
  /-- PBK_FRMQ_POP: A read of PBK_FRMQ pops and returns one closed-frame entry, or returns 0 (R199). -/
  | pbkFrmqPop (init port : Nat)
  /-- ABD_ENABLE: A write of PBK_ABD.EN arms auto-baud from the next start edge, or sets CFGERR for an illegal configuration (R190). -/
  | abdEnable (port : Nat) (data : Word)
  /-- ABD_MEASURE: At the rise into the stop bit, the port checks the edge pattern and either writes the measured rate or records a failure (R191). -/
  | abdMeasure (port : Nat) (edges : List Nat) (m : Nat)
  /-- ABD_TIMEOUT: No rise into the stop bit within 31 ms fails auto-baud with TIMEOUT (R193). -/
  | abdTimeout (port : Nat)
  /-- ABD_REARM: After a failure, RXD at mark for QUIET × 10 µs rearms auto-baud (R193). -/
  | abdRearm (port : Nat)
  /-- PORT_WAKE_EDGE: A falling RXD edge on a wake-enabled port in DOZE is a wake event, and the wake character is captured on the wake oscillator (R205). -/
  | portWakeEdge (ports : List Nat)
  /-- SHIFTER_CLOCK_SWITCH: After the port PLL locks, the shifter changes to the port clock at the next character boundary (R206). -/
  | shifterClockSwitch (port : Nat)
  /-- PBK_TXQ_WRITE: A write to PBK_TXQ appends a transmit message, or is refused when the queue is full (R222). -/
  | pbkTxqWrite (init port : Nat) (data : Word)
  /-- TX_MESSAGE_START: The transmitter starts a queued message once its data, CTS and the line arrangement allow it (R223). -/
  | txMessageStart (tx : TxStart)
  /-- TX_GAP: A transmit FIFO that runs empty in mid-message holds the line at mark and counts TXGAP (R223). -/
  | txGap (port : Nat)
  /-- TX_MESSAGE_DONE: After the last stop bit and the DE tail, the port frees the chain and sets TXDONE (R224). -/
  | txMessageDone (tx : TxLast)
  /-- CTS_TIMEOUT: CTS deasserted for CTSTO ms with a message waiting sets PBK_STAT.CTSTO (R221). -/
  | ctsTimeout (port : Nat)
  /-- COLLISION: A read-back mismatch stops driving, abandons the message and counts a collision, or aborts the message after the last retry (R228). -/
  | collision (port : Nat)
  /-- RETRY_BACKOFF_END: After idle plus BACKOFF × k character times, the port resends the message (R229). -/
  | retryBackoffEnd (port : Nat)
  /-- BPM_POOL_ENABLE: A write of BPM_POOLp.EN enables a valid pool and starts its initialisation, or sets CFGERR (R241). -/
  | bpmPoolEnable (p : Nat) (data : Word)
  /-- BPM_POOL_DISABLE: A write of EN = 0 disables a pool that holds no HELD buffer, and is otherwise refused with CFGERR (R241). -/
  | bpmPoolDisable (p : Nat) (data : Word)
  /-- POOL_INIT_COMPLETE: Pool initialisation finishes writing the ring and clears INIT (R242). -/
  | poolInitComplete (p : Nat)
  /-- BPM_ALLOC: A read of BPM_ALLOCp allocates one buffer of pool p to the requester, or returns 0 (R246). -/
  | bpmAlloc (init p : Nat)
  /-- BPM_ALLOCFIT: A read of BPM_ALLOCFITc allocates the smallest fitting buffer, spilling to larger pools (R247). -/
  | bpmAllocfit (init c : Nat)
  /-- BPM_FREE: A write to BPM_FREE checks and frees a buffer or a whole chain, or rejects it with a cause (R253). -/
  | bpmFree (init : Nat) (data : Word)
  /-- BPM_GIVE: A write to BPM_GIVEo checks a buffer or chain and transfers it to owner o, or rejects it (R253). -/
  | bpmGive (init o : Nat) (data : Word)
  /-- BPM_RECLAIM: A write to BPM_RECLAIM frees every buffer held by the owner it names (R258). -/
  | bpmReclaim (init : Nat) (data : Word)
  /-- BPM_REBUILD: A Steward write to BPM_REBUILD empties the cache and rebuilds the ring from the owner table (R257). -/
  | bpmRebuild (init : Nat) (data : Word)
  /-- REBUILD_COMPLETE: A rebuild finishes and clears FAULTED, or leaves the pool FAULTED on a ring write error (R257). -/
  | rebuildComplete (p : Nat)
  /-- CACHE_REFILL: A cache below 8 entries reads up to 8 entries from the ring and checks each one (R255). -/
  | cacheRefill (p : Nat)
  /-- CACHE_WRITEBACK: A cache above 24 entries writes 8 entries back to the ring (R255). -/
  | cacheWriteback (p : Nat)
  /-- FRAME_START: The frame timer expires, and the sequencer increments FCNT, applies the frame-start effects and runs the active bank from its entry (R286). -/
  | frameStart
  /-- GAL_POWER_UP_CLEAR: After GAL power-up the sequencer clears bay memory and accumulators in 4,096 cycles (R268). -/
  | galPowerUpClear
  /-- GAL_NOP: The Gallery NOP instruction does nothing for one cycle (R300). -/
  | galNop (x : BitVec 8) (d a b : BitVec 16)
  /-- GAL_JMP: JMP continues at its target and closes any loop the target leaves (R302). -/
  | galJmp (x : BitVec 8) (d a b : BitVec 16)
  /-- GAL_BR: BR continues at its target when the condition on L holds (R302). -/
  | galBr (x : BitVec 8) (d a b : BitVec 16)
  /-- GAL_CALL: CALL pushes the return address, or traps at depth 16 (R302). -/
  | galCall (x : BitVec 8) (d a b : BitVec 16)
  /-- GAL_RET: RET pops the return address, or traps at depth 0 (R302). -/
  | galRet (x : BitVec 8) (d a b : BitVec 16)
  /-- GAL_LOOP: LOOP opens a zero-overhead loop with a count, or traps when nested a fifth time (R303). -/
  | galLoop (x : BitVec 8) (d a b : BitVec 16)
  /-- GAL_FEND: FEND ends the program's part of the frame, and a waiting armed switch or repair may then take effect (R304). -/
  | galFend (x : BitVec 8) (d a b : BitVec 16)
  /-- GAL_YIELD: YIELD continues at the target's YENTRY when an armed switch's conditions hold, and otherwise does nothing (R333). -/
  | galYield (x : BitVec 8) (d a b : BitVec 16)
  /-- GAL_SLI: SLI loads a 32-bit immediate into a scalar (R300). -/
  | galSli (x : BitVec 8) (d a b : BitVec 16)
  /-- GAL_SADD: SADD adds scalars modulo 2^32 (R300). -/
  | galSadd (x : BitVec 8) (d a b : BitVec 16)
  /-- GAL_SSUB: SSUB subtracts scalars modulo 2^32 (R300). -/
  | galSsub (x : BitVec 8) (d a b : BitVec 16)
  /-- GAL_SAND: SAND ANDs scalars (R300). -/
  | galSand (x : BitVec 8) (d a b : BitVec 16)
  /-- GAL_SOR: SOR ORs scalars (R300). -/
  | galSor (x : BitVec 8) (d a b : BitVec 16)
  /-- GAL_SXOR: SXOR XORs scalars (R300). -/
  | galSxor (x : BitVec 8) (d a b : BitVec 16)
  /-- GAL_SSHL: SSHL shifts a scalar left (R300). -/
  | galSshl (x : BitVec 8) (d a b : BitVec 16)
  /-- GAL_SSHR: SSHR shifts a scalar right logically (R300). -/
  | galSshr (x : BitVec 8) (d a b : BitVec 16)
  /-- GAL_SSRA: SSRA shifts a scalar right arithmetically (R300). -/
  | galSsra (x : BitVec 8) (d a b : BitVec 16)
  /-- GAL_SCMP: SCMP compares scalars and sets L (R300). -/
  | galScmp (x : BitVec 8) (d a b : BitVec 16)
  /-- GAL_SRDL: SRDL reads the remaining count of a loop counter into a scalar (R303). -/
  | galSrdl (x : BitVec 8) (d a b : BitVec 16)
  /-- GAL_LOGIC: LOGIC applies a truth table over two planes and C in the active bays (R305). -/
  | galLogic (x : BitVec 8) (d a b : BitVec 16)
  /-- GAL_PUSHA: PUSHA pushes A and ANDs it with a condition, or traps at depth 8 (R271). -/
  | galPusha (x : BitVec 8) (d a b : BitVec 16)
  /-- GAL_ELSEA: ELSEA inverts activity within the enclosing block (R271). -/
  | galElsea (x : BitVec 8) (d a b : BitVec 16)
  /-- GAL_POPA: POPA restores A from the stack, or traps at depth 0 (R271). -/
  | galPopa (x : BitVec 8) (d a b : BitVec 16)
  /-- GAL_SETA: SETA sets A from a plane in every bay (R271). -/
  | galSeta (x : BitVec 8) (d a b : BitVec 16)
  /-- GAL_CLRF: CLRF clears the selected flags in the active bays, with a hardware set winning (R305). -/
  | galClrf (x : BitVec 8) (d a b : BitVec 16)
  /-- GAL_MOVF: MOVF copies a field (R300). -/
  | galMovf (x : BitVec 8) (d a b : BitVec 16)
  /-- GAL_ADD: ADD adds fields and sets C and T (R306). -/
  | galAdd (x : BitVec 8) (d a b : BitVec 16)
  /-- GAL_SUB: SUB subtracts fields and sets C and T (R306). -/
  | galSub (x : BitVec 8) (d a b : BitVec 16)
  /-- GAL_ADDS: ADDS adds a scalar to a field (R306). -/
  | galAdds (x : BitVec 8) (d a b : BitVec 16)
  /-- GAL_SUBS: SUBS subtracts a scalar from a field (R306). -/
  | galSubs (x : BitVec 8) (d a b : BitVec 16)
  /-- GAL_CMP: CMP compares two fields into T (R300). -/
  | galCmp (x : BitVec 8) (d a b : BitVec 16)
  /-- GAL_CMPS: CMPS compares a field with a scalar into T (R300). -/
  | galCmps (x : BitVec 8) (d a b : BitVec 16)
  /-- GAL_MIN: MIN writes the smaller operand (R307). -/
  | galMin (x : BitVec 8) (d a b : BitVec 16)
  /-- GAL_MAX: MAX writes the larger operand (R307). -/
  | galMax (x : BitVec 8) (d a b : BitVec 16)
  /-- GAL_ABS: ABS writes the absolute value and flags the most negative value in T (R300). -/
  | galAbs (x : BitVec 8) (d a b : BitVec 16)
  /-- GAL_NEG: NEG negates a field and flags the most negative value in T (R300). -/
  | galNeg (x : BitVec 8) (d a b : BitVec 16)
  /-- GAL_SEL: SEL selects between two fields by T (R300). -/
  | galSel (x : BitVec 8) (d a b : BitVec 16)
  /-- GAL_BCAST: BCAST writes an immediate or a scalar into a field of every active bay (R300). -/
  | galBcast (x : BitVec 8) (d a b : BitVec 16)
  /-- GAL_ACLR: ACLR clears the accumulator (R300). -/
  | galAclr (x : BitVec 8) (d a b : BitVec 16)
  /-- GAL_MAC: MAC adds an exact product to the accumulator under the overflow mode (R308). -/
  | galMac (x : BitVec 8) (d a b : BitVec 16)
  /-- GAL_MUL: MUL sets the accumulator to an exact product (R308). -/
  | galMul (x : BitVec 8) (d a b : BitVec 16)
  /-- GAL_ACCF: ACCF adds an extended field to the accumulator (R308). -/
  | galAccf (x : BitVec 8) (d a b : BitVec 16)
  /-- GAL_ACCRD: ACCRD copies accumulator bits into a field (R309). -/
  | galAccrd (x : BitVec 8) (d a b : BitVec 16)
  /-- GAL_ACCRDS: ACCRDS reads the accumulator with saturation and sets T when it clamps (R309). -/
  | galAccrds (x : BitVec 8) (d a b : BitVec 16)
  /-- GAL_SHIFT: SHIFT moves a field by d steps in a direction under the edge mode (R310). -/
  | galShift (x : BitVec 8) (d a b : BitVec 16) (seam : Option (List (BitVec 128)))
  /-- SEAM_STALL_END: A stalled SEAM shift completes when its missing seam bits arrive (R341). -/
  | seamStallEnd (seam : List (BitVec 128))
  /-- SEAM_ABORT: A seam stall that reaches SEAMTO aborts the shift, sets E, traps SEAM_ABORT and ends the frame (R341). -/
  | seamAbort (seam : List (Option (BitVec 128)))
  /-- GAL_ANY: ANY reduces a plane by OR, locally or across the group, into a scalar and L, and optionally writes an any-line latch (R311). -/
  | galAny (x : BitVec 8) (d a b : BitVec 16)
  /-- GAL_COUNT: COUNT counts the active bays whose operand bit is 1 (R312). -/
  | galCount (x : BitVec 8) (d a b : BitVec 16)
  /-- GAL_RIN: RIN starts a Riser plane-in transfer (R314). -/
  | galRin (x : BitVec 8) (d a b : BitVec 16)
  /-- GAL_ROUT: ROUT reads a field and starts a Riser plane-out transfer (R315). -/
  | galRout (x : BitVec 8) (d a b : BitVec 16)
  /-- RISER_TRANSFER_COMPLETE: A Riser transfer commits at c_j, writing bays or Atrium elements and the error plane, and releases its lock (R313). -/
  | riserTransferComplete (late : Option Nat)
  /-- GAL_TRIP: TRIP sends its mask to the Balustrade when its condition holds (R317). -/
  | galTrip (x : BitVec 8) (d a b : BitVec 16)
  /-- GAL_PIO: PIO sets, clears, toggles or writes the Gallery's GPIO output register (R318). -/
  | galPio (x : BitVec 8) (d a b : BitVec 16)
  /-- GAL_PIOIN: PIOIN reads the synchronised pin levels of a port into a scalar (R318). -/
  | galPioin (x : BitVec 8) (d a b : BitVec 16)
  /-- GAL_NWL: NWL issues a Newel request under holder ID 0x3 (R319). -/
  | galNwl (x : BitVec 8) (d a b : BitVec 16)
  /-- NWL_RESULT: Sixteen cycles after issue, the NWL result is written to Sd and L (R319). -/
  | nwlResult
  /-- GAL_ILLEGAL: An undefined instruction word traps ILLEGAL before changing any state (R295). -/
  | galIllegal (word : BitVec 64)
  /-- BUDGET_EXCEEDED: GSQ_BCNT.NOW exceeding the frame's limit traps BUDGET and pulses source 67 (R338). -/
  | budgetExceeded
  /-- PLANE_WINDOW_ACCESS: A Corridor access to the plane window is served in a cycle free of Riser commits and reads (R347). -/
  | planeWindowAccess (write : Bool) (addr len : Nat) (data : List Byte)
  /-- LANE_TRAINED: A lane completes training and lock, and enters HELLO (R363). -/
  | laneTrained (lane : Nat) (taps : List Nat)
  /-- LANE_TRAIN_FAIL: A training or lock step that passes its limit is retried, and after a third failure the lane returns OUT_OF_SERVICE with cause TRAIN (R363). -/
  | laneTrainFail (lane : Nat)
  /-- HELLO_TIMEOUT: A HELLO step that passes its 100 µs limit quarantines the lane (R363). -/
  | helloTimeout (lane : Nat)
  /-- LANE_ALIGN: After FEND, the aligning device lengthens one frame gap to match the reference's frame start and FCNT (R364). -/
  | laneAlign (lane fcnt : Nat)
  /-- SB_HELLO: A received HELLO is checked for FABGEN, generations, topology, frame period and image, and may quarantine the lane (R363). -/
  | sbHello (lane pos topo fabgen wlgen : Nat) (ranges : List (Nat × Nat)) (ppm fper : Nat) (digest : List Byte) (leadPos size : Nat) (settled : Bool)
  /-- SB_LATCH: A received LATCH updates the remote latch inputs of its origin and is relayed once (R371). -/
  | sbLatch (lane origin hops : Nat) (copy : Bool) (vec seq : Nat)
  /-- SB_GANY: A received GANY vote contributes to GROUP ANY and is relayed once (R370). -/
  | sbGany (lane origin hops : Nat) (copy value : Bool) (fcnt ord : Nat)
  /-- SB_BEACON: A received BEACON is checked against the local FCNT and relayed once per frame (R367). -/
  | sbBeacon (lane origin hops fcnt leadPos : Nat)
  /-- BEACON_MISS: A beacon mismatch, or BEACONTO frames without a beacon, sets BEACONMISS and quarantines every joined lane with ALIGN (R367). -/
  | beaconMiss
  /-- SB_MARKER: A received MARKER records the arrival cycle, and a drift beyond 2 cycles takes the lane down with DRIFT (R366). -/
  | sbMarker (lane cycle arrival : Nat)
  /-- SB_LINKSTATE: A received LINKSTATE updates the group graph and diameter, and may declare peers gone or elect a new lead (R368). -/
  | sbLinkstate (lane origin hops change : Nat) (links : List Nat)
  /-- SB_LEAVE: A received LEAVE takes the lane down with cause LEAVE (R373). -/
  | sbLeave (lane : Nat)
  /-- SB_GROUPCMD: A received GROUPCMD arms a group switch or schedules a LAT and ANYLAT update for frame AT (R368). -/
  | sbGroupcmd (lane origin hops kind at_ : Nat) (args : List Nat)
  /-- SB_LOCK_REQ: A received LOCK_REQ is issued to the Newel under holder 0x8 + ORIGIN, and the result is returned (R372). -/
  | sbLockReq (lane : Nat) (route : Route) (lock op : Nat)
  /-- SB_LOCK_RSP: A received LOCK_RSP completes the outstanding remote lock request in CNC_RA (R372). -/
  | sbLockRsp (lane : Nat) (route : Route) (result : Word) (error : Bool)
  /-- SB_RA_REQ: A received remote access request is translated and issued on the Corridor by the receiving lane (R372). -/
  | sbRaReq (lane : Nat) (route : Route) (op va len : Nat) (data : List Byte)
  /-- SB_RA_RSP: A received remote access response completes CNC_RA with its result (R372). -/
  | sbRaRsp (lane : Nat) (route : Route) (error : Bool) (data : List Byte)
  /-- SB_IDLE: A received IDLE block carries nothing (R360). -/
  | sbIdle (lane : Nat)
  /-- UNCORRECTABLE_CODEWORD: An uncorrectable codeword discards its blocks and columns, and two among four consecutive codewords take the lane down with FEC (R361). -/
  | uncorrectableCodeword (lane gap : Nat)
  /-- LANE_SIGNAL_LOSS: Loss of signal or CDR lock takes the lane down with SIGNAL (R373). -/
  | laneSignalLoss (lane : Nat)
  /-- LANE_LOCK_LOSS: Loss of codeword or superframe lock takes the lane down with LOCK (R373). -/
  | laneLockLoss (lane : Nat)
  /-- CNC_RA_GO: A Steward write of CNC_RA.GO sends one remote read, write or lock request (R372). -/
  | cncRaGo (init : Nat) (data : Word)
  /-- RA_TIMEOUT: A remote request not answered within 100 µs ends with TIMEOUT (R372). -/
  | raTimeout
  /-- CORRIDOR_REQUEST_DECODE: An initiator NI decodes a request through its route table, or answers it with DECODE (R388). -/
  | corridorRequestDecode (sender : Sender) (write : Bool) (addr len : Nat) (data : List Byte) (twin : Bool)
  /-- CORRIDOR_RESPONSE_SINK: A response sinks into its reserved slot at the initiator, and is discarded if the initiator was reset (R407). -/
  | corridorResponseSink (init lat tag : Nat)
  /-- NOC_RTCTL_COMMIT: A write of NOC_RTCTL commits a route-table entry, or sets NOC_ERR.ROUTE when the entry is invalid (R391). -/
  | nocRtctlCommit (data : Word)
  /-- NOC_SNAP: A write of NOC_STATCTL.SNAP copies the statistics into the snapshot registers and clears the live counters (R403). -/
  | nocSnap (data : Word)
  /-- NOC_TRACE_CLR: A write of NOC_TRCTL.CLR empties the trace buffer and clears FULL (R405). -/
  | nocTraceClr (data : Word)
  /-- NOC_TG_GO: A write of NOC_TGCTL.GO starts a loopback run of write and read pairs to a target NI (R406). -/
  | nocTgGo (data : Word)
  /-- TG_RUN_COMPLETE: The test generator run ends with counted mismatches and DONE set (R406). -/
  | tgRunComplete (errs : Nat)
  /-- ATRIUM_ACCESS: An Atrium access is checked against the windows and bank state and served one bank access per word, with ECC (R412). -/
  | atriumAccess (sender : AtriumSender) (write : Bool) (addr len : Nat) (data : List Byte)
  /-- ATRIUM_ECC_WRITEBACK: A corrected word is written back in the bank's next idle cycle (R417). -/
  | atriumEccWriteback (word : Nat)
  /-- ATRIUM_PATROL_READ: Each idle bank reads one word every 256 cycles and handles it under the ECC rules (R418). -/
  | atriumPatrolRead (bank : Nat)
  /-- ATRIUM_BANK_INIT_COMPLETE: A bank leaving OUT_OF_SERVICE completes its power-up or zero initialisation (R419). -/
  | atriumBankInitComplete (bank : Nat)
  /-- LOGBOOK_MEMORY_WRITE: A write to the Logbook memory from an admitted initiator writes whole words in ascending order (R424). -/
  | logbookMemoryWrite (init addr : Nat) (data : List Byte)
  /-- LOGBOOK_MEMORY_READ: A Corridor read of the Logbook memory corrects single-bit errors and reports uncorrectable words (R423). -/
  | logbookMemoryRead (init addr len : Nat)
  /-- CWT_TABLE_WALK: The walker performs one translation walk in arrival order, checking each pointer before reading (R430). -/
  | cwtTableWalk
  /-- CWT_INVAL: A write of CWT_INVAL invalidates all, one peer's, or one page's translations (R433). -/
  | cwtInval (data : Word)
  /-- CWT_BASE_WRITE: A write to CWT_BASEp or CWT_DEVPERM invalidates every entry of the peers it affects (R433). -/
  | cwtBaseWrite (p : Nat) (data : Word)
  /-- DGE_START: A START write opens a list or programmed job on an idle context, or is refused when the context is busy (R447). -/
  | dgeStart (init c : Nat) (data : Word)
  /-- DGE_LIST_JOB_COMPLETE: A list job finishes its messages, writes their digests and sets DONE, or fails with a cause (R449). -/
  | dgeListJobComplete (c : Nat)
  /-- DGE_DATA: A write to DGE_cDATA appends four bytes, or fails with OVERFLOW or ORDER (R454). -/
  | dgeData (init c : Nat) (data : Word)
  /-- DGE_LAST: A write to DGE_cLAST appends LASTN bytes and finishes the programmed message (R453). -/
  | dgeLast (init c : Nat) (data : Word)
  /-- DGE_FINISH: A write of FINISH finishes the programmed message with no further bytes (R453). -/
  | dgeFinish (init c : Nat) (data : Word)
  /-- DGE_ABORT: A write of ABORT stops the job at the next block boundary with cause ABORTED (R470). -/
  | dgeAbort (init c : Nat) (data : Word)
  /-- DGE_KEY_LOAD: A Steward KEYCTL LOAD puts the bytes of DGE_KEYLD into a key slot from 1 to 7 (R455). -/
  | dgeKeyLoad (init : Nat) (data : Word)
  /-- DGE_KEY_ZERO: A Steward KEYCTL ZERO clears a key slot from 1 to 7 (R456). -/
  | dgeKeyZero (init : Nat) (data : Word)
  /-- DGE_KAT_GO: A Steward write of DGE_KAT.GO runs the five known-answer tests once both contexts are idle (R458). -/
  | dgeKatGo (init : Nat) (data : Word)
  /-- DGE_KAT_COMPLETE: The known-answer run ends with PASS, or with FAIL and an integrity fault (R458). -/
  | dgeKatComplete (fail : Nat)
  /-- LOG_RECORD_WRITE: Wailith writes a chained record for a selected event, writing word 0 last and then HEADPTR (R461). -/
  | logRecordWrite (failed : Bool)
  /-- LOG_SEAL_WRITE: When a seal condition or timer falls due, Wailith writes a SEAL record with the slot-0 MAC (R465). -/
  | logSealWrite
  /-- LIFE_TOGGLE: Every HALFP µs each HEALTHY channel's outputs toggle in antiphase (R475). -/
  | lifeToggle (n : Nat)
  /-- BAL_ACK: A twin-written acknowledge releases each named channel whose release conditions hold in that cycle (R483). -/
  | balAck (data : Word) (pulses : Nat)
  /-- BAL_VTRIP: A Steward write to BAL_VTRIP trips the masked channels through the Vestibule-command source (R480). -/
  | balVtrip (init : Nat) (data : Word)
  /-- BAL_SKICK: A Steward kick write with the expected key restarts the Steward watchdog, and a wrong key expires it (R486). -/
  | balSkick (init : Nat) (data : Word)
  /-- BAL_HKICK: A host kick write with the expected key restarts the host heartbeat watchdog, and a wrong key expires it (R487). -/
  | balHkick (init : Nat) (data : Word)
  /-- FRAME_WATCHDOG_EXPIRY: The count of incomplete frames reaching MISS activates the frame watchdog source (R485). -/
  | frameWatchdogExpiry
  /-- STEWARD_WATCHDOG_EXPIRY: TO × 10 µs without a valid kick activates the SWD source and resets the Steward (R486). -/
  | stewardWatchdogExpiry (kick : Bool)
  /-- HOST_WATCHDOG_EXPIRY: TO ms without a valid host kick activates the HWD source (R487). -/
  | hostWatchdogExpiry (kick : Bool)
  /-- WATCHDOG_HALF_TIME: Half a watchdog's time without a kick pulses source 81 and sets the warning bit (R488). -/
  | watchdogHalfTime (host : Bool)
  /-- CLOCK_LOSS: No Corridor clock edge for 1 µs drives every trip pin low and trips every channel with CLOCK (R477). -/
  | clockLoss
  /-- CLOCK_RETURN: The return of the Corridor clock raises integrity fault CLOCK (R477). -/
  | clockReturn
  /-- TRIP_READBACK_CHECK: Every 10 µs the trip pins are read back, and a mismatch raises READBACK and trips the channel (R478). -/
  | tripReadbackCheck (levels : Word)
  /-- LOCKSTEP_MISMATCH: A Steward core mismatch suppresses the request, resets the Steward and raises LOCKSTEP (R490). -/
  | lockstepMismatch
  /-- IO_WARNING: VDD_IO0 below 3.10 V sets IOWARN and counts a warning, and above 3.15 V the warning clears (R502). -/
  | ioWarning (mv : Nat)
  /-- LANDING_TRIGGER: VDD_IO0 below 3.00 V enters LANDING, trips every channel and starts the save sequence (R507). -/
  | landingTrigger (mv : Nat) (nvmwr : Option Nat) (limpCause : Option (Nat × Nat))
  /-- LANDING_SAVE_COMPLETE: The save writes its CRC and STATUS, the CORE domain turns off and the device enters RESTING (R507). -/
  | landingSaveComplete (vend : Nat)
  /-- RESTING_EXIT: VDD_IO0 at or above 3.20 V for STABLE ms, with the core rails in range, starts the full reset to BOOT (R512). -/
  | restingExit (straps : Nat)
  /-- AON_SHUTDOWN: VHOLD below 5.0 V with VDD_AON absent shuts down the AON domain (R512). -/
  | aonShutdown
  /-- CORE_SUPPLY_FAULT: VDD_CORE or VDD_GAL out of range sets COREFLT or GALFLT and raises integrity fault SUPPLY (R502). -/
  | coreSupplyFault (gal : Bool) (mv : Nat)
  /-- VHOLD_LOW: VHOLD below VREADY for 10 ms in RUN sets VLOW and posts a CRIT event (R502). -/
  | vholdLow
  /-- CHARGER_FAULT: VHOLD rising by less than 0.5 V in 10 ms while charging sets CHGFLT (R504). -/
  | chargerFault
  /-- VHOLD_UPDATE: Every 100 µs the PSV updates PSV_VHOLD (R504). -/
  | vholdUpdate (mv : Nat)
  /-- PIO_SET: A write to PIO_SETx sets OUT bits (R525). -/
  | pioSet (x : Nat) (data : Word)
  /-- PIO_CLR: A write to PIO_CLRx clears OUT bits (R525). -/
  | pioClr (x : Nat) (data : Word)
  /-- PIO_TGL: A write to PIO_TGLx inverts OUT bits (R525). -/
  | pioTgl (x : Nat) (data : Word)
  /-- PIO_OUT_WRITE: A write to PIO_OUTx replaces the whole software output register (R525). -/
  | pioOutWrite (x : Nat) (data : Word)
  /-- PIN_INTERRUPT_EDGE: A filtered edge or level on a pin-interrupt line pulses or holds its ICU source (R532). -/
  | pinInterruptEdge (n : Nat) (level : Bool)
  /-- PIN_WAKE: A pulse on a wake-enabled pin-interrupt line in DOZE is a wake event and sets PIO_WAKESRC (R533). -/
  | pinWake (mask : Nat)
  /-- SELFTEST_COMPLETE: A self-test finishes, clears its loop-back settings and returns its result and detail word (R547). -/
  | selftestComplete (ty idx result detail : Nat)
  /-- SELFTEST_GAP_TIMEOUT: A column test with no long enough gap within 1 s returns 0xFFFF_FFFF (R548). -/
  | selftestGapTimeout (col : Nat)
  /-- JTAG_BYPASS: The TAP BYPASS instruction selects the bypass register (R551). -/
  | jtagBypass (tdi : List Bool)
  /-- JTAG_IDCODE: The TAP IDCODE instruction returns 0x2480_8B47 (R551). -/
  | jtagIdcode
  /-- JTAG_SAMPLE_PRELOAD: SAMPLE/PRELOAD captures or loads the boundary register (R552). -/
  | jtagSamplePreload (capture : List Bool) (load : Bool)
  /-- JTAG_EXTEST: EXTEST drives the boundary pins only in BOOT with BOOTSEL = 1, and acts as BYPASS otherwise (R552). -/
  | jtagExtest (cells : List Bool)
  /-- JTAG_EXTEST_PULSE: EXTEST_PULSE tests the AC-coupled lane and REFCLK pins under the same condition (R552). -/
  | jtagExtestPulse (cells : List Bool)
  /-- JTAG_EXTEST_TRAIN: EXTEST_TRAIN tests the AC-coupled lane and REFCLK pins under the same condition (R552). -/
  | jtagExtestTrain (cells : List Bool)
  /-- JTAG_CLAMP: CLAMP holds the boundary outputs under the same condition (R552). -/
  | jtagClamp (tdi : List Bool)
  /-- JTAG_HIGHZ: HIGHZ floats the boundary outputs under the same condition (R552). -/
  | jtagHighz (tdi : List Bool)
  /-- IO_RECOVERY: VDD_IO0 rising to the 3.20 V recovery threshold during LANDING sets RECOVERED in the save status, while the sequence still runs on to RESTING (R514). -/
  | ioRecovery (mv : Nat)
  /-- JOIN_STEP_TIMEOUT: When a join step from ALIGN onward passes its limit in Table CNC.5, the lane is left IN_SERVICE and QUARANTINED with a cause (R363). -/
  | joinStepTimeout (lane : Nat)
  /-- SB_UNDEFINED_TYPE: A received sideband block with an undefined TYPE is discarded and counted (R361). -/
  | sbUndefinedType (lane type : Nat)
  deriving DecidableEq, Repr

end Sys2Proof
end

