-- ==== Sys2Proof/Decode.lean ====
section
/-!
DEFINITION. The words of commands. The opcode table gives no row any bits; the one binary encoding of the manual is that of
the Gallery's 64-bit instruction words (R295, Tables GIS.1 and GIS.3 to GIS.7), with its encoder, and a table word of 64 bits
is read as one of them. Other commands come over the interfaces that the manual gives them, not as words.
-/

namespace Sys2Proof

/-- A Gallery instruction word: OP, X, D, A, B from the top (Table GIS.1). -/
def galWord (op x : BitVec 8) (d a b : BitVec 16) : BitVec 64 := op ++ x ++ d ++ a ++ b

/-- The Gallery command of an instruction word by its OP and fields; an OP that no table lists is ILLEGAL (R295, R300). A
SHIFT comes without the seam bits, which arrive from outside. -/
def galDecode (w : BitVec 64) : Instr :=
  let x := w.extractLsb' 48 8
  let d := w.extractLsb' 32 16
  let a := w.extractLsb' 16 16
  let b := w.extractLsb' 0 16
  match (w.extractLsb' 56 8).toNat with
  | 0x01 => .galNop x d a b
  | 0x02 => .galJmp x d a b
  | 0x03 => .galBr x d a b
  | 0x04 => .galCall x d a b
  | 0x05 => .galRet x d a b
  | 0x06 => .galLoop x d a b
  | 0x07 => .galFend x d a b
  | 0x08 => .galYield x d a b
  | 0x10 => .galSli x d a b
  | 0x11 => .galSadd x d a b
  | 0x12 => .galSsub x d a b
  | 0x13 => .galSand x d a b
  | 0x14 => .galSor x d a b
  | 0x15 => .galSxor x d a b
  | 0x16 => .galSshl x d a b
  | 0x17 => .galSshr x d a b
  | 0x18 => .galSsra x d a b
  | 0x19 => .galScmp x d a b
  | 0x1A => .galSrdl x d a b
  | 0x20 => .galLogic x d a b
  | 0x21 => .galPusha x d a b
  | 0x22 => .galElsea x d a b
  | 0x23 => .galPopa x d a b
  | 0x24 => .galSeta x d a b
  | 0x25 => .galClrf x d a b
  | 0x30 => .galMovf x d a b
  | 0x31 => .galAdd x d a b
  | 0x32 => .galSub x d a b
  | 0x33 => .galAdds x d a b
  | 0x34 => .galSubs x d a b
  | 0x35 => .galCmp x d a b
  | 0x36 => .galCmps x d a b
  | 0x37 => .galMin x d a b
  | 0x38 => .galMax x d a b
  | 0x39 => .galAbs x d a b
  | 0x3A => .galNeg x d a b
  | 0x3B => .galSel x d a b
  | 0x3C => .galBcast x d a b
  | 0x40 => .galAclr x d a b
  | 0x41 => .galMac x d a b
  | 0x42 => .galMul x d a b
  | 0x43 => .galAccf x d a b
  | 0x44 => .galAccrd x d a b
  | 0x45 => .galAccrds x d a b
  | 0x50 => .galShift x d a b none
  | 0x51 => .galAny x d a b
  | 0x52 => .galCount x d a b
  | 0x60 => .galRin x d a b
  | 0x61 => .galRout x d a b
  | 0x62 => .galTrip x d a b
  | 0x63 => .galPio x d a b
  | 0x64 => .galPioin x d a b
  | 0x65 => .galNwl x d a b
  | _ => .galIllegal w

/-- The command that a table word spells: the Gallery instruction of a 64-bit word (Table GIS.1); no other width spells a
command (log entry 81). -/
def decodeTableWord (nbits w : Nat) : Option Instr :=
  if nbits = 64 ∧ w < 2 ^ 64 then some (galDecode (BitVec.ofNat 64 w)) else none

/-- The instruction word of a Gallery command; other commands have none. -/
def galEncode : Instr → Option (BitVec 64)
  | .galNop x d a b => some (galWord 0x01#8 x d a b)
  | .galJmp x d a b => some (galWord 0x02#8 x d a b)
  | .galBr x d a b => some (galWord 0x03#8 x d a b)
  | .galCall x d a b => some (galWord 0x04#8 x d a b)
  | .galRet x d a b => some (galWord 0x05#8 x d a b)
  | .galLoop x d a b => some (galWord 0x06#8 x d a b)
  | .galFend x d a b => some (galWord 0x07#8 x d a b)
  | .galYield x d a b => some (galWord 0x08#8 x d a b)
  | .galSli x d a b => some (galWord 0x10#8 x d a b)
  | .galSadd x d a b => some (galWord 0x11#8 x d a b)
  | .galSsub x d a b => some (galWord 0x12#8 x d a b)
  | .galSand x d a b => some (galWord 0x13#8 x d a b)
  | .galSor x d a b => some (galWord 0x14#8 x d a b)
  | .galSxor x d a b => some (galWord 0x15#8 x d a b)
  | .galSshl x d a b => some (galWord 0x16#8 x d a b)
  | .galSshr x d a b => some (galWord 0x17#8 x d a b)
  | .galSsra x d a b => some (galWord 0x18#8 x d a b)
  | .galScmp x d a b => some (galWord 0x19#8 x d a b)
  | .galSrdl x d a b => some (galWord 0x1A#8 x d a b)
  | .galLogic x d a b => some (galWord 0x20#8 x d a b)
  | .galPusha x d a b => some (galWord 0x21#8 x d a b)
  | .galElsea x d a b => some (galWord 0x22#8 x d a b)
  | .galPopa x d a b => some (galWord 0x23#8 x d a b)
  | .galSeta x d a b => some (galWord 0x24#8 x d a b)
  | .galClrf x d a b => some (galWord 0x25#8 x d a b)
  | .galMovf x d a b => some (galWord 0x30#8 x d a b)
  | .galAdd x d a b => some (galWord 0x31#8 x d a b)
  | .galSub x d a b => some (galWord 0x32#8 x d a b)
  | .galAdds x d a b => some (galWord 0x33#8 x d a b)
  | .galSubs x d a b => some (galWord 0x34#8 x d a b)
  | .galCmp x d a b => some (galWord 0x35#8 x d a b)
  | .galCmps x d a b => some (galWord 0x36#8 x d a b)
  | .galMin x d a b => some (galWord 0x37#8 x d a b)
  | .galMax x d a b => some (galWord 0x38#8 x d a b)
  | .galAbs x d a b => some (galWord 0x39#8 x d a b)
  | .galNeg x d a b => some (galWord 0x3A#8 x d a b)
  | .galSel x d a b => some (galWord 0x3B#8 x d a b)
  | .galBcast x d a b => some (galWord 0x3C#8 x d a b)
  | .galAclr x d a b => some (galWord 0x40#8 x d a b)
  | .galMac x d a b => some (galWord 0x41#8 x d a b)
  | .galMul x d a b => some (galWord 0x42#8 x d a b)
  | .galAccf x d a b => some (galWord 0x43#8 x d a b)
  | .galAccrd x d a b => some (galWord 0x44#8 x d a b)
  | .galAccrds x d a b => some (galWord 0x45#8 x d a b)
  | .galShift x d a b _ => some (galWord 0x50#8 x d a b)
  | .galAny x d a b => some (galWord 0x51#8 x d a b)
  | .galCount x d a b => some (galWord 0x52#8 x d a b)
  | .galRin x d a b => some (galWord 0x60#8 x d a b)
  | .galRout x d a b => some (galWord 0x61#8 x d a b)
  | .galTrip x d a b => some (galWord 0x62#8 x d a b)
  | .galPio x d a b => some (galWord 0x63#8 x d a b)
  | .galPioin x d a b => some (galWord 0x64#8 x d a b)
  | .galNwl x d a b => some (galWord 0x65#8 x d a b)
  | .galIllegal w => some w
  | _ => none

end Sys2Proof
end

