-- ==== Sys2Proof/Config.lean ====
section
/-!
DEFINITION. What an implementation fixes and the manual does not: free values and free conventions.
Every constant of this file is opaque: no proof can see its value, so a theorem holds whatever it is.
-/

namespace Sys2Proof

/-- Kinds of hardware events whose EVQ CODE and DATA words the manual does not give (R166, R167; log entry 8). -/
inductive EvKind where
  | modeChange | trip | release | bankSwitch | repair | forced | stewardReset | vlow | seamAbort
  | budgetJoin | wake | rejoin | command
  deriving DecidableEq, Repr

/-- The CODE of a hardware event for which the manual gives none (log entry 8). -/
opaque Config.evCode : EvKind → BitVec 8

/-- A data word of a hardware event whose content the manual does not give, from what the event is about (log entry 8). -/
opaque Config.evData : EvKind → Nat → Nat → BitVec 32

/-- Undefined memory content, one value for each draw (R198, R417, R419; log entry 9). -/
opaque Config.freeByte : Nat → BitVec 8

/-- Undefined words: an over-long count, a content that no rule states (log entry 9). -/
opaque Config.freeWord : Nat → BitVec 32

/-- The PAYLOAD bits of a sideband block, from its TYPE, its fields and its data bytes (Table CNC.2; log entry 83). -/
opaque Config.sbPayload : Nat → List Nat → List (BitVec 8) → BitVec 239

/-- Which of the FREE buffers an allocation returns, and which entries a write-back moves (R255; log entry 10). -/
opaque Config.freePick : Nat → Nat

/-- Whether a read of undefined Atrium content ends with an ECC error (R417; log entry 9). -/
opaque Config.freeEcc : Nat → Bool

/-- SERIAL of the chain header, written at final test (R459; log entry 6). -/
opaque Config.serial : BitVec 64

/-- CHAINID of the chain header, random at final test (R459; log entry 6). -/
opaque Config.chainId : BitVec 64

/-- The slot-0 key fused at manufacture (R455; log entry 6). -/
opaque Config.slot0Key : BitVec 256

/-- The identifier of the slot-0 key, fused at manufacture (R455; log entry 6). -/
opaque Config.keyId0 : BitVec 32

/-- The x coordinate of the public key whose digest is fused at manufacture (R65; log entry 6). -/
opaque Config.signerX : BitVec 384

/-- The y coordinate of that public key (R65; log entry 6). -/
opaque Config.signerY : BitVec 384

/-- The bytes of the self-test patterns, whose PRBS seed the manual does not give (Table SVC.2; log entry 31). -/
opaque Config.testPattern : Nat → BitVec 8

end Sys2Proof
end

