-- ==== Sys2Proof/Machine/Bits.lean ====
section
/-!
DEFINITION. Bit fields of words, byte order, and sparse tables with a default: the small operations every block uses.
-/

namespace Sys2Proof.Machine

/-- Bits hi to lo of a word as a number. -/
def fld (w : Word) (hi lo : Nat) : Nat := w.toNat / 2 ^ lo % 2 ^ (hi + 1 - lo)

/-- The word with bits hi to lo replaced by `v`, taken modulo the width of the field. -/
def setFld (w : Word) (hi lo v : Nat) : Word :=
  w32 (w.toNat % 2 ^ lo + 2 ^ lo * (v % 2 ^ (hi + 1 - lo)) + 2 ^ (hi + 1) * (w.toNat / 2 ^ (hi + 1)))

/-- The word with ones exactly in bits hi to lo. -/
def maskOf (hi lo : Nat) : Word := w32 (2 ^ lo * (2 ^ (hi + 1 - lo) - 1))

/-- The number with bit j set. -/
def setBit (n j : Nat) : Nat := n ||| 2 ^ j

/-- The number with bit j clear. -/
def clrBit (n j : Nat) : Nat := if n.testBit j then n - 2 ^ j else n

/-- The signed value of the low `w` bits of a number. -/
def signed (w n : Nat) : Int :=
  let m := n % 2 ^ w
  if 0 < w ∧ 2 ^ (w - 1) ≤ m then (m : Int) - (2 ^ w : Nat) else m

/-- A mask of `n` bits whose bit j is `f j`. -/
def maskFrom (n : Nat) (f : Nat → Bool) : Nat :=
  (List.range n).foldl (fun m j => if f j then m + 2 ^ j else m) 0

/-- The positions below `n` at which the mask has a 1, lowest first. -/
def bitsOf (n m : Nat) : List Nat := (List.range n).filter (fun j => m.testBit j)

/-- Little-endian value of a byte string (R5). -/
def leNat : List Byte → Nat
  | [] => 0
  | b :: bs => b.toNat + 256 * leNat bs

/-- The `n` little-endian bytes of a number (R5). -/
def leBytes : Nat → Nat → List Byte
  | 0, _ => []
  | n + 1, v => b8 v :: leBytes n (v / 256)

/-- Big-endian value of a byte string. -/
def beNat (bs : List Byte) : Nat := bs.foldl (fun a b => a * 256 + b.toNat) 0

/-- The `n` big-endian bytes of a number. -/
def beBytes (n v : Nat) : List Byte := (leBytes n v).reverse

/-- The four bytes of a word, lowest first (R5). -/
def wordBytes (w : Word) : List Byte := leBytes 4 w.toNat

/-- Words of a byte string, four bytes each; a last part of fewer bytes is filled with zeros. -/
def bytesWords : List Byte → List Word
  | a :: b :: c :: d :: r => w32 (leNat [a, b, c, d]) :: bytesWords r
  | [] => []
  | r => [w32 (leNat r)]

/-- `n` bytes of a string from offset `k`; bytes beyond its end read as 0. -/
def sliceB (bs : List Byte) (k n : Nat) : List Byte :=
  let r := (bs.drop k).take n
  r ++ List.replicate (n - r.length) 0#8

/-- The little-endian number of `n` bytes at offset `k`. -/
def leAt (bs : List Byte) (k n : Nat) : Nat := leNat (sliceB bs k n)

/-- A sparse table: keys strictly rising, no entry equal to the default of its key. -/
abbrev Table (α : Type) := List (Nat × α)

variable {α : Type}

/-- The entry of key `k`, or the default of that key. -/
def tget (dflt : Nat → α) (t : Table α) (k : Nat) : α :=
  match t.find? (fun e => e.1 == k) with
  | some e => e.2
  | none => dflt k

/-- The table with an entry put in at its place. -/
def tins (k : Nat) (v : α) : Table α → Table α
  | [] => [(k, v)]
  | e :: r => if k < e.1 then (k, v) :: e :: r else e :: tins k v r

/-- The table with key `k` at `v`; an entry equal to the default is taken out. -/
def tset [DecidableEq α] (dflt : Nat → α) (t : Table α) (k : Nat) (v : α) : Table α :=
  let r := t.filter (fun e => e.1 != k)
  if v = dflt k then r else tins k v r

/-- Strictly rising keys. -/
def keysRise : List Nat → Bool
  | a :: b :: r => decide (a < b) && keysRise (b :: r)
  | _ => true

/-- The canonical form of a table. -/
def twf [DecidableEq α] (dflt : Nat → α) (t : Table α) : Bool :=
  keysRise (t.map Prod.fst) && t.all (fun e => decide (e.2 ≠ dflt e.1))

/-- The table without the keys that satisfy `p`; they read as their default again. -/
def tdrop (p : Nat → Bool) (t : Table α) : Table α := t.filter (fun e => !p e.1)

/-- Element `k` of a list, or a default. -/
def nth (dflt : α) (l : List α) (k : Nat) : α := (l[k]?).getD dflt

/-- The list with element `k` replaced; a list that ends before it is filled up with the default. -/
def setNth (dflt : α) : List α → Nat → α → List α
  | [], 0, v => [v]
  | [], k + 1, v => dflt :: setNth dflt [] k v
  | _ :: r, 0, v => v :: r
  | a :: r, k + 1, v => a :: setNth dflt r k v

end Sys2Proof.Machine
end

