-- ==== Sys2Proof/Machine/Regs.lean ====
section
/-!
DEFINITION. The address of every register of the device and the place of every field in it,
one definition each, in the order of the Register reference sections of spec/.
-/

namespace Sys2Proof.Machine

/-- A field of a register: the register's Corridor address and its bits hi to lo. -/
structure Fld where
  addr : Nat
  hi : Nat
  lo : Nat
  deriving DecidableEq, Repr


/-! Registers of the SYS block (spec/02_modes_startup_versions.md, Register reference). -/

def SYS_DEVID.addr : Nat := 0x40000000
def SYS_DEVID.DEVID : Fld := ⟨SYS_DEVID.addr, 31, 0⟩
def SYS_REV.addr : Nat := 0x40000004
def SYS_REV.STEPL : Fld := ⟨SYS_REV.addr, 15, 8⟩
def SYS_REV.STEPN : Fld := ⟨SYS_REV.addr, 7, 0⟩
def SYS_MODE.addr : Nat := 0x40000008
def SYS_MODE.PREV : Fld := ⟨SYS_MODE.addr, 6, 4⟩
def SYS_MODE.MODE : Fld := ⟨SYS_MODE.addr, 2, 0⟩
def SYS_STRAP.addr : Nat := 0x4000000C
def SYS_STRAP.BOOTSEL : Fld := ⟨SYS_STRAP.addr, 8, 8⟩
def SYS_STRAP.TOPO : Fld := ⟨SYS_STRAP.addr, 5, 4⟩
def SYS_STRAP.POS : Fld := ⟨SYS_STRAP.addr, 2, 0⟩
def SYS_RSTCAUSE.addr : Nat := 0x40000010
def SYS_RSTCAUSE.PIN_IGN : Fld := ⟨SYS_RSTCAUSE.addr, 6, 6⟩
def SYS_RSTCAUSE.VST : Fld := ⟨SYS_RSTCAUSE.addr, 5, 5⟩
def SYS_RSTCAUSE.HOSTREQ : Fld := ⟨SYS_RSTCAUSE.addr, 4, 4⟩
def SYS_RSTCAUSE.RESTING : Fld := ⟨SYS_RSTCAUSE.addr, 3, 3⟩
def SYS_RSTCAUSE.PIN : Fld := ⟨SYS_RSTCAUSE.addr, 2, 2⟩
def SYS_RSTCAUSE.POR : Fld := ⟨SYS_RSTCAUSE.addr, 0, 0⟩
def SYS_RSTREQ.addr : Nat := 0x40000014
def SYS_RSTREQ.KEY : Fld := ⟨SYS_RSTREQ.addr, 31, 24⟩
def SYS_RSTREQ.DEV : Fld := ⟨SYS_RSTREQ.addr, 0, 0⟩
def SYS_BOOTSTAT.addr : Nat := 0x40000018
def SYS_BOOTSTAT.SAVED : Fld := ⟨SYS_BOOTSTAT.addr, 9, 9⟩
def SYS_BOOTSTAT.GOERR : Fld := ⟨SYS_BOOTSTAT.addr, 8, 8⟩
def SYS_BOOTSTAT.STEP : Fld := ⟨SYS_BOOTSTAT.addr, 3, 0⟩
def SYS_BOOTADDR.addr : Nat := 0x4000001C
def SYS_BOOTADDR.ADDR : Fld := ⟨SYS_BOOTADDR.addr, 31, 0⟩
def SYS_BOOTLEN.addr : Nat := 0x40000020
def SYS_BOOTLEN.LEN : Fld := ⟨SYS_BOOTLEN.addr, 31, 0⟩
def SYS_BOOTCTL.addr : Nat := 0x40000024
def SYS_BOOTCTL.GO : Fld := ⟨SYS_BOOTCTL.addr, 0, 0⟩
def SYS_LIMP.addr : Nat := 0x40000028
def SYS_LIMP.DETAIL : Fld := ⟨SYS_LIMP.addr, 31, 10⟩
def SYS_LIMP.CLR : Fld := ⟨SYS_LIMP.addr, 9, 9⟩
def SYS_LIMP.MORE : Fld := ⟨SYS_LIMP.addr, 8, 8⟩
def SYS_LIMP.REASON : Fld := ⟨SYS_LIMP.addr, 7, 0⟩
def SYS_INTEG.addr : Nat := 0x4000002C
def SYS_INTEG.LIMIT : Fld := ⟨SYS_INTEG.addr, 15, 8⟩
def SYS_INTEG.COUNT : Fld := ⟨SYS_INTEG.addr, 7, 0⟩
def SYS_VER_BOOT.addr : Nat := 0x40000030
def SYS_VER_BOOT.WLMAX : Fld := ⟨SYS_VER_BOOT.addr, 31, 24⟩
def SYS_VER_BOOT.WLMIN : Fld := ⟨SYS_VER_BOOT.addr, 23, 16⟩
def SYS_VER_BOOT.MAJ : Fld := ⟨SYS_VER_BOOT.addr, 15, 8⟩
def SYS_VER_BOOT.MIN : Fld := ⟨SYS_VER_BOOT.addr, 7, 0⟩
def SYS_VER_WL.addr : Nat := 0x40000034
def SYS_VER_WL.IFGEN : Fld := ⟨SYS_VER_WL.addr, 31, 24⟩
def SYS_VER_WL.MAJ : Fld := ⟨SYS_VER_WL.addr, 23, 16⟩
def SYS_VER_WL.MIN : Fld := ⟨SYS_VER_WL.addr, 15, 8⟩
def SYS_VER_WL.BUILD : Fld := ⟨SYS_VER_WL.addr, 7, 0⟩
def SYS_VER_SC.addr : Nat := 0x40000038
def SYS_VER_SC.IFGEN : Fld := ⟨SYS_VER_SC.addr, 31, 24⟩
def SYS_VER_SC.MAJ : Fld := ⟨SYS_VER_SC.addr, 23, 16⟩
def SYS_VER_SC.MIN : Fld := ⟨SYS_VER_SC.addr, 15, 8⟩
def SYS_VER_SC.BUILD : Fld := ⟨SYS_VER_SC.addr, 7, 0⟩
def SYS_GEN.addr : Nat := 0x4000003C
def SYS_GEN.PEERMAX : Fld := ⟨SYS_GEN.addr, 31, 24⟩
def SYS_GEN.PEERMIN : Fld := ⟨SYS_GEN.addr, 23, 16⟩
def SYS_GEN.WLGEN : Fld := ⟨SYS_GEN.addr, 15, 8⟩
def SYS_GEN.FABGEN : Fld := ⟨SYS_GEN.addr, 7, 0⟩
def SYS_STWRST.addr : Nat := 0x40000040
def SYS_STWRST.CAUSE : Fld := ⟨SYS_STWRST.addr, 17, 16⟩
def SYS_STWRST.COUNT : Fld := ⟨SYS_STWRST.addr, 15, 0⟩
def SYS_SVCSUM.addr : Nat := 0x40000044
def SYS_SVCSUM.ATB : Fld := ⟨SYS_SVCSUM.addr, 27, 12⟩
def SYS_SVCSUM.LANE : Fld := ⟨SYS_SVCSUM.addr, 11, 8⟩
def SYS_SVCSUM.PGB : Fld := ⟨SYS_SVCSUM.addr, 7, 6⟩
def SYS_SVCSUM.PBK : Fld := ⟨SYS_SVCSUM.addr, 5, 0⟩
def SYS_HSUM.addr : Nat := 0x40000048
def SYS_HSUM.LIMP : Fld := ⟨SYS_HSUM.addr, 1, 1⟩
def SYS_HSUM.BOOTWAIT : Fld := ⟨SYS_HSUM.addr, 0, 0⟩

/-! Registers of the HPT block (spec/03_host_link_inspection.md, Register reference). -/

def HPT_STAT.addr : Nat := 0x40001000
def HPT_STAT.WQ : Fld := ⟨HPT_STAT.addr, 10, 8⟩
def HPT_STAT.RDHELD : Fld := ⟨HPT_STAT.addr, 2, 2⟩
def HPT_STAT.RDPEND : Fld := ⟨HPT_STAT.addr, 1, 1⟩
def HPT_STAT.WERR : Fld := ⟨HPT_STAT.addr, 0, 0⟩
def HPT_WERRADDR.addr : Nat := 0x40001004
def HPT_WERRADDR.ADDR : Fld := ⟨HPT_WERRADDR.addr, 31, 0⟩
def HPT_RDTIME.addr : Nat := 0x40001008
def HPT_RDTIME.MAX : Fld := ⟨HPT_RDTIME.addr, 31, 16⟩
def HPT_RDTIME.LAST : Fld := ⟨HPT_RDTIME.addr, 15, 0⟩
def HPT_CNT.addr : Nat := 0x4000100C
def HPT_CNT.NOTREADY : Fld := ⟨HPT_CNT.addr, 31, 16⟩
def HPT_CNT.RDLOST : Fld := ⟨HPT_CNT.addr, 15, 8⟩
def HPT_CNT.DROPS : Fld := ⟨HPT_CNT.addr, 7, 0⟩

/-! Registers of the IPT block (spec/03_host_link_inspection.md, Register reference). -/

def IPT_STAT.addr : Nat := 0x40002000
def IPT_STAT.LASTCMD : Fld := ⟨IPT_STAT.addr, 15, 8⟩
def IPT_STAT.PWRSRC : Fld := ⟨IPT_STAT.addr, 1, 1⟩
def IPT_STAT.ACTIVE : Fld := ⟨IPT_STAT.addr, 0, 0⟩
def IPT_COUNT.addr : Nat := 0x40002004
def IPT_COUNT.COUNT : Fld := ⟨IPT_COUNT.addr, 31, 0⟩

/-! Registers of the VST block (spec/04_vestibule_commands.md, Register reference). -/

def VST_SLOTSTAT.addr : Nat := 0x40003000
def VST_SLOTSTAT.S3 : Fld := ⟨VST_SLOTSTAT.addr, 7, 6⟩
def VST_SLOTSTAT.S2 : Fld := ⟨VST_SLOTSTAT.addr, 5, 4⟩
def VST_SLOTSTAT.S1 : Fld := ⟨VST_SLOTSTAT.addr, 3, 2⟩
def VST_SLOTSTAT.S0 : Fld := ⟨VST_SLOTSTAT.addr, 1, 0⟩
def VST_DOORBELL.addr : Nat := 0x40003004
def VST_DOORBELL.RING : Fld := ⟨VST_DOORBELL.addr, 3, 0⟩
def VST_DONE.addr : Nat := 0x40003008
def VST_DONE.DONE : Fld := ⟨VST_DONE.addr, 3, 0⟩
def VST_ERR.addr : Nat := 0x4000300C
def VST_ERR.WRBUSY : Fld := ⟨VST_ERR.addr, 1, 1⟩
def VST_ERR.RING : Fld := ⟨VST_ERR.addr, 0, 0⟩
def VST_CNT.addr : Nat := 0x40003010
def VST_CNT.ABORT : Fld := ⟨VST_CNT.addr, 31, 24⟩
def VST_CNT.REJECT : Fld := ⟨VST_CNT.addr, 23, 16⟩
def VST_CNT.DONE : Fld := ⟨VST_CNT.addr, 15, 0⟩
def VST_SVCTIME.addr : Nat := 0x40003014
def VST_SVCTIME.MAX : Fld := ⟨VST_SVCTIME.addr, 31, 16⟩
def VST_SVCTIME.LAST : Fld := ⟨VST_SVCTIME.addr, 15, 0⟩
def VST_FWSTAT.addr : Nat := 0x40003018
def VST_FWSTAT.TAKEN : Fld := ⟨VST_FWSTAT.addr, 15, 8⟩
def VST_FWSTAT.SERVER : Fld := ⟨VST_FWSTAT.addr, 1, 0⟩
def VST_CMD.addr (w : Nat) : Nat := 0x40003400 + 4 * w
def VST_CMD.WORD (w : Nat) : Fld := ⟨VST_CMD.addr w, 31, 0⟩
def VST_RSP.addr (w : Nat) : Nat := 0x40003C00 + 4 * w
def VST_RSP.WORD (w : Nat) : Fld := ⟨VST_RSP.addr w, 31, 0⟩

/-! Registers of the ICU block (spec/05_interrupts_events_locks.md, Register reference). -/

def ICU_SUM.addr : Nat := 0x40004000
def ICU_SUM.GRP : Fld := ⟨ICU_SUM.addr, 23, 0⟩
def ICU_SUMS.addr : Nat := 0x40004004
def ICU_SUMS.GRP : Fld := ⟨ICU_SUMS.addr, 23, 0⟩
def ICU_TGT_H.addr : Nat := 0x40004010
def ICU_TGT_H.GDIS : Fld := ⟨ICU_TGT_H.addr, 8, 8⟩
def ICU_TGT_H.RUNLVL : Fld := ⟨ICU_TGT_H.addr, 7, 4⟩
def ICU_TGT_H.THR : Fld := ⟨ICU_TGT_H.addr, 3, 0⟩
def ICU_TGT_S.addr : Nat := 0x40004014
def ICU_TGT_S.GDIS : Fld := ⟨ICU_TGT_S.addr, 8, 8⟩
def ICU_TGT_S.RUNLVL : Fld := ⟨ICU_TGT_S.addr, 7, 4⟩
def ICU_TGT_S.THR : Fld := ⟨ICU_TGT_S.addr, 3, 0⟩
def ICU_CLAIM_H.addr : Nat := 0x40004020
def ICU_CLAIM_H.PRIO : Fld := ⟨ICU_CLAIM_H.addr, 11, 8⟩
def ICU_CLAIM_H.SRC : Fld := ⟨ICU_CLAIM_H.addr, 7, 0⟩
def ICU_CLAIM_S.addr : Nat := 0x40004024
def ICU_CLAIM_S.PRIO : Fld := ⟨ICU_CLAIM_S.addr, 11, 8⟩
def ICU_CLAIM_S.SRC : Fld := ⟨ICU_CLAIM_S.addr, 7, 0⟩
def ICU_EOI_H.addr : Nat := 0x40004028
def ICU_EOI_H.SRC : Fld := ⟨ICU_EOI_H.addr, 7, 0⟩
def ICU_EOI_S.addr : Nat := 0x4000402C
def ICU_EOI_S.SRC : Fld := ⟨ICU_EOI_S.addr, 7, 0⟩
def ICU_ERR.addr : Nat := 0x40004030
def ICU_ERR.EOI_S : Fld := ⟨ICU_ERR.addr, 1, 1⟩
def ICU_ERR.EOI_H : Fld := ⟨ICU_ERR.addr, 0, 0⟩
def ICU_EN.addr (k : Nat) : Nat := 0x40004040 + 4 * k
def ICU_EN.EN (k : Nat) : Fld := ⟨ICU_EN.addr k, 31, 0⟩
def ICU_PEND.addr (k : Nat) : Nat := 0x40004060 + 4 * k
def ICU_PEND.PEND (k : Nat) : Fld := ⟨ICU_PEND.addr k, 31, 0⟩
def ICU_ACT.addr (k : Nat) : Nat := 0x40004080 + 4 * k
def ICU_ACT.ACT (k : Nat) : Fld := ⟨ICU_ACT.addr k, 31, 0⟩
def ICU_CFG.addr (k : Nat) : Nat := 0x40004100 + 4 * k
def ICU_CFG.TARGET0 (k : Nat) : Fld := ⟨ICU_CFG.addr k, 4, 4⟩
def ICU_CFG.PRIO0 (k : Nat) : Fld := ⟨ICU_CFG.addr k, 3, 0⟩
def ICU_CFG.TARGET1 (k : Nat) : Fld := ⟨ICU_CFG.addr k, 12, 12⟩
def ICU_CFG.PRIO1 (k : Nat) : Fld := ⟨ICU_CFG.addr k, 11, 8⟩
def ICU_CFG.TARGET2 (k : Nat) : Fld := ⟨ICU_CFG.addr k, 20, 20⟩
def ICU_CFG.PRIO2 (k : Nat) : Fld := ⟨ICU_CFG.addr k, 19, 16⟩
def ICU_CFG.TARGET3 (k : Nat) : Fld := ⟨ICU_CFG.addr k, 28, 28⟩
def ICU_CFG.PRIO3 (k : Nat) : Fld := ⟨ICU_CFG.addr k, 27, 24⟩
def ICU_GCAUSE.addr (g : Nat) : Nat := 0x40004200 + 4 * g
def ICU_GCAUSE.SRC (g : Nat) : Fld := ⟨ICU_GCAUSE.addr g, 7, 0⟩

/-! Registers of the EVQ block (spec/05_interrupts_events_locks.md, Register reference). -/

def EVQ_STAT.addr : Nat := 0x40005000
def EVQ_STAT.LEVEL : Fld := ⟨EVQ_STAT.addr, 8, 0⟩
def EVQ_NEXTSEQ.addr : Nat := 0x40005004
def EVQ_NEXTSEQ.SEQ : Fld := ⟨EVQ_NEXTSEQ.addr, 15, 0⟩
def EVQ_CFG.addr : Nat := 0x40005008
def EVQ_CFG.MARK : Fld := ⟨EVQ_CFG.addr, 7, 0⟩
def EVQ_LOST.addr : Nat := 0x4000500C
def EVQ_LOST.CRITLOST : Fld := ⟨EVQ_LOST.addr, 16, 16⟩
def EVQ_LOST.COUNT : Fld := ⟨EVQ_LOST.addr, 15, 0⟩
def EVQ_HEAD.addr (k : Nat) : Nat := 0x40005010 + 4 * k
def EVQ_HEAD.WORD (k : Nat) : Fld := ⟨EVQ_HEAD.addr k, 31, 0⟩
def EVQ_POP.addr : Nat := 0x40005020
def EVQ_POP.POP : Fld := ⟨EVQ_POP.addr, 0, 0⟩
def EVQ_POSTD.addr (k : Nat) : Nat := 0x40005030 + 4 * k
def EVQ_POSTD.DATA (k : Nat) : Fld := ⟨EVQ_POSTD.addr k, 31, 0⟩
def EVQ_POSTC.addr : Nat := 0x40005038
def EVQ_POSTC.CRIT : Fld := ⟨EVQ_POSTC.addr, 8, 8⟩
def EVQ_POSTC.CODE : Fld := ⟨EVQ_POSTC.addr, 7, 0⟩
def EVQ_POSTSEQ.addr : Nat := 0x4000503C
def EVQ_POSTSEQ.SEQ : Fld := ⟨EVQ_POSTSEQ.addr, 15, 0⟩

/-! Registers of the NWL block (spec/05_interrupts_events_locks.md, Register reference). -/

def NWL_HELD.addr (k : Nat) : Nat := 0x40006000 + 4 * k
def NWL_HELD.HELD (k : Nat) : Fld := ⟨NWL_HELD.addr k, 31, 0⟩
def NWL_ORPHAN.addr (k : Nat) : Nat := 0x40006010 + 4 * k
def NWL_ORPHAN.ORPHAN (k : Nat) : Fld := ⟨NWL_ORPHAN.addr k, 31, 0⟩
def NWL_ERR.addr : Nat := 0x40006020
def NWL_ERR.ORPH : Fld := ⟨NWL_ERR.addr, 3, 3⟩
def NWL_ERR.BADREQ : Fld := ⟨NWL_ERR.addr, 2, 2⟩
def NWL_ERR.NOTHELD : Fld := ⟨NWL_ERR.addr, 1, 1⟩
def NWL_ERR.FOREIGN : Fld := ⟨NWL_ERR.addr, 0, 0⟩
def NWL_ERRINFO.addr : Nat := 0x40006024
def NWL_ERRINFO.SRCID : Fld := ⟨NWL_ERRINFO.addr, 12, 12⟩
def NWL_ERRINFO.REQ : Fld := ⟨NWL_ERRINFO.addr, 11, 8⟩
def NWL_ERRINFO.LOCK : Fld := ⟨NWL_ERRINFO.addr, 5, 0⟩
def NWL_CNT.addr : Nat := 0x40006028
def NWL_CNT.ORPHREL : Fld := ⟨NWL_CNT.addr, 31, 16⟩
def NWL_CNT.DENIED : Fld := ⟨NWL_CNT.addr, 15, 0⟩
def NWL_FORCE.addr : Nat := 0x40006030
def NWL_FORCE.LOCK : Fld := ⟨NWL_FORCE.addr, 5, 0⟩
def NWL_ACQ.addr (n : Nat) : Nat := 0x40006100 + 4 * n
def NWL_ACQ.GRANTED (n : Nat) : Fld := ⟨NWL_ACQ.addr n, 31, 31⟩
def NWL_ACQ.ORPHAN (n : Nat) : Fld := ⟨NWL_ACQ.addr n, 30, 30⟩
def NWL_ACQ.ALREADY (n : Nat) : Fld := ⟨NWL_ACQ.addr n, 29, 29⟩
def NWL_ACQ.HOLDER (n : Nat) : Fld := ⟨NWL_ACQ.addr n, 3, 0⟩
def NWL_ACQ.REL (n : Nat) : Fld := ⟨NWL_ACQ.addr n, 0, 0⟩
def NWL_PEEK.addr (n : Nat) : Nat := 0x40006200 + 4 * n
def NWL_PEEK.ORPHAN (n : Nat) : Fld := ⟨NWL_PEEK.addr n, 30, 30⟩
def NWL_PEEK.HOLDER (n : Nat) : Fld := ⟨NWL_PEEK.addr n, 3, 0⟩

/-! Registers of the PBK block (spec/06_ports_line.md, Register reference). -/

def PBK_CTRL.addr (n : Nat) : Nat := 0x40010000 + 0x200 * n
def PBK_CTRL.DEPOL (n : Nat) : Fld := ⟨PBK_CTRL.addr n, 10, 10⟩
def PBK_CTRL.CTSPOL (n : Nat) : Fld := ⟨PBK_CTRL.addr n, 9, 9⟩
def PBK_CTRL.RTSPOL (n : Nat) : Fld := ⟨PBK_CTRL.addr n, 8, 8⟩
def PBK_CTRL.LINE (n : Nat) : Fld := ⟨PBK_CTRL.addr n, 5, 4⟩
def PBK_CTRL.FQIE (n : Nat) : Fld := ⟨PBK_CTRL.addr n, 2, 2⟩
def PBK_CTRL.TXEN (n : Nat) : Fld := ⟨PBK_CTRL.addr n, 1, 1⟩
def PBK_CTRL.RXEN (n : Nat) : Fld := ⟨PBK_CTRL.addr n, 0, 0⟩
def PBK_FMT.addr (n : Nat) : Nat := 0x40010004 + 0x200 * n
def PBK_FMT.STOP (n : Nat) : Fld := ⟨PBK_FMT.addr n, 9, 8⟩
def PBK_FMT.PAR (n : Nat) : Fld := ⟨PBK_FMT.addr n, 6, 4⟩
def PBK_FMT.DBITS (n : Nat) : Fld := ⟨PBK_FMT.addr n, 1, 0⟩
def PBK_BAUD.addr (n : Nat) : Nat := 0x40010008 + 0x200 * n
def PBK_BAUD.OS (n : Nat) : Fld := ⟨PBK_BAUD.addr n, 25, 24⟩
def PBK_BAUD.DIV (n : Nat) : Fld := ⟨PBK_BAUD.addr n, 21, 6⟩
def PBK_BAUD.FRAC (n : Nat) : Fld := ⟨PBK_BAUD.addr n, 5, 0⟩
def PBK_STAT.addr (n : Nat) : Nat := 0x4001000C + 0x200 * n
def PBK_STAT.CTS (n : Nat) : Fld := ⟨PBK_STAT.addr n, 19, 19⟩
def PBK_STAT.RTS (n : Nat) : Fld := ⟨PBK_STAT.addr n, 18, 18⟩
def PBK_STAT.TXBAD (n : Nat) : Fld := ⟨PBK_STAT.addr n, 17, 17⟩
def PBK_STAT.CTSTO (n : Nat) : Fld := ⟨PBK_STAT.addr n, 16, 16⟩
def PBK_STAT.TXDONE (n : Nat) : Fld := ⟨PBK_STAT.addr n, 15, 15⟩
def PBK_STAT.TXABORT (n : Nat) : Fld := ⟨PBK_STAT.addr n, 14, 14⟩
def PBK_STAT.COLL (n : Nat) : Fld := ⟨PBK_STAT.addr n, 13, 13⟩
def PBK_STAT.RAWERR (n : Nat) : Fld := ⟨PBK_STAT.addr n, 12, 12⟩
def PBK_STAT.WAKEMISS (n : Nat) : Fld := ⟨PBK_STAT.addr n, 11, 11⟩
def PBK_STAT.ABGIVEUP (n : Nat) : Fld := ⟨PBK_STAT.addr n, 10, 10⟩
def PBK_STAT.ABFAIL (n : Nat) : Fld := ⟨PBK_STAT.addr n, 9, 9⟩
def PBK_STAT.ABDONE (n : Nat) : Fld := ⟨PBK_STAT.addr n, 8, 8⟩
def PBK_STAT.FQFULL (n : Nat) : Fld := ⟨PBK_STAT.addr n, 7, 7⟩
def PBK_STAT.LINEDOWN (n : Nat) : Fld := ⟨PBK_STAT.addr n, 6, 6⟩
def PBK_STAT.IDLE (n : Nat) : Fld := ⟨PBK_STAT.addr n, 5, 5⟩
def PBK_STAT.BREAK (n : Nat) : Fld := ⟨PBK_STAT.addr n, 4, 4⟩
def PBK_STAT.FRMERR (n : Nat) : Fld := ⟨PBK_STAT.addr n, 3, 3⟩
def PBK_STAT.PARERR (n : Nat) : Fld := ⟨PBK_STAT.addr n, 2, 2⟩
def PBK_STAT.OVR (n : Nat) : Fld := ⟨PBK_STAT.addr n, 1, 1⟩
def PBK_STAT.CFGERR (n : Nat) : Fld := ⟨PBK_STAT.addr n, 0, 0⟩
def PBK_IE.addr (n : Nat) : Nat := 0x40010010 + 0x200 * n
def PBK_IE.IE (n : Nat) : Fld := ⟨PBK_IE.addr n, 17, 0⟩
def PBK_FLOW.addr (n : Nat) : Nat := 0x40010014 + 0x200 * n
def PBK_FLOW.CTSTO (n : Nat) : Fld := ⟨PBK_FLOW.addr n, 31, 24⟩
def PBK_FLOW.LO (n : Nat) : Fld := ⟨PBK_FLOW.addr n, 23, 16⟩
def PBK_FLOW.HI (n : Nat) : Fld := ⟨PBK_FLOW.addr n, 8, 0⟩
def PBK_HD.addr (n : Nat) : Nat := 0x40010018 + 0x200 * n
def PBK_HD.CDEN (n : Nat) : Fld := ⟨PBK_HD.addr n, 24, 24⟩
def PBK_HD.BACKOFF (n : Nat) : Fld := ⟨PBK_HD.addr n, 23, 20⟩
def PBK_HD.RETRY (n : Nat) : Fld := ⟨PBK_HD.addr n, 18, 16⟩
def PBK_HD.TAIL (n : Nat) : Fld := ⟨PBK_HD.addr n, 15, 8⟩
def PBK_HD.LEAD (n : Nat) : Fld := ⟨PBK_HD.addr n, 7, 0⟩
def PBK_LOOP.addr (n : Nat) : Nat := 0x4001001C + 0x200 * n
def PBK_LOOP.DEPTH (n : Nat) : Fld := ⟨PBK_LOOP.addr n, 2, 0⟩
def PBK_ABD.addr (n : Nat) : Nat := 0x40010020 + 0x200 * n
def PBK_ABD.CHAR (n : Nat) : Fld := ⟨PBK_ABD.addr n, 24, 16⟩
def PBK_ABD.RESULT (n : Nat) : Fld := ⟨PBK_ABD.addr n, 9, 8⟩
def PBK_ABD.TRIES (n : Nat) : Fld := ⟨PBK_ABD.addr n, 7, 4⟩
def PBK_ABD.KEEP (n : Nat) : Fld := ⟨PBK_ABD.addr n, 3, 3⟩
def PBK_ABD.SYNC (n : Nat) : Fld := ⟨PBK_ABD.addr n, 2, 1⟩
def PBK_ABD.EN (n : Nat) : Fld := ⟨PBK_ABD.addr n, 0, 0⟩
def PBK_ABDQ.addr (n : Nat) : Nat := 0x40010024 + 0x200 * n
def PBK_ABDQ.QUIET (n : Nat) : Fld := ⟨PBK_ABDQ.addr n, 15, 0⟩
def PBK_ABDM.addr (n : Nat) : Nat := 0x40010028 + 0x200 * n
def PBK_ABDM.MEASURED (n : Nat) : Fld := ⟨PBK_ABDM.addr n, 22, 0⟩
def PBK_ADDR.addr (n : Nat) : Nat := 0x40010030 + 0x200 * n
def PBK_ADDR.BCAST (n : Nat) : Fld := ⟨PBK_ADDR.addr n, 31, 24⟩
def PBK_ADDR.MASK (n : Nat) : Fld := ⟨PBK_ADDR.addr n, 23, 16⟩
def PBK_ADDR.OWN (n : Nat) : Fld := ⟨PBK_ADDR.addr n, 15, 8⟩
def PBK_ADDR.BCEN (n : Nat) : Fld := ⟨PBK_ADDR.addr n, 1, 1⟩
def PBK_ADDR.EN (n : Nat) : Fld := ⟨PBK_ADDR.addr n, 0, 0⟩
def PBK_FRM.addr (n : Nat) : Nat := 0x40010040 + 0x200 * n
def PBK_FRM.DEST (n : Nat) : Fld := ⟨PBK_FRM.addr n, 21, 16⟩
def PBK_FRM.GAP (n : Nat) : Fld := ⟨PBK_FRM.addr n, 11, 8⟩
def PBK_FRM.CRCDROP (n : Nat) : Fld := ⟨PBK_FRM.addr n, 4, 4⟩
def PBK_FRM.CRCEN (n : Nat) : Fld := ⟨PBK_FRM.addr n, 3, 3⟩
def PBK_FRM.MODE (n : Nat) : Fld := ⟨PBK_FRM.addr n, 2, 0⟩
def PBK_FRML.addr (n : Nat) : Nat := 0x40010044 + 0x200 * n
def PBK_FRML.FLEN (n : Nat) : Fld := ⟨PBK_FRML.addr n, 28, 16⟩
def PBK_FRML.DELIM (n : Nat) : Fld := ⟨PBK_FRML.addr n, 8, 0⟩
def PBK_FRMX.addr (n : Nat) : Nat := 0x40010048 + 0x200 * n
def PBK_FRMX.MAXLEN (n : Nat) : Fld := ⟨PBK_FRMX.addr n, 12, 0⟩
def PBK_FRMQ.addr (n : Nat) : Nat := 0x40010050 + 0x200 * n
def PBK_FRMQ.ENTRY (n : Nat) : Fld := ⟨PBK_FRMQ.addr n, 31, 0⟩
def PBK_RAWBASE.addr (n : Nat) : Nat := 0x40010060 + 0x200 * n
def PBK_RAWBASE.BASE (n : Nat) : Fld := ⟨PBK_RAWBASE.addr n, 31, 0⟩
def PBK_RAWSIZE.addr (n : Nat) : Nat := 0x40010064 + 0x200 * n
def PBK_RAWSIZE.SIZE (n : Nat) : Fld := ⟨PBK_RAWSIZE.addr n, 3, 0⟩
def PBK_RAWWP.addr (n : Nat) : Nat := 0x40010068 + 0x200 * n
def PBK_RAWWP.WP (n : Nat) : Fld := ⟨PBK_RAWWP.addr n, 15, 0⟩
def PBK_RAWRP.addr (n : Nat) : Nat := 0x4001006C + 0x200 * n
def PBK_RAWRP.RP (n : Nat) : Fld := ⟨PBK_RAWRP.addr n, 15, 0⟩
def PBK_WAKE.addr (n : Nat) : Nat := 0x40010070 + 0x200 * n
def PBK_WAKE.WSTAT (n : Nat) : Fld := ⟨PBK_WAKE.addr n, 9, 8⟩
def PBK_WAKE.EN (n : Nat) : Fld := ⟨PBK_WAKE.addr n, 0, 0⟩
def PBK_TXQ.addr (n : Nat) : Nat := 0x40010078 + 0x200 * n
def PBK_TXQ.HEAD (n : Nat) : Fld := ⟨PBK_TXQ.addr n, 31, 5⟩
def PBK_TXQ.LEVEL (n : Nat) : Fld := ⟨PBK_TXQ.addr n, 3, 0⟩
def PBK_CNT0.addr (n : Nat) : Nat := 0x40010080 + 0x200 * n
def PBK_CNT0.PARITY (n : Nat) : Fld := ⟨PBK_CNT0.addr n, 31, 16⟩
def PBK_CNT0.FRAMING (n : Nat) : Fld := ⟨PBK_CNT0.addr n, 15, 0⟩
def PBK_CNT1.addr (n : Nat) : Nat := 0x40010084 + 0x200 * n
def PBK_CNT1.BREAK (n : Nat) : Fld := ⟨PBK_CNT1.addr n, 31, 16⟩
def PBK_CNT1.NOISE (n : Nat) : Fld := ⟨PBK_CNT1.addr n, 15, 0⟩
def PBK_CNT2.addr (n : Nat) : Nat := 0x40010088 + 0x200 * n
def PBK_CNT2.OVERRUN (n : Nat) : Fld := ⟨PBK_CNT2.addr n, 31, 16⟩
def PBK_CNT2.ADDRSKIP (n : Nat) : Fld := ⟨PBK_CNT2.addr n, 15, 0⟩
def PBK_CNT3.addr (n : Nat) : Nat := 0x4001008C + 0x200 * n
def PBK_CNT3.FRMDROP (n : Nat) : Fld := ⟨PBK_CNT3.addr n, 31, 16⟩
def PBK_CNT3.CRCBAD (n : Nat) : Fld := ⟨PBK_CNT3.addr n, 15, 0⟩
def PBK_CNT4.addr (n : Nat) : Nat := 0x40010090 + 0x200 * n
def PBK_CNT4.COLL (n : Nat) : Fld := ⟨PBK_CNT4.addr n, 31, 16⟩
def PBK_CNT4.TXABORT (n : Nat) : Fld := ⟨PBK_CNT4.addr n, 15, 0⟩
def PBK_CNT5.addr (n : Nat) : Nat := 0x40010094 + 0x200 * n
def PBK_CNT5.TXGAP (n : Nat) : Fld := ⟨PBK_CNT5.addr n, 31, 16⟩
def PBK_CNT5.ABFAIL (n : Nat) : Fld := ⟨PBK_CNT5.addr n, 15, 0⟩
def PBK_BCAUSE.addr (b : Nat) : Nat := 0x400101F0 + 0x1000 * b
def PBK_BCAUSE.DRAINED (b : Nat) : Fld := ⟨PBK_BCAUSE.addr b, 8, 8⟩
def PBK_BCAUSE.WOKE (b : Nat) : Fld := ⟨PBK_BCAUSE.addr b, 7, 0⟩

/-! Registers of the BPM block (spec/08_buffer_pool.md, Register reference). -/

def BPM_POOLBASE.addr (p : Nat) : Nat := 0x40007020 + 0x10 * p
def BPM_POOLBASE.BASE (p : Nat) : Fld := ⟨BPM_POOLBASE.addr p, 31, 0⟩
def BPM_POOLCTL.addr (p : Nat) : Nat := 0x40007024 + 0x10 * p
def BPM_POOLCTL.EN (p : Nat) : Fld := ⟨BPM_POOLCTL.addr p, 31, 31⟩
def BPM_POOLCTL.SPILL (p : Nat) : Fld := ⟨BPM_POOLCTL.addr p, 16, 16⟩
def BPM_POOLCTL.COUNT (p : Nat) : Fld := ⟨BPM_POOLCTL.addr p, 15, 0⟩
def BPM_POOLRING.addr (p : Nat) : Nat := 0x40007028 + 0x10 * p
def BPM_POOLRING.RING (p : Nat) : Fld := ⟨BPM_POOLRING.addr p, 31, 0⟩
def BPM_POOLLOW.addr (p : Nat) : Nat := 0x4000702C + 0x10 * p
def BPM_POOLLOW.LOWMARK (p : Nat) : Fld := ⟨BPM_POOLLOW.addr p, 15, 0⟩
def BPM_ALLOC.addr (p : Nat) : Nat := 0x40007080 + 4 * p
def BPM_ALLOC.RESULT (p : Nat) : Fld := ⟨BPM_ALLOC.addr p, 31, 0⟩
def BPM_LVL.addr (p : Nat) : Nat := 0x400070A0 + 4 * p
def BPM_LVL.FREE (p : Nat) : Fld := ⟨BPM_LVL.addr p, 31, 16⟩
def BPM_LVL.CACHE (p : Nat) : Fld := ⟨BPM_LVL.addr p, 5, 0⟩
def BPM_STAT.addr : Nat := 0x400070C0
def BPM_STAT.CFGERR : Fld := ⟨BPM_STAT.addr, 24, 24⟩
def BPM_STAT.FAULTED : Fld := ⟨BPM_STAT.addr, 20, 16⟩
def BPM_STAT.INIT : Fld := ⟨BPM_STAT.addr, 12, 8⟩
def BPM_STAT.EMPTY : Fld := ⟨BPM_STAT.addr, 4, 0⟩
def BPM_CELLQ.addr : Nat := 0x400070C4
def BPM_CELLQ.PORTMAX : Fld := ⟨BPM_CELLQ.addr, 15, 0⟩
def BPM_FAULT.addr : Nat := 0x400070D0
def BPM_FAULT.CAUSE : Fld := ⟨BPM_FAULT.addr, 10, 0⟩
def BPM_FAULTADDR.addr : Nat := 0x400070D4
def BPM_FAULTADDR.ADDR : Fld := ⟨BPM_FAULTADDR.addr, 31, 0⟩
def BPM_FAULTINFO.addr : Nat := 0x400070D8
def BPM_FAULTINFO.CAUSE : Fld := ⟨BPM_FAULTINFO.addr, 31, 28⟩
def BPM_FAULTINFO.POOL : Fld := ⟨BPM_FAULTINFO.addr, 26, 24⟩
def BPM_FAULTINFO.TARGET : Fld := ⟨BPM_FAULTINFO.addr, 21, 16⟩
def BPM_FAULTINFO.REQ : Fld := ⟨BPM_FAULTINFO.addr, 5, 0⟩
def BPM_FAULTCNT.addr : Nat := 0x400070DC
def BPM_FAULTCNT.COUNT : Fld := ⟨BPM_FAULTCNT.addr, 15, 0⟩
def BPM_CNT.addr (p : Nat) : Nat := 0x400070E0 + 4 * p
def BPM_CNT.EMPTY (p : Nat) : Fld := ⟨BPM_CNT.addr p, 31, 16⟩
def BPM_CNT.SPILLS (p : Nat) : Fld := ⟨BPM_CNT.addr p, 15, 0⟩
def BPM_FREE.addr : Nat := 0x400070F0
def BPM_FREE.ADDR : Fld := ⟨BPM_FREE.addr, 31, 5⟩
def BPM_FREE.CHAIN : Fld := ⟨BPM_FREE.addr, 0, 0⟩
def BPM_RECLAIM.addr : Nat := 0x400070F4
def BPM_RECLAIM.OWNER : Fld := ⟨BPM_RECLAIM.addr, 5, 0⟩
def BPM_REBUILD.addr : Nat := 0x400070F8
def BPM_REBUILD.POOL : Fld := ⟨BPM_REBUILD.addr, 2, 0⟩
def BPM_ALLOCFIT.addr (c : Nat) : Nat := 0x40007100 + 4 * c
def BPM_ALLOCFIT.RESULT (c : Nat) : Fld := ⟨BPM_ALLOCFIT.addr c, 31, 0⟩
def BPM_GIVE.addr (o : Nat) : Nat := 0x40007400 + 4 * o
def BPM_GIVE.ADDR (o : Nat) : Fld := ⟨BPM_GIVE.addr o, 31, 5⟩
def BPM_GIVE.CHAIN (o : Nat) : Fld := ⟨BPM_GIVE.addr o, 0, 0⟩
def BPM_OWNCNT.addr (o : Nat) : Nat := 0x40007600 + 4 * o
def BPM_OWNCNT.CELLS (o : Nat) : Fld := ⟨BPM_OWNCNT.addr o, 31, 16⟩
def BPM_OWNCNT.BUFS (o : Nat) : Fld := ⟨BPM_OWNCNT.addr o, 15, 0⟩

/-! Registers of the GSQ block (spec/11_gallery_programs.md, Register reference). -/

def GSQ_CFG.addr : Nat := 0x4000E000
def GSQ_CFG.OVMODE : Fld := ⟨GSQ_CFG.addr, 1, 0⟩
def GSQ_FPER.addr : Nat := 0x4000E004
def GSQ_FPER.CYCLES : Fld := ⟨GSQ_FPER.addr, 26, 0⟩
def GSQ_FCNTLO.addr : Nat := 0x4000E008
def GSQ_FCNTLO.FCNT : Fld := ⟨GSQ_FCNTLO.addr, 31, 0⟩
def GSQ_FCNTHI.addr : Nat := 0x4000E00C
def GSQ_FCNTHI.FCNT : Fld := ⟨GSQ_FCNTHI.addr, 31, 0⟩
def GSQ_SEAMLAT.addr : Nat := 0x4000E010
def GSQ_SEAMLAT.LAT : Fld := ⟨GSQ_SEAMLAT.addr, 7, 0⟩
def GSQ_ANYLAT.addr : Nat := 0x4000E014
def GSQ_ANYLAT.LAT : Fld := ⟨GSQ_ANYLAT.addr, 10, 0⟩
def GSQ_SEAMTO.addr : Nat := 0x4000E018
def GSQ_SEAMTO.CYCLES : Fld := ⟨GSQ_SEAMTO.addr, 15, 0⟩
def GSQ_TRAP.addr : Nat := 0x4000E020
def GSQ_TRAP.CAUSE : Fld := ⟨GSQ_TRAP.addr, 31, 24⟩
def GSQ_TRAP.ADDR : Fld := ⟨GSQ_TRAP.addr, 13, 0⟩
def GSQ_BANK.addr : Nat := 0x4000E028
def GSQ_BANK.LOADED : Fld := ⟨GSQ_BANK.addr, 5, 4⟩
def GSQ_BANK.NONE : Fld := ⟨GSQ_BANK.addr, 1, 1⟩
def GSQ_BANK.ACTIVE : Fld := ⟨GSQ_BANK.addr, 0, 0⟩
def GSQ_SWCTL.addr : Nat := 0x4000E030
def GSQ_SWCTL.ARMED : Fld := ⟨GSQ_SWCTL.addr, 31, 31⟩
def GSQ_SWCTL.TARGET : Fld := ⟨GSQ_SWCTL.addr, 28, 28⟩
def GSQ_SWCTL.YEN : Fld := ⟨GSQ_SWCTL.addr, 24, 24⟩
def GSQ_SWAT.addr : Nat := 0x4000E034
def GSQ_SWAT.AT : Fld := ⟨GSQ_SWAT.addr, 31, 0⟩
def GSQ_SWREQ.addr : Nat := 0x4000E038
def GSQ_SWREQ.DONE : Fld := ⟨GSQ_SWREQ.addr, 31, 16⟩
def GSQ_SWREQ.REQ : Fld := ⟨GSQ_SWREQ.addr, 15, 0⟩
def GSQ_BUDGET.addr : Nat := 0x4000E040
def GSQ_BUDGET.EFF : Fld := ⟨GSQ_BUDGET.addr, 26, 0⟩
def GSQ_BCNT_NOW.addr : Nat := 0x4000E044
def GSQ_BCNT_NOW.NOW : Fld := ⟨GSQ_BCNT_NOW.addr, 26, 0⟩
def GSQ_BCNT_LAST.addr : Nat := 0x4000E048
def GSQ_BCNT_LAST.LAST : Fld := ⟨GSQ_BCNT_LAST.addr, 26, 0⟩
def GSQ_BCNT_MAX.addr : Nat := 0x4000E04C
def GSQ_BCNT_MAX.MAX : Fld := ⟨GSQ_BCNT_MAX.addr, 26, 0⟩
def GSQ_REPCTL.addr : Nat := 0x4000E060
def GSQ_REPCTL.ARMED : Fld := ⟨GSQ_REPCTL.addr, 31, 31⟩
def GSQ_REPCTL.COPY : Fld := ⟨GSQ_REPCTL.addr, 16, 16⟩
def GSQ_REPCTL.SPARE : Fld := ⟨GSQ_REPCTL.addr, 9, 8⟩
def GSQ_REPCTL.LCOL : Fld := ⟨GSQ_REPCTL.addr, 6, 0⟩
def GSQ_REPSTAT.addr : Nat := 0x4000E064
def GSQ_REPSTAT.DONE : Fld := ⟨GSQ_REPSTAT.addr, 31, 31⟩
def GSQ_REPSTAT.CLEARED : Fld := ⟨GSQ_REPSTAT.addr, 30, 30⟩
def GSQ_REPSTAT.PCOL : Fld := ⟨GSQ_REPSTAT.addr, 15, 8⟩
def GSQ_REPSTAT.LCOL : Fld := ⟨GSQ_REPSTAT.addr, 6, 0⟩
def GSQ_BI_ENTRY.addr (b : Nat) : Nat := 0x4000E080 + 0x20 * b
def GSQ_BI_ENTRY.YENTRY (b : Nat) : Fld := ⟨GSQ_BI_ENTRY.addr b, 31, 16⟩
def GSQ_BI_ENTRY.ENTRY (b : Nat) : Fld := ⟨GSQ_BI_ENTRY.addr b, 15, 0⟩
def GSQ_BI_B0.addr (b : Nat) : Nat := 0x4000E084 + 0x20 * b
def GSQ_BI_B0.B0 (b : Nat) : Fld := ⟨GSQ_BI_B0.addr b, 31, 0⟩
def GSQ_BI_N.addr (b : Nat) : Nat := 0x4000E088 + 0x20 * b
def GSQ_BI_N.NANY (b : Nat) : Fld := ⟨GSQ_BI_N.addr b, 31, 16⟩
def GSQ_BI_N.NSEAM (b : Nat) : Fld := ⟨GSQ_BI_N.addr b, 15, 0⟩
def GSQ_BI_YB0.addr (b : Nat) : Nat := 0x4000E08C + 0x20 * b
def GSQ_BI_YB0.YB0 (b : Nat) : Fld := ⟨GSQ_BI_YB0.addr b, 31, 0⟩
def GSQ_BI_YN.addr (b : Nat) : Nat := 0x4000E090 + 0x20 * b
def GSQ_BI_YN.YNANY (b : Nat) : Fld := ⟨GSQ_BI_YN.addr b, 31, 16⟩
def GSQ_BI_YN.YNSEAM (b : Nat) : Fld := ⟨GSQ_BI_YN.addr b, 15, 0⟩
def GSQ_BI_SAFE.addr (b : Nat) : Nat := 0x4000E094 + 0x20 * b
def GSQ_BI_SAFE.SAFEMASK (b : Nat) : Fld := ⟨GSQ_BI_SAFE.addr b, 31, 16⟩
def GSQ_BI_SAFE.SAFETY (b : Nat) : Fld := ⟨GSQ_BI_SAFE.addr b, 0, 0⟩
def GSQ_COLMAP.addr (k : Nat) : Nat := 0x4000E100 + 4 * k
def GSQ_COLMAP.PCOL0 (k : Nat) : Fld := ⟨GSQ_COLMAP.addr k, 7, 0⟩
def GSQ_COLMAP.PCOL1 (k : Nat) : Fld := ⟨GSQ_COLMAP.addr k, 15, 8⟩
def GSQ_COLMAP.PCOL2 (k : Nat) : Fld := ⟨GSQ_COLMAP.addr k, 23, 16⟩
def GSQ_COLMAP.PCOL3 (k : Nat) : Fld := ⟨GSQ_COLMAP.addr k, 31, 24⟩

/-! Registers of the RSR block (spec/11_gallery_programs.md, Register reference). -/

def RSR_STAT.addr : Nat := 0x4000F000
def RSR_STAT.OUTST : Fld := ⟨RSR_STAT.addr, 4, 0⟩
def RSR_MAPCTL.addr : Nat := 0x4000F004
def RSR_MAPCTL.PEND : Fld := ⟨RSR_MAPCTL.addr, 1, 1⟩
def RSR_MAPCTL.VALID : Fld := ⟨RSR_MAPCTL.addr, 0, 0⟩
def RSR_ERR.addr : Nat := 0x4000F008
def RSR_ERR.ALIGN : Fld := ⟨RSR_ERR.addr, 8, 8⟩
def RSR_ERR.NODESC : Fld := ⟨RSR_ERR.addr, 7, 7⟩
def RSR_ERR.ORPHAN : Fld := ⟨RSR_ERR.addr, 6, 6⟩
def RSR_ERR.LOCKED : Fld := ⟨RSR_ERR.addr, 5, 5⟩
def RSR_ERR.WINDOW : Fld := ⟨RSR_ERR.addr, 4, 4⟩
def RSR_ERR.ECC : Fld := ⟨RSR_ERR.addr, 3, 3⟩
def RSR_ERR.BANKOUT : Fld := ⟨RSR_ERR.addr, 2, 2⟩
def RSR_ERR.LATE : Fld := ⟨RSR_ERR.addr, 1, 1⟩
def RSR_ERR.QFULL : Fld := ⟨RSR_ERR.addr, 0, 0⟩
def RSR_ERRINFO.addr : Nat := 0x4000F00C
def RSR_ERRINFO.FRAME : Fld := ⟨RSR_ERRINFO.addr, 31, 16⟩
def RSR_ERRINFO.DIR : Fld := ⟨RSR_ERRINFO.addr, 8, 8⟩
def RSR_ERRINFO.DESC : Fld := ⟨RSR_ERRINFO.addr, 5, 0⟩
def RSR_CNT.addr : Nat := 0x4000F010
def RSR_CNT.ERRS : Fld := ⟨RSR_CNT.addr, 31, 16⟩
def RSR_CNT.XFERS : Fld := ⟨RSR_CNT.addr, 15, 0⟩
def RSR_DESC.addr (w : Nat) : Nat := 0x4000F800 + 4 * w
def RSR_DESC.WORD (w : Nat) : Fld := ⟨RSR_DESC.addr w, 31, 0⟩

/-! Registers of the CNC block (spec/12_concourse.md, Register reference). -/

def CNC_CTRL.addr (lane : Nat) : Nat := 0x40020000 + 0x1000 * lane
def CNC_CTRL.PRECODE (lane : Nat) : Fld := ⟨CNC_CTRL.addr lane, 16, 16⟩
def CNC_CTRL.PRBS (lane : Nat) : Fld := ⟨CNC_CTRL.addr lane, 9, 8⟩
def CNC_CTRL.FARLOOP (lane : Nat) : Fld := ⟨CNC_CTRL.addr lane, 4, 4⟩
def CNC_CTRL.LOOP (lane : Nat) : Fld := ⟨CNC_CTRL.addr lane, 2, 0⟩
def CNC_LSTAT.addr (lane : Nat) : Nat := 0x40020004 + 0x1000 * lane
def CNC_LSTAT.PEERVALID (lane : Nat) : Fld := ⟨CNC_LSTAT.addr lane, 20, 20⟩
def CNC_LSTAT.PEERPOS (lane : Nat) : Fld := ⟨CNC_LSTAT.addr lane, 18, 16⟩
def CNC_LSTAT.DOWNCAUSE (lane : Nat) : Fld := ⟨CNC_LSTAT.addr lane, 15, 12⟩
def CNC_LSTAT.QCAUSE (lane : Nat) : Fld := ⟨CNC_LSTAT.addr lane, 11, 8⟩
def CNC_LSTAT.LSTATE (lane : Nat) : Fld := ⟨CNC_LSTAT.addr lane, 2, 0⟩
def CNC_PEER.addr (lane : Nat) : Nat := 0x40020008 + 0x1000 * lane
def CNC_PEER.LEADPOS (lane : Nat) : Fld := ⟨CNC_PEER.addr lane, 26, 24⟩
def CNC_PEER.TOPO (lane : Nat) : Fld := ⟨CNC_PEER.addr lane, 17, 16⟩
def CNC_PEER.WLGEN (lane : Nat) : Fld := ⟨CNC_PEER.addr lane, 15, 8⟩
def CNC_PEER.FABGEN (lane : Nat) : Fld := ⟨CNC_PEER.addr lane, 7, 0⟩
def CNC_LAT.addr (lane : Nat) : Nat := 0x4002000C + 0x1000 * lane
def CNC_LAT.MARK (lane : Nat) : Fld := ⟨CNC_LAT.addr lane, 15, 8⟩
def CNC_LAT.PINNED (lane : Nat) : Fld := ⟨CNC_LAT.addr lane, 7, 0⟩
def CNC_ERR.addr (lane : Nat) : Nat := 0x40020010 + 0x1000 * lane
def CNC_ERR.PRBSERR (lane : Nat) : Fld := ⟨CNC_ERR.addr lane, 5, 5⟩
def CNC_ERR.CFGERR (lane : Nat) : Fld := ⟨CNC_ERR.addr lane, 4, 4⟩
def CNC_ERR.DRIFT (lane : Nat) : Fld := ⟨CNC_ERR.addr lane, 3, 3⟩
def CNC_ERR.FECUNC (lane : Nat) : Fld := ⟨CNC_ERR.addr lane, 2, 2⟩
def CNC_ERR.QUAR (lane : Nat) : Fld := ⟨CNC_ERR.addr lane, 1, 1⟩
def CNC_ERR.DOWN (lane : Nat) : Fld := ⟨CNC_ERR.addr lane, 0, 0⟩
def CNC_IE.addr (lane : Nat) : Nat := 0x40020014 + 0x1000 * lane
def CNC_IE.IE (lane : Nat) : Fld := ⟨CNC_IE.addr lane, 5, 0⟩
def CNC_FECCORR.addr (lane : Nat) : Nat := 0x40020018 + 0x1000 * lane
def CNC_FECCORR.CORR (lane : Nat) : Fld := ⟨CNC_FECCORR.addr lane, 31, 0⟩
def CNC_FECUNC.addr (lane : Nat) : Nat := 0x4002001C + 0x1000 * lane
def CNC_FECUNC.UNCORR (lane : Nat) : Fld := ⟨CNC_FECUNC.addr lane, 31, 0⟩
def CNC_SBCNT.addr (lane : Nat) : Nat := 0x40020020 + 0x1000 * lane
def CNC_SBCNT.VOTERX (lane : Nat) : Fld := ⟨CNC_SBCNT.addr lane, 31, 16⟩
def CNC_SBCNT.VOTETX (lane : Nat) : Fld := ⟨CNC_SBCNT.addr lane, 15, 0⟩
def CNC_PRBSCNT.addr (lane : Nat) : Nat := 0x40020024 + 0x1000 * lane
def CNC_PRBSCNT.LOCK (lane : Nat) : Fld := ⟨CNC_PRBSCNT.addr lane, 31, 31⟩
def CNC_PRBSCNT.ERRS (lane : Nat) : Fld := ⟨CNC_PRBSCNT.addr lane, 30, 0⟩
def CNC_TXEQ0.addr (lane : Nat) : Nat := 0x40020030 + 0x1000 * lane
def CNC_TXEQ0.PRE3 (lane : Nat) : Fld := ⟨CNC_TXEQ0.addr lane, 31, 24⟩
def CNC_TXEQ0.PRE2 (lane : Nat) : Fld := ⟨CNC_TXEQ0.addr lane, 23, 16⟩
def CNC_TXEQ0.PRE1 (lane : Nat) : Fld := ⟨CNC_TXEQ0.addr lane, 15, 8⟩
def CNC_TXEQ0.POST (lane : Nat) : Fld := ⟨CNC_TXEQ0.addr lane, 7, 0⟩
def CNC_TXEQ1.addr (lane : Nat) : Nat := 0x40020034 + 0x1000 * lane
def CNC_TXEQ1.MAIN (lane : Nat) : Fld := ⟨CNC_TXEQ1.addr lane, 7, 0⟩
def CNC_GRP.addr : Nat := 0x40020400
def CNC_GRP.SETTLED : Fld := ⟨CNC_GRP.addr, 24, 24⟩
def CNC_GRP.DIAM : Fld := ⟨CNC_GRP.addr, 19, 16⟩
def CNC_GRP.MEMBERS : Fld := ⟨CNC_GRP.addr, 15, 8⟩
def CNC_GRP.ISLEAD : Fld := ⟨CNC_GRP.addr, 4, 4⟩
def CNC_GRP.LEAD : Fld := ⟨CNC_GRP.addr, 2, 0⟩
def CNC_GCFG.addr : Nat := 0x40020404
def CNC_GCFG.PEERPOL : Fld := ⟨CNC_GCFG.addr, 15, 8⟩
def CNC_GCFG.BEACONTO : Fld := ⟨CNC_GCFG.addr, 3, 0⟩
def CNC_GERR.addr : Nat := 0x40020408
def CNC_GERR.RAERR : Fld := ⟨CNC_GERR.addr, 4, 4⟩
def CNC_GERR.BEACONMISS : Fld := ⟨CNC_GERR.addr, 3, 3⟩
def CNC_GERR.ANYSHORT : Fld := ⟨CNC_GERR.addr, 2, 2⟩
def CNC_GERR.TWOLEADS : Fld := ⟨CNC_GERR.addr, 1, 1⟩
def CNC_GERR.LEADCHG : Fld := ⟨CNC_GERR.addr, 0, 0⟩
def CNC_BEACON.addr : Nat := 0x4002040C
def CNC_BEACON.FCNT : Fld := ⟨CNC_BEACON.addr, 31, 0⟩
def CNC_GUPDAT.addr : Nat := 0x40020410
def CNC_GUPDAT.AT : Fld := ⟨CNC_GUPDAT.addr, 31, 0⟩
def CNC_GUPD.addr : Nat := 0x40020414
def CNC_GUPD.PENDING : Fld := ⟨CNC_GUPD.addr, 31, 31⟩
def CNC_GUPD.ANYLAT : Fld := ⟨CNC_GUPD.addr, 18, 8⟩
def CNC_GUPD.LAT : Fld := ⟨CNC_GUPD.addr, 7, 0⟩
def CNC_RACTL.addr : Nat := 0x40020420
def CNC_RACTL.GO : Fld := ⟨CNC_RACTL.addr, 31, 31⟩
def CNC_RACTL.OP : Fld := ⟨CNC_RACTL.addr, 29, 28⟩
def CNC_RACTL.DST : Fld := ⟨CNC_RACTL.addr, 26, 24⟩
def CNC_RACTL.LEN : Fld := ⟨CNC_RACTL.addr, 8, 0⟩
def CNC_RARADDR.addr : Nat := 0x40020424
def CNC_RARADDR.RADDR : Fld := ⟨CNC_RARADDR.addr, 31, 0⟩
def CNC_RALADDR.addr : Nat := 0x40020428
def CNC_RALADDR.LADDR : Fld := ⟨CNC_RALADDR.addr, 31, 0⟩
def CNC_RARES.addr : Nat := 0x4002042C
def CNC_RARES.RES : Fld := ⟨CNC_RARES.addr, 3, 0⟩
def CNC_RARESULT.addr : Nat := 0x40020430
def CNC_RARESULT.RESULT : Fld := ⟨CNC_RARESULT.addr, 31, 0⟩

/-! Registers of the NOC block (spec/13_corridor.md, Register reference). -/

def NOC_RTSEL.addr : Nat := 0x4000D000
def NOC_RTSEL.NI : Fld := ⟨NOC_RTSEL.addr, 11, 8⟩
def NOC_RTSEL.ENTRY : Fld := ⟨NOC_RTSEL.addr, 5, 0⟩
def NOC_RTBASE.addr : Nat := 0x4000D004
def NOC_RTBASE.PAGE : Fld := ⟨NOC_RTBASE.addr, 31, 12⟩
def NOC_RTLIM.addr : Nat := 0x4000D008
def NOC_RTLIM.PAGE : Fld := ⟨NOC_RTLIM.addr, 31, 12⟩
def NOC_RTCTL.addr : Nat := 0x4000D00C
def NOC_RTCTL.VALID : Fld := ⟨NOC_RTCTL.addr, 31, 31⟩
def NOC_RTCTL.PRIO : Fld := ⟨NOC_RTCTL.addr, 29, 28⟩
def NOC_RTCTL.TGT : Fld := ⟨NOC_RTCTL.addr, 27, 24⟩
def NOC_RTCTL.ROUTE : Fld := ⟨NOC_RTCTL.addr, 23, 0⟩
def NOC_ERR.addr : Nat := 0x4000D010
def NOC_ERR.DECODE : Fld := ⟨NOC_ERR.addr, 1, 1⟩
def NOC_ERR.ROUTE : Fld := ⟨NOC_ERR.addr, 0, 0⟩
def NOC_ERRSRC.addr : Nat := 0x4000D014
def NOC_ERRSRC.SRC : Fld := ⟨NOC_ERRSRC.addr, 3, 0⟩
def NOC_ERRADDR.addr : Nat := 0x4000D018
def NOC_ERRADDR.ADDR : Fld := ⟨NOC_ERRADDR.addr, 31, 0⟩
def NOC_STATCTL.addr : Nat := 0x4000D020
def NOC_STATCTL.BINW : Fld := ⟨NOC_STATCTL.addr, 27, 16⟩
def NOC_STATCTL.SNAP : Fld := ⟨NOC_STATCTL.addr, 0, 0⟩
def NOC_NICFG.addr (n : Nat) : Nat := 0x4000D040 + 4 * n
def NOC_NICFG.OUTNOW (n : Nat) : Fld := ⟨NOC_NICFG.addr n, 13, 8⟩
def NOC_NICFG.OUTST (n : Nat) : Fld := ⟨NOC_NICFG.addr n, 5, 0⟩
def NOC_PRBCTL.addr (k : Nat) : Nat := 0x4000D100 + 0x20 * k
def NOC_PRBCTL.EN (k : Nat) : Fld := ⟨NOC_PRBCTL.addr k, 31, 31⟩
def NOC_PRBCTL.TRACE (k : Nat) : Fld := ⟨NOC_PRBCTL.addr k, 30, 30⟩
def NOC_PRBCTL.PRIOMASK (k : Nat) : Fld := ⟨NOC_PRBCTL.addr k, 19, 16⟩
def NOC_PRBCTL.SRCMASK (k : Nat) : Fld := ⟨NOC_PRBCTL.addr k, 15, 0⟩
def NOC_PRBTGT.addr (k : Nat) : Nat := 0x4000D104 + 0x20 * k
def NOC_PRBTGT.TGTMASK (k : Nat) : Fld := ⟨NOC_PRBTGT.addr k, 15, 0⟩
def NOC_PRBLO.addr (k : Nat) : Nat := 0x4000D108 + 0x20 * k
def NOC_PRBLO.ADDRLO (k : Nat) : Fld := ⟨NOC_PRBLO.addr k, 31, 0⟩
def NOC_PRBHI.addr (k : Nat) : Nat := 0x4000D10C + 0x20 * k
def NOC_PRBHI.ADDRHI (k : Nat) : Fld := ⟨NOC_PRBHI.addr k, 31, 0⟩
def NOC_PRBCNT.addr (k : Nat) : Nat := 0x4000D110 + 0x20 * k
def NOC_PRBCNT.COUNT (k : Nat) : Fld := ⟨NOC_PRBCNT.addr k, 31, 0⟩
def NOC_PRBLIM.addr (k : Nat) : Nat := 0x4000D114 + 0x20 * k
def NOC_PRBLIM.LIMIT (k : Nat) : Fld := ⟨NOC_PRBLIM.addr k, 31, 0⟩
def NOC_TRCTL.addr : Nat := 0x4000D180
def NOC_TRCTL.WRAP : Fld := ⟨NOC_TRCTL.addr, 1, 1⟩
def NOC_TRCTL.CLR : Fld := ⟨NOC_TRCTL.addr, 0, 0⟩
def NOC_TRSTAT.addr : Nat := 0x4000D184
def NOC_TRSTAT.FULL : Fld := ⟨NOC_TRSTAT.addr, 9, 9⟩
def NOC_TRSTAT.LEVEL : Fld := ⟨NOC_TRSTAT.addr, 8, 0⟩
def NOC_TRRD.addr : Nat := 0x4000D188
def NOC_TRRD.INDEX : Fld := ⟨NOC_TRRD.addr, 7, 0⟩
def NOC_TRDATA.addr (k : Nat) : Nat := 0x4000D190 + 4 * k
def NOC_TRDATA.WORD (k : Nat) : Fld := ⟨NOC_TRDATA.addr k, 31, 0⟩
def NOC_TGCTL.addr : Nat := 0x4000D1C0
def NOC_TGCTL.GO : Fld := ⟨NOC_TGCTL.addr, 31, 31⟩
def NOC_TGCTL.PRIO : Fld := ⟨NOC_TGCTL.addr, 29, 28⟩
def NOC_TGCTL.TGT : Fld := ⟨NOC_TGCTL.addr, 27, 24⟩
def NOC_TGCTL.TGLEN : Fld := ⟨NOC_TGCTL.addr, 23, 16⟩
def NOC_TGCTL.TGCOUNT : Fld := ⟨NOC_TGCTL.addr, 15, 0⟩
def NOC_TGADDR.addr : Nat := 0x4000D1C4
def NOC_TGADDR.ADDR : Fld := ⟨NOC_TGADDR.addr, 31, 0⟩
def NOC_TGSTAT.addr : Nat := 0x4000D1C8
def NOC_TGSTAT.ERRS : Fld := ⟨NOC_TGSTAT.addr, 31, 16⟩
def NOC_TGSTAT.DONE : Fld := ⟨NOC_TGSTAT.addr, 0, 0⟩
def NOC_PRBSTAT.addr : Nat := 0x4000D1F0
def NOC_PRBSTAT.HIT : Fld := ⟨NOC_PRBSTAT.addr, 3, 0⟩
def NOC_STAT_BYTES.addr (n : Nat) : Nat := 0x4000D400 + 0x20 * n
def NOC_STAT_BYTES.BYTES (n : Nat) : Fld := ⟨NOC_STAT_BYTES.addr n, 31, 0⟩
def NOC_STAT_PKTS.addr (n : Nat) : Nat := 0x4000D404 + 0x20 * n
def NOC_STAT_PKTS.PKTS (n : Nat) : Fld := ⟨NOC_STAT_PKTS.addr n, 31, 0⟩
def NOC_STAT_LAT.addr (n : Nat) : Nat := 0x4000D408 + 0x20 * n
def NOC_STAT_LAT.LATMAX (n : Nat) : Fld := ⟨NOC_STAT_LAT.addr n, 31, 16⟩
def NOC_STAT_LAT.LATMIN (n : Nat) : Fld := ⟨NOC_STAT_LAT.addr n, 15, 0⟩
def NOC_STAT_HIST0.addr (n : Nat) : Nat := 0x4000D40C + 0x20 * n
def NOC_STAT_HIST0.HI (n : Nat) : Fld := ⟨NOC_STAT_HIST0.addr n, 31, 16⟩
def NOC_STAT_HIST0.LO (n : Nat) : Fld := ⟨NOC_STAT_HIST0.addr n, 15, 0⟩
def NOC_STAT_HIST1.addr (n : Nat) : Nat := 0x4000D410 + 0x20 * n
def NOC_STAT_HIST1.HI (n : Nat) : Fld := ⟨NOC_STAT_HIST1.addr n, 31, 16⟩
def NOC_STAT_HIST1.LO (n : Nat) : Fld := ⟨NOC_STAT_HIST1.addr n, 15, 0⟩
def NOC_STAT_HIST2.addr (n : Nat) : Nat := 0x4000D414 + 0x20 * n
def NOC_STAT_HIST2.HI (n : Nat) : Fld := ⟨NOC_STAT_HIST2.addr n, 31, 16⟩
def NOC_STAT_HIST2.LO (n : Nat) : Fld := ⟨NOC_STAT_HIST2.addr n, 15, 0⟩
def NOC_STAT_HIST3.addr (n : Nat) : Nat := 0x4000D418 + 0x20 * n
def NOC_STAT_HIST3.HI (n : Nat) : Fld := ⟨NOC_STAT_HIST3.addr n, 31, 16⟩
def NOC_STAT_HIST3.LO (n : Nat) : Fld := ⟨NOC_STAT_HIST3.addr n, 15, 0⟩

/-! Registers of the ATC block (spec/14_memories_protection.md, Register reference). -/

def ATC_BANK.addr (n : Nat) : Nat := 0x4000C000 + 4 * n
def ATC_BANK.SVC (n : Nat) : Fld := ⟨ATC_BANK.addr n, 17, 16⟩
def ATC_BANK.PWR (n : Nat) : Fld := ⟨ATC_BANK.addr n, 9, 8⟩
def ATC_BANK.OOSPWR (n : Nat) : Fld := ⟨ATC_BANK.addr n, 0, 0⟩
def ATC_CFLCT.addr (m : Nat) : Nat := 0x4000C040 + 4 * m
def ATC_CFLCT.COUNT (m : Nat) : Fld := ⟨ATC_CFLCT.addr m, 31, 0⟩
def ATC_ERR.addr : Nat := 0x4000C080
def ATC_ERR.WINDOW : Fld := ⟨ATC_ERR.addr, 2, 2⟩
def ATC_ERR.UNC : Fld := ⟨ATC_ERR.addr, 1, 1⟩
def ATC_ERR.CORR : Fld := ⟨ATC_ERR.addr, 0, 0⟩
def ATC_IE.addr : Nat := 0x4000C084
def ATC_IE.IE : Fld := ⟨ATC_IE.addr, 2, 0⟩
def ATC_ECCCNT.addr : Nat := 0x4000C088
def ATC_ECCCNT.UNC : Fld := ⟨ATC_ECCCNT.addr, 31, 16⟩
def ATC_ECCCNT.CORR : Fld := ⟨ATC_ECCCNT.addr, 15, 0⟩
def ATC_ECCADDR.addr : Nat := 0x4000C08C
def ATC_ECCADDR.ADDR : Fld := ⟨ATC_ECCADDR.addr, 31, 0⟩
def ATC_WINERR.addr : Nat := 0x4000C090
def ATC_WINERR.WRITE : Fld := ⟨ATC_WINERR.addr, 8, 8⟩
def ATC_WINERR.SRC : Fld := ⟨ATC_WINERR.addr, 3, 0⟩
def ATC_WINERRADDR.addr : Nat := 0x4000C094
def ATC_WINERRADDR.ADDR : Fld := ⟨ATC_WINERRADDR.addr, 31, 0⟩
def ATC_SCRUB.addr : Nat := 0x4000C0A0
def ATC_SCRUB.EN : Fld := ⟨ATC_SCRUB.addr, 0, 0⟩
def ATC_WINBASE.addr (k : Nat) : Nat := 0x4000C200 + 0x10 * k
def ATC_WINBASE.BASE (k : Nat) : Fld := ⟨ATC_WINBASE.addr k, 31, 12⟩
def ATC_WINLIM.addr (k : Nat) : Nat := 0x4000C204 + 0x10 * k
def ATC_WINLIM.LIMIT (k : Nat) : Fld := ⟨ATC_WINLIM.addr k, 31, 12⟩
def ATC_WINPERM.addr (k : Nat) : Nat := 0x4000C208 + 0x10 * k
def ATC_WINPERM.WPERM (k : Nat) : Fld := ⟨ATC_WINPERM.addr k, 31, 16⟩
def ATC_WINPERM.RPERM (k : Nat) : Fld := ⟨ATC_WINPERM.addr k, 15, 0⟩

/-! Registers of the CWT block (spec/14_memories_protection.md, Register reference). -/

def CWT_BASE.addr (p : Nat) : Nat := 0x40031000 + 4 * p
def CWT_BASE.BASE (p : Nat) : Fld := ⟨CWT_BASE.addr p, 31, 13⟩
def CWT_BASE.EN (p : Nat) : Fld := ⟨CWT_BASE.addr p, 0, 0⟩
def CWT_DEVPERM.addr : Nat := 0x40031020
def CWT_DEVPERM.PEER : Fld := ⟨CWT_DEVPERM.addr, 7, 0⟩
def CWT_INVAL.addr : Nat := 0x40031030
def CWT_INVAL.VPN : Fld := ⟨CWT_INVAL.addr, 31, 12⟩
def CWT_INVAL.PEER : Fld := ⟨CWT_INVAL.addr, 10, 8⟩
def CWT_INVAL.SCOPE : Fld := ⟨CWT_INVAL.addr, 1, 0⟩
def CWT_FAULT.addr : Nat := 0x40031040
def CWT_FAULT.VALID : Fld := ⟨CWT_FAULT.addr, 31, 31⟩
def CWT_FAULT.CAUSE : Fld := ⟨CWT_FAULT.addr, 19, 16⟩
def CWT_FAULT.LEVEL : Fld := ⟨CWT_FAULT.addr, 13, 12⟩
def CWT_FAULT.PEER : Fld := ⟨CWT_FAULT.addr, 10, 8⟩
def CWT_FAULT.WRITE : Fld := ⟨CWT_FAULT.addr, 4, 4⟩
def CWT_FAULTVA.addr : Nat := 0x40031044
def CWT_FAULTVA.VA : Fld := ⟨CWT_FAULTVA.addr, 31, 0⟩
def CWT_FAULTCNT.addr : Nat := 0x40031048
def CWT_FAULTCNT.COUNT : Fld := ⟨CWT_FAULTCNT.addr, 15, 0⟩
def CWT_TLBCNT.addr : Nat := 0x40031050
def CWT_TLBCNT.MISS : Fld := ⟨CWT_TLBCNT.addr, 31, 16⟩
def CWT_TLBCNT.HIT : Fld := ⟨CWT_TLBCNT.addr, 15, 0⟩

/-! Registers of the TWN block (spec/14_memories_protection.md, Register reference). -/

def TWN_STAT.addr : Nat := 0x40030000
def TWN_STAT.PASSES : Fld := ⟨TWN_STAT.addr, 31, 16⟩
def TWN_STAT.LASTPASS : Fld := ⟨TWN_STAT.addr, 15, 0⟩
def TWN_FAULT.addr : Nat := 0x40030008
def TWN_FAULT.CAUSE : Fld := ⟨TWN_FAULT.addr, 31, 28⟩
def TWN_FAULT.BLOCK : Fld := ⟨TWN_FAULT.addr, 23, 16⟩
def TWN_FAULT.OFFSET : Fld := ⟨TWN_FAULT.addr, 11, 0⟩
def TWN_ERR.addr : Nat := 0x4003000C
def TWN_ERR.CAUSE : Fld := ⟨TWN_ERR.addr, 5, 0⟩
def TWN_CNT.addr : Nat := 0x40030010
def TWN_CNT.COUNT : Fld := ⟨TWN_CNT.addr, 15, 0⟩
def TWN_STORE.addr (n : Nat) : Nat := 0x40030100 + 4 * n
def TWN_STORE.VALUE (n : Nat) : Fld := ⟨TWN_STORE.addr n, 31, 0⟩

/-! Registers of the DGE block (spec/15_digest_logbook.md, Register reference). -/

def DGE_STAT.addr : Nat := 0x40008000
def DGE_STAT.HERR : Fld := ⟨DGE_STAT.addr, 3, 3⟩
def DGE_STAT.HDONE : Fld := ⟨DGE_STAT.addr, 2, 2⟩
def DGE_STAT.SERR : Fld := ⟨DGE_STAT.addr, 1, 1⟩
def DGE_STAT.SDONE : Fld := ⟨DGE_STAT.addr, 0, 0⟩
def DGE_IE.addr : Nat := 0x40008004
def DGE_IE.IE : Fld := ⟨DGE_IE.addr, 3, 0⟩
def DGE_KAT.addr : Nat := 0x40008008
def DGE_KAT.GO : Fld := ⟨DGE_KAT.addr, 31, 31⟩
def DGE_KAT.TEST : Fld := ⟨DGE_KAT.addr, 10, 8⟩
def DGE_KAT.FAIL : Fld := ⟨DGE_KAT.addr, 1, 1⟩
def DGE_KAT.PASS : Fld := ⟨DGE_KAT.addr, 0, 0⟩
def DGE_KEYSTAT.addr : Nat := 0x40008010
def DGE_KEYSTAT.LOADED : Fld := ⟨DGE_KEYSTAT.addr, 7, 0⟩
def DGE_KEYID0.addr : Nat := 0x40008014
def DGE_KEYID0.KEYID : Fld := ⟨DGE_KEYID0.addr, 31, 0⟩
def DGE_KEYCTL.addr : Nat := 0x40008018
def DGE_KEYCTL.SLOT : Fld := ⟨DGE_KEYCTL.addr, 18, 16⟩
def DGE_KEYCTL.ZERO : Fld := ⟨DGE_KEYCTL.addr, 9, 9⟩
def DGE_KEYCTL.LOAD : Fld := ⟨DGE_KEYCTL.addr, 8, 8⟩
def DGE_KEYCTL.LEN : Fld := ⟨DGE_KEYCTL.addr, 6, 0⟩
def DGE_KEYLD.addr (k : Nat) : Nat := 0x40008040 + 4 * k
def DGE_KEYLD.BYTES (k : Nat) : Fld := ⟨DGE_KEYLD.addr k, 31, 0⟩
def DGE_CMD.addr (c : Nat) : Nat := 0x40008100 + 0x100 * c
def DGE_CMD.START (c : Nat) : Fld := ⟨DGE_CMD.addr c, 31, 31⟩
def DGE_CMD.FINISH (c : Nat) : Fld := ⟨DGE_CMD.addr c, 30, 30⟩
def DGE_CMD.ABORT (c : Nat) : Fld := ⟨DGE_CMD.addr c, 29, 29⟩
def DGE_CMD.LASTN (c : Nat) : Fld := ⟨DGE_CMD.addr c, 17, 16⟩
def DGE_CMD.KSLOT (c : Nat) : Fld := ⟨DGE_CMD.addr c, 10, 8⟩
def DGE_CMD.MODE (c : Nat) : Fld := ⟨DGE_CMD.addr c, 4, 4⟩
def DGE_CMD.ALGO (c : Nat) : Fld := ⟨DGE_CMD.addr c, 3, 3⟩
def DGE_CMD.KEYED (c : Nat) : Fld := ⟨DGE_CMD.addr c, 2, 2⟩
def DGE_LIST.addr (c : Nat) : Nat := 0x40008104 + 0x100 * c
def DGE_LIST.ADDR (c : Nat) : Fld := ⟨DGE_LIST.addr c, 31, 0⟩
def DGE_RES.addr (c : Nat) : Nat := 0x40008108 + 0x100 * c
def DGE_RES.ADDR (c : Nat) : Fld := ⟨DGE_RES.addr c, 31, 0⟩
def DGE_CSTAT.addr (c : Nat) : Nat := 0x4000810C + 0x100 * c
def DGE_CSTAT.BUSY (c : Nat) : Fld := ⟨DGE_CSTAT.addr c, 31, 31⟩
def DGE_CSTAT.DONE (c : Nat) : Fld := ⟨DGE_CSTAT.addr c, 30, 30⟩
def DGE_CSTAT.ERR (c : Nat) : Fld := ⟨DGE_CSTAT.addr c, 29, 29⟩
def DGE_CSTAT.CAUSE (c : Nat) : Fld := ⟨DGE_CSTAT.addr c, 27, 24⟩
def DGE_CSTAT.SPACE (c : Nat) : Fld := ⟨DGE_CSTAT.addr c, 20, 16⟩
def DGE_CSTAT.MSGS (c : Nat) : Fld := ⟨DGE_CSTAT.addr c, 15, 0⟩
def DGE_ERRDESC.addr (c : Nat) : Nat := 0x40008110 + 0x100 * c
def DGE_ERRDESC.ADDR (c : Nat) : Fld := ⟨DGE_ERRDESC.addr c, 31, 0⟩
def DGE_DATA.addr (c : Nat) : Nat := 0x40008114 + 0x100 * c
def DGE_DATA.DATA (c : Nat) : Fld := ⟨DGE_DATA.addr c, 31, 0⟩
def DGE_LAST.addr (c : Nat) : Nat := 0x40008118 + 0x100 * c
def DGE_LAST.DATA (c : Nat) : Fld := ⟨DGE_LAST.addr c, 31, 0⟩
def DGE_DIG.addr (c : Nat) (k : Nat) : Nat := 0x40008140 + 0x100 * c + 4 * k
def DGE_DIG.BYTES (c : Nat) (k : Nat) : Fld := ⟨DGE_DIG.addr c k, 31, 0⟩

/-! Registers of the BAL block (spec/16_trips_integrity.md, Register reference). -/

def BAL_STATE.addr : Nat := 0x40009000
def BAL_STATE.TRIPPED : Fld := ⟨BAL_STATE.addr, 15, 0⟩
def BAL_TCAUSE.addr (n : Nat) : Nat := 0x40009040 + 4 * n
def BAL_TCAUSE.RESET (n : Nat) : Fld := ⟨BAL_TCAUSE.addr n, 10, 10⟩
def BAL_TCAUSE.CLOCK (n : Nat) : Fld := ⟨BAL_TCAUSE.addr n, 9, 9⟩
def BAL_TCAUSE.OWN (n : Nat) : Fld := ⟨BAL_TCAUSE.addr n, 8, 8⟩
def BAL_TCAUSE.VCMD (n : Nat) : Fld := ⟨BAL_TCAUSE.addr n, 7, 7⟩
def BAL_TCAUSE.LAND (n : Nat) : Fld := ⟨BAL_TCAUSE.addr n, 6, 6⟩
def BAL_TCAUSE.LATCH (n : Nat) : Fld := ⟨BAL_TCAUSE.addr n, 5, 5⟩
def BAL_TCAUSE.INTEG (n : Nat) : Fld := ⟨BAL_TCAUSE.addr n, 4, 4⟩
def BAL_TCAUSE.HWD (n : Nat) : Fld := ⟨BAL_TCAUSE.addr n, 3, 3⟩
def BAL_TCAUSE.SWD (n : Nat) : Fld := ⟨BAL_TCAUSE.addr n, 2, 2⟩
def BAL_TCAUSE.FWD (n : Nat) : Fld := ⟨BAL_TCAUSE.addr n, 1, 1⟩
def BAL_TCAUSE.GTRIP (n : Nat) : Fld := ⟨BAL_TCAUSE.addr n, 0, 0⟩
def BAL_SRC.addr (n : Nat) : Nat := 0x40009100 + 4 * n
def BAL_SRC.RPEER (n : Nat) : Fld := ⟨BAL_SRC.addr n, 31, 24⟩
def BAL_SRC.RLATCH (n : Nat) : Fld := ⟨BAL_SRC.addr n, 23, 16⟩
def BAL_SRC.LLATCH (n : Nat) : Fld := ⟨BAL_SRC.addr n, 15, 8⟩
def BAL_SRC.INTEG (n : Nat) : Fld := ⟨BAL_SRC.addr n, 4, 4⟩
def BAL_SRC.HWD (n : Nat) : Fld := ⟨BAL_SRC.addr n, 3, 3⟩
def BAL_SRC.SWD (n : Nat) : Fld := ⟨BAL_SRC.addr n, 2, 2⟩
def BAL_SRC.FWD (n : Nat) : Fld := ⟨BAL_SRC.addr n, 1, 1⟩
def BAL_SRC.GTRIP (n : Nat) : Fld := ⟨BAL_SRC.addr n, 0, 0⟩
def BAL_LIFE.addr (n : Nat) : Nat := 0x40009140 + 4 * n
def BAL_LIFE.HALFP (n : Nat) : Fld := ⟨BAL_LIFE.addr n, 9, 0⟩
def BAL_ACK.addr : Nat := 0x40009180
def BAL_ACK.MASK : Fld := ⟨BAL_ACK.addr, 15, 0⟩
def BAL_FWD.addr : Nat := 0x40009184
def BAL_FWD.MISS : Fld := ⟨BAL_FWD.addr, 3, 0⟩
def BAL_SWD.addr : Nat := 0x40009188
def BAL_SWD.TO : Fld := ⟨BAL_SWD.addr, 15, 0⟩
def BAL_HWD.addr : Nat := 0x4000918C
def BAL_HWD.TO : Fld := ⟨BAL_HWD.addr, 9, 0⟩
def BAL_VTRIP.addr : Nat := 0x40009190
def BAL_VTRIP.MASK : Fld := ⟨BAL_VTRIP.addr, 15, 0⟩
def BAL_SKICK.addr : Nat := 0x400091A0
def BAL_SKICK.KEY : Fld := ⟨BAL_SKICK.addr, 31, 0⟩
def BAL_HKICK.addr : Nat := 0x400091A4
def BAL_HKICK.KEY : Fld := ⟨BAL_HKICK.addr, 31, 0⟩
def BAL_WDSTAT.addr : Nat := 0x400091B0
def BAL_WDSTAT.HNEXT : Fld := ⟨BAL_WDSTAT.addr, 17, 17⟩
def BAL_WDSTAT.SNEXT : Fld := ⟨BAL_WDSTAT.addr, 16, 16⟩
def BAL_WDSTAT.FMISS : Fld := ⟨BAL_WDSTAT.addr, 11, 8⟩
def BAL_WDSTAT.HWDACT : Fld := ⟨BAL_WDSTAT.addr, 2, 2⟩
def BAL_WDSTAT.SWDACT : Fld := ⟨BAL_WDSTAT.addr, 1, 1⟩
def BAL_WDSTAT.FWDACT : Fld := ⟨BAL_WDSTAT.addr, 0, 0⟩
def BAL_EVT.addr : Nat := 0x400091B4
def BAL_EVT.HKEY : Fld := ⟨BAL_EVT.addr, 3, 3⟩
def BAL_EVT.SKEY : Fld := ⟨BAL_EVT.addr, 2, 2⟩
def BAL_EVT.HWARN : Fld := ⟨BAL_EVT.addr, 1, 1⟩
def BAL_EVT.SWARN : Fld := ⟨BAL_EVT.addr, 0, 0⟩
def BAL_INTCAUSE.addr : Nat := 0x400091C0
def BAL_INTCAUSE.LAST : Fld := ⟨BAL_INTCAUSE.addr, 7, 0⟩
def BAL_RDBK.addr : Nat := 0x400091C8
def BAL_RDBK.LEVEL : Fld := ⟨BAL_RDBK.addr, 31, 0⟩
def BAL_CNT.addr : Nat := 0x400091D0
def BAL_CNT.RELEASES : Fld := ⟨BAL_CNT.addr, 31, 16⟩
def BAL_CNT.TRIPS : Fld := ⟨BAL_CNT.addr, 15, 0⟩

/-! Registers of the PSV block (spec/17_power_landing.md, Register reference). -/

def PSV_STAT.addr : Nat := 0x4000A000
def PSV_STAT.CHGFLT : Fld := ⟨PSV_STAT.addr, 9, 9⟩
def PSV_STAT.CHGON : Fld := ⟨PSV_STAT.addr, 8, 8⟩
def PSV_STAT.GALFLT : Fld := ⟨PSV_STAT.addr, 5, 5⟩
def PSV_STAT.COREFLT : Fld := ⟨PSV_STAT.addr, 4, 4⟩
def PSV_STAT.VLOW : Fld := ⟨PSV_STAT.addr, 2, 2⟩
def PSV_STAT.VREADY : Fld := ⟨PSV_STAT.addr, 1, 1⟩
def PSV_STAT.IOWARN : Fld := ⟨PSV_STAT.addr, 0, 0⟩
def PSV_IE.addr : Nat := 0x4000A004
def PSV_IE.IE : Fld := ⟨PSV_IE.addr, 9, 0⟩
def PSV_VHOLD.addr : Nat := 0x4000A008
def PSV_VHOLD.VMIN : Fld := ⟨PSV_VHOLD.addr, 15, 8⟩
def PSV_VHOLD.VNOW : Fld := ⟨PSV_VHOLD.addr, 7, 0⟩
def PSV_CAPCFG.addr : Nat := 0x4000A010
def PSV_CAPCFG.DEADLINE : Fld := ⟨PSV_CAPCFG.addr, 31, 24⟩
def PSV_CAPCFG.ICHG : Fld := ⟨PSV_CAPCFG.addr, 21, 16⟩
def PSV_CAPCFG.VREADY : Fld := ⟨PSV_CAPCFG.addr, 7, 0⟩
def PSV_RCFG.addr : Nat := 0x4000A014
def PSV_RCFG.STABLE : Fld := ⟨PSV_RCFG.addr, 7, 0⟩
def PSV_SAVEADDR.addr (k : Nat) : Nat := 0x4000A020 + 8 * k
def PSV_SAVEADDR.ADDR (k : Nat) : Fld := ⟨PSV_SAVEADDR.addr k, 31, 3⟩
def PSV_SAVELEN.addr (k : Nat) : Nat := 0x4000A024 + 8 * k
def PSV_SAVELEN.LEN (k : Nat) : Fld := ⟨PSV_SAVELEN.addr k, 16, 3⟩
def PSV_SAVESTAT.addr : Nat := 0x4000A040
def PSV_SAVESTAT.STATUS : Fld := ⟨PSV_SAVESTAT.addr, 31, 0⟩
def PSV_CNT.addr : Nat := 0x4000A044
def PSV_CNT.LANDINGS : Fld := ⟨PSV_CNT.addr, 31, 16⟩
def PSV_CNT.WARNS : Fld := ⟨PSV_CNT.addr, 15, 0⟩

/-! Registers of the PIO block (spec/18_pins_gpio_electrical.md, Register reference). -/

def PIO_IN.addr (x : Nat) : Nat := 0x4000B000 + 0x40 * x
def PIO_IN.LEVEL (x : Nat) : Fld := ⟨PIO_IN.addr x, 15, 0⟩
def PIO_OUT.addr (x : Nat) : Nat := 0x4000B004 + 0x40 * x
def PIO_OUT.OUT (x : Nat) : Fld := ⟨PIO_OUT.addr x, 15, 0⟩
def PIO_SET.addr (x : Nat) : Nat := 0x4000B008 + 0x40 * x
def PIO_SET.MASK (x : Nat) : Fld := ⟨PIO_SET.addr x, 15, 0⟩
def PIO_CLR.addr (x : Nat) : Nat := 0x4000B00C + 0x40 * x
def PIO_CLR.MASK (x : Nat) : Fld := ⟨PIO_CLR.addr x, 15, 0⟩
def PIO_TGL.addr (x : Nat) : Nat := 0x4000B010 + 0x40 * x
def PIO_TGL.MASK (x : Nat) : Fld := ⟨PIO_TGL.addr x, 15, 0⟩
def PIO_DIR.addr (x : Nat) : Nat := 0x4000B014 + 0x40 * x
def PIO_DIR.DIR (x : Nat) : Fld := ⟨PIO_DIR.addr x, 15, 0⟩
def PIO_OD.addr (x : Nat) : Nat := 0x4000B018 + 0x40 * x
def PIO_OD.OD (x : Nat) : Fld := ⟨PIO_OD.addr x, 15, 0⟩
def PIO_PULL.addr (x : Nat) : Nat := 0x4000B01C + 0x40 * x
def PIO_PULL.PD (x : Nat) : Fld := ⟨PIO_PULL.addr x, 31, 16⟩
def PIO_PULL.PU (x : Nat) : Fld := ⟨PIO_PULL.addr x, 15, 0⟩
def PIO_GSEL.addr (x : Nat) : Nat := 0x4000B020 + 0x40 * x
def PIO_GSEL.GSEL (x : Nat) : Fld := ⟨PIO_GSEL.addr x, 15, 0⟩
def PIO_GOUT.addr (x : Nat) : Nat := 0x4000B024 + 0x40 * x
def PIO_GOUT.GOUT (x : Nat) : Fld := ⟨PIO_GOUT.addr x, 15, 0⟩
def PIO_OWN.addr (x : Nat) : Nat := 0x4000B028 + 0x40 * x
def PIO_OWN.OWN (x : Nat) : Fld := ⟨PIO_OWN.addr x, 15, 0⟩
def PIO_CONFLICT.addr (x : Nat) : Nat := 0x4000B02C + 0x40 * x
def PIO_CONFLICT.REFUSED (x : Nat) : Fld := ⟨PIO_CONFLICT.addr x, 15, 0⟩
def PIO_KEEP.addr (x : Nat) : Nat := 0x4000B100 + 4 * x
def PIO_KEEP.KEEP (x : Nat) : Fld := ⟨PIO_KEEP.addr x, 15, 0⟩
def PIO_PINTCFG.addr (n : Nat) : Nat := 0x4000B200 + 4 * n
def PIO_PINTCFG.WAKE (n : Nat) : Fld := ⟨PIO_PINTCFG.addr n, 16, 16⟩
def PIO_PINTCFG.FILT (n : Nat) : Fld := ⟨PIO_PINTCFG.addr n, 11, 8⟩
def PIO_PINTCFG.PORT (n : Nat) : Fld := ⟨PIO_PINTCFG.addr n, 5, 4⟩
def PIO_PINTCFG.MODE (n : Nat) : Fld := ⟨PIO_PINTCFG.addr n, 2, 0⟩
def PIO_PINTLVL.addr : Nat := 0x4000B240
def PIO_PINTLVL.LEVEL : Fld := ⟨PIO_PINTLVL.addr, 15, 0⟩
def PIO_WAKESRC.addr : Nat := 0x4000B244
def PIO_WAKESRC.LINE : Fld := ⟨PIO_WAKESRC.addr, 15, 0⟩

end Sys2Proof.Machine
end

