-- ==== Sys2Proof/Machine/RegTable.lean ====
section
/-!
DEFINITION. The register table of the device: for each register its reset class and its fields with their access
codes (Table SCP.3), reset values and legal values, from the Register reference sections of spec/.
-/

namespace Sys2Proof.Machine

/-- Access codes of Table SCP.3 (R7). -/
inductive Acc where
  | rw | ro | wo | w1c | w1s | rc | rmw | tw
  deriving DecidableEq, Repr

/-- Reset classes of R13. -/
inductive RClass where
  | aon | dev | blk
  deriving DecidableEq, Repr

/-- The legal values a register table states for a field (R137, R559). -/
inductive Lim where
  | any
  | range (lo hi : Nat)
  | offOr (lo hi : Nat)
  | codes (cs : List Nat)
  deriving DecidableEq, Repr

/-- One field of a register. -/
structure FieldSpec where
  hi : Nat
  lo : Nat
  acc : Acc
  reset : Nat
  lim : Lim
  stw : Bool
  deriving DecidableEq, Repr

/-- `count` registers of one form, `stride` apart from `base`. -/
structure RegSpec where
  base : Nat
  stride : Nat
  count : Nat
  cls : RClass
  fields : List FieldSpec
  deriving DecidableEq, Repr

/-- The registers of the SYS block (spec/02_modes_startup_versions.md, Register reference). -/
def regsSys : List RegSpec := [
  /- SYS_DEVID -/ ⟨0x40000000, 0x4, 1, .aon,
    [⟨31, 0, .ro, 0x4B4E4808, .any, false⟩]⟩,
  /- SYS_REV -/ ⟨0x40000004, 0x4, 1, .aon,
    [⟨15, 8, .ro, 67, .any, false⟩, ⟨7, 0, .ro, 1, .any, false⟩]⟩,
  /- SYS_MODE -/ ⟨0x40000008, 0x4, 1, .dev,
    [⟨6, 4, .ro, 0, .any, false⟩, ⟨2, 0, .ro, 0, .any, false⟩]⟩,
  /- SYS_STRAP -/ ⟨0x4000000C, 0x4, 1, .dev,
    [⟨8, 8, .ro, 0, .any, false⟩, ⟨5, 4, .ro, 0, .any, false⟩, ⟨2, 0, .ro, 0, .any, false⟩]⟩,
  /- SYS_RSTCAUSE -/ ⟨0x40000010, 0x4, 1, .aon,
    [⟨6, 6, .w1c, 0, .any, false⟩, ⟨5, 5, .w1c, 0, .any, false⟩, ⟨4, 4, .w1c, 0, .any, false⟩, ⟨3, 3, .w1c, 0, .any, false⟩, ⟨2, 2, .w1c, 0, .any, false⟩, ⟨0, 0, .w1c, 1, .any, false⟩]⟩,
  /- SYS_RSTREQ -/ ⟨0x40000014, 0x4, 1, .dev,
    [⟨31, 24, .wo, 0, .any, false⟩, ⟨0, 0, .wo, 0, .any, false⟩]⟩,
  /- SYS_BOOTSTAT -/ ⟨0x40000018, 0x4, 1, .dev,
    [⟨9, 9, .ro, 0, .any, false⟩, ⟨8, 8, .w1c, 0, .any, false⟩, ⟨3, 0, .ro, 0, .any, false⟩]⟩,
  /- SYS_BOOTADDR -/ ⟨0x4000001C, 0x4, 1, .dev,
    [⟨31, 0, .rw, 0, .any, false⟩]⟩,
  /- SYS_BOOTLEN -/ ⟨0x40000020, 0x4, 1, .dev,
    [⟨31, 0, .rw, 0, .any, false⟩]⟩,
  /- SYS_BOOTCTL -/ ⟨0x40000024, 0x4, 1, .dev,
    [⟨0, 0, .w1s, 0, .any, false⟩]⟩,
  /- SYS_LIMP -/ ⟨0x40000028, 0x4, 1, .aon,
    [⟨31, 10, .ro, 0, .any, false⟩, ⟨9, 9, .wo, 0, .any, false⟩, ⟨8, 8, .w1c, 0, .any, false⟩, ⟨7, 0, .ro, 0, .any, false⟩]⟩,
  /- SYS_INTEG -/ ⟨0x4000002C, 0x4, 1, .dev,
    [⟨15, 8, .tw, 16, (.range 1 255), false⟩, ⟨7, 0, .ro, 0, .any, false⟩]⟩,
  /- SYS_VER_BOOT -/ ⟨0x40000030, 0x4, 1, .aon,
    [⟨31, 24, .ro, 6, .any, false⟩, ⟨23, 16, .ro, 5, .any, false⟩, ⟨15, 8, .ro, 3, .any, false⟩, ⟨7, 0, .ro, 0, .any, false⟩]⟩,
  /- SYS_VER_WL -/ ⟨0x40000034, 0x4, 1, .dev,
    [⟨31, 24, .ro, 0, .any, false⟩, ⟨23, 16, .ro, 0, .any, false⟩, ⟨15, 8, .ro, 0, .any, false⟩, ⟨7, 0, .ro, 0, .any, false⟩]⟩,
  /- SYS_VER_SC -/ ⟨0x40000038, 0x4, 1, .dev,
    [⟨31, 24, .ro, 0, .any, false⟩, ⟨23, 16, .ro, 0, .any, false⟩, ⟨15, 8, .ro, 0, .any, false⟩, ⟨7, 0, .ro, 0, .any, false⟩]⟩,
  /- SYS_GEN -/ ⟨0x4000003C, 0x4, 1, .dev,
    [⟨31, 24, .ro, 0, .any, false⟩, ⟨23, 16, .ro, 0, .any, false⟩, ⟨15, 8, .ro, 0, .any, false⟩, ⟨7, 0, .ro, 3, .any, false⟩]⟩,
  /- SYS_STWRST -/ ⟨0x40000040, 0x4, 1, .dev,
    [⟨17, 16, .ro, 0, .any, false⟩, ⟨15, 0, .rc, 0, .any, false⟩]⟩,
  /- SYS_SVCSUM -/ ⟨0x40000044, 0x4, 1, .dev,
    [⟨27, 12, .ro, 0, .any, false⟩, ⟨11, 8, .ro, 15, .any, false⟩, ⟨7, 6, .ro, 3, .any, false⟩, ⟨5, 0, .ro, 63, .any, false⟩]⟩,
  /- SYS_HSUM -/ ⟨0x40000048, 0x4, 1, .dev,
    [⟨1, 1, .ro, 0, .any, false⟩, ⟨0, 0, .ro, 0, .any, false⟩]⟩]

/-- The registers of the HPT block (spec/03_host_link_inspection.md, Register reference). -/
def regsHpt : List RegSpec := [
  /- HPT_STAT -/ ⟨0x40001000, 0x4, 1, .dev,
    [⟨10, 8, .ro, 0, .any, false⟩, ⟨2, 2, .ro, 0, .any, false⟩, ⟨1, 1, .ro, 0, .any, false⟩, ⟨0, 0, .w1c, 0, .any, false⟩]⟩,
  /- HPT_WERRADDR -/ ⟨0x40001004, 0x4, 1, .dev,
    [⟨31, 0, .ro, 0, .any, false⟩]⟩,
  /- HPT_RDTIME -/ ⟨0x40001008, 0x4, 1, .dev,
    [⟨31, 16, .rc, 0, .any, false⟩, ⟨15, 0, .ro, 0, .any, false⟩]⟩,
  /- HPT_CNT -/ ⟨0x4000100C, 0x4, 1, .dev,
    [⟨31, 16, .rc, 0, .any, false⟩, ⟨15, 8, .rc, 0, .any, false⟩, ⟨7, 0, .rc, 0, .any, false⟩]⟩]

/-- The registers of the IPT block (spec/03_host_link_inspection.md, Register reference). -/
def regsIpt : List RegSpec := [
  /- IPT_STAT -/ ⟨0x40002000, 0x4, 1, .aon,
    [⟨15, 8, .ro, 0, .any, false⟩, ⟨1, 1, .ro, 0, .any, false⟩, ⟨0, 0, .ro, 0, .any, false⟩]⟩,
  /- IPT_COUNT -/ ⟨0x40002004, 0x4, 1, .aon,
    [⟨31, 0, .ro, 0, .any, false⟩]⟩]

/-- The registers of the VST block (spec/04_vestibule_commands.md, Register reference). -/
def regsVst : List RegSpec := [
  /- VST_SLOTSTAT -/ ⟨0x40003000, 0x4, 1, .dev,
    [⟨7, 6, .ro, 0, .any, false⟩, ⟨5, 4, .ro, 0, .any, false⟩, ⟨3, 2, .ro, 0, .any, false⟩, ⟨1, 0, .ro, 0, .any, false⟩]⟩,
  /- VST_DOORBELL -/ ⟨0x40003004, 0x4, 1, .dev,
    [⟨3, 0, .w1s, 0, .any, false⟩]⟩,
  /- VST_DONE -/ ⟨0x40003008, 0x4, 1, .dev,
    [⟨3, 0, .w1c, 0, .any, false⟩]⟩,
  /- VST_ERR -/ ⟨0x4000300C, 0x4, 1, .dev,
    [⟨1, 1, .w1c, 0, .any, false⟩, ⟨0, 0, .w1c, 0, .any, false⟩]⟩,
  /- VST_CNT -/ ⟨0x40003010, 0x4, 1, .dev,
    [⟨31, 24, .rc, 0, .any, false⟩, ⟨23, 16, .rc, 0, .any, false⟩, ⟨15, 0, .rc, 0, .any, false⟩]⟩,
  /- VST_SVCTIME -/ ⟨0x40003014, 0x4, 1, .dev,
    [⟨31, 16, .rc, 0, .any, false⟩, ⟨15, 0, .ro, 0, .any, false⟩]⟩,
  /- VST_FWSTAT -/ ⟨0x40003018, 0x4, 1, .dev,
    [⟨15, 8, .ro, 0, .any, false⟩, ⟨1, 0, .ro, 0, .any, false⟩]⟩,
  /- VST_CMD -/ ⟨0x40003400, 0x4, 256, .dev,
    [⟨31, 0, .rw, 0, .any, false⟩]⟩,
  /- VST_RSP -/ ⟨0x40003C00, 0x4, 256, .dev,
    [⟨31, 0, .ro, 0, .any, false⟩]⟩]

/-- The registers of the ICU block (spec/05_interrupts_events_locks.md, Register reference). -/
def regsIcu : List RegSpec := [
  /- ICU_SUM -/ ⟨0x40004000, 0x4, 1, .dev,
    [⟨23, 0, .ro, 0, .any, false⟩]⟩,
  /- ICU_SUMS -/ ⟨0x40004004, 0x4, 1, .dev,
    [⟨23, 0, .ro, 0, .any, false⟩]⟩,
  /- ICU_TGT_H -/ ⟨0x40004010, 0x4, 1, .dev,
    [⟨8, 8, .rw, 0, .any, false⟩, ⟨7, 4, .ro, 0, .any, false⟩, ⟨3, 0, .rw, 0, .any, false⟩]⟩,
  /- ICU_TGT_S -/ ⟨0x40004014, 0x4, 1, .dev,
    [⟨8, 8, .rw, 0, .any, false⟩, ⟨7, 4, .ro, 0, .any, false⟩, ⟨3, 0, .rw, 0, .any, false⟩]⟩,
  /- ICU_CLAIM_H -/ ⟨0x40004020, 0x4, 1, .dev,
    [⟨11, 8, .ro, 0, .any, false⟩, ⟨7, 0, .ro, 255, .any, false⟩]⟩,
  /- ICU_CLAIM_S -/ ⟨0x40004024, 0x4, 1, .dev,
    [⟨11, 8, .ro, 0, .any, false⟩, ⟨7, 0, .ro, 255, .any, false⟩]⟩,
  /- ICU_EOI_H -/ ⟨0x40004028, 0x4, 1, .dev,
    [⟨7, 0, .wo, 0, .any, false⟩]⟩,
  /- ICU_EOI_S -/ ⟨0x4000402C, 0x4, 1, .dev,
    [⟨7, 0, .wo, 0, .any, false⟩]⟩,
  /- ICU_ERR -/ ⟨0x40004030, 0x4, 1, .dev,
    [⟨1, 1, .w1c, 0, .any, false⟩, ⟨0, 0, .w1c, 0, .any, false⟩]⟩,
  /- ICU_EN -/ ⟨0x40004040, 0x4, 6, .dev,
    [⟨31, 0, .rmw, 0, .any, false⟩]⟩,
  /- ICU_PEND -/ ⟨0x40004060, 0x4, 6, .dev,
    [⟨31, 0, .rmw, 0, .any, false⟩]⟩,
  /- ICU_ACT -/ ⟨0x40004080, 0x4, 6, .dev,
    [⟨31, 0, .ro, 0, .any, false⟩]⟩,
  /- ICU_CFG -/ ⟨0x40004100, 0x4, 48, .dev,
    [⟨4, 4, .rw, 0, .any, false⟩, ⟨3, 0, .rw, 0, .any, false⟩, ⟨12, 12, .rw, 0, .any, false⟩, ⟨11, 8, .rw, 0, .any, false⟩, ⟨20, 20, .rw, 0, .any, false⟩, ⟨19, 16, .rw, 0, .any, false⟩, ⟨28, 28, .rw, 0, .any, false⟩, ⟨27, 24, .rw, 0, .any, false⟩]⟩,
  /- ICU_GCAUSE -/ ⟨0x40004200, 0x4, 24, .dev,
    [⟨7, 0, .ro, 0, .any, false⟩]⟩]

/-- The registers of the EVQ block (spec/05_interrupts_events_locks.md, Register reference). -/
def regsEvq : List RegSpec := [
  /- EVQ_STAT -/ ⟨0x40005000, 0x4, 1, .dev,
    [⟨8, 0, .ro, 0, .any, false⟩]⟩,
  /- EVQ_NEXTSEQ -/ ⟨0x40005004, 0x4, 1, .dev,
    [⟨15, 0, .ro, 0, .any, false⟩]⟩,
  /- EVQ_CFG -/ ⟨0x40005008, 0x4, 1, .dev,
    [⟨7, 0, .rw, 192, (.range 1 240), false⟩]⟩,
  /- EVQ_LOST -/ ⟨0x4000500C, 0x4, 1, .dev,
    [⟨16, 16, .w1c, 0, .any, false⟩, ⟨15, 0, .rc, 0, .any, false⟩]⟩,
  /- EVQ_HEAD -/ ⟨0x40005010, 0x4, 4, .dev,
    [⟨31, 0, .ro, 0, .any, false⟩]⟩,
  /- EVQ_POP -/ ⟨0x40005020, 0x4, 1, .dev,
    [⟨0, 0, .wo, 0, .any, true⟩]⟩,
  /- EVQ_POSTD -/ ⟨0x40005030, 0x4, 2, .dev,
    [⟨31, 0, .rw, 0, .any, true⟩]⟩,
  /- EVQ_POSTC -/ ⟨0x40005038, 0x4, 1, .dev,
    [⟨8, 8, .wo, 0, .any, false⟩, ⟨7, 0, .wo, 0, .any, true⟩]⟩,
  /- EVQ_POSTSEQ -/ ⟨0x4000503C, 0x4, 1, .dev,
    [⟨15, 0, .ro, 0, .any, false⟩]⟩]

/-- The registers of the NWL block (spec/05_interrupts_events_locks.md, Register reference). -/
def regsNwl : List RegSpec := [
  /- NWL_HELD -/ ⟨0x40006000, 0x4, 2, .dev,
    [⟨31, 0, .ro, 0, .any, false⟩]⟩,
  /- NWL_ORPHAN -/ ⟨0x40006010, 0x4, 2, .dev,
    [⟨31, 0, .w1c, 0, .any, false⟩]⟩,
  /- NWL_ERR -/ ⟨0x40006020, 0x4, 1, .dev,
    [⟨3, 3, .w1c, 0, .any, false⟩, ⟨2, 2, .w1c, 0, .any, false⟩, ⟨1, 1, .w1c, 0, .any, false⟩, ⟨0, 0, .w1c, 0, .any, false⟩]⟩,
  /- NWL_ERRINFO -/ ⟨0x40006024, 0x4, 1, .dev,
    [⟨12, 12, .ro, 0, .any, false⟩, ⟨11, 8, .ro, 0, .any, false⟩, ⟨5, 0, .ro, 0, .any, false⟩]⟩,
  /- NWL_CNT -/ ⟨0x40006028, 0x4, 1, .dev,
    [⟨31, 16, .rc, 0, .any, false⟩, ⟨15, 0, .rc, 0, .any, false⟩]⟩,
  /- NWL_FORCE -/ ⟨0x40006030, 0x4, 1, .dev,
    [⟨5, 0, .wo, 0, .any, true⟩]⟩,
  /- NWL_ACQ -/ ⟨0x40006100, 0x4, 64, .dev,
    [⟨31, 31, .ro, 0, .any, false⟩, ⟨30, 30, .ro, 0, .any, false⟩, ⟨29, 29, .ro, 0, .any, false⟩, ⟨3, 0, .ro, 0, .any, false⟩, ⟨0, 0, .wo, 0, .any, false⟩]⟩,
  /- NWL_PEEK -/ ⟨0x40006200, 0x4, 64, .dev,
    [⟨30, 30, .ro, 0, .any, false⟩, ⟨3, 0, .ro, 0, .any, false⟩]⟩]

/-- The registers of the PBK block (spec/06_ports_line.md, Register reference). -/
def regsPbk : List RegSpec := [
  /- PBK_CTRL -/ ⟨0x40010000, 0x200, 48, .blk,
    [⟨10, 10, .rw, 0, .any, false⟩, ⟨9, 9, .rw, 0, .any, false⟩, ⟨8, 8, .rw, 0, .any, false⟩, ⟨5, 4, .rw, 0, .any, false⟩, ⟨2, 2, .rw, 0, .any, false⟩, ⟨1, 1, .rw, 0, .any, false⟩, ⟨0, 0, .rw, 0, .any, false⟩]⟩,
  /- PBK_FMT -/ ⟨0x40010004, 0x200, 48, .blk,
    [⟨9, 8, .rw, 0, (.codes [0, 1, 2]), false⟩, ⟨6, 4, .rw, 0, (.codes [0, 1, 2, 3, 4]), false⟩, ⟨1, 0, .rw, 1, (.codes [0, 1, 2]), false⟩]⟩,
  /- PBK_BAUD -/ ⟨0x40010008, 0x200, 48, .blk,
    [⟨25, 24, .rw, 0, (.codes [0, 1, 2]), false⟩, ⟨21, 6, .rw, 1562, .any, false⟩, ⟨5, 0, .rw, 32, .any, false⟩]⟩,
  /- PBK_STAT -/ ⟨0x4001000C, 0x200, 48, .blk,
    [⟨19, 19, .ro, 0, .any, false⟩, ⟨18, 18, .ro, 0, .any, false⟩, ⟨17, 17, .w1c, 0, .any, false⟩, ⟨16, 16, .w1c, 0, .any, false⟩, ⟨15, 15, .w1c, 0, .any, false⟩, ⟨14, 14, .w1c, 0, .any, false⟩, ⟨13, 13, .w1c, 0, .any, false⟩, ⟨12, 12, .w1c, 0, .any, false⟩, ⟨11, 11, .w1c, 0, .any, false⟩, ⟨10, 10, .w1c, 0, .any, false⟩, ⟨9, 9, .w1c, 0, .any, false⟩, ⟨8, 8, .w1c, 0, .any, false⟩, ⟨7, 7, .w1c, 0, .any, false⟩, ⟨6, 6, .ro, 0, .any, false⟩, ⟨5, 5, .w1c, 0, .any, false⟩, ⟨4, 4, .w1c, 0, .any, false⟩, ⟨3, 3, .w1c, 0, .any, false⟩, ⟨2, 2, .w1c, 0, .any, false⟩, ⟨1, 1, .w1c, 0, .any, false⟩, ⟨0, 0, .w1c, 0, .any, false⟩]⟩,
  /- PBK_IE -/ ⟨0x40010010, 0x200, 48, .blk,
    [⟨17, 0, .rw, 0, .any, false⟩]⟩,
  /- PBK_FLOW -/ ⟨0x40010014, 0x200, 48, .blk,
    [⟨31, 24, .rw, 0, .any, false⟩, ⟨23, 16, .rw, 64, .any, false⟩, ⟨8, 0, .rw, 192, (.range 1 256), false⟩]⟩,
  /- PBK_HD -/ ⟨0x40010018, 0x200, 48, .blk,
    [⟨24, 24, .rw, 0, .any, false⟩, ⟨23, 20, .rw, 1, (.range 1 15), false⟩, ⟨18, 16, .rw, 3, (.range 0 7), false⟩, ⟨15, 8, .rw, 16, .any, false⟩, ⟨7, 0, .rw, 0, .any, false⟩]⟩,
  /- PBK_LOOP -/ ⟨0x4001001C, 0x200, 48, .blk,
    [⟨2, 0, .rw, 0, (.codes [0, 1, 2, 3, 4]), false⟩]⟩,
  /- PBK_ABD -/ ⟨0x40010020, 0x200, 48, .blk,
    [⟨24, 16, .rw, 0, .any, false⟩, ⟨9, 8, .ro, 0, .any, false⟩, ⟨7, 4, .rw, 3, (.range 1 15), false⟩, ⟨3, 3, .rw, 0, .any, false⟩, ⟨2, 1, .rw, 0, (.codes [0, 1, 2]), false⟩, ⟨0, 0, .rw, 0, .any, false⟩]⟩,
  /- PBK_ABDQ -/ ⟨0x40010024, 0x200, 48, .blk,
    [⟨15, 0, .rw, 4000, (.range 1 65535), false⟩]⟩,
  /- PBK_ABDM -/ ⟨0x40010028, 0x200, 48, .blk,
    [⟨22, 0, .ro, 0, .any, false⟩]⟩,
  /- PBK_ADDR -/ ⟨0x40010030, 0x200, 48, .blk,
    [⟨31, 24, .rw, 255, .any, false⟩, ⟨23, 16, .rw, 255, .any, false⟩, ⟨15, 8, .rw, 0, .any, false⟩, ⟨1, 1, .rw, 0, .any, false⟩, ⟨0, 0, .rw, 0, .any, false⟩]⟩,
  /- PBK_FRM -/ ⟨0x40010040, 0x200, 48, .blk,
    [⟨21, 16, .rw, 1, (.codes [1, 2]), false⟩, ⟨11, 8, .rw, 2, (.range 2 15), false⟩, ⟨4, 4, .rw, 0, .any, false⟩, ⟨3, 3, .rw, 0, .any, false⟩, ⟨2, 0, .rw, 0, (.codes [0, 1, 2, 3, 4]), false⟩]⟩,
  /- PBK_FRML -/ ⟨0x40010044, 0x200, 48, .blk,
    [⟨28, 16, .rw, 8, (.range 1 4096), false⟩, ⟨8, 0, .rw, 10, .any, false⟩]⟩,
  /- PBK_FRMX -/ ⟨0x40010048, 0x200, 48, .blk,
    [⟨12, 0, .rw, 256, (.range 2 4096), false⟩]⟩,
  /- PBK_FRMQ -/ ⟨0x40010050, 0x200, 48, .blk,
    [⟨31, 0, .ro, 0, .any, false⟩]⟩,
  /- PBK_RAWBASE -/ ⟨0x40010060, 0x200, 48, .blk,
    [⟨31, 0, .rw, 0, .any, false⟩]⟩,
  /- PBK_RAWSIZE -/ ⟨0x40010064, 0x200, 48, .blk,
    [⟨3, 0, .rw, 0, (.range 0 8), false⟩]⟩,
  /- PBK_RAWWP -/ ⟨0x40010068, 0x200, 48, .blk,
    [⟨15, 0, .ro, 0, .any, false⟩]⟩,
  /- PBK_RAWRP -/ ⟨0x4001006C, 0x200, 48, .blk,
    [⟨15, 0, .rw, 0, .any, false⟩]⟩,
  /- PBK_WAKE -/ ⟨0x40010070, 0x200, 48, .blk,
    [⟨9, 8, .ro, 0, .any, false⟩, ⟨0, 0, .rw, 0, .any, false⟩]⟩,
  /- PBK_TXQ -/ ⟨0x40010078, 0x200, 48, .blk,
    [⟨31, 5, .wo, 0, .any, false⟩, ⟨3, 0, .ro, 0, .any, false⟩]⟩,
  /- PBK_CNT0 -/ ⟨0x40010080, 0x200, 48, .blk,
    [⟨31, 16, .rc, 0, .any, false⟩, ⟨15, 0, .rc, 0, .any, false⟩]⟩,
  /- PBK_CNT1 -/ ⟨0x40010084, 0x200, 48, .blk,
    [⟨31, 16, .rc, 0, .any, false⟩, ⟨15, 0, .rc, 0, .any, false⟩]⟩,
  /- PBK_CNT2 -/ ⟨0x40010088, 0x200, 48, .blk,
    [⟨31, 16, .rc, 0, .any, false⟩, ⟨15, 0, .rc, 0, .any, false⟩]⟩,
  /- PBK_CNT3 -/ ⟨0x4001008C, 0x200, 48, .blk,
    [⟨31, 16, .rc, 0, .any, false⟩, ⟨15, 0, .rc, 0, .any, false⟩]⟩,
  /- PBK_CNT4 -/ ⟨0x40010090, 0x200, 48, .blk,
    [⟨31, 16, .rc, 0, .any, false⟩, ⟨15, 0, .rc, 0, .any, false⟩]⟩,
  /- PBK_CNT5 -/ ⟨0x40010094, 0x200, 48, .blk,
    [⟨31, 16, .rc, 0, .any, false⟩, ⟨15, 0, .rc, 0, .any, false⟩]⟩,
  /- PBK_BCAUSE -/ ⟨0x400101F0, 0x1000, 6, .blk,
    [⟨8, 8, .w1c, 0, .any, false⟩, ⟨7, 0, .w1c, 0, .any, false⟩]⟩]

/-- The registers of the BPM block (spec/08_buffer_pool.md, Register reference). -/
def regsBpm : List RegSpec := [
  /- BPM_POOLBASE -/ ⟨0x40007020, 0x10, 5, .dev,
    [⟨31, 0, .rw, 0, .any, false⟩]⟩,
  /- BPM_POOLCTL -/ ⟨0x40007024, 0x4, 1, .dev,
    [⟨31, 31, .rw, 0, .any, false⟩, ⟨16, 16, .rw, 0, .any, false⟩, ⟨15, 0, .rw, 0, (.range 1 4096), false⟩]⟩,
  /- BPM_POOLCTL -/ ⟨0x40007034, 0x4, 1, .dev,
    [⟨31, 31, .rw, 0, .any, false⟩, ⟨16, 16, .rw, 0, .any, false⟩, ⟨15, 0, .rw, 0, (.range 1 2048), false⟩]⟩,
  /- BPM_POOLCTL -/ ⟨0x40007044, 0x4, 1, .dev,
    [⟨31, 31, .rw, 0, .any, false⟩, ⟨16, 16, .rw, 0, .any, false⟩, ⟨15, 0, .rw, 0, (.range 1 1024), false⟩]⟩,
  /- BPM_POOLCTL -/ ⟨0x40007054, 0x4, 1, .dev,
    [⟨31, 31, .rw, 0, .any, false⟩, ⟨16, 16, .rw, 0, .any, false⟩, ⟨15, 0, .rw, 0, (.range 1 256), false⟩]⟩,
  /- BPM_POOLCTL -/ ⟨0x40007064, 0x4, 1, .dev,
    [⟨31, 31, .rw, 0, .any, false⟩, ⟨16, 16, .rw, 0, .any, false⟩, ⟨15, 0, .rw, 0, (.range 1 32768), false⟩]⟩,
  /- BPM_POOLRING -/ ⟨0x40007028, 0x10, 5, .dev,
    [⟨31, 0, .rw, 0, .any, false⟩]⟩,
  /- BPM_POOLLOW -/ ⟨0x4000702C, 0x10, 5, .dev,
    [⟨15, 0, .rw, 0, .any, false⟩]⟩,
  /- BPM_ALLOC -/ ⟨0x40007080, 0x4, 5, .dev,
    [⟨31, 0, .ro, 0, .any, false⟩]⟩,
  /- BPM_LVL -/ ⟨0x400070A0, 0x4, 5, .dev,
    [⟨31, 16, .ro, 0, .any, false⟩, ⟨5, 0, .ro, 0, .any, false⟩]⟩,
  /- BPM_STAT -/ ⟨0x400070C0, 0x4, 1, .dev,
    [⟨24, 24, .w1c, 0, .any, false⟩, ⟨20, 16, .ro, 0, .any, false⟩, ⟨12, 8, .ro, 0, .any, false⟩, ⟨4, 0, .ro, 0, .any, false⟩]⟩,
  /- BPM_CELLQ -/ ⟨0x400070C4, 0x4, 1, .dev,
    [⟨15, 0, .rw, 0, .any, false⟩]⟩,
  /- BPM_FAULT -/ ⟨0x400070D0, 0x4, 1, .dev,
    [⟨10, 0, .w1c, 0, .any, false⟩]⟩,
  /- BPM_FAULTADDR -/ ⟨0x400070D4, 0x4, 1, .dev,
    [⟨31, 0, .ro, 0, .any, false⟩]⟩,
  /- BPM_FAULTINFO -/ ⟨0x400070D8, 0x4, 1, .dev,
    [⟨31, 28, .ro, 0, .any, false⟩, ⟨26, 24, .ro, 0, .any, false⟩, ⟨21, 16, .ro, 0, .any, false⟩, ⟨5, 0, .ro, 0, .any, false⟩]⟩,
  /- BPM_FAULTCNT -/ ⟨0x400070DC, 0x4, 1, .dev,
    [⟨15, 0, .rc, 0, .any, false⟩]⟩,
  /- BPM_CNT -/ ⟨0x400070E0, 0x4, 5, .dev,
    [⟨31, 16, .rc, 0, .any, false⟩, ⟨15, 0, .rc, 0, .any, false⟩]⟩,
  /- BPM_FREE -/ ⟨0x400070F0, 0x4, 1, .dev,
    [⟨31, 5, .wo, 0, .any, false⟩, ⟨0, 0, .wo, 0, .any, false⟩]⟩,
  /- BPM_RECLAIM -/ ⟨0x400070F4, 0x4, 1, .dev,
    [⟨5, 0, .wo, 0, .any, false⟩]⟩,
  /- BPM_REBUILD -/ ⟨0x400070F8, 0x4, 1, .dev,
    [⟨2, 0, .wo, 0, .any, true⟩]⟩,
  /- BPM_ALLOCFIT -/ ⟨0x40007100, 0x4, 64, .dev,
    [⟨31, 0, .ro, 0, .any, false⟩]⟩,
  /- BPM_GIVE -/ ⟨0x40007400, 0x4, 64, .dev,
    [⟨31, 5, .wo, 0, .any, false⟩, ⟨0, 0, .wo, 0, .any, false⟩]⟩,
  /- BPM_OWNCNT -/ ⟨0x40007600, 0x4, 64, .dev,
    [⟨31, 16, .ro, 0, .any, false⟩, ⟨15, 0, .ro, 0, .any, false⟩]⟩]

/-- The registers of the GSQ block (spec/11_gallery_programs.md, Register reference). -/
def regsGsq : List RegSpec := [
  /- GSQ_CFG -/ ⟨0x4000E000, 0x4, 1, .dev,
    [⟨1, 0, .tw, 1, (.codes [0, 1, 2]), false⟩]⟩,
  /- GSQ_FPER -/ ⟨0x4000E004, 0x4, 1, .dev,
    [⟨26, 0, .tw, 0x13880, (.range 16000 80000000), false⟩]⟩,
  /- GSQ_FCNTLO -/ ⟨0x4000E008, 0x4, 1, .dev,
    [⟨31, 0, .ro, 0, .any, false⟩]⟩,
  /- GSQ_FCNTHI -/ ⟨0x4000E00C, 0x4, 1, .dev,
    [⟨31, 0, .ro, 0, .any, false⟩]⟩,
  /- GSQ_SEAMLAT -/ ⟨0x4000E010, 0x4, 1, .dev,
    [⟨7, 0, .tw, 0, .any, false⟩]⟩,
  /- GSQ_ANYLAT -/ ⟨0x4000E014, 0x4, 1, .dev,
    [⟨10, 0, .tw, 0, .any, false⟩]⟩,
  /- GSQ_SEAMTO -/ ⟨0x4000E018, 0x4, 1, .dev,
    [⟨15, 0, .tw, 512, (.range 1 65535), false⟩]⟩,
  /- GSQ_TRAP -/ ⟨0x4000E020, 0x4, 1, .dev,
    [⟨31, 24, .ro, 0, .any, false⟩, ⟨13, 0, .ro, 0, .any, false⟩]⟩,
  /- GSQ_BANK -/ ⟨0x4000E028, 0x4, 1, .dev,
    [⟨5, 4, .ro, 0, .any, false⟩, ⟨1, 1, .ro, 1, .any, false⟩, ⟨0, 0, .ro, 0, .any, false⟩]⟩,
  /- GSQ_SWCTL -/ ⟨0x4000E030, 0x4, 1, .dev,
    [⟨31, 31, .rw, 0, .any, true⟩, ⟨28, 28, .rw, 0, .any, false⟩, ⟨24, 24, .rw, 0, .any, false⟩]⟩,
  /- GSQ_SWAT -/ ⟨0x4000E034, 0x4, 1, .dev,
    [⟨31, 0, .rw, 0, .any, false⟩]⟩,
  /- GSQ_SWREQ -/ ⟨0x4000E038, 0x4, 1, .dev,
    [⟨31, 16, .ro, 0, .any, false⟩, ⟨15, 0, .ro, 0, .any, false⟩]⟩,
  /- GSQ_BUDGET -/ ⟨0x4000E040, 0x4, 1, .dev,
    [⟨26, 0, .ro, 0, .any, false⟩]⟩,
  /- GSQ_BCNT_NOW -/ ⟨0x4000E044, 0x4, 1, .dev,
    [⟨26, 0, .ro, 0, .any, false⟩]⟩,
  /- GSQ_BCNT_LAST -/ ⟨0x4000E048, 0x4, 1, .dev,
    [⟨26, 0, .ro, 0, .any, false⟩]⟩,
  /- GSQ_BCNT_MAX -/ ⟨0x4000E04C, 0x4, 1, .dev,
    [⟨26, 0, .rc, 0, .any, false⟩]⟩,
  /- GSQ_REPCTL -/ ⟨0x4000E060, 0x4, 1, .dev,
    [⟨31, 31, .rw, 0, .any, true⟩, ⟨16, 16, .rw, 1, .any, false⟩, ⟨9, 8, .rw, 0, .any, false⟩, ⟨6, 0, .rw, 0, .any, false⟩]⟩,
  /- GSQ_REPSTAT -/ ⟨0x4000E064, 0x4, 1, .dev,
    [⟨31, 31, .w1c, 0, .any, false⟩, ⟨30, 30, .w1c, 0, .any, false⟩, ⟨15, 8, .ro, 0, .any, false⟩, ⟨6, 0, .ro, 0, .any, false⟩]⟩,
  /- GSQ_BI_ENTRY -/ ⟨0x4000E080, 0x20, 2, .dev,
    [⟨31, 16, .ro, 0, .any, false⟩, ⟨15, 0, .ro, 0, .any, false⟩]⟩,
  /- GSQ_BI_B0 -/ ⟨0x4000E084, 0x20, 2, .dev,
    [⟨31, 0, .ro, 0, .any, false⟩]⟩,
  /- GSQ_BI_N -/ ⟨0x4000E088, 0x20, 2, .dev,
    [⟨31, 16, .ro, 0, .any, false⟩, ⟨15, 0, .ro, 0, .any, false⟩]⟩,
  /- GSQ_BI_YB0 -/ ⟨0x4000E08C, 0x20, 2, .dev,
    [⟨31, 0, .ro, 0, .any, false⟩]⟩,
  /- GSQ_BI_YN -/ ⟨0x4000E090, 0x20, 2, .dev,
    [⟨31, 16, .ro, 0, .any, false⟩, ⟨15, 0, .ro, 0, .any, false⟩]⟩,
  /- GSQ_BI_SAFE -/ ⟨0x4000E094, 0x20, 2, .dev,
    [⟨31, 16, .ro, 0, .any, false⟩, ⟨0, 0, .ro, 0, .any, false⟩]⟩,
  /- GSQ_COLMAP -/ ⟨0x4000E100, 0x4, 1, .dev,
    [⟨7, 0, .rw, 0, .any, true⟩, ⟨15, 8, .rw, 1, .any, true⟩, ⟨23, 16, .rw, 2, .any, true⟩, ⟨31, 24, .rw, 3, .any, true⟩]⟩,
  /- GSQ_COLMAP -/ ⟨0x4000E104, 0x4, 1, .dev,
    [⟨7, 0, .rw, 4, .any, true⟩, ⟨15, 8, .rw, 5, .any, true⟩, ⟨23, 16, .rw, 6, .any, true⟩, ⟨31, 24, .rw, 7, .any, true⟩]⟩,
  /- GSQ_COLMAP -/ ⟨0x4000E108, 0x4, 1, .dev,
    [⟨7, 0, .rw, 8, .any, true⟩, ⟨15, 8, .rw, 9, .any, true⟩, ⟨23, 16, .rw, 10, .any, true⟩, ⟨31, 24, .rw, 11, .any, true⟩]⟩,
  /- GSQ_COLMAP -/ ⟨0x4000E10C, 0x4, 1, .dev,
    [⟨7, 0, .rw, 12, .any, true⟩, ⟨15, 8, .rw, 13, .any, true⟩, ⟨23, 16, .rw, 14, .any, true⟩, ⟨31, 24, .rw, 15, .any, true⟩]⟩,
  /- GSQ_COLMAP -/ ⟨0x4000E110, 0x4, 1, .dev,
    [⟨7, 0, .rw, 16, .any, true⟩, ⟨15, 8, .rw, 17, .any, true⟩, ⟨23, 16, .rw, 18, .any, true⟩, ⟨31, 24, .rw, 19, .any, true⟩]⟩,
  /- GSQ_COLMAP -/ ⟨0x4000E114, 0x4, 1, .dev,
    [⟨7, 0, .rw, 20, .any, true⟩, ⟨15, 8, .rw, 21, .any, true⟩, ⟨23, 16, .rw, 22, .any, true⟩, ⟨31, 24, .rw, 23, .any, true⟩]⟩,
  /- GSQ_COLMAP -/ ⟨0x4000E118, 0x4, 1, .dev,
    [⟨7, 0, .rw, 24, .any, true⟩, ⟨15, 8, .rw, 25, .any, true⟩, ⟨23, 16, .rw, 26, .any, true⟩, ⟨31, 24, .rw, 27, .any, true⟩]⟩,
  /- GSQ_COLMAP -/ ⟨0x4000E11C, 0x4, 1, .dev,
    [⟨7, 0, .rw, 28, .any, true⟩, ⟨15, 8, .rw, 29, .any, true⟩, ⟨23, 16, .rw, 30, .any, true⟩, ⟨31, 24, .rw, 31, .any, true⟩]⟩,
  /- GSQ_COLMAP -/ ⟨0x4000E120, 0x4, 1, .dev,
    [⟨7, 0, .rw, 32, .any, true⟩, ⟨15, 8, .rw, 33, .any, true⟩, ⟨23, 16, .rw, 34, .any, true⟩, ⟨31, 24, .rw, 35, .any, true⟩]⟩,
  /- GSQ_COLMAP -/ ⟨0x4000E124, 0x4, 1, .dev,
    [⟨7, 0, .rw, 36, .any, true⟩, ⟨15, 8, .rw, 37, .any, true⟩, ⟨23, 16, .rw, 38, .any, true⟩, ⟨31, 24, .rw, 39, .any, true⟩]⟩,
  /- GSQ_COLMAP -/ ⟨0x4000E128, 0x4, 1, .dev,
    [⟨7, 0, .rw, 40, .any, true⟩, ⟨15, 8, .rw, 41, .any, true⟩, ⟨23, 16, .rw, 42, .any, true⟩, ⟨31, 24, .rw, 43, .any, true⟩]⟩,
  /- GSQ_COLMAP -/ ⟨0x4000E12C, 0x4, 1, .dev,
    [⟨7, 0, .rw, 44, .any, true⟩, ⟨15, 8, .rw, 45, .any, true⟩, ⟨23, 16, .rw, 46, .any, true⟩, ⟨31, 24, .rw, 47, .any, true⟩]⟩,
  /- GSQ_COLMAP -/ ⟨0x4000E130, 0x4, 1, .dev,
    [⟨7, 0, .rw, 48, .any, true⟩, ⟨15, 8, .rw, 49, .any, true⟩, ⟨23, 16, .rw, 50, .any, true⟩, ⟨31, 24, .rw, 51, .any, true⟩]⟩,
  /- GSQ_COLMAP -/ ⟨0x4000E134, 0x4, 1, .dev,
    [⟨7, 0, .rw, 52, .any, true⟩, ⟨15, 8, .rw, 53, .any, true⟩, ⟨23, 16, .rw, 54, .any, true⟩, ⟨31, 24, .rw, 55, .any, true⟩]⟩,
  /- GSQ_COLMAP -/ ⟨0x4000E138, 0x4, 1, .dev,
    [⟨7, 0, .rw, 56, .any, true⟩, ⟨15, 8, .rw, 57, .any, true⟩, ⟨23, 16, .rw, 58, .any, true⟩, ⟨31, 24, .rw, 59, .any, true⟩]⟩,
  /- GSQ_COLMAP -/ ⟨0x4000E13C, 0x4, 1, .dev,
    [⟨7, 0, .rw, 60, .any, true⟩, ⟨15, 8, .rw, 61, .any, true⟩, ⟨23, 16, .rw, 62, .any, true⟩, ⟨31, 24, .rw, 63, .any, true⟩]⟩,
  /- GSQ_COLMAP -/ ⟨0x4000E140, 0x4, 1, .dev,
    [⟨7, 0, .rw, 64, .any, true⟩, ⟨15, 8, .rw, 65, .any, true⟩, ⟨23, 16, .rw, 66, .any, true⟩, ⟨31, 24, .rw, 67, .any, true⟩]⟩,
  /- GSQ_COLMAP -/ ⟨0x4000E144, 0x4, 1, .dev,
    [⟨7, 0, .rw, 68, .any, true⟩, ⟨15, 8, .rw, 69, .any, true⟩, ⟨23, 16, .rw, 70, .any, true⟩, ⟨31, 24, .rw, 71, .any, true⟩]⟩,
  /- GSQ_COLMAP -/ ⟨0x4000E148, 0x4, 1, .dev,
    [⟨7, 0, .rw, 72, .any, true⟩, ⟨15, 8, .rw, 73, .any, true⟩, ⟨23, 16, .rw, 74, .any, true⟩, ⟨31, 24, .rw, 75, .any, true⟩]⟩,
  /- GSQ_COLMAP -/ ⟨0x4000E14C, 0x4, 1, .dev,
    [⟨7, 0, .rw, 76, .any, true⟩, ⟨15, 8, .rw, 77, .any, true⟩, ⟨23, 16, .rw, 78, .any, true⟩, ⟨31, 24, .rw, 79, .any, true⟩]⟩,
  /- GSQ_COLMAP -/ ⟨0x4000E150, 0x4, 1, .dev,
    [⟨7, 0, .rw, 80, .any, true⟩, ⟨15, 8, .rw, 81, .any, true⟩, ⟨23, 16, .rw, 82, .any, true⟩, ⟨31, 24, .rw, 83, .any, true⟩]⟩,
  /- GSQ_COLMAP -/ ⟨0x4000E154, 0x4, 1, .dev,
    [⟨7, 0, .rw, 84, .any, true⟩, ⟨15, 8, .rw, 85, .any, true⟩, ⟨23, 16, .rw, 86, .any, true⟩, ⟨31, 24, .rw, 87, .any, true⟩]⟩,
  /- GSQ_COLMAP -/ ⟨0x4000E158, 0x4, 1, .dev,
    [⟨7, 0, .rw, 88, .any, true⟩, ⟨15, 8, .rw, 89, .any, true⟩, ⟨23, 16, .rw, 90, .any, true⟩, ⟨31, 24, .rw, 91, .any, true⟩]⟩,
  /- GSQ_COLMAP -/ ⟨0x4000E15C, 0x4, 1, .dev,
    [⟨7, 0, .rw, 92, .any, true⟩, ⟨15, 8, .rw, 93, .any, true⟩, ⟨23, 16, .rw, 94, .any, true⟩, ⟨31, 24, .rw, 95, .any, true⟩]⟩,
  /- GSQ_COLMAP -/ ⟨0x4000E160, 0x4, 1, .dev,
    [⟨7, 0, .rw, 96, .any, true⟩, ⟨15, 8, .rw, 97, .any, true⟩, ⟨23, 16, .rw, 98, .any, true⟩, ⟨31, 24, .rw, 99, .any, true⟩]⟩,
  /- GSQ_COLMAP -/ ⟨0x4000E164, 0x4, 1, .dev,
    [⟨7, 0, .rw, 100, .any, true⟩, ⟨15, 8, .rw, 101, .any, true⟩, ⟨23, 16, .rw, 102, .any, true⟩, ⟨31, 24, .rw, 103, .any, true⟩]⟩,
  /- GSQ_COLMAP -/ ⟨0x4000E168, 0x4, 1, .dev,
    [⟨7, 0, .rw, 104, .any, true⟩, ⟨15, 8, .rw, 105, .any, true⟩, ⟨23, 16, .rw, 106, .any, true⟩, ⟨31, 24, .rw, 107, .any, true⟩]⟩,
  /- GSQ_COLMAP -/ ⟨0x4000E16C, 0x4, 1, .dev,
    [⟨7, 0, .rw, 108, .any, true⟩, ⟨15, 8, .rw, 109, .any, true⟩, ⟨23, 16, .rw, 110, .any, true⟩, ⟨31, 24, .rw, 111, .any, true⟩]⟩,
  /- GSQ_COLMAP -/ ⟨0x4000E170, 0x4, 1, .dev,
    [⟨7, 0, .rw, 112, .any, true⟩, ⟨15, 8, .rw, 113, .any, true⟩, ⟨23, 16, .rw, 114, .any, true⟩, ⟨31, 24, .rw, 115, .any, true⟩]⟩,
  /- GSQ_COLMAP -/ ⟨0x4000E174, 0x4, 1, .dev,
    [⟨7, 0, .rw, 116, .any, true⟩, ⟨15, 8, .rw, 117, .any, true⟩, ⟨23, 16, .rw, 118, .any, true⟩, ⟨31, 24, .rw, 119, .any, true⟩]⟩,
  /- GSQ_COLMAP -/ ⟨0x4000E178, 0x4, 1, .dev,
    [⟨7, 0, .rw, 120, .any, true⟩, ⟨15, 8, .rw, 121, .any, true⟩, ⟨23, 16, .rw, 122, .any, true⟩, ⟨31, 24, .rw, 123, .any, true⟩]⟩,
  /- GSQ_COLMAP -/ ⟨0x4000E17C, 0x4, 1, .dev,
    [⟨7, 0, .rw, 124, .any, true⟩, ⟨15, 8, .rw, 125, .any, true⟩, ⟨23, 16, .rw, 126, .any, true⟩, ⟨31, 24, .rw, 127, .any, true⟩]⟩]

/-- The registers of the RSR block (spec/11_gallery_programs.md, Register reference). -/
def regsRsr : List RegSpec := [
  /- RSR_STAT -/ ⟨0x4000F000, 0x4, 1, .dev,
    [⟨4, 0, .ro, 0, .any, false⟩]⟩,
  /- RSR_MAPCTL -/ ⟨0x4000F004, 0x4, 1, .dev,
    [⟨1, 1, .ro, 0, .any, false⟩, ⟨0, 0, .ro, 0, .any, false⟩]⟩,
  /- RSR_ERR -/ ⟨0x4000F008, 0x4, 1, .dev,
    [⟨8, 8, .w1c, 0, .any, false⟩, ⟨7, 7, .w1c, 0, .any, false⟩, ⟨6, 6, .w1c, 0, .any, false⟩, ⟨5, 5, .w1c, 0, .any, false⟩, ⟨4, 4, .w1c, 0, .any, false⟩, ⟨3, 3, .w1c, 0, .any, false⟩, ⟨2, 2, .w1c, 0, .any, false⟩, ⟨1, 1, .w1c, 0, .any, false⟩, ⟨0, 0, .w1c, 0, .any, false⟩]⟩,
  /- RSR_ERRINFO -/ ⟨0x4000F00C, 0x4, 1, .dev,
    [⟨31, 16, .ro, 0, .any, false⟩, ⟨8, 8, .ro, 0, .any, false⟩, ⟨5, 0, .ro, 0, .any, false⟩]⟩,
  /- RSR_CNT -/ ⟨0x4000F010, 0x4, 1, .dev,
    [⟨31, 16, .rc, 0, .any, false⟩, ⟨15, 0, .rc, 0, .any, false⟩]⟩,
  /- RSR_DESC -/ ⟨0x4000F800, 0x4, 512, .dev,
    [⟨31, 0, .ro, 0, .any, false⟩]⟩]

/-- The registers of the CNC block (spec/12_concourse.md, Register reference). -/
def regsCnc : List RegSpec := [
  /- CNC_CTRL -/ ⟨0x40020000, 0x1000, 4, .blk,
    [⟨16, 16, .rw, 0, .any, false⟩, ⟨9, 8, .rw, 0, (.codes [0, 1, 2]), false⟩, ⟨4, 4, .rw, 0, .any, false⟩, ⟨2, 0, .rw, 0, (.codes [0, 1, 2, 3, 4]), false⟩]⟩,
  /- CNC_LSTAT -/ ⟨0x40020004, 0x1000, 4, .blk,
    [⟨20, 20, .ro, 0, .any, false⟩, ⟨18, 16, .ro, 0, .any, false⟩, ⟨15, 12, .ro, 0, .any, false⟩, ⟨11, 8, .ro, 0, .any, false⟩, ⟨2, 0, .ro, 0, .any, false⟩]⟩,
  /- CNC_PEER -/ ⟨0x40020008, 0x1000, 4, .blk,
    [⟨26, 24, .ro, 0, .any, false⟩, ⟨17, 16, .ro, 0, .any, false⟩, ⟨15, 8, .ro, 0, .any, false⟩, ⟨7, 0, .ro, 0, .any, false⟩]⟩,
  /- CNC_LAT -/ ⟨0x4002000C, 0x1000, 4, .blk,
    [⟨15, 8, .ro, 0, .any, false⟩, ⟨7, 0, .ro, 0, .any, false⟩]⟩,
  /- CNC_ERR -/ ⟨0x40020010, 0x1000, 4, .blk,
    [⟨5, 5, .w1c, 0, .any, false⟩, ⟨4, 4, .w1c, 0, .any, false⟩, ⟨3, 3, .w1c, 0, .any, false⟩, ⟨2, 2, .w1c, 0, .any, false⟩, ⟨1, 1, .w1c, 0, .any, false⟩, ⟨0, 0, .w1c, 0, .any, false⟩]⟩,
  /- CNC_IE -/ ⟨0x40020014, 0x1000, 4, .blk,
    [⟨5, 0, .rw, 0, .any, false⟩]⟩,
  /- CNC_FECCORR -/ ⟨0x40020018, 0x1000, 4, .blk,
    [⟨31, 0, .rc, 0, .any, false⟩]⟩,
  /- CNC_FECUNC -/ ⟨0x4002001C, 0x1000, 4, .blk,
    [⟨31, 0, .rc, 0, .any, false⟩]⟩,
  /- CNC_SBCNT -/ ⟨0x40020020, 0x1000, 4, .blk,
    [⟨31, 16, .rc, 0, .any, false⟩, ⟨15, 0, .rc, 0, .any, false⟩]⟩,
  /- CNC_PRBSCNT -/ ⟨0x40020024, 0x1000, 4, .blk,
    [⟨31, 31, .ro, 0, .any, false⟩, ⟨30, 0, .rc, 0, .any, false⟩]⟩,
  /- CNC_TXEQ0 -/ ⟨0x40020030, 0x1000, 4, .blk,
    [⟨31, 24, .ro, 0, .any, false⟩, ⟨23, 16, .ro, 0, .any, false⟩, ⟨15, 8, .ro, 0, .any, false⟩, ⟨7, 0, .ro, 0, .any, false⟩]⟩,
  /- CNC_TXEQ1 -/ ⟨0x40020034, 0x1000, 4, .blk,
    [⟨7, 0, .ro, 0, .any, false⟩]⟩,
  /- CNC_GRP -/ ⟨0x40020400, 0x4, 1, .dev,
    [⟨24, 24, .ro, 0, .any, false⟩, ⟨19, 16, .ro, 0, .any, false⟩, ⟨15, 8, .ro, 0, .any, false⟩, ⟨4, 4, .ro, 0, .any, false⟩, ⟨2, 0, .ro, 0, .any, false⟩]⟩,
  /- CNC_GCFG -/ ⟨0x40020404, 0x4, 1, .dev,
    [⟨15, 8, .tw, 0, .any, false⟩, ⟨3, 0, .tw, 3, (.range 2 15), false⟩]⟩,
  /- CNC_GERR -/ ⟨0x40020408, 0x4, 1, .dev,
    [⟨4, 4, .w1c, 0, .any, false⟩, ⟨3, 3, .w1c, 0, .any, false⟩, ⟨2, 2, .w1c, 0, .any, false⟩, ⟨1, 1, .w1c, 0, .any, false⟩, ⟨0, 0, .w1c, 0, .any, false⟩]⟩,
  /- CNC_BEACON -/ ⟨0x4002040C, 0x4, 1, .dev,
    [⟨31, 0, .ro, 0, .any, false⟩]⟩,
  /- CNC_GUPDAT -/ ⟨0x40020410, 0x4, 1, .dev,
    [⟨31, 0, .ro, 0, .any, false⟩]⟩,
  /- CNC_GUPD -/ ⟨0x40020414, 0x4, 1, .dev,
    [⟨31, 31, .ro, 0, .any, false⟩, ⟨18, 8, .ro, 0, .any, false⟩, ⟨7, 0, .ro, 0, .any, false⟩]⟩,
  /- CNC_RACTL -/ ⟨0x40020420, 0x4, 1, .dev,
    [⟨31, 31, .w1s, 0, .any, true⟩, ⟨29, 28, .rw, 0, (.codes [0, 1, 2]), false⟩, ⟨26, 24, .rw, 0, .any, false⟩, ⟨8, 0, .rw, 0, (.range 1 256), false⟩]⟩,
  /- CNC_RARADDR -/ ⟨0x40020424, 0x4, 1, .dev,
    [⟨31, 0, .rw, 0, .any, false⟩]⟩,
  /- CNC_RALADDR -/ ⟨0x40020428, 0x4, 1, .dev,
    [⟨31, 0, .rw, 0, .any, false⟩]⟩,
  /- CNC_RARES -/ ⟨0x4002042C, 0x4, 1, .dev,
    [⟨3, 0, .ro, 0, .any, false⟩]⟩,
  /- CNC_RARESULT -/ ⟨0x40020430, 0x4, 1, .dev,
    [⟨31, 0, .ro, 0, .any, false⟩]⟩]

/-- The registers of the NOC block (spec/13_corridor.md, Register reference). -/
def regsNoc : List RegSpec := [
  /- NOC_RTSEL -/ ⟨0x4000D000, 0x4, 1, .dev,
    [⟨11, 8, .rw, 0, .any, false⟩, ⟨5, 0, .rw, 0, .any, false⟩]⟩,
  /- NOC_RTBASE -/ ⟨0x4000D004, 0x4, 1, .dev,
    [⟨31, 12, .rw, 0, .any, false⟩]⟩,
  /- NOC_RTLIM -/ ⟨0x4000D008, 0x4, 1, .dev,
    [⟨31, 12, .rw, 0, .any, false⟩]⟩,
  /- NOC_RTCTL -/ ⟨0x4000D00C, 0x4, 1, .dev,
    [⟨31, 31, .rw, 0, .any, false⟩, ⟨29, 28, .rw, 0, .any, false⟩, ⟨27, 24, .rw, 0, .any, false⟩, ⟨23, 0, .rw, 0, .any, false⟩]⟩,
  /- NOC_ERR -/ ⟨0x4000D010, 0x4, 1, .dev,
    [⟨1, 1, .w1c, 0, .any, false⟩, ⟨0, 0, .w1c, 0, .any, false⟩]⟩,
  /- NOC_ERRSRC -/ ⟨0x4000D014, 0x4, 1, .dev,
    [⟨3, 0, .ro, 0, .any, false⟩]⟩,
  /- NOC_ERRADDR -/ ⟨0x4000D018, 0x4, 1, .dev,
    [⟨31, 0, .ro, 0, .any, false⟩]⟩,
  /- NOC_STATCTL -/ ⟨0x4000D020, 0x4, 1, .dev,
    [⟨27, 16, .rw, 64, (.range 1 4095), false⟩, ⟨0, 0, .wo, 0, .any, false⟩]⟩,
  /- NOC_NICFG -/ ⟨0x4000D040, 0x4, 1, .dev,
    [⟨13, 8, .ro, 0, .any, false⟩, ⟨5, 0, .rw, 8, (.range 1 32), false⟩]⟩,
  /- NOC_NICFG -/ ⟨0x4000D044, 0x4, 1, .dev,
    [⟨13, 8, .ro, 0, .any, false⟩, ⟨5, 0, .rw, 8, (.range 1 32), false⟩]⟩,
  /- NOC_NICFG -/ ⟨0x4000D048, 0x4, 1, .dev,
    [⟨13, 8, .ro, 0, .any, false⟩, ⟨5, 0, .rw, 16, (.range 1 32), false⟩]⟩,
  /- NOC_NICFG -/ ⟨0x4000D04C, 0x4, 1, .dev,
    [⟨13, 8, .ro, 0, .any, false⟩, ⟨5, 0, .rw, 8, (.range 1 32), false⟩]⟩,
  /- NOC_NICFG -/ ⟨0x4000D050, 0x4, 1, .dev,
    [⟨13, 8, .ro, 0, .any, false⟩, ⟨5, 0, .rw, 8, (.range 1 32), false⟩]⟩,
  /- NOC_NICFG -/ ⟨0x4000D054, 0x4, 1, .dev,
    [⟨13, 8, .ro, 0, .any, false⟩, ⟨5, 0, .rw, 8, (.range 1 32), false⟩]⟩,
  /- NOC_NICFG -/ ⟨0x4000D058, 0x4, 1, .dev,
    [⟨13, 8, .ro, 0, .any, false⟩, ⟨5, 0, .rw, 8, (.range 1 32), false⟩]⟩,
  /- NOC_NICFG -/ ⟨0x4000D05C, 0x4, 1, .dev,
    [⟨13, 8, .ro, 0, .any, false⟩, ⟨5, 0, .rw, 8, (.range 1 32), false⟩]⟩,
  /- NOC_NICFG -/ ⟨0x4000D060, 0x4, 1, .dev,
    [⟨13, 8, .ro, 0, .any, false⟩, ⟨5, 0, .rw, 8, (.range 1 32), false⟩]⟩,
  /- NOC_NICFG -/ ⟨0x4000D064, 0x4, 1, .dev,
    [⟨13, 8, .ro, 0, .any, false⟩, ⟨5, 0, .rw, 8, (.range 1 32), false⟩]⟩,
  /- NOC_NICFG -/ ⟨0x4000D068, 0x4, 1, .dev,
    [⟨13, 8, .ro, 0, .any, false⟩, ⟨5, 0, .rw, 8, (.range 1 32), false⟩]⟩,
  /- NOC_NICFG -/ ⟨0x4000D06C, 0x4, 1, .dev,
    [⟨13, 8, .ro, 0, .any, false⟩, ⟨5, 0, .rw, 8, (.range 1 32), false⟩]⟩,
  /- NOC_NICFG -/ ⟨0x4000D070, 0x4, 1, .dev,
    [⟨13, 8, .ro, 0, .any, false⟩, ⟨5, 0, .rw, 8, (.range 1 32), false⟩]⟩,
  /- NOC_NICFG -/ ⟨0x4000D074, 0x4, 1, .dev,
    [⟨13, 8, .ro, 0, .any, false⟩, ⟨5, 0, .rw, 8, (.range 1 32), false⟩]⟩,
  /- NOC_NICFG -/ ⟨0x4000D078, 0x4, 1, .dev,
    [⟨13, 8, .ro, 0, .any, false⟩, ⟨5, 0, .rw, 8, (.range 1 32), false⟩]⟩,
  /- NOC_NICFG -/ ⟨0x4000D07C, 0x4, 1, .dev,
    [⟨13, 8, .ro, 0, .any, false⟩, ⟨5, 0, .rw, 8, (.range 1 32), false⟩]⟩,
  /- NOC_PRBCTL -/ ⟨0x4000D100, 0x20, 4, .dev,
    [⟨31, 31, .rw, 0, .any, false⟩, ⟨30, 30, .rw, 0, .any, false⟩, ⟨19, 16, .rw, 15, .any, false⟩, ⟨15, 0, .rw, 0xFFFF, .any, false⟩]⟩,
  /- NOC_PRBTGT -/ ⟨0x4000D104, 0x20, 4, .dev,
    [⟨15, 0, .rw, 0xFFFF, .any, false⟩]⟩,
  /- NOC_PRBLO -/ ⟨0x4000D108, 0x20, 4, .dev,
    [⟨31, 0, .rw, 0, .any, false⟩]⟩,
  /- NOC_PRBHI -/ ⟨0x4000D10C, 0x20, 4, .dev,
    [⟨31, 0, .rw, 0xFFFFFFFF, .any, false⟩]⟩,
  /- NOC_PRBCNT -/ ⟨0x4000D110, 0x20, 4, .dev,
    [⟨31, 0, .rc, 0, .any, false⟩]⟩,
  /- NOC_PRBLIM -/ ⟨0x4000D114, 0x20, 4, .dev,
    [⟨31, 0, .rw, 0, .any, false⟩]⟩,
  /- NOC_TRCTL -/ ⟨0x4000D180, 0x4, 1, .dev,
    [⟨1, 1, .rw, 0, .any, false⟩, ⟨0, 0, .wo, 0, .any, false⟩]⟩,
  /- NOC_TRSTAT -/ ⟨0x4000D184, 0x4, 1, .dev,
    [⟨9, 9, .ro, 0, .any, false⟩, ⟨8, 0, .ro, 0, .any, false⟩]⟩,
  /- NOC_TRRD -/ ⟨0x4000D188, 0x4, 1, .dev,
    [⟨7, 0, .rw, 0, .any, false⟩]⟩,
  /- NOC_TRDATA -/ ⟨0x4000D190, 0x4, 4, .dev,
    [⟨31, 0, .ro, 0, .any, false⟩]⟩,
  /- NOC_TGCTL -/ ⟨0x4000D1C0, 0x4, 1, .dev,
    [⟨31, 31, .w1s, 0, .any, false⟩, ⟨29, 28, .rw, 0, .any, false⟩, ⟨27, 24, .rw, 0, .any, false⟩, ⟨23, 16, .rw, 0, .any, false⟩, ⟨15, 0, .rw, 0, .any, false⟩]⟩,
  /- NOC_TGADDR -/ ⟨0x4000D1C4, 0x4, 1, .dev,
    [⟨31, 0, .rw, 0, .any, false⟩]⟩,
  /- NOC_TGSTAT -/ ⟨0x4000D1C8, 0x4, 1, .dev,
    [⟨31, 16, .rc, 0, .any, false⟩, ⟨0, 0, .w1c, 0, .any, false⟩]⟩,
  /- NOC_PRBSTAT -/ ⟨0x4000D1F0, 0x4, 1, .dev,
    [⟨3, 0, .w1c, 0, .any, false⟩]⟩,
  /- NOC_STAT_BYTES -/ ⟨0x4000D400, 0x20, 16, .dev,
    [⟨31, 0, .ro, 0, .any, false⟩]⟩,
  /- NOC_STAT_PKTS -/ ⟨0x4000D404, 0x20, 16, .dev,
    [⟨31, 0, .ro, 0, .any, false⟩]⟩,
  /- NOC_STAT_LAT -/ ⟨0x4000D408, 0x20, 16, .dev,
    [⟨31, 16, .ro, 0, .any, false⟩, ⟨15, 0, .ro, 0, .any, false⟩]⟩,
  /- NOC_STAT_HIST0 -/ ⟨0x4000D40C, 0x20, 16, .dev,
    [⟨31, 16, .ro, 0, .any, false⟩, ⟨15, 0, .ro, 0, .any, false⟩]⟩,
  /- NOC_STAT_HIST1 -/ ⟨0x4000D410, 0x20, 16, .dev,
    [⟨31, 16, .ro, 0, .any, false⟩, ⟨15, 0, .ro, 0, .any, false⟩]⟩,
  /- NOC_STAT_HIST2 -/ ⟨0x4000D414, 0x20, 16, .dev,
    [⟨31, 16, .ro, 0, .any, false⟩, ⟨15, 0, .ro, 0, .any, false⟩]⟩,
  /- NOC_STAT_HIST3 -/ ⟨0x4000D418, 0x20, 16, .dev,
    [⟨31, 16, .ro, 0, .any, false⟩, ⟨15, 0, .ro, 0, .any, false⟩]⟩]

/-- The registers of the ATC block (spec/14_memories_protection.md, Register reference). -/
def regsAtc : List RegSpec := [
  /- ATC_BANK -/ ⟨0x4000C000, 0x4, 16, .dev,
    [⟨17, 16, .ro, 0, .any, false⟩, ⟨9, 8, .ro, 0, .any, false⟩, ⟨0, 0, .rw, 0, .any, true⟩]⟩,
  /- ATC_CFLCT -/ ⟨0x4000C040, 0x4, 16, .dev,
    [⟨31, 0, .rc, 0, .any, false⟩]⟩,
  /- ATC_ERR -/ ⟨0x4000C080, 0x4, 1, .dev,
    [⟨2, 2, .w1c, 0, .any, false⟩, ⟨1, 1, .w1c, 0, .any, false⟩, ⟨0, 0, .w1c, 0, .any, false⟩]⟩,
  /- ATC_IE -/ ⟨0x4000C084, 0x4, 1, .dev,
    [⟨2, 0, .rw, 6, .any, false⟩]⟩,
  /- ATC_ECCCNT -/ ⟨0x4000C088, 0x4, 1, .dev,
    [⟨31, 16, .rc, 0, .any, false⟩, ⟨15, 0, .rc, 0, .any, false⟩]⟩,
  /- ATC_ECCADDR -/ ⟨0x4000C08C, 0x4, 1, .dev,
    [⟨31, 0, .ro, 0, .any, false⟩]⟩,
  /- ATC_WINERR -/ ⟨0x4000C090, 0x4, 1, .dev,
    [⟨8, 8, .ro, 0, .any, false⟩, ⟨3, 0, .ro, 0, .any, false⟩]⟩,
  /- ATC_WINERRADDR -/ ⟨0x4000C094, 0x4, 1, .dev,
    [⟨31, 0, .ro, 0, .any, false⟩]⟩,
  /- ATC_SCRUB -/ ⟨0x4000C0A0, 0x4, 1, .dev,
    [⟨0, 0, .rw, 1, .any, false⟩]⟩,
  /- ATC_WINBASE -/ ⟨0x4000C200, 0x10, 32, .dev,
    [⟨31, 12, .tw, 0, .any, false⟩]⟩,
  /- ATC_WINLIM -/ ⟨0x4000C204, 0x10, 1, .dev,
    [⟨31, 12, .tw, 1023, .any, false⟩]⟩,
  /- ATC_WINLIM -/ ⟨0x4000C214, 0x10, 31, .dev,
    [⟨31, 12, .tw, 0, .any, false⟩]⟩,
  /- ATC_WINPERM -/ ⟨0x4000C208, 0x10, 1, .dev,
    [⟨31, 16, .tw, 0xFFFF, .any, false⟩, ⟨15, 0, .tw, 0xFFFF, .any, false⟩]⟩,
  /- ATC_WINPERM -/ ⟨0x4000C218, 0x10, 31, .dev,
    [⟨31, 16, .tw, 1, .any, false⟩, ⟨15, 0, .tw, 1, .any, false⟩]⟩]

/-- The registers of the CWT block (spec/14_memories_protection.md, Register reference). -/
def regsCwt : List RegSpec := [
  /- CWT_BASE -/ ⟨0x40031000, 0x4, 8, .dev,
    [⟨31, 13, .rw, 0, .any, false⟩, ⟨0, 0, .rw, 0, .any, false⟩]⟩,
  /- CWT_DEVPERM -/ ⟨0x40031020, 0x4, 1, .dev,
    [⟨7, 0, .tw, 0, .any, false⟩]⟩,
  /- CWT_INVAL -/ ⟨0x40031030, 0x4, 1, .dev,
    [⟨31, 12, .wo, 0, .any, false⟩, ⟨10, 8, .wo, 0, .any, false⟩, ⟨1, 0, .wo, 0, .any, false⟩]⟩,
  /- CWT_FAULT -/ ⟨0x40031040, 0x4, 1, .dev,
    [⟨31, 31, .w1c, 0, .any, false⟩, ⟨19, 16, .ro, 0, .any, false⟩, ⟨13, 12, .ro, 0, .any, false⟩, ⟨10, 8, .ro, 0, .any, false⟩, ⟨4, 4, .ro, 0, .any, false⟩]⟩,
  /- CWT_FAULTVA -/ ⟨0x40031044, 0x4, 1, .dev,
    [⟨31, 0, .ro, 0, .any, false⟩]⟩,
  /- CWT_FAULTCNT -/ ⟨0x40031048, 0x4, 1, .dev,
    [⟨15, 0, .rc, 0, .any, false⟩]⟩,
  /- CWT_TLBCNT -/ ⟨0x40031050, 0x4, 1, .dev,
    [⟨31, 16, .rc, 0, .any, false⟩, ⟨15, 0, .rc, 0, .any, false⟩]⟩]

/-- The registers of the TWN block (spec/14_memories_protection.md, Register reference). -/
def regsTwn : List RegSpec := [
  /- TWN_STAT -/ ⟨0x40030000, 0x4, 1, .dev,
    [⟨31, 16, .rc, 0, .any, false⟩, ⟨15, 0, .ro, 0, .any, false⟩]⟩,
  /- TWN_FAULT -/ ⟨0x40030008, 0x4, 1, .dev,
    [⟨31, 28, .ro, 0, .any, false⟩, ⟨23, 16, .ro, 0, .any, false⟩, ⟨11, 0, .ro, 0, .any, false⟩]⟩,
  /- TWN_ERR -/ ⟨0x4003000C, 0x4, 1, .dev,
    [⟨5, 0, .w1c, 0, .any, false⟩]⟩,
  /- TWN_CNT -/ ⟨0x40030010, 0x4, 1, .dev,
    [⟨15, 0, .rc, 0, .any, false⟩]⟩,
  /- TWN_STORE -/ ⟨0x40030100, 0x4, 64, .dev,
    [⟨31, 0, .tw, 0, .any, false⟩]⟩]

/-- The registers of the DGE block (spec/15_digest_logbook.md, Register reference). -/
def regsDge : List RegSpec := [
  /- DGE_STAT -/ ⟨0x40008000, 0x4, 1, .dev,
    [⟨3, 3, .ro, 0, .any, false⟩, ⟨2, 2, .ro, 0, .any, false⟩, ⟨1, 1, .ro, 0, .any, false⟩, ⟨0, 0, .ro, 0, .any, false⟩]⟩,
  /- DGE_IE -/ ⟨0x40008004, 0x4, 1, .dev,
    [⟨3, 0, .rw, 0, .any, false⟩]⟩,
  /- DGE_KAT -/ ⟨0x40008008, 0x4, 1, .dev,
    [⟨31, 31, .w1s, 0, .any, true⟩, ⟨10, 8, .ro, 0, .any, false⟩, ⟨1, 1, .w1c, 0, .any, false⟩, ⟨0, 0, .w1c, 0, .any, false⟩]⟩,
  /- DGE_KEYSTAT -/ ⟨0x40008010, 0x4, 1, .dev,
    [⟨7, 0, .ro, 1, .any, false⟩]⟩,
  /- DGE_KEYID0 -/ ⟨0x40008014, 0x4, 1, .dev,
    [⟨31, 0, .ro, 0, .any, false⟩]⟩,
  /- DGE_KEYCTL -/ ⟨0x40008018, 0x4, 1, .dev,
    [⟨18, 16, .wo, 0, .any, false⟩, ⟨9, 9, .wo, 0, .any, false⟩, ⟨8, 8, .wo, 0, .any, false⟩, ⟨6, 0, .wo, 0, .any, true⟩]⟩,
  /- DGE_KEYLD -/ ⟨0x40008040, 0x4, 16, .dev,
    [⟨31, 0, .wo, 0, .any, false⟩]⟩,
  /- DGE_CMD -/ ⟨0x40008100, 0x100, 2, .dev,
    [⟨31, 31, .wo, 0, .any, false⟩, ⟨30, 30, .wo, 0, .any, false⟩, ⟨29, 29, .wo, 0, .any, false⟩, ⟨17, 16, .wo, 0, .any, false⟩, ⟨10, 8, .wo, 0, .any, false⟩, ⟨4, 4, .wo, 0, .any, false⟩, ⟨3, 3, .wo, 0, .any, false⟩, ⟨2, 2, .wo, 0, .any, false⟩]⟩,
  /- DGE_LIST -/ ⟨0x40008104, 0x100, 2, .dev,
    [⟨31, 0, .rw, 0, .any, false⟩]⟩,
  /- DGE_RES -/ ⟨0x40008108, 0x100, 2, .dev,
    [⟨31, 0, .rw, 0, .any, false⟩]⟩,
  /- DGE_CSTAT -/ ⟨0x4000810C, 0x100, 2, .dev,
    [⟨31, 31, .ro, 0, .any, false⟩, ⟨30, 30, .w1c, 0, .any, false⟩, ⟨29, 29, .w1c, 0, .any, false⟩, ⟨27, 24, .ro, 0, .any, false⟩, ⟨20, 16, .ro, 16, .any, false⟩, ⟨15, 0, .ro, 0, .any, false⟩]⟩,
  /- DGE_ERRDESC -/ ⟨0x40008110, 0x100, 2, .dev,
    [⟨31, 0, .ro, 0, .any, false⟩]⟩,
  /- DGE_DATA -/ ⟨0x40008114, 0x100, 2, .dev,
    [⟨31, 0, .wo, 0, .any, false⟩]⟩,
  /- DGE_LAST -/ ⟨0x40008118, 0x100, 2, .dev,
    [⟨31, 0, .wo, 0, .any, false⟩]⟩,
  /- DGE_DIG -/ ⟨0x40008140, 0x4, 12, .dev,
    [⟨31, 0, .ro, 0, .any, false⟩]⟩,
  /- DGE_DIG -/ ⟨0x40008240, 0x4, 12, .dev,
    [⟨31, 0, .ro, 0, .any, false⟩]⟩]

/-- The registers of the BAL block (spec/16_trips_integrity.md, Register reference). -/
def regsBal : List RegSpec := [
  /- BAL_STATE -/ ⟨0x40009000, 0x4, 1, .dev,
    [⟨15, 0, .ro, 0xFFFF, .any, false⟩]⟩,
  /- BAL_TCAUSE -/ ⟨0x40009040, 0x4, 16, .dev,
    [⟨10, 10, .ro, 1, .any, false⟩, ⟨9, 9, .ro, 0, .any, false⟩, ⟨8, 8, .ro, 0, .any, false⟩, ⟨7, 7, .ro, 0, .any, false⟩, ⟨6, 6, .ro, 0, .any, false⟩, ⟨5, 5, .ro, 0, .any, false⟩, ⟨4, 4, .ro, 0, .any, false⟩, ⟨3, 3, .ro, 0, .any, false⟩, ⟨2, 2, .ro, 0, .any, false⟩, ⟨1, 1, .ro, 0, .any, false⟩, ⟨0, 0, .ro, 0, .any, false⟩]⟩,
  /- BAL_SRC -/ ⟨0x40009100, 0x4, 16, .dev,
    [⟨31, 24, .tw, 0, .any, false⟩, ⟨23, 16, .tw, 0, .any, false⟩, ⟨15, 8, .tw, 0, .any, false⟩, ⟨4, 4, .tw, 1, .any, false⟩, ⟨3, 3, .tw, 1, .any, false⟩, ⟨2, 2, .tw, 1, .any, false⟩, ⟨1, 1, .tw, 1, .any, false⟩, ⟨0, 0, .tw, 1, .any, false⟩]⟩,
  /- BAL_LIFE -/ ⟨0x40009140, 0x4, 16, .dev,
    [⟨9, 0, .tw, 250, (.range 100 1000), false⟩]⟩,
  /- BAL_ACK -/ ⟨0x40009180, 0x4, 1, .dev,
    [⟨15, 0, .tw, 0, .any, false⟩]⟩,
  /- BAL_FWD -/ ⟨0x40009184, 0x4, 1, .dev,
    [⟨3, 0, .tw, 1, (.range 1 15), false⟩]⟩,
  /- BAL_SWD -/ ⟨0x40009188, 0x4, 1, .dev,
    [⟨15, 0, .tw, 1000, (.range 10 65535), false⟩]⟩,
  /- BAL_HWD -/ ⟨0x4000918C, 0x4, 1, .dev,
    [⟨9, 0, .tw, 0, (.offOr 1 1000), false⟩]⟩,
  /- BAL_VTRIP -/ ⟨0x40009190, 0x4, 1, .dev,
    [⟨15, 0, .wo, 0, .any, true⟩]⟩,
  /- BAL_SKICK -/ ⟨0x400091A0, 0x4, 1, .dev,
    [⟨31, 0, .wo, 0, .any, false⟩]⟩,
  /- BAL_HKICK -/ ⟨0x400091A4, 0x4, 1, .dev,
    [⟨31, 0, .wo, 0, .any, false⟩]⟩,
  /- BAL_WDSTAT -/ ⟨0x400091B0, 0x4, 1, .dev,
    [⟨17, 17, .ro, 0, .any, false⟩, ⟨16, 16, .ro, 0, .any, false⟩, ⟨11, 8, .ro, 0, .any, false⟩, ⟨2, 2, .ro, 0, .any, false⟩, ⟨1, 1, .ro, 0, .any, false⟩, ⟨0, 0, .ro, 0, .any, false⟩]⟩,
  /- BAL_EVT -/ ⟨0x400091B4, 0x4, 1, .dev,
    [⟨3, 3, .w1c, 0, .any, false⟩, ⟨2, 2, .w1c, 0, .any, false⟩, ⟨1, 1, .w1c, 0, .any, false⟩, ⟨0, 0, .w1c, 0, .any, false⟩]⟩,
  /- BAL_INTCAUSE -/ ⟨0x400091C0, 0x4, 1, .dev,
    [⟨7, 0, .ro, 0, .any, false⟩]⟩,
  /- BAL_RDBK -/ ⟨0x400091C8, 0x4, 1, .dev,
    [⟨31, 0, .ro, 0, .any, false⟩]⟩,
  /- BAL_CNT -/ ⟨0x400091D0, 0x4, 1, .dev,
    [⟨31, 16, .rc, 0, .any, false⟩, ⟨15, 0, .rc, 0, .any, false⟩]⟩]

/-- The registers of the PSV block (spec/17_power_landing.md, Register reference). -/
def regsPsv : List RegSpec := [
  /- PSV_STAT -/ ⟨0x4000A000, 0x4, 1, .dev,
    [⟨9, 9, .w1c, 0, .any, false⟩, ⟨8, 8, .ro, 0, .any, false⟩, ⟨5, 5, .w1c, 0, .any, false⟩, ⟨4, 4, .w1c, 0, .any, false⟩, ⟨2, 2, .w1c, 0, .any, false⟩, ⟨1, 1, .ro, 0, .any, false⟩, ⟨0, 0, .ro, 0, .any, false⟩]⟩,
  /- PSV_IE -/ ⟨0x4000A004, 0x4, 1, .dev,
    [⟨9, 0, .rw, 5, .any, false⟩]⟩,
  /- PSV_VHOLD -/ ⟨0x4000A008, 0x4, 1, .aon,
    [⟨15, 8, .rc, 255, .any, false⟩, ⟨7, 0, .ro, 0, .any, false⟩]⟩,
  /- PSV_CAPCFG -/ ⟨0x4000A010, 0x4, 1, .aon,
    [⟨31, 24, .rw, 25, (.range 10 255), true⟩, ⟨21, 16, .rw, 20, (.range 5 40), true⟩, ⟨7, 0, .rw, 140, (.range 80 145), true⟩]⟩,
  /- PSV_RCFG -/ ⟨0x4000A014, 0x4, 1, .aon,
    [⟨7, 0, .rw, 10, (.range 1 255), true⟩]⟩,
  /- PSV_SAVEADDR -/ ⟨0x4000A020, 0x8, 4, .dev,
    [⟨31, 3, .rw, 0, .any, false⟩]⟩,
  /- PSV_SAVELEN -/ ⟨0x4000A024, 0x8, 4, .dev,
    [⟨16, 3, .rw, 0, (.range 0 8064), false⟩]⟩,
  /- PSV_SAVESTAT -/ ⟨0x4000A040, 0x4, 1, .aon,
    [⟨31, 0, .ro, 0, .any, false⟩]⟩,
  /- PSV_CNT -/ ⟨0x4000A044, 0x4, 1, .aon,
    [⟨31, 16, .ro, 0, .any, false⟩, ⟨15, 0, .rc, 0, .any, false⟩]⟩]

/-- The registers of the PIO block (spec/18_pins_gpio_electrical.md, Register reference). -/
def regsPio : List RegSpec := [
  /- PIO_IN -/ ⟨0x4000B000, 0x40, 4, .dev,
    [⟨15, 0, .ro, 0, .any, false⟩]⟩,
  /- PIO_OUT -/ ⟨0x4000B004, 0x40, 4, .dev,
    [⟨15, 0, .rw, 0, .any, false⟩]⟩,
  /- PIO_SET -/ ⟨0x4000B008, 0x40, 4, .dev,
    [⟨15, 0, .wo, 0, .any, false⟩]⟩,
  /- PIO_CLR -/ ⟨0x4000B00C, 0x40, 4, .dev,
    [⟨15, 0, .wo, 0, .any, false⟩]⟩,
  /- PIO_TGL -/ ⟨0x4000B010, 0x40, 4, .dev,
    [⟨15, 0, .wo, 0, .any, false⟩]⟩,
  /- PIO_DIR -/ ⟨0x4000B014, 0x40, 4, .dev,
    [⟨15, 0, .rw, 0, .any, false⟩]⟩,
  /- PIO_OD -/ ⟨0x4000B018, 0x40, 4, .dev,
    [⟨15, 0, .rw, 0, .any, false⟩]⟩,
  /- PIO_PULL -/ ⟨0x4000B01C, 0x40, 4, .dev,
    [⟨31, 16, .rw, 0xFFFF, .any, false⟩, ⟨15, 0, .rw, 0, .any, false⟩]⟩,
  /- PIO_GSEL -/ ⟨0x4000B020, 0x40, 4, .dev,
    [⟨15, 0, .rw, 0, .any, false⟩]⟩,
  /- PIO_GOUT -/ ⟨0x4000B024, 0x40, 4, .dev,
    [⟨15, 0, .ro, 0, .any, false⟩]⟩,
  /- PIO_OWN -/ ⟨0x4000B028, 0x40, 4, .dev,
    [⟨15, 0, .ro, 0, .any, false⟩]⟩,
  /- PIO_CONFLICT -/ ⟨0x4000B02C, 0x40, 4, .dev,
    [⟨15, 0, .ro, 0, .any, false⟩]⟩,
  /- PIO_KEEP -/ ⟨0x4000B100, 0x4, 4, .dev,
    [⟨15, 0, .tw, 0, .any, false⟩]⟩,
  /- PIO_PINTCFG -/ ⟨0x4000B200, 0x4, 16, .dev,
    [⟨16, 16, .rw, 0, .any, false⟩, ⟨11, 8, .rw, 0, .any, false⟩, ⟨5, 4, .rw, 0, .any, false⟩, ⟨2, 0, .rw, 0, (.codes [0, 1, 2, 3, 4, 5]), false⟩]⟩,
  /- PIO_PINTLVL -/ ⟨0x4000B240, 0x4, 1, .dev,
    [⟨15, 0, .ro, 0, .any, false⟩]⟩,
  /- PIO_WAKESRC -/ ⟨0x4000B244, 0x4, 1, .dev,
    [⟨15, 0, .w1c, 0, .any, false⟩]⟩]

/-- The registers of the 4 KiB block that holds an address (Table ARC.4; the block code of Table VST.10). -/
def blockRegs (a : Nat) : List RegSpec :=
  match a / 0x1000 with
  | 0x40000 => regsSys | 0x40001 => regsHpt | 0x40002 => regsIpt | 0x40003 => regsVst
  | 0x40004 => regsIcu | 0x40005 => regsEvq | 0x40006 => regsNwl | 0x40007 => regsBpm
  | 0x40008 => regsDge | 0x40009 => regsBal | 0x4000A => regsPsv | 0x4000B => regsPio
  | 0x4000C => regsAtc | 0x4000D => regsNoc | 0x4000E => regsGsq | 0x4000F => regsRsr
  | 0x40010 => regsPbk | 0x40011 => regsPbk | 0x40012 => regsPbk | 0x40013 => regsPbk
  | 0x40014 => regsPbk | 0x40015 => regsPbk
  | 0x40020 => regsCnc | 0x40021 => regsCnc | 0x40022 => regsCnc | 0x40023 => regsCnc
  | 0x40030 => regsTwn | 0x40031 => regsCwt
  | _ => []

/-- The one address a register is kept at: PBK_BCAUSE is reached through all eight port windows of its bank. -/
def canonAddr (a : Nat) : Nat :=
  if 0x40010000 ≤ a ∧ a < 0x40016000 ∧ a % 0x200 = 0x1F0 then a - a % 0x1000 + 0x1F0 else a

/-- The block of an address is one the manual assigns (R15). -/
def blockAssigned (a : Nat) : Bool := !(blockRegs a).isEmpty

/-- `a` is one of the registers of a form. -/
def RegSpec.covers (r : RegSpec) (a : Nat) : Bool :=
  decide (r.base ≤ a) && decide ((a - r.base) % r.stride = 0) && decide ((a - r.base) / r.stride < r.count)

/-- The register at an address, if there is one there (R15). -/
def specOf (a : Nat) : Option RegSpec := (blockRegs a).find? (fun r => r.covers a)

/-- The register has a TW field. -/
def RegSpec.isTwin (r : RegSpec) : Bool := r.fields.any (fun f => f.acc == .tw)

/-- The value register whose complement register stands at an address (R10), if any. -/
def twinOf (a : Nat) : Option RegSpec :=
  if a % 0x1000 < 0x800 then none
  else match specOf (a - 0x800) with
    | some r => if r.isTwin then some r else none
    | none => none

/-- The bits of the fields of a register that satisfy `p`. -/
def RegSpec.bitsWhere (r : RegSpec) (p : FieldSpec → Bool) : Word :=
  r.fields.foldl (fun m f => if p f then m ||| maskOf f.hi f.lo else m) 0#32

/-- The TW bits of a register (R434, R435). -/
def RegSpec.twMask (r : RegSpec) : Word := r.bitsWhere (fun f => f.acc == .tw)

/-- The reset value of a register, the value of its Reset column (R11). -/
def RegSpec.resetWord (r : RegSpec) : Word :=
  r.fields.foldl (fun m f => m ||| w32 (f.reset * 2 ^ f.lo)) 0#32

/-- What the storage at an address holds after the reset of its class: the register's reset value, for a complement
register the complement of the TW bits of it (R10, R440), and 0 where there is no register. -/
def regReset (a : Nat) : Word :=
  match specOf a with
  | some r => r.resetWord
  | none =>
    match twinOf a with
    | some r => ~~~r.resetWord &&& r.twMask
    | none => 0#32

/-- The reset class of the storage at an address. -/
def regClass (a : Nat) : Option RClass :=
  match specOf a with
  | some r => some r.cls
  | none => (twinOf a).map (·.cls)

/-- The field specification of a field, if the register table has it. -/
def fieldSpec (f : Fld) : Option FieldSpec :=
  match specOf f.addr with
  | some r => r.fields.find? (fun x => x.lo == f.lo && x.hi == f.hi)
  | none => none

/-- The value that a field holding `v` acts as (R559). -/
def FieldSpec.acts (f : FieldSpec) (v : Nat) : Nat :=
  match f.lim with
  | .any => v
  | .range lo hi => if v < lo then lo else if hi < v then hi else v
  | .offOr lo hi => if v = 0 then 0 else if v < lo then lo else if hi < v then hi else v
  | .codes cs => if cs.contains v then v else f.reset

end Sys2Proof.Machine
end

