-- ==== Sys2Proof/Machine/State.lean ====
section
/-!
DEFINITION. The state of the block: every register, memory, queue, counter, mode and pin the manual names,
as plain data, with the queue of waiting commands, and the state after reset.
-/

namespace Sys2Proof.Machine

/-- Device modes (Table MOD.1, R43). -/
inductive Mode where
  | boot | run | doze | limp | landing | resting
  deriving DecidableEq, Repr

/-- MODE code of Table MOD.1. -/
def Mode.code : Mode → Nat
  | .boot => 0 | .run => 1 | .doze => 2 | .limp => 3 | .landing => 4 | .resting => 5

/-- Service states (Table MOD.4), in the codes of Table VST.8. -/
inductive Svc where
  | inService | draining | outOfService | underTest
  deriving DecidableEq, Repr

/-- Code of Table VST.8. -/
def Svc.code : Svc → Nat
  | .inService => 0 | .draining => 1 | .outOfService => 2 | .underTest => 3

/-- Units with a service state (R55). -/
inductive UnitId where
  | bank (b : Nat) | prog (b : Nat) | col (c : Nat) | lane (l : Nat) | atb (n : Nat)
  deriving DecidableEq, Repr

/-- Key of a unit in the service table: its type × 256 + its index (Table VST.8). -/
def UnitId.key : UnitId → Nat
  | .bank b => b | .prog b => 0x100 + b | .col c => 0x200 + c | .lane l => 0x300 + l | .atb n => 0x400 + n

/-- Service states after a DEV reset: Atrium banks and columns 0–127 IN_SERVICE, all others OUT_OF_SERVICE (R57). -/
def svcReset (k : Nat) : Svc :=
  if 0x200 ≤ k ∧ k < 0x280 then .inService else if 0x400 ≤ k ∧ k < 0x410 then .inService else .outOfService

/-- Error response causes (Table COR.3). -/
inductive ErrCause where
  | decode | window | target | ecc | source | twin | offline
  deriving DecidableEq, Repr

/-- The one response of a Corridor request (R387). -/
inductive Resp where
  | ok (data : List Byte)
  | err (c : ErrCause)
  deriving DecidableEq, Repr

/-- One EVQ entry (R167). -/
structure Ev where
  seq : Nat
  block : Nat
  code : Nat
  gap : Bool
  crit : Bool
  time : Nat
  d0 : Word
  d1 : Word
  deriving DecidableEq, Repr

/-- A pending twin write of one block (R435): value register, data, arrival cycle. -/
structure TwinPend where
  addr : Nat
  data : Word
  at_ : Nat
  deriving DecidableEq, Repr

/-- The Host Link slice and the bridge behind it (R80 to R98). -/
structure HostLink where
  cfg : Word            -- HL_CFG (IDX 0)
  drop : Bool           -- HL_STAT.DROP
  cause : Nat           -- HL_STAT.CAUSE
  seq : Nat             -- HL_SEQ.SEQ
  mode3 : Bool          -- SPI mode taken at the fall of CS_N (R80)
  snapStat : Nat        -- STAT bits DROP to BOOTWAIT latched at the fall of CS_N (R83)
  snapSum : Word        -- ICU_SUM latched at the fall of CS_N (R83)
  wq : List (Nat × List Word)      -- WRs accepted and not issued (R87)
  wfly : List (Option Nat)         -- WRs issued: the first failing address, if any
  wkeep : List (List Word)         -- for each accepted WR, the W1C flags of each word that hardware set in its transaction (R107)
  rdWait : Option (Nat × Nat)      -- address and words of an accepted read that waits for earlier writes (R89)
  rdBefore : Nat                   -- the writes accepted before that read that still wait for their response (R89)
  rdLen : Nat                      -- words of the last read issued
  rdFly : Option Resp              -- an issued read that has not completed (R91)
  rdDrop : Nat                     -- reads issued before a Host Link reset whose responses are still discarded (R407)
  held : Option Resp               -- the held result (R92)
  returned : Bool                  -- the held result has been returned with RDY = 1 (R94)
  out : List Byte                  -- bytes the device drove in the last transaction
  driven : Bool                    -- the device drove SIO in the last transaction (R82, R99)
  fallRegs : Table Word            -- the registers at the last fall of CS_N, for the flags set since then (R107)
  deriving DecidableEq, Repr

/-- The Vestibule beyond its registers: the doorbell order and the moments of ringing and taking (R116, R144). -/
structure Vest where
  st : List Nat         -- slot states, Table VST.1
  order : List Nat      -- POSTED slots, first rung first
  rung : List Nat       -- Corridor cycle of each slot's doorbell
  touched : Nat         -- slots whose source region the host has overwritten since their doorbell, as a mask (R151)
  deriving DecidableEq, Repr

/-- A Gallery program bank: code, descriptor count and the digest of its image (R332). -/
structure PBank where
  code : Table (BitVec 64)
  ndesc : Nat
  digest : List Byte
  deriving DecidableEq, Repr

/-- A COMMAND or NOTE record Wailith owes for an event it posted (R122, R466). -/
structure CmdRec where
  seq : Nat
  kind : Nat
  body : List Word
  deriving DecidableEq, Repr

/-- Wailith's own bookkeeping that the manual's rules rest on. -/
structure Wail where
  imgDigest : List Byte            -- SHA-384 of the Wailith image in private memory (R61)
  imgLen : Nat                     -- bytes of the Wailith image held from the start of Steward private memory (R61)
  stepcode : List Byte             -- the microcode store: the Stepcode image taken at boot step 0x6 (Table MOD.9)
  scPartners : List (Nat × Nat)    -- Stepcode generations the running Wailith accepts (R66)
  peerRanges : List (Nat × Nat)    -- peer Wailith generations it accepts (R66)
  parse : Option (Nat × Nat × Nat) -- parse table address, NRULE, NFIELD (R129)
  parsed : Nat
  unmatched : Nat
  refused : Nat
  lastPort : Nat
  resets : List Nat                -- cycles of the Steward resets in the last second (R77)
  copies : List (Option PBank)     -- image copies of banks A and B (R48)
  copyAt : Nat                     -- Atrium address from which the image copies stand (R48, R421)
  bankCfg : Table Word             -- port configuration Wailith wrote (R544)
  laneIn : List Bool               -- lanes IN_SERVICE at DOZE entry (R48)
  logOff : Nat                     -- offset of the next record
  logLink : List Byte              -- LINK of the last record
  logIndex : Nat                   -- next INDEX
  logBoot : Nat                    -- next BOOTNO
  logSealNo : Nat
  logSealed : Option Nat           -- LAST of the newest seal
  logOpen : Nat                    -- records not yet sealed that are not SEAL records
  logOldest : Option Nat           -- cycle of the oldest record not yet sealed
  logSoon : Option Nat             -- cycle of the first record that asks for a seal within 10 ms
  logStop : Bool                   -- no further record until the next start (R474)
  noSeals : Bool                   -- no further seal until a DEV reset (R458)
  iptSeen : Nat                    -- IPT_COUNT at the last sample (R466)
  cmds : List CmdRec
  dozeWait : Option Nat            -- wake-port mask of a DOZE entry in progress (R47)
  wakeHeld : Bool                  -- a wake event held pending during DOZE entry (R49)
  swGroup : Option (Nat × Nat × List Nat × List Nat)  -- group switch: bank, AT, members asked, members armed (R336)
  swSlot : Option Nat              -- the slot of that SWITCH_BANK
  svcSlot : Table (List Nat)       -- slots of deferred SET_SERVICE commands, by unit key
  testSlot : Table (Nat × Nat)     -- slot and test number of a running SELFTEST, by unit key
  repSlot : Option Nat             -- slot of the deferred REPAIR_COLUMN
  due : List (Nat × Nat × List Byte)  -- commands that a frame start completes: slot, status, payload
  cfgSlot : Option (Nat × Nat)     -- a SET_CONFIG waiting for Newel lock 0, and the cycle from which it waits (R141)
  deriving DecidableEq, Repr

/-- One receive frame of a port (R197, R198): its data bytes, how many are already in cells, and its header fields. -/
structure Frame where
  data : List Byte
  spilled : Nat
  cells : List Nat
  fstat : Nat           -- FSTAT bits, CAUSE in [2:0]
  time : Nat
  closed : Bool
  deriving DecidableEq, Repr

/-- A transmit message in progress (R222 to R229). -/
structure TxMsg where
  head : Nat
  cells : List Nat      -- the cells of its chain
  data : List Byte      -- the data bytes fetched so far
  next : Nat            -- address of the next cell to fetch
  left : Nat            -- data bytes not fetched yet (R223)
  collisions : Nat
  waiting : Bool        -- waits for mark and backoff (R229)
  retry : Nat           -- RETRY at its start (R238)
  cden : Bool           -- CDEN at its start (R238)
  deriving DecidableEq, Repr

/-- A port beyond its registers. -/
structure Port where
  frames : List Frame              -- oldest first; the last may be open
  rawBuf : List Byte               -- bytes of a RAW port not yet in its ring (R203)
  rawFlush : Nat                   -- how many of them precede the last close event
  rawLen : Nat                     -- bytes stored since the last close event
  rawStop : Bool                   -- a ring write was rejected (R204)
  closedQ : List Word              -- closed-frame queue (R199)
  txq : List Nat                   -- transmit queue (R222)
  tx : Option TxMsg
  match_ : Bool                    -- address detection has matched (R196)
  ovrNext : Bool                   -- an overrun to record in the next frame (R232)
  abdFails : Nat                   -- auto-baud failures in a row (R193)
  abdArmed : Bool                  -- auto-baud waits for the sync character
  abdFrame : Bool                  -- the next frame carries FSTAT.ABD (R192)
  wakeNext : Bool                  -- the next character is the wake character (R205)
  wakeClk : Bool                   -- the shifter runs from the wake oscillator (R206)
  awake : Bool                     -- the receiver works in DOZE after a wake edge (R206, R207)
  idleDone : Bool                  -- IDLE has been set since the last character (R194)
  line : Nat                       -- LINE as the transmitter applies it (R216)
  rxLine : Nat                     -- LINE as the receiver applies it (R216)
  rxHist : List (Word × Word × Nat)  -- BAUD, FMT and LINE before each change since the last character, newest first (R186, R216)
  lastChar : Bool                  -- the bank drains with a character of this port in the shifter (R213)
  depth : Nat                      -- loop-back depth as applied (R239)
  dePin : Bool                     -- DE asserted
  rts : Bool                       -- RTS as the FIFO level has set it (R218)
  deriving DecidableEq, Repr

/-- One buffer pool beyond its registers: the cache, and the place and number of the ring's entries (R255). -/
structure Pool where
  cache : List Nat
  rp : Nat
  rc : Nat
  rlost : Nat           -- ring entries whose buffer is LOST (R243)
  deriving DecidableEq, Repr

/-- The buffer pools (R240 to R259). -/
structure Bpm where
  pools : List Pool
  owner : Table Nat                -- owner of each HELD buffer, by pool × 65536 + index; 0 FREE, 256 LOST
  bad : List Nat                   -- buffers whose owner-table entry is uncorrectable (R243)
  deriving DecidableEq, Repr

/-- A Riser transfer issued and not completed (R313), with what its descriptor said at issue (Table GPR.3). -/
structure Xfer where
  rin : Bool
  w : Nat
  esz : Nat             -- element size E in bytes
  sext : Bool
  dst : Nat             -- first plane of the field
  desc : Nat
  base : Nat            -- ELEMBASE
  stride : Nat
  chmax : Nat
  lock : Option Nat
  errp : Option Nat     -- ERRPLANE where it is enabled
  start : Nat           -- array cycle in which it starts
  due : Nat             -- c_j in array cycles of the frame in progress
  refused : Bool        -- R316, R343: no element is moved
  started : Bool
  held : Bool           -- the Riser holds the lock for it
  causes : Nat          -- RSR_ERR bits met
  failed : Plane        -- bays whose element failed
  vals : List Plane     -- the field: read from the Atrium for RIN, from the bays for ROUT
  deriving DecidableEq, Repr

/-- An NWL request whose result is due 16 cycles after its issue (R319). -/
structure NwlPend where
  due : Nat
  sd : Nat
  word : Word
  l : Bool
  seen : Bool           -- the result has arrived; the entry stays for an instruction of that cycle
  deriving DecidableEq, Repr

/-- An open loop (R303). -/
structure Loop where
  first : Nat
  last : Nat
  left : Nat
  deriving DecidableEq, Repr

/-- A SEAM shift that waits for its seam bits (R341): its operands. -/
structure Stall where
  w : Nat
  dst : Nat
  src : List Plane
  d : Nat
  dir : Nat
  addr : Nat
  start : Nat           -- the array cycle from which it is stalled
  loop : Bool           -- the bits come round the device over loop-back 4 (Table CNC.7)
  deriving DecidableEq, Repr

/-- The Gallery and its sequencer (R265 to R348). -/
structure Gal where
  mem : Table Plane
  acc : List Plane      -- accumulator bits 0 to 47
  c : Plane
  a : Plane
  t : Plane
  o : Plane
  e : Plane
  p : Plane
  stack : List Plane
  s : List Word
  l : Bool
  loops : List Loop     -- innermost first
  calls : List Nat
  pc : Nat
  running : Bool        -- a program is executing in this frame
  fend : Bool           -- FEND has been executed in this frame
  ok : Bool             -- the frame is complete (R304)
  trapped : Bool        -- stopped in a trap
  fendPc : Nat          -- address of the FEND
  limit : Nat           -- the frame's budget limit
  period : Nat          -- the frame period in force (R286)
  frameAt : Nat         -- Corridor cycle of the last frame start
  startDue : Bool       -- a frame start fell due during a seam stall (R287)
  cleared : Bool        -- the clear after power-up is done (R268)
  fresh : Bool          -- no frame has started since power-up
  ord : Nat             -- ordinal of the next GROUP ANY (Table CNC.3)
  stall : Option Stall
  xfers : List Xfer
  lastC : Nat           -- c of the last transfer, array cycles
  nwl : List NwlPend
  latches : Nat         -- any-line latches (R279)
  banks : List PBank
  map : Table Nat       -- channel of each bay (R342)
  map2 : Option (Table Nat)
  votes : List (Nat × Nat × Bool)  -- GROUP votes received: origin, FCNT × 65536 + ordinal, value
  repReady : Bool       -- the armed repair has seen a frame end (R348)
  padHist : List (Nat × List Nat)  -- pad levels before each change of the last two array cycles, oldest first (R318)
  deriving DecidableEq, Repr

/-- A sideband block as queued for sending: the fields of Table CNC.2 that the device chooses, what its PAYLOAD carries by
Table CNC.3, and what it waits for. -/
structure SbMsg where
  type : Nat
  origin : Nat
  hops : Nat
  copy : Bool
  payload : List Nat
  more : Bool := false           -- the message continues in this TYPE's next block
  data : List Byte := []         -- bytes of a message of several blocks
  after : Nat := 0               -- the first codeword that may carry it: a second copy follows its first (R370)
  late : Bool := false           -- it follows the beacon of its frame (R370)
  deriving DecidableEq, Repr

/-- A Concourse lane beyond its registers. -/
structure Lane where
  tries : Nat           -- failures of steps 1 and 2 (R363)
  marks : List Nat      -- MARKER arrivals of this measurement (R365)
  attempts : Nat        -- measurements made
  fec : List Bool       -- the last codewords, newest first: uncorrectable (R373)
  txq : List SbMsg
  raFly : Bool          -- remote access outstanding on this lane
  dead : Bool           -- the edge that the lane served is dead (R375)
  undef : Nat           -- sideband blocks with an undefined TYPE (R361)
  sent : BitVec 257     -- the block last sent (R358, R359)
  planes : List (BitVec 257)     -- the plane blocks of the last SEAM shift that left over this edge (R359)
  back : BitVec 257     -- the block last received over a near-end loop-back (Table CNC.7)
  helloAt : Nat         -- cycle of the last HELLO (Table CNC.5)
  deriving DecidableEq, Repr

/-- The group as this device knows it (R367 to R376). -/
structure Group where
  graph : List (Nat × List Nat)    -- joined neighbours of each device, from LINKSTATE
  change : Table Nat               -- 1 + change number of the last LINKSTATE of each device, 0 for none
  remote : List Nat                -- last LATCH vector of each POS
  voteSeq : Nat                    -- sequence of this device's next LATCH
  seen : List (Nat × Nat × Nat)    -- votes relayed: origin, kind, sequence
  beaconFrame : Bool               -- a beacon has been accepted or sent in this frame
  beaconMiss : Nat                 -- consecutive frames without a beacon
  raTime : Nat                     -- cycle CNC_RA.GO was written
  alignTo : Option (Nat × Nat)     -- lead of the reference side, and the lane towards it, of an alignment under way (R364)
  updJoin : Bool                   -- the pending update is for a join (R337, R381)
  deriving DecidableEq, Repr

/-- A route-table entry (R388). -/
structure RtEntry where
  base : Nat            -- first page
  lim : Nat             -- last page
  ctl : Word            -- NOC_RTCTL format
  deriving DecidableEq, Repr

/-- A packet of the Corridor: the fields of its head flit, and the bytes it carries (Table COR.2). -/
structure Packet where
  twin : Bool
  loop : Bool
  prio : Nat
  cls : Nat             -- 0 request, 1 response
  op : Bool             -- a write, or an error response
  src : Nat
  tag : Nat
  owner : Nat
  origin : Nat
  tgt : Nat
  hops : Nat
  route : Nat
  len : Nat
  addr : Nat
  data : List Byte
  deriving DecidableEq, Repr

/-- Live statistics of one initiator NI (R402), and its reserved response slots (R398). -/
structure NiStat where
  bytes : Nat
  pkts : Nat
  latMax : Nat
  latMin : Nat
  hist : List Nat
  out : Nat             -- requests outstanding
  drop : Bool           -- the initiator was reset: outstanding responses are discarded (R407)
  slots : List Packet   -- the responses that have not sunk yet (R398)
  deriving DecidableEq, Repr

/-- A translation of the CWT buffer (R433), newest first in its list. -/
structure TlbEnt where
  peer : Nat
  vpn : Nat
  page : Nat
  perm : Nat
  deriving DecidableEq, Repr

/-- A walk waiting for the walker; the first one of the list is in progress (R430, R444). -/
structure WalkReq where
  lane : Nat
  peer : Nat
  va : Nat
  len : Nat
  op : Nat              -- 0 read, 1 write, 2 lock
  data : List Byte
  base : Word           -- CWT_BASE when its walk began, or when it arrived
  stale : Bool          -- the base has changed since its walk began (R444)
  deriving DecidableEq, Repr

/-- A DGE context beyond its registers (R447 to R456). -/
structure DgeCtx where
  busy : Bool
  list : Bool           -- a list job; otherwise a programmed message
  algo : Bool
  keyed : Bool
  kslot : Nat
  lastn : Nat
  msg : List Byte
  deriving DecidableEq, Repr

/-- The digest engine: contexts, key slots, and the known-answer run (R446 to R458). -/
structure Dge where
  ctx : List DgeCtx
  keys : List (Option (List Byte)) -- slots 1 to 7
  keyld : List Word
  kat : Bool            -- a known-answer run is under way
  katWait : List (Nat × Word)      -- STARTs waiting for it
  deriving DecidableEq, Repr

/-- The Balustrade beyond its registers. -/
structure Bal where
  outA : Nat            -- level of each TRIPnA (R475)
  outB : Nat
  lifeDue : List Nat    -- cycle of each channel's next toggle (R475)
  swdLast : Nat         -- cycle of the last valid Steward kick or the entry to RUN
  hwdLast : Nat
  swdHalf : Bool        -- the half-time warning of this period has been given
  hwdHalf : Bool
  clkLost : Bool        -- the Corridor clock is stopped (R477)
  rdbkBad : Nat         -- pins whose level differed at the last check (R478)
  aonTrip : Nat         -- AON mirror of the trip state (R105)
  frames : Bool         -- a frame has been due since the entry to RUN
  deriving DecidableEq, Repr

/-- Supplies and pins outside the registers. -/
structure Pins where
  vio0 : Nat            -- VDD_IO0 in mV
  vcore : Nat           -- VDD_CORE in mV
  vgal : Nat            -- VDD_GAL in mV
  vaon : Bool           -- VDD_AON present
  vhold : Nat           -- VHOLD in mV
  vfix : Nat            -- VHOLD at the last check of the charger, in mV
  gpio : List Nat       -- pad levels of GA, GB, GC, GD as driven from outside
  undriven : Bool       -- GPIO and TXD pins stopped driving (R534)
  straps : Nat          -- strap levels: BOOTSEL, TOPO and POS in SYS_STRAP positions
  insCs : Bool          -- INS_CS_N is low: a transaction of the Inspection Port is under way (R101)
  jtagIr : Nat          -- TAP instruction in force: 0 BYPASS
  jtagDr : List Bool    -- boundary register
  tdo : List Bool       -- bits last shifted out of the TAP
  deriving DecidableEq, Repr

/-- The Corridor and the memories outside the register blocks. -/
structure Noc where
  rt : Table RtEntry    -- NI × 64 + entry
  stage : Option (Nat × Nat)       -- NOC_RTBASE and NOC_RTLIM written and not committed, as pages (R391)
  live : List NiStat
  trace : List (List Word)
  echo : Table (List Byte)         -- echo store of each target NI (R406)
  deriving DecidableEq, Repr

/-- The block without its command queue. -/
structure Dev where
  now : Nat             -- Corridor cycles
  epoch : Nat           -- cycle of the last DEV reset
  seed : Nat            -- counter behind the free values; the model's own field
  mode : Mode
  prev : Mode
  modeKnown : Bool      -- the mode is known since AON power-up (Table HLI.7)
  regs : Table Word     -- every register and complement register, by Corridor address
  svc : Table Svc
  twin : List TwinPend
  evq : List Ev
  evGap : Bool          -- the next queued event carries GAP (R168)
  faults : List (Nat × Word)       -- integrity faults raised and not taken yet: code of Table BAL.3 and DATA0 (R489)
  holders : Table Nat   -- Newel holder of each lock (R170)
  hl : HostLink
  iptOut : List Byte    -- bytes the Inspection Port drove in the last transaction
  iptDriven : Bool
  vst : Vest
  wl : Wail
  ports : Table Port
  bpm : Bpm
  gal : Gal
  lanes : List Lane
  grp : Group
  noc : Noc
  atr : List Host.Cell  -- Atrium, by address
  atrUndef : Bool       -- between a DEV reset and boot step 0x3 (R417)
  atrKnown : Table Bool -- the words whose undefined content an access has met since then (log entry 9)
  atrOff : Nat          -- banks that were off and are not initialised (R419)
  atrErr : Table Nat    -- words with ECC errors: 1 single-bit, 2 uncorrectable; by word index
  atrFix : List Nat     -- corrected words waiting for write-back (R417)
  patrol : Table Nat    -- next patrol word of each bank (R418)
  priv : List Host.Cell -- Steward private memory, by offset
  log : List Host.Cell  -- Logbook memory, by offset
  logErr : Table Nat    -- ECC errors of its words, by word index
  tlb : List TlbEnt
  walks : List WalkReq
  dge : Dge
  bal : Bal
  pins : Pins
  resp : Resp           -- response of the last Corridor access of a command
  deriving DecidableEq, Repr

/-- The block: its state and the commands that wait, first in, first out. -/
structure State where
  dev : Dev
  pending : List Instr
  deriving DecidableEq, Repr

/-- Reasons for which a step stops the machine: none. Every behaviour the manual gives has an effect (log entry 2).
`never` is raised by no command; it is safe. -/
inductive Fault where
  | never
  deriving DecidableEq, Repr

/-- Reasons for which a command has no meaning. `notModelled` is raised by an arm of `exec` that has no meaning yet; it
is safe: a refused command changes nothing and no claim about its effect can be proved. -/
inductive Refusal where
  | notModelled (mnemonic : String)
  deriving DecidableEq, Repr

/-- A port after its block reset (R56: idle). -/
def Port.idle : Port :=
  { frames := [], rawBuf := [], rawFlush := 0, rawLen := 0, rawStop := false, closedQ := [], txq := [], tx := none,
    match_ := false, ovrNext := false, abdFails := 0, abdArmed := false, abdFrame := false, wakeNext := false,
    wakeClk := false, awake := false, idleDone := false, line := 0, rxLine := 0, rxHist := [], lastChar := false,
    depth := 0, dePin := false, rts := false }

/-- A port that no entry of the table names. -/
def portDflt (_ : Nat) : Port := Port.idle

/-- A lane after its block reset. -/
def Lane.idle : Lane :=
  { tries := 0, marks := [], attempts := 0, fec := [], txq := [], raFly := false, dead := false, undef := 0,
    sent := 0#257, planes := [], back := 0#257, helloAt := 0 }

/-- An empty program bank. -/
def PBank.empty : PBank := { code := [], ndesc := 0, digest := [] }

/-- The Gallery after the GAL domain powers up (Table GAL.1, R281). -/
def Gal.powerUp : Gal :=
  { mem := [], acc := List.replicate 48 0#16384, c := 0#16384, a := BitVec.allOnes 16384, t := 0#16384,
    o := 0#16384, e := 0#16384, p := 0#16384, stack := [], s := List.replicate 16 0#32, l := false, loops := [],
    calls := [], pc := 0, running := false, fend := false, ok := false, trapped := false, fendPc := 0,
    limit := 0, period := 80000, frameAt := 0, startDue := false, cleared := false, fresh := true,
    ord := 0, stall := none, xfers := [], lastC := 0, nwl := [], latches := 0,
    banks := [PBank.empty, PBank.empty], map := [], map2 := none, votes := [], repReady := false, padHist := [] }

/-- A pool that is not enabled. -/
def Pool.empty : Pool := { cache := [], rp := 0, rc := 0, rlost := 0 }

/-- An idle DGE context. -/
def DgeCtx.idle : DgeCtx :=
  { busy := false, list := false, algo := false, keyed := false, kslot := 0, lastn := 0, msg := [] }

/-- The Host Link slice after a Host Link reset: HL_CFG.DUMMY = 8, all else 0 (R98). -/
def HostLink.idle : HostLink :=
  { cfg := 0x800#32, drop := false, cause := 0, seq := 0, mode3 := false, snapStat := 0,
    snapSum := 0#32, wq := [], wfly := [], wkeep := [], rdWait := none, rdBefore := 0, rdLen := 0, rdFly := none, rdDrop := 0,
    held := none, returned := false, out := [], driven := false, fallRegs := [] }

/-- Wailith before it starts. -/
def Wail.idle : Wail :=
  { imgDigest := [], imgLen := 0, stepcode := [], scPartners := [], peerRanges := [], parse := none, parsed := 0, unmatched := 0,
    refused := 0, lastPort := 0xFF, resets := [], copies := [none, none], copyAt := 0, bankCfg := [],
    laneIn := [false, false, false, false], logOff := 0x1000, logLink := [], logIndex := 0, logBoot := 0,
    logSealNo := 0, logSealed := none, logOpen := 0, logOldest := none, logSoon := none, logStop := false,
    noSeals := false, iptSeen := 0, cmds := [], dozeWait := none, wakeHeld := false,
    swGroup := none, swSlot := none, svcSlot := [], testSlot := [], repSlot := none, due := [],
    cfgSlot := none }

/-- An NI with no request outstanding. -/
def NiStat.idle : NiStat :=
  { bytes := 0, pkts := 0, latMax := 0, latMin := 0, hist := List.replicate 8 0, out := 0, drop := false, slots := [] }

/-- The supplies and pins as the model starts with them: rails nominal, VHOLD empty, straps open (log entry 5). -/
def Pins.nominal : Pins :=
  { vio0 := 3300, vcore := 750, vgal := 750, vaon := true, vhold := 0, vfix := 0, gpio := [0, 0, 0, 0],
    undriven := false, straps := 0, insCs := false, jtagIr := 0, jtagDr := [], tdo := [] }

/-- The device right after a power-up of VDD_AON and the DEV reset it contains: every register at its reset value. -/
def Dev.init : Dev :=
  { now := 0, epoch := 0, seed := 0, mode := .boot, prev := .boot, modeKnown := true, regs := [], svc := [],
    twin := [], evq := [], evGap := false, faults := [], holders := [], hl := HostLink.idle, iptOut := [],
    iptDriven := false, vst := { st := [0, 0, 0, 0], order := [], rung := [0, 0, 0, 0], touched := 0 }, wl := Wail.idle,
    ports := [], bpm := { pools := List.replicate 5 Pool.empty, owner := [], bad := [] },
    gal := Gal.powerUp, lanes := List.replicate 4 Lane.idle,
    grp := { graph := [], change := [], remote := List.replicate 8 0, voteSeq := 0, seen := [],
             beaconFrame := false, beaconMiss := 0, raTime := 0, alignTo := none, updJoin := false },
    noc := { rt := [], stage := none, live := List.replicate 16 NiStat.idle, trace := [], echo := [] },
    atr := [], atrUndef := true, atrKnown := [], atrOff := 0, atrErr := [], atrFix := [], patrol := [], priv := [], log := [], logErr := [],
    tlb := [], walks := [],
    dge := { ctx := [DgeCtx.idle, DgeCtx.idle], keys := List.replicate 7 none,
             keyld := List.replicate 16 0#32, kat := false, katWait := [] },
    bal := { outA := 0, outB := 0, lifeDue := List.replicate 16 0, swdLast := 0, hwdLast := 0, swdHalf := false, hwdHalf := false,
             clkLost := false, rdbkBad := 0, aonTrip := 0xFFFF, frames := false },
    pins := Pins.nominal, resp := .ok [] }

/-- The state right after reset, with an empty queue (log entries 3 to 6 name the values the manual does not give). -/
def State.reset : State := { dev := Dev.init, pending := [] }

end Sys2Proof.Machine
end

