-- ==== Sys2Proof/Machine/Ops.lean ====
section
/-!
DEFINITION. The named operations every family uses: registers and their fields, free values, memory bytes, service
states, the event queue (R166 to R168), interrupt pulses (R154), trips (R480 to R482), integrity faults (R489) and
the release of a holder's locks (R174).
-/

namespace Sys2Proof.Machine

/-! Registers. -/

/-- The storage of the register at an address. -/
def Dev.ld (d : Dev) (a : Nat) : Word := tget regReset d.regs a

/-- The device with the storage at an address replaced. -/
def Dev.put (d : Dev) (a : Nat) (v : Word) : Dev := { d with regs := tset regReset d.regs a v }

/-- The value a field holds. -/
def Dev.rd (d : Dev) (f : Fld) : Nat := fld (d.ld f.addr) f.hi f.lo

/-- The device with a field set. -/
def Dev.wr (d : Dev) (f : Fld) (v : Nat) : Dev := d.put f.addr (setFld (d.ld f.addr) f.hi f.lo v)

/-- A one-bit field is 1. -/
def Dev.on (d : Dev) (f : Fld) : Bool := d.rd f == 1

/-- The value a field acts as (R559). -/
def Dev.acts (d : Dev) (f : Fld) : Nat :=
  match fieldSpec f with
  | some s => s.acts (d.rd f)
  | none => d.rd f

/-- A saturating counter field plus `n`. -/
def Dev.bump (d : Dev) (f : Fld) (n : Nat) : Dev := d.wr f (satAdd (f.hi + 1 - f.lo) (d.rd f) n)

/-- Both halves of a twin register set to a new value: the value word and its complement on the TW bits (R435, R437). -/
def Dev.putTwin (d : Dev) (a : Nat) (v : Word) : Dev :=
  match specOf a with
  | some r =>
    let m := r.twMask
    let d1 := d.put a ((d.ld a &&& ~~~m) ||| (v &&& m))
    d1.put (a + 0x800) (~~~v &&& m)
  | none => d

/-- The two halves of a twin register agree (R437). -/
def Dev.twinOk (d : Dev) (a : Nat) : Bool :=
  match specOf a with
  | some r => decide (d.ld (a + 0x800) = ~~~(d.ld a) &&& r.twMask)
  | none => true

/-- The registers that satisfy `p` return to their reset values. -/
def Dev.resetRegs (d : Dev) (p : Nat → Bool) : Dev := { d with regs := tdrop p d.regs }

/-- Draw number of the next free value; `Config` says nothing about it. -/
def Dev.draw (d : Dev) : Dev := { d with seed := d.seed + 1 }

/-- Device time in µs since the last DEV reset (R167). -/
def Dev.timeUs (d : Dev) : Nat := (d.now - d.epoch) / 1000

/-- Time goes on at least to a due moment. -/
def Dev.until (d : Dev) (t : Nat) : Dev := { d with now := max d.now t }

/-! Domains, service states. -/

/-- Service state of a unit. -/
def Dev.svcOf (d : Dev) (u : UnitId) : Svc := tget svcReset d.svc u.key

/-- The device with the service state of a unit set. -/
def Dev.setSvc (d : Dev) (u : UnitId) (s : Svc) : Dev := { d with svc := tset svcReset d.svc u.key s }

/-- The CORE domain is on (Table ARC.3). -/
def Dev.coreOn (d : Dev) : Bool := d.mode != .resting

/-- The NI of an initiator admits requests: in LANDING only the PSV's, in RESTING none (R409). -/
def Dev.niOpen (d : Dev) (init : Nat) : Bool := d.coreOn && (d.mode != .landing || init == 14)

/-- The GAL domain is on (Table ARC.3). -/
def Dev.galOn (d : Dev) : Bool := d.mode == .boot || d.mode == .run || d.mode == .limp

/-- The SRD domain is on (Table ARC.3). -/
def Dev.srdOn (d : Dev) : Bool := d.mode == .boot || d.mode == .run

/-- A frame is in progress (R47, R140). -/
def Dev.inFrame (d : Dev) : Bool := d.galOn && (d.gal.running || (d.gal.fend && !d.gal.ok))

/-- POS strap as sampled. -/
def Dev.pos (d : Dev) : Nat := d.rd SYS_STRAP.POS

/-- TOPO strap as sampled. -/
def Dev.topo (d : Dev) : Nat := d.rd SYS_STRAP.TOPO

/-! Memory bytes. -/

/-- An Atrium byte that nothing has written since the clear of boot step 0x3 reads 0 (Table MOD.9). -/
def atrDflt (_ : Nat) : Byte := 0#8

/-- A stored Atrium byte. -/
def Dev.atrByte (d : Dev) (a : Nat) : Byte := tget atrDflt d.atr a

/-- Atrium bytes stored from an address on. -/
def atrPut (t : List Host.Cell) (a : Nat) : List Byte → List Host.Cell
  | [] => t
  | b :: r => atrPut (tset atrDflt t a b) (a + 1) r

/-- `n` Atrium bytes from an address on, as stored. -/
def Dev.atrBytes (d : Dev) (a n : Nat) : List Byte := (List.range n).map (fun i => d.atrByte (a + i))

/-- A byte of Steward private memory that nothing has written since the last DEV reset (log entry 45). -/
def privDflt (_ : Nat) : Byte := 0#8

/-- `n` bytes of Steward private memory from an offset on. -/
def Dev.privBytes (d : Dev) (a n : Nat) : List Byte := (List.range n).map (fun i => tget privDflt d.priv (a + i))

/-- Private-memory bytes stored from an offset on. -/
def privPut (t : List Host.Cell) (a : Nat) : List Byte → List Host.Cell
  | [] => t
  | b :: r => privPut (tset privDflt t a b) (a + 1) r

/-- The Wailith image held in Steward private memory (R61; its place there is log entry 45). -/
def Dev.image (d : Dev) : List Byte := d.privBytes 0 d.wl.imgLen

/-- The 64 bytes of the chain header (Table LOG.3). -/
def chainHeader : List Byte :=
  leBytes 4 0x4B4E4C47 ++ leBytes 4 0x4B4E4808 ++ leBytes 8 Config.serial.toNat ++ leBytes 4 Config.keyId0.toNat
    ++ leBytes 2 1 ++ leBytes 2 0 ++ leBytes 8 Config.chainId.toNat ++ leBytes 32 0

/-- A Logbook byte that nothing has written since final test: the chain header, 0xFF elsewhere (R459; log entry 7). -/
def logDflt (a : Nat) : Byte := if a < 64 then nth 0#8 chainHeader a else 0xFF#8

/-- A stored Logbook byte. -/
def Dev.logByte (d : Dev) (a : Nat) : Byte := tget logDflt d.log a

/-- `n` Logbook bytes from an offset on. -/
def Dev.logBytes (d : Dev) (a n : Nat) : List Byte := (List.range n).map (fun i => d.logByte (a + i))

/-- Logbook bytes that no write reaches: the chain header, and the reserved bytes that read 0xFF (Table LOG.2, R459; log
entry 49). -/
def logFixed (a : Nat) : Bool := decide (a < 64) || (decide (0x44 ≤ a) && decide (a < 0x1000))

/-- Logbook bytes stored from an offset on (R459). -/
def logPut (t : List Host.Cell) (a : Nat) : List Byte → List Host.Cell
  | [] => t
  | b :: r => logPut (if logFixed a then t else tset logDflt t a b) (a + 1) r

/-- Logbook words written whole, in ascending order; a written word has a fresh code (R424). -/
def Dev.logWrite (d : Dev) (a : Nat) (bs : List Byte) : Dev :=
  { d with log := logPut d.log a bs,
           logErr := tdrop (fun k => decide (a / 4 ≤ k) && decide (k < (a + bs.length + 3) / 4)) d.logErr }

/-! Interrupt pulses and events. -/

/-- Reserved interrupt sources (Table INT.1, R153). -/
def srcReserved (n : Nat) : Bool :=
  n == 54 || n == 55 || n == 62 || n == 63 || n == 69 || n == 70 || n == 71 || decide (112 ≤ n)

/-- The MODE of a pin-interrupt line makes its source a pulse source (R532). -/
def Dev.pintPulse (d : Dev) (n : Nat) : Bool :=
  let m := d.acts (PIO_PINTCFG.MODE n)
  m == 1 || m == 2 || m == 3

/-- The source is a pulse source (Table INT.1). -/
def Dev.srcPulse (d : Dev) (n : Nat) : Bool :=
  n == 60 || n == 64 || n == 66 || n == 67 || n == 68 || n == 72 || n == 78 || n == 80 || n == 81 || n == 87
    || (decide (88 ≤ n) && decide (n < 104) && d.pintPulse (n - 88)) || (decide (104 ≤ n) && decide (n < 112))

/-- A pulse of a source sets its pending bit (R154). -/
def Dev.pulse (d : Dev) (n : Nat) : Dev :=
  if srcReserved n then d
  else d.put (ICU_PEND.addr (n / 32)) (d.ld (ICU_PEND.addr (n / 32)) ||| w32 (2 ^ (n % 32)))

/-- Integrity fault EVQ_CRIT (Table BAL.3), and the same fault where it falls in the cycle after the one in which it is
raised: the refused event was the event of an EVQ_CRIT fault (log entry 11). -/
def evqCrit : Nat := 0x50
def evqCritNext : Nat := 0x150

/-- An event reaches the EVQ arbiter (R166 to R168). It takes the next sequence number and is queued, or refused when
240 entries are queued (256 for CRIT). A refused CRIT event raises integrity fault EVQ_CRIT; where it is the event of an
EVQ_CRIT fault itself, the new fault falls in the next cycle (log entry 11). -/
def evqAppend (d : Dev) (block code : Nat) (crit : Bool) (d0 d1 : Word) : Dev :=
  let seq := d.rd EVQ_NEXTSEQ.SEQ
  let n := d.evq.length
  let d := d.wr EVQ_NEXTSEQ.SEQ (seq + 1)
  if n < 240 ∨ (crit ∧ n < 256) then
    { d with evq := d.evq ++ [{ seq := seq, block := block, code := code, gap := d.evGap, crit := crit,
                                time := d.timeUs % 2 ^ 30, d0 := d0, d1 := d1 }],
             evGap := false }
  else
    let d := { d.bump EVQ_LOST.COUNT 1 with evGap := true }
    if crit then
      let d := d.wr EVQ_LOST.CRITLOST 1
      { d with faults := d.faults ++ [(if block = 0x09 ∧ code = evqCrit then evqCritNext else evqCrit, 0#32)] }
    else d

/-- A hardware event whose code and data the manual leaves open, from what it is about (log entry 8). -/
def evqKind (d : Dev) (block : Nat) (k : EvKind) (crit : Bool) (x y : Nat) : Dev :=
  evqAppend d block (Config.evCode k).toNat crit (Config.evData k x 0) (Config.evData k y 1)

/-- Events in the order of their BLOCK codes, those of one block in the block's own order (R166). -/
def byBlock (es : List Ev) : List Ev := (List.range 256).flatMap (fun b => es.filter (fun e => e.block == b))

/-- What happens in one Corridor cycle: the events that `f` posts reach the EVQ in the order of R166. Within one block they
keep the order in which the model makes them (log entry 84). -/
def inCycle (f : Dev → Dev) (d : Dev) : Dev :=
  let e := f { d with evq := [], evGap := false }
  let n := { e with evq := d.evq, evGap := d.evGap }
  if e.evq.isEmpty then n
  else
    (byBlock e.evq).foldl (fun d v => evqAppend d v.block v.code v.crit v.d0 v.d1)
      (n.wr EVQ_NEXTSEQ.SEQ (d.rd EVQ_NEXTSEQ.SEQ))

/-- An integrity fault is raised; `settle` takes it at the end of the command (R489). -/
def raiseFault (d : Dev) (code : Nat) : Dev := { d with faults := d.faults ++ [(code, 0#32)] }

/-! Twin faults. -/

/-- The BLOCK code of an address in the device region (Table VST.10). -/
def blockOf (a : Nat) : Nat := a / 0x1000 % 0x40000

/-- A twin fault of a cause 1 to 6 on a register: TWN_ERR, the first capture, TWN_CNT, source 78, and the integrity fault
with block and offset in DATA0 (R436, R489). -/
def twinFault (d : Dev) (cause a : Nat) : Dev :=
  let first := d.rd TWN_ERR.CAUSE == 0
  let d := d.wr TWN_ERR.CAUSE (setBit (d.rd TWN_ERR.CAUSE) (cause - 1))
  let where_ := 2 ^ 16 * (blockOf a % 256) + a % 0x1000
  let d := if first then d.put TWN_FAULT.addr (w32 (2 ^ 28 * cause + where_)) else d
  let d := (d.bump TWN_CNT.COUNT 1).pulse 78
  { d with faults := d.faults ++ [(0x10 + cause, w32 where_)] }

/-- Hardware uses a twin register: halves that disagree raise fault USE, and the value half is used (R437). -/
def useTwin (d : Dev) (a : Nat) : Dev := if d.twinOk a then d else twinFault d 5 a

/-! Trips. -/

/-- Bits of BAL_TCAUSEn. -/
def cGtrip : Nat := 1
def cFwd : Nat := 2
def cSwd : Nat := 4
def cHwd : Nat := 8
def cInteg : Nat := 16
def cLatch : Nat := 32
def cLand : Nat := 64
def cVcmd : Nat := 128
def cOwn : Nat := 256
def cClock : Nat := 512
def cReset : Nat := 1024

/-- Sources reach the channels: `f n` holds the cause bits active for channel n. Each sets its bit in BAL_TCAUSEn, and a
HEALTHY channel with one becomes TRIPPED with both pins low. One event carries the mask and the causes (R482). -/
def tripWith (d : Dev) (f : Nat → Nat) : Dev :=
  let old := d.rd BAL_STATE.TRIPPED
  let hit := maskFrom 16 (fun n => f n != 0)
  let new := maskFrom 16 (fun n => f n != 0 && !old.testBit n)
  let causes := (List.range 16).foldl (fun m n => if new.testBit n then m ||| f n else m) 0
  let d := (List.range 16).foldl (fun d n =>
    if hit.testBit n then d.put (BAL_TCAUSE.addr n) (d.ld (BAL_TCAUSE.addr n) ||| w32 (f n)) else d) d
  if new = 0 then d
  else
    let d := d.wr BAL_STATE.TRIPPED (old ||| new)
    let d := { d with bal := { d.bal with outA := maskFrom 16 (fun n => d.bal.outA.testBit n && !new.testBit n),
                                          outB := maskFrom 16 (fun n => d.bal.outB.testBit n && !new.testBit n),
                                          aonTrip := old ||| new } }
    let d := (d.bump BAL_CNT.TRIPS (bitsOf 16 new).length).pulse 80
    evqAppend d 0x09 (Config.evCode .trip).toNat true (w32 new) (w32 causes)

/-- One cause for the channels of a mask. -/
def tripMask (d : Dev) (mask cause : Nat) : Dev := tripWith d (fun n => if mask.testBit n then cause else 0)

/-- The channels whose one-bit enable in BAL_SRCn is 1. -/
def Dev.srcMask (d : Dev) (f : Nat → Fld) : Nat := maskFrom 16 (fun n => d.on (f n))

/-- The latch vector of a peer as the Balustrade sees it: the last LATCH of a reachable peer, else PEERPOL (R371). -/
def Dev.remoteVec (d : Dev) (p : Nat) : Nat :=
  if (d.rd CNC_GRP.MEMBERS).testBit p then nth 0 d.grp.remote p
  else if (d.rd CNC_GCFG.PEERPOL).testBit p then 0xFF else 0

/-- The level sources active for channel n (Table BAL.1). -/
def Dev.levels (d : Dev) (n : Nat) : Nat :=
  let loc := (d.rd (BAL_SRC.LLATCH n) &&& d.gal.latches) != 0
  let rem := (List.range 8).any (fun p =>
    p != d.pos && (d.rd (BAL_SRC.RPEER n)).testBit p && (d.rd (BAL_SRC.RLATCH n) &&& d.remoteVec p) != 0)
  bit (d.on (BAL_SRC.FWD n) && d.on BAL_WDSTAT.FWDACT) * cFwd
    + bit (d.on (BAL_SRC.SWD n) && d.on BAL_WDSTAT.SWDACT) * cSwd
    + bit (d.on (BAL_SRC.HWD n) && d.on BAL_WDSTAT.HWDACT) * cHwd
    + bit (d.mode == .limp) * cInteg + bit (loc || rem) * cLatch + bit (d.mode == .landing) * cLand
    + bit d.bal.clkLost * cClock

/-- The fields of the source matrix of the channels of a mask are used: halves that disagree raise USE and trip their
channel with OWN (R437, R481). -/
def srcUse (d : Dev) (mask : Nat) : Dev :=
  let bad := maskFrom 16 (fun n => mask.testBit n && !d.twinOk (BAL_SRC.addr n))
  if bad = 0 then d
  else tripMask ((bitsOf 16 bad).foldl (fun d n => twinFault d 5 (BAL_SRC.addr n)) d) bad cOwn

/-- Some channel watches a peer that is not reachable, so that CNC_GCFG.PEERPOL is used (R371). -/
def Dev.peerpolUsed (d : Dev) : Bool :=
  (List.range 16).any (fun n => (List.range 8).any (fun p =>
    p != d.pos && (d.rd (BAL_SRC.RPEER n)).testBit p && !(d.rd CNC_GRP.MEMBERS).testBit p))

/-- The matrix is evaluated after a change of a level source, which uses its fields (R437, R482). -/
def balEval (d : Dev) : Dev :=
  let d := srcUse d 0xFFFF
  let d := if d.peerpolUsed then useTwin d CNC_GCFG.addr else d
  tripWith d d.levels

/-! Newel releases. -/

/-- Holder of a lock, 0 when it is free. -/
def Dev.holder (d : Dev) (n : Nat) : Nat := tget (fun _ => 0) d.holders n

/-- The locks a holder has, as a 64-bit mask. -/
def Dev.heldMask (d : Dev) (id : Nat) : Nat := maskFrom 64 (fun n => d.holder n == id && id != 0)

/-- ORPHAN flag of a lock. -/
def Dev.orphan (d : Dev) (n : Nat) : Bool := (d.rd (NWL_ORPHAN.ORPHAN (n / 32))).testBit (n % 32)

/-- One orphaning release step: the locks of a mask become free with ORPHAN = 1, one CRIT event carries the mask, and
NWL_ERR.ORPH is set (R174, R175). An empty mask takes no step. -/
def orphanStep (d : Dev) (mask code : Nat) : Dev :=
  if mask = 0 then d
  else
    let d := { d with holders := tdrop (fun n => mask.testBit n) d.holders }
    let d := d.put (NWL_ORPHAN.addr 0) (d.ld (NWL_ORPHAN.addr 0) ||| w32 mask)
    let d := d.put (NWL_ORPHAN.addr 1) (d.ld (NWL_ORPHAN.addr 1) ||| w32 (mask / 2 ^ 32))
    let d := (d.wr NWL_ERR.ORPH 1).bump NWL_CNT.ORPHREL (bitsOf 64 mask).length
    evqAppend d 0x06 code true (w32 mask) (w32 (mask / 2 ^ 32))

/-- A holder reset releases every lock of the holder in one step (R174). -/
def releaseHolder (d : Dev) (id : Nat) : Dev := orphanStep d (d.heldMask id) (0x20 + id)

/-! Balustrade causes that always act. -/

/-- The Vestibule-command source for the channels of a mask (Table BAL.1). -/
def vcmdTrip (d : Dev) (mask : Nat) : Dev := tripMask d mask cVcmd

/-- The Gallery TRIP source for the channels of a mask that enable it (R317, Table BAL.1, R437). -/
def galTrip (d : Dev) (mask : Nat) : Dev :=
  let d := srcUse d mask
  tripMask d (mask &&& d.srcMask BAL_SRC.GTRIP) cGtrip

end Sys2Proof.Machine
end

