-- ==== Sys2Proof/Machine/Noc.lean ====
section
/-!
DEFINITION. The Corridor as a network: attachment of the network interfaces, route tables, decoding of requests, probes
and trace, statistics, and the test generator (R384 to R411).
-/

namespace Sys2Proof.Machine

/-- Router and local port of an initiator NI (Table COR.1). -/
def initXYP (i : Nat) : Nat × Nat × Nat :=
  match i with
  | 0 => (1, 0, 0) | 1 => (0, 0, 0) | 2 => (1, 2, 0) | 3 => (2, 2, 0) | 4 => (2, 0, 0) | 5 => (2, 1, 0) | 6 => (2, 0, 1)
  | 7 => (0, 1, 0) | 8 => (3, 1, 0) | 9 => (3, 1, 1) | 10 => (3, 2, 0) | 11 => (3, 2, 1) | 12 => (0, 2, 0)
  | 13 => (3, 1, 2) | 14 => (3, 0, 0) | _ => (3, 0, 1)

/-- Router of an initiator NI. -/
def initXY (i : Nat) : Nat × Nat := ((initXYP i).1, (initXYP i).2.1)

/-- Router and local port of a target NI (Table COR.1); target 15 is not assigned. -/
def tgtXYP (t : Nat) : Option (Nat × Nat × Nat) :=
  match t with
  | 0 => some (0, 0, 1) | 1 => some (1, 0, 0) | 2 => some (2, 0, 2) | 3 => some (2, 0, 3) | 4 => some (0, 1, 0)
  | 5 => some (1, 1, 0) | 6 => some (2, 1, 0) | 7 => some (3, 1, 0) | 8 => some (3, 1, 1) | 9 => some (3, 2, 0)
  | 10 => some (3, 2, 1) | 11 => some (0, 2, 0) | 12 => some (1, 2, 0) | 13 => some (2, 2, 0) | 14 => some (3, 1, 2)
  | _ => none

/-- The eight codes of a route string, the first one first. -/
def routeCodes (r : Nat) : List Nat := (List.range 8).map (fun i => r / 8 ^ i % 8)

/-- A route string from a router: its codes walked to an eject, with the last horizontal and vertical direction (R389). -/
def walkRoute : List Nat → Nat → Nat → Option Nat → Option Nat → Option (Nat × Nat × Nat)
  | [], _, _, _, _ => none
  | c :: r, x, y, h, v =>
    if 4 ≤ c then (if r.all (· == 0) then some (x, y, c - 4) else none)
    else if c % 2 = 1 then
      if v.isSome || (h.isSome && h != some c) then none
      else if c = 1 ∧ x < 3 then walkRoute r (x + 1) y (some c) v
      else if c = 3 ∧ 0 < x then walkRoute r (x - 1) y (some c) v
      else none
    else if v.isSome && v != some c then none
    else if c = 0 ∧ 0 < y then walkRoute r x (y - 1) h (some c)
    else if c = 2 ∧ y < 2 then walkRoute r x (y + 1) h (some c)
    else none

/-- The route string is valid for an initiator and a target (R389). -/
def routeOk (init tgt route : Nat) : Bool :=
  let (x, y) := initXY init
  match tgtXYP tgt with
  | some t => walkRoute (routeCodes route) x y none none == some t
  | none => false

/-- The route string from an initiator to a target, horizontal moves first. -/
def routeOf (init tgt : Nat) : Nat :=
  let (x, y) := initXY init
  match tgtXYP tgt with
  | some (tx, ty, p) =>
    let cs := List.replicate (tx - x) 1 ++ List.replicate (x - tx) 3 ++ List.replicate (y - ty) 0
      ++ List.replicate (ty - y) 2 ++ [4 + p]
    cs.foldr (fun c n => c + 8 * n) 0
  | none => 0

/-- The move codes of a route string, without its eject. -/
def routeMoves (route : Nat) : List Nat := (routeCodes route).takeWhile (· < 4)

/-- HOPS: the position of the eject code (R389). -/
def routeHops (route : Nat) : Nat := (routeMoves route).length + 1

/-- The route of the response to a request of an initiator: its moves in reverse order, each direction inverted, then the
eject at the local port of SRC (R390). -/
def respRoute (init route : Nat) : Nat :=
  ((routeMoves route).reverse.map (fun c => (c + 2) % 4) ++ [4 + (initXYP init).2.2]).foldr (fun c n => c + 8 * n) 0

/-- The ranges of Tables ARC.4 and COR.1 as first page, last page and target. -/
def mapRanges : List (Nat × Nat × Nat) :=
  [(0x00000, 0x003FF, 5), (0x10000, 0x100FF, 2), (0x30000, 0x3001F, 13), (0x30020, 0x3003F, 13), (0x31000, 0x317FF, 12),
   (0x40000, 0x40006, 0), (0x40007, 0x40007, 6), (0x40008, 0x4000D, 3), (0x4000E, 0x4000E, 13), (0x4000F, 0x4000F, 12),
   (0x40010, 0x40012, 4), (0x40013, 0x40015, 11), (0x40020, 0x40020, 7), (0x40021, 0x40021, 8), (0x40022, 0x40022, 9),
   (0x40023, 0x40023, 10), (0x40030, 0x40030, 3), (0x40031, 0x40031, 14), (0x20000, 0x2003F, 1)]

/-- Priority of an initiator after a DEV reset (Table ARC.6; 0 where the table names none, log entry 43). -/
def prioOf (init : Nat) : Nat :=
  match init with
  | 2 | 6 => 3
  | 3 | 8 | 9 | 10 | 11 => 2
  | 0 | 5 | 7 | 12 => 1
  | _ => 0

/-- The entry of a route table after a DEV reset; the bridge has none for the Steward private range (R391). -/
def rtDflt (k : Nat) : RtEntry :=
  let ni := k / 64
  match mapRanges[k % 64]? with
  | some (b, l, t) =>
    if ni = 1 ∧ t = 1 then { base := 0, lim := 0, ctl := 0#32 }
    else { base := b, lim := l, ctl := w32 (2 ^ 31 + 2 ^ 28 * prioOf ni + 2 ^ 24 * t + routeOf ni t) }
  | none => { base := 0, lim := 0, ctl := 0#32 }

/-- An entry of the route table of an initiator. -/
def Dev.rtEntry (d : Dev) (ni e : Nat) : RtEntry := tget rtDflt d.noc.rt (ni * 64 + e)

/-- The entry that decodes an address: the lowest-numbered valid one whose range contains it (R388). -/
def Dev.rtMatch (d : Dev) (ni a : Nat) : Option RtEntry :=
  ((List.range 64).map (d.rtEntry ni)).find? (fun e =>
    e.ctl.getLsbD 31 && decide (e.base ≤ a / 0x1000) && decide (a / 0x1000 ≤ e.lim))

/-- BPM owner ID of a request in its head flit (R385); `origin` is the port number for the NIs of the port banks. -/
def headOwner (init origin : Nat) : Nat :=
  match init with
  | 0 => 1 | 1 => 2 | 2 => 3 | 4 => 4 | 8 => 8 | 9 => 9 | 10 => 10 | 11 => 11
  | 7 | 12 => 0x10 + origin % 48
  | _ => 0

/-- ORIGIN of a request: the POS of the requesting peer, for the lanes only (Table COR.2, R385). -/
def headOrigin (init origin : Nat) : Nat := if 8 ≤ init ∧ init < 12 then origin % 8 else 0

/-- The request packet of an access through a route entry (R386, Table COR.2). -/
def reqPacket (init origin : Nat) (write twin loop : Bool) (tag a len : Nat) (data : List Byte) (e : RtEntry) : Packet :=
  let route := fld e.ctl 23 0
  { twin := twin, loop := loop, prio := fld e.ctl 29 28, cls := 0, op := write, src := init, tag := tag % 32,
    owner := headOwner init origin, origin := headOrigin init origin, tgt := fld e.ctl 27 24, hops := routeHops route,
    route := route, len := len, addr := a, data := if write then sliceB data 0 len else [] }

/-- Code of an error response cause (Table COR.3). -/
def ErrCause.code : ErrCause → Nat
  | .decode => 1 | .window => 2 | .target => 3 | .ecc => 4 | .source => 5 | .twin => 6 | .offline => 7

/-- The response packet of a request: its SRC, TAG, PRIO and TWIN, the way back, and the read data or the cause (R386, R387,
R390). A read of a twin register is answered with TWIN = 1 (R435). -/
def respPacket (q : Packet) (twinRead : Bool) (r : Resp) : Packet :=
  let back := respRoute q.src q.route
  let p := { q with twin := q.twin || twinRead, cls := 1, hops := routeHops back, route := back }
  match r with
  | .ok bs => { p with op := false, data := bs }
  | .err c => { p with op := true, data := [b8 c.code] }

/-- Bits [127:96] of a head flit (Table COR.2). -/
def Packet.word3 (p : Packet) : Nat :=
  2 ^ 31 * bit p.twin + 2 ^ 30 * bit p.loop + 2 ^ 28 * (p.prio % 4) + 2 ^ 27 * (p.cls % 2) + 2 ^ 26 * bit p.op
    + 2 ^ 22 * (p.src % 16) + 2 ^ 17 * (p.tag % 32) + 2 ^ 11 * (p.owner % 64) + 2 ^ 8 * (p.origin % 8)
    + 2 ^ 4 * (p.tgt % 16) + p.hops % 16

/-- The head flit of a packet (Table COR.2); data of 1 to 4 bytes stand in DATA0 (R386). -/
def Packet.head (p : Packet) : BitVec 128 :=
  BitVec.ofNat 128 (2 ^ 96 * p.word3 + 2 ^ 72 * (p.route % 2 ^ 24) + 2 ^ 64 * ((p.len + 255) % 256)
    + 2 ^ 32 * (p.addr % 2 ^ 32) + if p.data.length ≤ 4 then leNat p.data else 0)

/-- The body flits of a packet: all its data in flits of 16 bytes where they are more than 4 bytes (R386). -/
def Packet.body (p : Packet) : List (BitVec 128) :=
  if p.data.length ≤ 4 then []
  else (List.range ((p.data.length + 15) / 16)).map (fun i => BitVec.ofNat 128 (leNat (sliceB p.data (16 * i) 16)))

/-- What a probe sees of a request. -/
structure ProbeReq where
  init : Nat
  write : Bool
  addr : Nat
  len : Nat
  twin : Bool
  loop : Bool
  origin : Nat
  dest : Option RtEntry            -- the entry that decoded it
  prio : Option Nat                -- the priority of a test packet, which NOC_TGCTL gives (R406)
  deriving DecidableEq, Repr

/-- Probe k matches a request (R404); a request that no entry decodes has no target and no priority to compare. -/
def Dev.probeHit (d : Dev) (k : Nat) (q : ProbeReq) : Bool :=
  d.on (NOC_PRBCTL.EN k) && (d.rd (NOC_PRBCTL.SRCMASK k)).testBit q.init
    && (match q.dest with
        | some e => (d.rd (NOC_PRBTGT.TGTMASK k)).testBit (fld e.ctl 27 24)
            && (d.rd (NOC_PRBCTL.PRIOMASK k)).testBit (q.prio.getD (fld e.ctl 29 28))
        | none => true)
    && decide (d.rd (NOC_PRBLO.ADDRLO k) ≤ q.addr) && decide (q.addr ≤ d.rd (NOC_PRBHI.ADDRHI k))

/-- An entry of the trace buffer (R405); which TAG is used is open (free value). -/
def traceEntry (d : Dev) (k : Nat) (q : ProbeReq) : List Word :=
  let e := q.dest.getD { base := 0, lim := 0, ctl := 0#32 }
  let p := reqPacket q.init q.origin q.write q.twin q.loop (Config.freeWord d.seed).toNat q.addr q.len [] e
  let p := { p with prio := q.prio.getD p.prio, hops := if q.dest.isSome then p.hops else 0 }
  [w32 d.now, w32 p.word3, w32 q.addr,
   w32 (2 ^ 30 * k + (q.len + 255) % 256)]

/-- A match enters the trace buffer: it stops when full, or overwrites the oldest entry (R405). -/
def tracePut (d : Dev) (e : List Word) : Dev :=
  if d.noc.trace.length < 256 then
    let d := { d with noc := { d.noc with trace := d.noc.trace ++ [e] } }
    if d.noc.trace.length = 256 ∧ !d.on NOC_TRCTL.WRAP then d.wr NOC_TRSTAT.FULL 1 else d
  else if d.on NOC_TRCTL.WRAP then { d with noc := { d.noc with trace := d.noc.trace.tail ++ [e] } }
  else d.wr NOC_TRSTAT.FULL 1

/-- The four probes look at a request (R404, R405). -/
def probes (d : Dev) (q : ProbeReq) : Dev :=
  (List.range 4).foldl (fun d k =>
    if d.probeHit k q then
      let n := satAdd 32 (d.rd (NOC_PRBCNT.COUNT k)) 1
      let d := d.wr (NOC_PRBCNT.COUNT k) n
      let lim := d.rd (NOC_PRBLIM.LIMIT k)
      let d := if lim ≠ 0 ∧ n = lim then d.wr NOC_PRBSTAT.HIT (setBit (d.rd NOC_PRBSTAT.HIT) k) else d
      if d.on (NOC_PRBCTL.TRACE k) then tracePut d.draw (traceEntry d k q) else d
    else d) d

/-- The NI answers a request with DECODE: NOC_ERR.DECODE, and the first since it was clear is captured (R388). -/
def decodeFail (d : Dev) (init a : Nat) : Dev :=
  let first := !d.on NOC_ERR.DECODE
  let d := d.wr NOC_ERR.DECODE 1
  if first then (d.wr NOC_ERRSRC.SRC init).put NOC_ERRADDR.addr (w32 a) else d

/-- A request leaves its NI: the target, or DECODE with its capture (R388). -/
def nocIssue (d : Dev) (init : Nat) (write : Bool) (a len : Nat) (twin : Bool) (origin : Nat) : Option Nat × Dev :=
  let e := d.rtMatch init a
  let d := probes d { init := init, write := write, addr := a, len := len, twin := twin, loop := false,
                      origin := origin, dest := e, prio := none }
  match e with
  | some e =>
    if (a + len - 1) / 0x1000 ≤ e.lim then (some (fld e.ctl 27 24), d)
    else (none, decodeFail d init a)
  | none => (none, decodeFail d init a)

/-! Registers of the Corridor. -/

/-- The staged pages of the selected entry, or the entry's own (R391). -/
def Dev.rtStage (d : Dev) : Nat × Nat :=
  match d.noc.stage with
  | some s => s
  | none =>
    let e := d.rtEntry (d.rd NOC_RTSEL.NI) (d.rd NOC_RTSEL.ENTRY)
    (e.base, e.lim)

/-- A write of NOC_RTBASE or NOC_RTLIM. -/
def rtStageWrite (d : Dev) (lim : Bool) (data : Word) : Dev :=
  let (b, l) := d.rtStage
  let p := fld data 31 12
  { d with noc := { d.noc with stage := some (if lim then (b, p) else (p, l)) } }

/-- A write of NOC_RTCTL commits the three words together, or sets NOC_ERR.ROUTE (R391). -/
def rtCommit (d : Dev) (data : Word) : Dev :=
  let (b, l) := d.rtStage
  let ni := d.rd NOC_RTSEL.NI
  let ctl := data &&& 0xBFFFFFFF#32
  if !routeOk ni (fld ctl 27 24) (fld ctl 23 0) || decide (l < b) then d.wr NOC_ERR.ROUTE 1
  else { d with noc := { d.noc with
    rt := tset rtDflt d.noc.rt (ni * 64 + d.rd NOC_RTSEL.ENTRY) { base := b, lim := l, ctl := ctl }, stage := none } }

/-- A write of NOC_STATCTL: the bin width, and with SNAP the snapshot of every initiator (R402, R403). -/
def snapWrite (d : Dev) (data : Word) : Dev :=
  let d := d.wr NOC_STATCTL.BINW (fld data 27 16)
  if !data.getLsbD 0 then d
  else
    let d := (List.range 16).foldl (fun d n =>
      let s := nth NiStat.idle d.noc.live n
      let h := fun k => nth 0 s.hist k
      let d := (d.put (NOC_STAT_BYTES.addr n) (w32 s.bytes)).put (NOC_STAT_PKTS.addr n) (w32 s.pkts)
      let d := d.put (NOC_STAT_LAT.addr n) (w32 (2 ^ 16 * s.latMax + s.latMin))
      let d := (d.put (NOC_STAT_HIST0.addr n) (w32 (2 ^ 16 * h 1 + h 0))).put (NOC_STAT_HIST1.addr n)
        (w32 (2 ^ 16 * h 3 + h 2))
      (d.put (NOC_STAT_HIST2.addr n) (w32 (2 ^ 16 * h 5 + h 4))).put (NOC_STAT_HIST3.addr n)
        (w32 (2 ^ 16 * h 7 + h 6))) d
    let live := d.noc.live.map (fun s => { NiStat.idle with out := s.out, drop := s.drop, slots := s.slots })
    { d with noc := { d.noc with live := live } }

/-- A write of NOC_TRCTL (R405). -/
def traceCtl (d : Dev) (data : Word) : Dev :=
  let d := d.wr NOC_TRCTL.WRAP (fld data 1 1)
  if data.getLsbD 0 then { d.wr NOC_TRSTAT.FULL 0 with noc := { d.noc with trace := [] } } else d

/-- NOC_TRDATA word j of the entry that NOC_TRRD selects; an entry that is not held reads 0. -/
def Dev.traceWord (d : Dev) (j : Nat) : Word := nth 0#32 (nth [] d.noc.trace (d.rd NOC_TRRD.INDEX)) j

/-- A write of NOC_TGCTL: GO starts a run; while one runs the write changes nothing (R406). -/
def tgWrite (d : Dev) (data : Word) : Dev :=
  if d.on NOC_TGCTL.GO then d else d.put NOC_TGCTL.addr (data &&& 0xBFFFFFFF#32)

/-- The pattern of the test generator. -/
def tgPattern (n : Nat) : List Byte := (List.range n).map Config.testPattern

/-- The run of the test generator ends (R406): the echo store of the target holds the pattern, and `errs` mismatches, which
the links made, are counted. When TGADDR does not decode to the target that NOC_TGCTL names, the NI answers every request
with DECODE: each of the 2 × TGCOUNT error responses counts and no echo store is written (log entry 54). -/
def tgDone (d : Dev) (errs : Nat) : Dev :=
  if !d.on NOC_TGCTL.GO then d
  else
    let t := d.rd NOC_TGCTL.TGT
    let n := d.rd NOC_TGCTL.TGLEN + 1
    let c := d.rd NOC_TGCTL.TGCOUNT
    let a := d.rd NOC_TGADDR.ADDR
    let dest := d.rtMatch 15 a
    let d := if (List.range 4).any (fun k => d.on (NOC_PRBCTL.EN k)) then (List.range (2 * c)).foldl (fun d i =>
      probes d { init := 15, write := i % 2 == 0, addr := a, len := n, twin := false, loop := true, origin := 0,
                 dest := dest, prio := some (d.rd NOC_TGCTL.PRIO) }) d else d
    let arrives := dest.any (fun e => decide ((a + n - 1) / 0x1000 ≤ e.lim) && fld e.ctl 27 24 == t)
    let old := tget (fun _ => List.replicate 256 0#8) d.noc.echo t
    let d :=
      if c = 0 then d
      else if !arrives then decodeFail d 15 a
      else { d with noc := { d.noc with
        echo := tset (fun _ => List.replicate 256 0#8) d.noc.echo t (tgPattern n ++ old.drop n) } }
    ((d.bump NOC_TGSTAT.ERRS (if arrives then errs else 2 * c)).wr NOC_TGSTAT.DONE 1).wr NOC_TGCTL.GO 0

/-- Statistics of an NI, saturating (R402). -/
def statSink (s : NiStat) (binw lat bytes : Nat) : NiStat :=
  let b := min 7 (lat / max 1 binw)
  let l := min 0xFFFF lat
  { s with bytes := satAdd 32 s.bytes bytes, latMax := max s.latMax l,
           latMin := if s.latMin = 0 then l else min s.latMin l,
           hist := setNth 0 s.hist b (satAdd 16 (nth 0 s.hist b) 1) }

/-- The payload that a response and its request moved: the bytes of a read response, or of the write (R402). -/
def Packet.moved (p : Packet) : Nat := if p.op then 0 else if p.data.isEmpty then p.len else p.data.length

/-- The live statistics and slots of an initiator NI. -/
def Dev.ni (d : Dev) (ni : Nat) : NiStat := nth NiStat.idle d.noc.live ni

/-- The device with the statistics and slots of an NI replaced. -/
def Dev.setNi (d : Dev) (ni : Nat) (s : NiStat) : Dev :=
  { d with noc := { d.noc with live := setNth NiStat.idle d.noc.live ni s } }

/-- A response sinks into its slot (R398, R402, R407): the request with its TAG is no longer outstanding. -/
def respSink (d : Dev) (ni lat tag : Nat) : Dev :=
  let s := d.ni ni
  match s.slots.find? (fun p => p.tag == tag) with
  | none => d
  | some p =>
    let s := statSink s (d.acts NOC_STATCTL.BINW) lat p.moved
    d.setNi ni { s with out := s.out - 1, drop := s.drop && decide (1 < s.out), slots := s.slots.erase p }

/-- An access that an engine makes within one command is issued, answered and counted at its NI; its latency is not given
(R402; free value, log entry 82). -/
def statAccess (d : Dev) (ni moved : Nat) : Dev :=
  let s := d.ni ni
  d.draw.setNi ni
    (statSink { s with pkts := satAdd 32 s.pkts 1 } (d.acts NOC_STATCTL.BINW) (Config.freeWord d.seed).toNat moved)

/-- A request is admitted by its NI (R398): fewer outstanding than OUTST; counted. -/
def Dev.admits (d : Dev) (ni : Nat) : Bool :=
  decide ((d.ni ni).out < min 32 (d.acts (NOC_NICFG.OUTST ni)))

/-- The TAG of a new request: one of the 32 that no outstanding request of the NI has; which of them is open (free value). -/
def Dev.newTag (d : Dev) (ni : Nat) : Nat :=
  let used := (d.ni ni).slots.map Packet.tag
  let start := (Config.freeWord d.seed).toNat
  (((List.range 32).map (fun i => (start + i) % 32)).find? (fun t => !used.contains t)).getD 0

/-- The request counts as issued and outstanding, and its response stands in the reserved slot until it sinks (R402, R398). -/
def countIssue (d : Dev) (ni : Nat) (p : Packet) : Dev :=
  let s := d.ni ni
  d.setNi ni { s with out := s.out + 1, pkts := satAdd 32 s.pkts 1, slots := s.slots ++ [p] }

/-- A response slot of an NI is reserved for a read of the bridge (R398, R407). -/
def holdSlot (d : Dev) (ni : Nat) : Dev := d.setNi ni { d.ni ni with out := (d.ni ni).out + 1 }

/-- The response of that read has sunk and its slot is free (R398, R407). -/
def freeSlot (d : Dev) (ni : Nat) : Dev :=
  let s := d.ni ni
  d.setNi ni { s with out := s.out - 1, drop := s.drop && decide (1 < s.out) }

end Sys2Proof.Machine
end

