-- ==== Sys2Proof/Machine/Digest.lean ====
section
/-!
DEFINITION. The algorithms the manual names: SHA-256 and SHA-384 (FIPS 180-4), HMAC (FIPS 198-1, R446), the CRCs of
R95, R201 and R508, and the ECDSA P-384 signature check (FIPS 186-5, R65).
-/

namespace Sys2Proof.Machine

/-! CRCs. -/

/-- A reflected CRC register after one byte: `poly` is the reflected polynomial. -/
def crcStep (poly c b : Nat) : Nat :=
  (List.range 8).foldl (fun c _ => if c % 2 = 1 then (c / 2) ^^^ poly else c / 2) (c ^^^ b)

/-- CRC-16 of Modbus RTU over a byte string (R201). -/
def crc16 (bs : List Byte) : Nat := bs.foldl (fun c b => crcStep 0xA001 c b.toNat) 0xFFFF

/-- CRC-32 of IEEE 802.3 over a byte string (R508). -/
def crc32 (bs : List Byte) : Nat := bs.foldl (fun c b => crcStep 0xEDB88320 c b.toNat) 0xFFFFFFFF ^^^ 0xFFFFFFFF

/-- One byte of CRC-8 with polynomial 0x07, not reflected (R95). -/
def crc8Step (c b : Nat) : Nat :=
  (List.range 8).foldl (fun c _ => if 128 ≤ c then (c * 2 % 256) ^^^ 0x07 else c * 2) (c ^^^ b)

/-- CRC-8 of a byte string (R95). -/
def crc8 (bs : List Byte) : Nat := bs.foldl (fun c b => crc8Step c b.toNat) 0

/-! SHA-2. -/

/-- The first 40 round constants of SHA-384; the upper halves of the first 64 are those of SHA-256. -/
def shaK1 : List Nat :=
  [
   0x428A2F98D728AE22, 0x7137449123EF65CD, 0xB5C0FBCFEC4D3B2F, 0xE9B5DBA58189DBBC,
   0x3956C25BF348B538, 0x59F111F1B605D019, 0x923F82A4AF194F9B, 0xAB1C5ED5DA6D8118,
   0xD807AA98A3030242, 0x12835B0145706FBE, 0x243185BE4EE4B28C, 0x550C7DC3D5FFB4E2,
   0x72BE5D74F27B896F, 0x80DEB1FE3B1696B1, 0x9BDC06A725C71235, 0xC19BF174CF692694,
   0xE49B69C19EF14AD2, 0xEFBE4786384F25E3, 0x0FC19DC68B8CD5B5, 0x240CA1CC77AC9C65,
   0x2DE92C6F592B0275, 0x4A7484AA6EA6E483, 0x5CB0A9DCBD41FBD4, 0x76F988DA831153B5,
   0x983E5152EE66DFAB, 0xA831C66D2DB43210, 0xB00327C898FB213F, 0xBF597FC7BEEF0EE4,
   0xC6E00BF33DA88FC2, 0xD5A79147930AA725, 0x06CA6351E003826F, 0x142929670A0E6E70,
   0x27B70A8546D22FFC, 0x2E1B21385C26C926, 0x4D2C6DFC5AC42AED, 0x53380D139D95B3DF,
   0x650A73548BAF63DE, 0x766A0ABB3C77B2A8, 0x81C2C92E47EDAEE6, 0x92722C851482353B]

/-- The other 40 round constants. -/
def shaK2 : List Nat :=
  [
   0xA2BFE8A14CF10364, 0xA81A664BBC423001, 0xC24B8B70D0F89791, 0xC76C51A30654BE30,
   0xD192E819D6EF5218, 0xD69906245565A910, 0xF40E35855771202A, 0x106AA07032BBD1B8,
   0x19A4C116B8D2D0C8, 0x1E376C085141AB53, 0x2748774CDF8EEB99, 0x34B0BCB5E19B48A8,
   0x391C0CB3C5C95A63, 0x4ED8AA4AE3418ACB, 0x5B9CCA4F7763E373, 0x682E6FF3D6B2B8A3,
   0x748F82EE5DEFB2FC, 0x78A5636F43172F60, 0x84C87814A1F0AB72, 0x8CC702081A6439EC,
   0x90BEFFFA23631E28, 0xA4506CEBDE82BDE9, 0xBEF9A3F7B2C67915, 0xC67178F2E372532B,
   0xCA273ECEEA26619C, 0xD186B8C721C0C207, 0xEADA7DD6CDE0EB1E, 0xF57D4F7FEE6ED178,
   0x06F067AA72176FBA, 0x0A637DC5A2C898A6, 0x113F9804BEF90DAE, 0x1B710B35131C471B,
   0x28DB77F523047D84, 0x32CAAB7B40C72493, 0x3C9EBE0A15C9BEBC, 0x431D67C49C100D4C,
   0x4CC5D4BECB3E42B6, 0x597F299CFC657E2A, 0x5FCB6FAB3AD6FAEC, 0x6C44198C4A475817]

/-- What tells SHA-256 and SHA-384 apart: word width, rounds, rotations, start values and digest length. -/
structure ShaAlg where
  w : Nat
  rounds : List Nat
  big0 : Nat × Nat × Nat
  big1 : Nat × Nat × Nat
  small0 : Nat × Nat × Nat
  small1 : Nat × Nat × Nat
  start : List Nat
  outLen : Nat
  deriving DecidableEq, Repr

/-- SHA-256. -/
def sha256Alg : ShaAlg :=
  { w := 32, rounds := ((shaK1 ++ shaK2).take 64).map (fun k => k / 2 ^ 32), big0 := (2, 13, 22), big1 := (6, 11, 25),
    small0 := (7, 18, 3), small1 := (17, 19, 10),
    start := [0x6A09E667, 0xBB67AE85, 0x3C6EF372, 0xA54FF53A, 0x510E527F, 0x9B05688C, 0x1F83D9AB, 0x5BE0CD19],
    outLen := 32 }

/-- SHA-384. -/
def sha384Alg : ShaAlg :=
  { w := 64, rounds := shaK1 ++ shaK2, big0 := (28, 34, 39), big1 := (14, 18, 41), small0 := (1, 8, 7),
    small1 := (19, 61, 6),
    start := [0xCBBB9D5DC1059ED8, 0x629A292A367CD507, 0x9159015A3070DD17, 0x152FECD8F70E5939,
              0x67332667FFC00B31, 0x8EB44A8768581511, 0xDB0C2E0D64F98FA7, 0x47B5481DBEFA4FA4],
    outLen := 48 }

/-- Three rotations combined by XOR. -/
def rot3 (w : Nat) (r : Nat × Nat × Nat) (x : BitVec w) : BitVec w :=
  x.rotateRight r.1 ^^^ x.rotateRight r.2.1 ^^^ x.rotateRight r.2.2

/-- Two rotations and a shift combined by XOR. -/
def rot2s (w : Nat) (r : Nat × Nat × Nat) (x : BitVec w) : BitVec w :=
  x.rotateRight r.1 ^^^ x.rotateRight r.2.1 ^^^ (x >>> r.2.2)

/-- The message schedule, newest word first: `n` further words. -/
def shaExpand (a : ShaAlg) : Nat → List (BitVec a.w) → List (BitVec a.w)
  | 0, l => l
  | n + 1, l =>
    shaExpand a n ((rot2s a.w a.small1 (nth 0 l 1) + nth 0 l 6 + rot2s a.w a.small0 (nth 0 l 14) + nth 0 l 15) :: l)

/-- One round on the eight working variables. -/
def shaRound (a : ShaAlg) (v : List (BitVec a.w)) (kw : Nat × BitVec a.w) : List (BitVec a.w) :=
  let x := fun i => nth (0 : BitVec a.w) v i
  let t1 := x 7 + rot3 a.w a.big1 (x 4) + ((x 4 &&& x 5) ^^^ (~~~x 4 &&& x 6)) + BitVec.ofNat a.w kw.1 + kw.2
  let t2 := rot3 a.w a.big0 (x 0) + ((x 0 &&& x 1) ^^^ (x 0 &&& x 2) ^^^ (x 1 &&& x 2))
  [t1 + t2, x 0, x 1, x 2, x 3 + t1, x 4, x 5, x 6]

/-- The words of a block, most significant byte first. -/
def shaWords (a : ShaAlg) (block : List Byte) : List (BitVec a.w) :=
  (List.range 16).map (fun i => BitVec.ofNat a.w (beNat ((block.drop (i * (a.w / 8))).take (a.w / 8))))

/-- The hash value after one block. -/
def shaBlock (a : ShaAlg) (h : List (BitVec a.w)) (block : List Byte) : List (BitVec a.w) :=
  let ws := (shaExpand a (a.rounds.length - 16) (shaWords a block).reverse).reverse
  let v := (a.rounds.zip ws).foldl (shaRound a) h
  List.zipWith (· + ·) h v

/-- The padded message. -/
def shaPad (a : ShaAlg) (m : List Byte) : List Byte :=
  let blk := 2 * a.w
  let lenB := a.w / 4
  let z := (blk - (m.length + 1 + lenB) % blk) % blk
  m ++ [0x80#8] ++ List.replicate z 0#8 ++ beBytes lenB (8 * m.length)

/-- The blocks of a padded message. -/
def shaBlocks (blk : Nat) : Nat → List Byte → List (List Byte)
  | 0, _ => []
  | n + 1, bs => bs.take blk :: shaBlocks blk n (bs.drop blk)

/-- The digest of a message. -/
def sha (a : ShaAlg) (m : List Byte) : List Byte :=
  let p := shaPad a m
  let h := (shaBlocks (2 * a.w) (p.length / (2 * a.w)) p).foldl (shaBlock a) (a.start.map (BitVec.ofNat a.w))
  ((h.flatMap (fun x => beBytes (a.w / 8) x.toNat)).take a.outLen)

/-- SHA-256 of a byte string. -/
def sha256 (m : List Byte) : List Byte := sha sha256Alg m

/-- SHA-384 of a byte string. -/
def sha384 (m : List Byte) : List Byte := sha sha384Alg m

/-- HMAC of a message under a key; a key longer than a block is hashed first (FIPS 198-1). -/
def hmac (a : ShaAlg) (key m : List Byte) : List Byte :=
  let blk := 2 * a.w
  let k := if blk < key.length then sha a key else key
  let k := k ++ List.replicate (blk - k.length) 0#8
  sha a (k.map (· ^^^ 0x5C#8) ++ sha a (k.map (· ^^^ 0x36#8) ++ m))

/-- HMAC-SHA-256. -/
def hmac256 (key m : List Byte) : List Byte := hmac sha256Alg key m

/-! ECDSA over P-384. -/

/-- The prime of the field. -/
def ecP : Nat := 2 ^ 384 - 2 ^ 128 - 2 ^ 96 + 2 ^ 32 - 1

/-- The order of the base point. -/
def ecN : Nat := 0xFFFFFFFFFFFFFFFFFFFFFFFFFFFFFFFFFFFFFFFFFFFFFFFFC7634D81F4372DDF581A0DB248B0A77AECEC196ACCC52973

/-- The base point. -/
def ecG : Nat × Nat :=
  (0xAA87CA22BE8B05378EB1C71EF320AD746E1D3B628BA79B9859F741E082542A385502F25DBF55296C3A545E3872760AB7,
   0x3617DE4A96262C6F5D9E98BF9292DC29F8F41DBD289A147CE9DA3113B5F0B8C00A60B1CE1D7E819D7A431D7C90EA0E5F)

/-- `b ^ e` modulo `m`, the exponent taken bit by bit; `n` bounds its bits. -/
def powMod : Nat → Nat → Nat → Nat → Nat
  | 0, _, _, m => 1 % m
  | n + 1, b, e, m =>
    let r := powMod n (b * b % m) (e / 2) m
    if e % 2 = 1 then b * r % m else r

/-- The inverse modulo a prime. -/
def invMod (a m : Nat) : Nat := powMod 384 (a % m) (m - 2) m

/-- The sum of two points; `none` is the point at infinity. -/
def ecAdd : Option (Nat × Nat) → Option (Nat × Nat) → Option (Nat × Nat)
  | none, q => q
  | p, none => p
  | some (x1, y1), some (x2, y2) =>
    if x1 = x2 ∧ (y1 + y2) % ecP = 0 then none
    else
      let l := if x1 = x2 then (3 * x1 * x1 + (ecP - 3)) * invMod (2 * y1) ecP % ecP
        else (y2 + ecP - y1) * invMod (x2 + ecP - x1) ecP % ecP
      let x := (l * l + 2 * ecP - x1 - x2) % ecP
      some (x, (l * (x1 + ecP - x) + ecP - y1) % ecP)

/-- A multiple of a point; `n` bounds the bits of the factor. -/
def ecMul : Nat → Nat → Option (Nat × Nat) → Option (Nat × Nat)
  | 0, _, _ => none
  | n + 1, k, p =>
    let r := ecMul n (k / 2) (ecAdd p p)
    if k % 2 = 1 then ecAdd p r else r

/-- The signature r ‖ s verifies over a message under the fused public key (R65). -/
def signatureOk (m sig : List Byte) : Bool :=
  let r := beNat (sig.take 48)
  let s := beNat (sig.drop 48)
  let e := beNat (sha384 m)
  if r = 0 ∨ ecN ≤ r ∨ s = 0 ∨ ecN ≤ s then false
  else
    let w := invMod s ecN
    let q := some (Config.signerX.toNat, Config.signerY.toNat)
    match ecAdd (ecMul 384 (e * w % ecN) (some ecG)) (ecMul 384 (r * w % ecN) q) with
    | some (x, _) => x % ecN == r
    | none => false

end Sys2Proof.Machine
end

