-- ==== Sys2Proof/Machine/Records.lean ====
section
/-!
DEFINITION. Logbook records, seals and the walk that finds the last record (R459 to R468), and the Vestibule slots:
their contents, responses and the events of logged commands (R113 to R122).
-/

namespace Sys2Proof.Machine

/-! Logbook records. -/

/-- Bytes of a record with a body of `bw` words (R460). -/
def recSize (bw : Nat) : Nat := 16 + 16 * ((bw + 3) / 4) + 32

/-- First and last offset of the record area (Table LOG.2). -/
def logBase : Nat := 0x1000
def logEnd : Nat := 0xF0000

/-- The slot-0 key (R455). -/
def slot0Bytes : List Byte := leBytes 32 Config.slot0Key.toNat

/-- The LINK before the first record (R463). -/
def firstLink : List Byte := sha256 chainHeader

/-- The 16 header bytes of the next record (Table LOG.4). -/
def Dev.recHeader (d : Dev) (kind bw evseq : Nat) : List Byte :=
  leBytes 2 0x4C47 ++ [b8 kind, b8 bw] ++ leBytes 4 d.wl.logIndex ++ leBytes 2 d.wl.logBoot ++ leBytes 2 evseq
    ++ leBytes 4 d.timeUs

/-- The LINK of the next record, and all its bytes (R460, R463). -/
def Dev.recLink (d : Dev) (kind evseq : Nat) (body : List Word) : List Byte :=
  sha256 (d.wl.logLink ++ d.recHeader kind body.length evseq ++ body.flatMap wordBytes)
def Dev.recBytes (d : Dev) (kind evseq : Nat) (body : List Word) : List Byte :=
  let b := body.flatMap wordBytes
  d.recHeader kind body.length evseq ++ b ++ List.replicate (recSize body.length - 48 - b.length) 0#8
    ++ d.recLink kind evseq body

/-- The next record of `bw` body words fits before the end of the record area, and the offset at which it stands (R462). -/
def Dev.recFits (d : Dev) (bw : Nat) : Bool := decide (d.wl.logOff + recSize bw ≤ logEnd)
def Dev.recOffset (d : Dev) (bw : Nat) : Nat := if d.recFits bw then d.wl.logOff else logBase

/-- The first `k` word writes of the next record, in their order: the wrap marker where the record wraps, the words from word
1 on, and word 0 last (R461, R462). -/
def recordPart (d : Dev) (kind evseq : Nat) (body : List Word) (k : Nat) : Dev :=
  let bs := d.recBytes kind evseq body
  let o := d.recOffset body.length
  let d := if !d.recFits body.length && decide (d.wl.logOff < logEnd) then d.logWrite d.wl.logOff (leBytes 4 0) else d
  let d := d.logWrite (o + 4) ((bs.drop 4).take (4 * k))
  if bs.length ≤ 4 * k then d.logWrite o (bs.take 4) else d

/-- A record is written: its words, then HEADPTR, chain and counts (R460 to R463); `soon` asks for a seal within 10 ms
(R465). After a write failure no record is written until the next start (R474). -/
def logAppend (d : Dev) (kind evseq : Nat) (soon : Bool) (body : List Word) : Dev :=
  if d.wl.logStop then d
  else
    let w := d.wl
    let sz := recSize body.length
    let o := d.recOffset body.length
    let link := d.recLink kind evseq body
    let d := (recordPart d kind evseq body sz).logWrite 0x40 (leBytes 4 o)
    { d with wl := { w with
        logOff := o + sz, logLink := link, logIndex := (w.logIndex + 1) % 2 ^ 32,
        logBoot := if kind = 0x01 then (w.logBoot + 1) % 2 ^ 16 else w.logBoot,
        logOpen := if kind = 0x05 then w.logOpen else w.logOpen + 1,
        logOldest := if kind = 0x05 then w.logOldest else some (w.logOldest.getD d.now),
        logSoon := if soon then some (w.logSoon.getD d.now) else w.logSoon } }

/-- A seal is due to be possible: at least one record is not sealed, and seals are not stopped (R465, R458). -/
def Dev.canSeal (d : Dev) : Bool := decide (0 < d.wl.logOpen) && !d.wl.noSeals && !d.wl.logStop

/-- INDEX of the last record before the next one. -/
def Dev.lastIndex (d : Dev) : Nat := (2 ^ 32 + d.wl.logIndex - 1) % 2 ^ 32

/-- The body of the next SEAL record, with the slot-0 MAC (R464). -/
def Dev.sealBody (d : Dev) : List Word :=
  let first := match d.wl.logSealed with | none => 0 | some l => (l + 1) % 2 ^ 32
  let head := [w32 first, w32 d.lastIndex, Config.keyId0, w32 d.wl.logSealNo]
  head ++ bytesWords (hmac256 slot0Bytes (d.recHeader 0x05 12 0 ++ head.flatMap wordBytes ++ d.wl.logLink))

/-- A SEAL record is written (R464). -/
def logSeal (d : Dev) : Dev :=
  if !d.canSeal then d
  else
    let w := d.wl
    let last := d.lastIndex
    let d := logAppend d 0x05 0 false d.sealBody
    { d with wl := { d.wl with logSealed := some last, logSealNo := (w.logSealNo + 1) % 2 ^ 32, logOpen := 0,
                               logOldest := none, logSoon := none } }

/-- A complete record stands at an offset (R461, Table LOG.4): its kind, body words and index. -/
def Dev.recAt (d : Dev) (o : Nat) : Option (Nat × Nat × Nat) :=
  let h := d.logBytes o 8
  let kind := leAt h 2 1
  let bw := leAt h 3 1
  if leAt h 0 2 = 0x4C47 ∧ 1 ≤ kind ∧ kind ≤ 5 ∧ bw ≤ 48 ∧ o + recSize bw ≤ logEnd then some (kind, bw, leAt h 4 4)
  else none

/-- Offset of the last complete record of a walk from the record at `o` (R468, R469 step 4). -/
def Dev.walkLog (d : Dev) : Nat → Nat → Nat → Nat
  | 0, o, _ => o
  | n + 1, o, idx =>
    match d.recAt o with
    | none => o
    | some (_, bw, _) =>
      let e := o + recSize bw
      let e := if logEnd ≤ e ∨ leNat (d.logBytes e 4) = 0 then logBase else e
      match d.recAt e with
      | some (_, _, i) => if i = (idx + 1) % 2 ^ 32 then d.walkLog n e i else o
      | none => o

/-- At its start, Wailith finds where the chain goes on (R468). What it knows of the seals, the model keeps in its own
fields (log entry 22). -/
def logStart (d : Dev) : Dev :=
  let h := leNat (d.logBytes 0x40 4)
  let w := { d.wl with logStop := false, cmds := [], logOldest := if d.wl.logOpen = 0 then none else some d.now,
                       logSoon := if d.wl.logOpen = 0 then none else some d.now }
  match d.recAt h with
  | none => { d with wl := { w with logOff := logBase, logLink := firstLink, logIndex := 0, logBoot := 0,
                                    logSealed := none, logSealNo := 0, logOpen := 0 } }
  | some (_, _, i) =>
    let o := d.walkLog 20480 h i
    match d.recAt o with
    | none => { d with wl := w }
    | some (kind, bw, i) =>
      let bn := leNat (d.logBytes (o + 8) 2)
      { d with wl := { w with logOff := o + recSize bw, logLink := d.logBytes (o + recSize bw - 32) 32,
                              logIndex := (i + 1) % 2 ^ 32,
                              logBoot := if kind = 0x01 then (bn + 1) % 2 ^ 16 else bn } }

/-- The four words of an EVQ entry (R167). -/
def Ev.words (e : Ev) : List Word :=
  [w32 (2 ^ 16 * e.seq + 2 ^ 8 * e.block + e.code), w32 (2 ^ 31 * bit e.gap + 2 ^ 30 * bit e.crit + e.time), e.d0, e.d1]

/-- The logging policy has the bit of a BLOCK code set (R466). -/
def Dev.policy (d : Dev) (block : Nat) : Bool := (d.rd (TWN_STORE.VALUE (56 + block / 32))).testBit (block % 32)

/-- The event is one that Wailith records: CRIT or GAP, selected by the policy, a command, an inspection access, a Landing
save, or a join quarantined for its budget (R466, R511, R337). -/
def Dev.selects (d : Dev) (e : Ev) : Bool :=
  e.crit || e.gap || d.policy e.block ||
    (e.block == 0x80 && (e.code == 0x01 || e.code == 0x02 || e.code == 0x03
      || e.code == (Config.evCode .budgetJoin).toNat))

/-- What Wailith writes next, as kind, sequence number and body: the record of the first selected event of the EVQ, else a
seal that is due to be possible (R465, R466). -/
def Dev.nextRecord (d : Dev) : Option (Nat × Nat × List Word) :=
  match d.evq.dropWhile (fun e => !d.selects e) with
  | e :: _ =>
    if e.block = 0x80 ∧ e.code = 0x01 then (d.wl.cmds.find? (fun c => c.seq == e.seq)).map (fun c => (c.kind, e.seq, c.body))
    else some (2, e.seq, e.words)
  | [] => if d.canSeal then some (5, 0, d.sealBody) else none

/-- The landing trigger finds Wailith with `k` words of a record written: they stay, and the record has no word 0 unless all
are (R513). In RUN only, where Wailith writes records. -/
def logCut (d : Dev) (k : Nat) : Dev :=
  if d.mode ≠ .run ∨ d.wl.logStop then d
  else match d.nextRecord with
  | some (kind, seq, body) => recordPart d kind seq body k
  | none => d

/-! Vestibule slots. -/

/-- State of a slot (Table VST.1). -/
def Dev.slot (d : Dev) (n : Nat) : Nat := nth 0 d.vst.st n

/-- The device with a slot state set. -/
def Dev.setSlot (d : Dev) (n s : Nat) : Dev := { d with vst := { d.vst with st := setNth 0 d.vst.st n s } }

/-- `k` bytes of a command slot from a byte offset on. -/
def Dev.cmdBytes (d : Dev) (slot o k : Nat) : List Byte :=
  let ws := (List.range ((o + k + 3) / 4 - o / 4)).flatMap (fun i => wordBytes (d.ld (VST_CMD.addr (64 * slot + o / 4 + i))))
  sliceB ws (o % 4) k

/-- Little-endian number of `k` bytes of a command slot. -/
def Dev.cmdAt (d : Dev) (slot o k : Nat) : Nat := leNat (d.cmdBytes slot o k)

/-- Header fields of a command (Table VST.2). -/
def Dev.cmdOp (d : Dev) (slot : Nat) : Nat := d.cmdAt slot 0 1
def Dev.cmdTag (d : Dev) (slot : Nat) : Nat := d.cmdAt slot 2 2
def Dev.cmdLen (d : Dev) (slot : Nat) : Nat := d.cmdAt slot 4 2

/-- The payload of a command. -/
def Dev.payload (d : Dev) (slot : Nat) : List Byte := d.cmdBytes slot 8 (min 248 (d.cmdLen slot))

/-- The 8 bytes of a response header (Table VST.3). -/
def Dev.rspHeader (d : Dev) (slot status len evseq : Nat) : List Byte :=
  [b8 (d.cmdOp slot), b8 status] ++ leBytes 2 (d.cmdTag slot) ++ leBytes 2 len ++ leBytes 2 evseq

/-- Response bytes written from word `w` on; bytes of the last word that the response does not reach keep their value. -/
def putRsp (d : Dev) : Nat → List Byte → Dev
  | _, [] => d
  | w, a :: b :: c :: e :: r => putRsp (d.put (VST_RSP.addr w) (w32 (leNat [a, b, c, e]))) (w + 1) r
  | w, r => d.put (VST_RSP.addr w) (w32 (leNat (r ++ (wordBytes (d.ld (VST_RSP.addr w))).drop r.length)))

/-- Wailith writes a response and the slot becomes DONE (R113, R121); counters and service times (VST_CNT, VST_SVCTIME). -/
def respond (d : Dev) (slot status evseq : Nat) (pl : List Byte) (deferred : Bool) : Dev :=
  let d := putRsp d (64 * slot) (d.rspHeader slot status pl.length evseq ++ pl)
  let d := (d.setSlot slot 3).bump VST_CNT.DONE 1
  let d := if 2 ≤ status then d.bump VST_CNT.REJECT 1 else d
  let d := if status = 0x0D then d.bump VST_CNT.ABORT 1 else d
  let t := min 0xFFFF ((d.now - nth 0 d.vst.rung slot) / 1000)
  let d := d.wr VST_SVCTIME.LAST t
  if deferred then d else d.wr VST_SVCTIME.MAX (max t (d.rd VST_SVCTIME.MAX))

/-- Words of a COMMAND record: both headers and the first 176 payload bytes at most (Table LOG.5). -/
def Dev.cmdRecord (d : Dev) (slot status len evseq : Nat) (payload : List Byte) : List Word :=
  bytesWords (d.cmdBytes slot 0 8 ++ d.rspHeader slot status len evseq ++ payload.take 176)

/-- The server posts the event of a logged command (R122), and Wailith owes its record (R466); in LIMP, under the BootROM
LIMP service, no record is written (R54, R467; log entry 23). -/
def postCommand (d : Dev) (kind : Nat) (body : Nat → List Word) : Nat × Dev :=
  let seq := d.rd EVQ_NEXTSEQ.SEQ
  let n := d.evq.length
  let d := evqAppend d 0x80 0x01 false (Config.evData .command seq 0) (Config.evData .command seq 1)
  let d := d.wr EVQ_POSTSEQ.SEQ seq
  let d := if n < d.evq.length ∧ d.rd VST_FWSTAT.SERVER ≠ 2 then
    { d with wl := { d.wl with cmds := d.wl.cmds ++ [{ seq := seq, kind := kind, body := body seq }] } } else d
  (seq, d)

/-- A logged command completes: event, record owed, response (R122). -/
def respondLogged (d : Dev) (slot status : Nat) (pl : List Byte) (deferred : Bool) (recPayload : List Byte) : Dev :=
  let (seq, d) := postCommand d 0x03 (fun seq => d.cmdRecord slot status pl.length seq recPayload)
  respond d slot status seq pl deferred

/-- A command of a logged row completes with a status: OK and OK_CLAMPED are logged, other statuses are not (R122). -/
def complete (d : Dev) (slot status : Nat) (pl : List Byte) (deferred : Bool) : Dev :=
  if status < 2 then respondLogged d slot status pl deferred (d.payload slot) else respond d slot status 0 pl deferred

/-- The commands that a frame start has completed get their responses, after the hardware events of its cycle (R122, R166). -/
def answerDue (d : Dev) : Dev :=
  d.wl.due.foldl (fun d x => complete d x.1 x.2.1 x.2.2 true) { d with wl := { d.wl with due := [] } }

/-- The source region of a command that reads the Atrium as a whole, from its doorbell to its response (R127, R342). -/
def Dev.sourceOf (d : Dev) (slot : Nat) : Option (Nat × Nat) :=
  if (d.slot slot = 1 ∨ d.slot slot = 2) ∧ (d.cmdOp slot = 0x10 ∨ d.cmdOp slot = 0x12) then
    some (d.cmdAt slot 8 4, d.cmdAt slot 12 4)
  else none

/-- The host writes Atrium bytes: the commands whose source region it overwrites will load undefined content (R151). -/
def hostTouch (d : Dev) (init a len : Nat) : Dev :=
  if init ≠ 1 then d
  else
    let hit := maskFrom 4 (fun n => match d.sourceOf n with
      | some (b, m) => decide (a < b + m) && decide (b < a + len)
      | none => false)
    if hit = 0 then d else { d with vst := { d.vst with touched := d.vst.touched ||| hit } }

/-- Every BUSY slot gets ABORTED, and what Wailith kept of its commands is dropped (R146). -/
def abortBusy (d : Dev) : Dev :=
  let d := (List.range 4).foldl (fun d n => if d.slot n = 2 then respond d n 0x0D 0 [] true else d) d
  { d with wl := { d.wl with dozeWait := none, swSlot := none, svcSlot := [], testSlot := [],
                             repSlot := none, due := [], cfgSlot := none } }

end Sys2Proof.Machine
end

