-- ==== Sys2Proof/Machine/Memory.lean ====
section
/-!
DEFINITION. The Atrium and the Logbook memory as targets: windows, bank state and ECC (R412 to R428), and the
commands of their rows.
-/

namespace Sys2Proof.Machine

/-- Number of an 8-byte Atrium word. -/
def wordOf (a : Nat) : Nat := a / 8

/-- The words an access touches (R412). -/
def wordsOf (a len : Nat) : List Nat :=
  if len = 0 then [] else (List.range (wordOf (a + len - 1) + 1 - wordOf a)).map (fun i => wordOf a + i)

/-- The 4 KiB pages an access touches. -/
def pagesOf (a len : Nat) : List Nat :=
  if len = 0 then [] else (List.range ((a + len - 1) / 0x1000 + 1 - a / 0x1000)).map (fun i => a / 0x1000 + i)

/-- Some window opens a page to an initiator for the given direction (R425). -/
def Dev.windowOpen (d : Dev) (init : Nat) (write : Bool) (page : Nat) : Bool :=
  (List.range 32).any (fun k =>
    decide (d.rd (ATC_WINBASE.BASE k) ≤ page) && decide (page ≤ d.rd (ATC_WINLIM.LIMIT k)) &&
      (if write then (d.rd (ATC_WINPERM.WPERM k)).testBit init else (d.rd (ATC_WINPERM.RPERM k)).testBit init))

/-- The whole access lies in open windows; initiator 0 is never rejected (R425). -/
def Dev.windowsPermit (d : Dev) (init : Nat) (write : Bool) (a len : Nat) : Bool :=
  init == 0 || (pagesOf a len).all (d.windowOpen init write)

/-- Bank n serves an initiator (R420). -/
def Dev.bankServes (d : Dev) (init n : Nat) : Bool :=
  match d.svcOf (.atb n) with
  | .inService => true
  | .underTest => init == 0
  | _ => false

/-- Every bank the access touches serves the initiator. -/
def Dev.banksServe (d : Dev) (init a len : Nat) : Bool := (pagesOf a len).all (fun p => d.bankServes init (p % 16))

/-- The window words whose halves disagree; only a stored half can (R437). -/
def Dev.badWindows (d : Dev) : List Nat :=
  ((d.regs.map (fun e => if e.1 % 0x1000 < 0x800 then e.1 else e.1 - 0x800)).filter
    (fun a => decide (0x4000C200 ≤ a) && decide (a < 0x4000C400) && !d.twinOk a)).eraseDups

/-- The windows are used for an access of an initiator other than 0 (R425, R437). -/
def useWindows (d : Dev) (init : Nat) : Dev :=
  if init = 0 then d else d.badWindows.foldl (fun d a => twinFault d 5 a) d

/-- Window rejection: ATC_ERR.WINDOW, and the first one since it was zero is captured (R426). -/
def windowReject (d : Dev) (init : Nat) (write : Bool) (a : Nat) : Dev :=
  let first := !d.on ATC_ERR.WINDOW
  let d := d.wr ATC_ERR.WINDOW 1
  if first then (d.put ATC_WINERR.addr (w32 (bit write * 256 + init))).put ATC_WINERRADDR.addr (w32 a) else d

/-- ECC state of a word: 0 good, 1 single-bit error, 2 uncorrectable. -/
def Dev.eccOf (d : Dev) (w : Nat) : Nat := tget (fun _ => 0) d.atrErr w

/-- Reads of words under the ECC rules of R417: each corrected word counts and is queued for write-back, each
uncorrectable word counts, and the first of them since UNC was zero is captured. -/
def eccReads (d : Dev) (ws : List Nat) : Dev :=
  ws.foldl (fun d w =>
    match d.eccOf w with
    | 0 => d
    | 1 => { (d.wr ATC_ERR.CORR 1).bump ATC_ECCCNT.CORR 1 with
             atrFix := if d.atrFix.contains w then d.atrFix else d.atrFix ++ [w] }
    | _ =>
      let first := !d.on ATC_ERR.UNC
      let d := (d.wr ATC_ERR.UNC 1).bump ATC_ECCCNT.UNC 1
      if first then d.put ATC_ECCADDR.addr (w32 (8 * w)) else d) d

/-- The words of an access that it covers only in part (R414). -/
def partWords (a len : Nat) : List Nat :=
  (wordsOf a len).filter (fun w => decide (8 * w < a) || decide (a + len < 8 * w + 8))

/-- Between a DEV reset and the clear of boot step 0x3 a word that no access has met holds any data and any check bits: it
takes free bytes and a free ECC state when the first access meets it (R417; log entry 9). -/
def meetWord (d : Dev) (w : Nat) : Dev :=
  if tget (fun _ => false) d.atrKnown w then d
  else
    { d with seed := d.seed + 9, atrKnown := tset (fun _ => false) d.atrKnown w true,
             atr := atrPut d.atr (8 * w) ((List.range 8).map (fun i => Config.freeByte (d.seed + i))),
             atrErr := tset (fun _ => 0) d.atrErr w ((Config.freeWord (d.seed + 8)).toNat % 3) }
def meetWords (d : Dev) (ws : List Nat) : Dev := if d.atrUndef then ws.foldl meetWord d else d

/-- One access at the Atrium, checked whole and then served word by word (R412 to R417, R420, R425, R426). An access that
runs past the end of the Atrium is refused whole (R24). -/
def atriumServe (d : Dev) (init : Nat) (write : Bool) (a len : Nat) (data : List Byte) : Resp × Dev :=
  let d := useWindows d init
  if 0x400000 < a + len then (.err .target, d)
  else if !d.windowsPermit init write a len then (.err .window, windowReject d init write a)
  else if !d.banksServe init a len then (.err .offline, d)
  else if write then
    let ps := partWords a len
    let d := eccReads (meetWords d (wordsOf a len)) ps
    if ps.any (fun w => d.eccOf w == 2) then (.err .ecc, d)
    else
      let ws := wordsOf a len
      (.ok [], hostTouch { d with atr := atrPut d.atr a (data.take len),
                                  atrErr := tdrop (fun w => ws.contains w) d.atrErr,
                                  atrFix := d.atrFix.filter (fun w => !ws.contains w) } init a len)
  else
    let ws := wordsOf a len
    let d := eccReads (meetWords d ws) ws
    if ws.any (fun w => d.eccOf w == 2) then (.err .ecc, d) else (.ok (d.atrBytes a len), d)

/-- Bytes of an answer; an error response carries none (R387). -/
def Resp.bytes : Resp → List Byte
  | .ok bs => bs
  | .err _ => []

/-- The access succeeded. -/
def Resp.good : Resp → Bool
  | .ok _ => true
  | .err _ => false

/-- The payload that an access moves: of a write its bytes, of a read the bytes of its response (R402). -/
def movedBytes (write : Bool) (len : Nat) (r : Resp) : Nat := if write then len else r.bytes.length

/-- An Atrium access over the Corridor of an initiator that acts for a port or a peer (R385, R388, R402). An entry that leads
its address to another target reaches a target that holds no such address: TARGET (log entry 44). -/
def atriumAccessFor (d : Dev) (init origin : Nat) (write : Bool) (a len : Nat) (data : List Byte) : Resp × Dev :=
  match nocIssue d init write a len false origin with
  | (some 5, d) => let r := atriumServe d init write a len data; (r.1, statAccess r.2 init (movedBytes write len r.1))
  | (some _, d) => (.err .target, statAccess d init (if write then len else 0))
  | (none, d) => (.err .decode, d)

/-- An Atrium access of any other initiator over the Corridor. -/
def atriumAccess (d : Dev) (init : Nat) (write : Bool) (a len : Nat) (data : List Byte) : Resp × Dev :=
  atriumAccessFor d init 0 write a len data

/-- A corrected word is written back with a fresh code (R417). -/
def eccWriteback (d : Dev) (w : Nat) : Dev :=
  if d.atrFix.contains w then
    { d with atrFix := d.atrFix.filter (· != w),
             atrErr := if d.eccOf w = 1 then tdrop (· == w) d.atrErr else d.atrErr }
  else d

/-- Byte address of word `i` of a bank: address bits [15:12] select the bank (R412). -/
def bankWord (bank i : Nat) : Nat := 8192 * (i / 512) + bank * 512 + i % 512

/-- A bank is on (R419). -/
def Dev.bankOn (d : Dev) (n : Nat) : Bool := d.svcOf (.atb n) != .outOfService

/-- The patrol read of a bank: its next word in ascending order, under the rules of R417 (R418). -/
def patrolRead (d : Dev) (bank : Nat) : Dev :=
  if bank < 16 ∧ d.on ATC_SCRUB.EN ∧ d.bankOn bank ∧ d.coreOn then
    let i := tget (fun _ => 0) d.patrol bank
    let d := { d with patrol := tset (fun _ => 0) d.patrol bank ((i + 1) % 32768) }
    eccReads d [bankWord bank i]
  else d

/-- Every byte of a bank becomes zero with a correct code (R419). -/
def bankZero (d : Dev) (n : Nat) : Dev :=
  { d with atr := tdrop (fun a => a / 0x1000 % 16 == n) d.atr,
           atrErr := tdrop (fun w => w / 512 % 16 == n) d.atrErr,
           atrFix := d.atrFix.filter (fun w => w / 512 % 16 != n),
           atrOff := clrBit d.atrOff n }

/-! Logbook memory. -/

/-- An initiator may write the Logbook memory: initiator 0, and initiator 14 during the Landing save (R392). -/
def Dev.logWriter (d : Dev) (init : Nat) : Bool := init == 0 || (init == 14 && d.mode == .landing)

/-- A Corridor write of the Logbook memory (R392, R424). -/
def logbookWrite (d : Dev) (init off : Nat) (data : List Byte) : Resp × Dev :=
  if !d.logWriter init then (.err .source, d)
  else if off % 4 ≠ 0 ∨ data.length % 4 ≠ 0 then (.err .target, d)
  else (.ok [], d.logWrite off data)

/-- A Corridor read of the Logbook memory: any length and alignment; an uncorrectable word gives an error (R423). -/
def logbookRead (d : Dev) (off len : Nat) : Resp :=
  if (List.range ((off + len + 3) / 4 - off / 4)).any (fun i => tget (fun _ => 0) d.logErr (off / 4 + i) == 2)
  then .err .ecc
  else .ok (d.logBytes off len)

end Sys2Proof.Machine
end

