-- ==== Sys2Proof/Machine/Pools.lean ====
section
/-!
DEFINITION. The buffer pools as operations: enabling, allocation, FREE and GIVE with their checks, chains, rings,
reclaim and rebuild (R240 to R264).
-/

namespace Sys2Proof.Machine

/-- Buffer size of a pool (Table BPM.1). -/
def bufSize (p : Nat) : Nat := match p with | 0 => 64 | 1 => 256 | 2 => 1024 | 3 => 4096 | _ => 32

/-- Maximum COUNT of a pool (Table BPM.1). -/
def maxCount (p : Nat) : Nat := match p with | 0 => 4096 | 1 => 2048 | 2 => 1024 | 3 => 256 | _ => 32768

/-- An owner ID that R243 defines. -/
def ownerValid (o : Nat) : Bool :=
  (decide (1 ≤ o) && decide (o ≤ 4)) || (decide (8 ≤ o) && decide (o ≤ 11)) || (decide (0x10 ≤ o) && decide (o < 0x40))

/-- Owner ID of a Corridor initiator, if it has one (R244, R385). -/
def ownerOfInit (init : Nat) : Option Nat :=
  match init with
  | 0 => some 1 | 1 => some 2 | 2 => some 3 | 4 => some 4 | 8 => some 8 | 9 => some 9 | 10 => some 10
  | 11 => some 11 | _ => none

/-- The BPM serves operations (R264). -/
def Dev.bpmOn (d : Dev) : Bool := d.mode != .landing && d.mode != .resting

/-- LOST in the owner table (R243). -/
def lost : Nat := 256

/-- Owner-table key of buffer `i` of pool `p`. -/
def bufKey (p i : Nat) : Nat := 65536 * p + i

/-- A pool beyond its registers. -/
def Dev.pool (d : Dev) (p : Nat) : Pool := nth Pool.empty d.bpm.pools p

/-- The device with a pool replaced. -/
def Dev.setPool (d : Dev) (p : Nat) (x : Pool) : Dev := { d with bpm := { d.bpm with pools := setNth Pool.empty d.bpm.pools p x } }

/-- Owner-table entry: 0 FREE, an owner ID when HELD, 256 LOST. -/
def Dev.ownerAt (d : Dev) (key : Nat) : Nat := tget (fun _ => 0) d.bpm.owner key

/-- The device with an owner-table entry set. -/
def Dev.setOwner (d : Dev) (key o : Nat) : Dev :=
  { d with bpm := { d.bpm with owner := tset (fun _ => 0) d.bpm.owner key o } }

/-- Pool p is enabled. -/
def Dev.poolEn (d : Dev) (p : Nat) : Bool := d.on (BPM_POOLCTL.EN p)

/-- Pool p is FAULTED. -/
def Dev.poolFaulted (d : Dev) (p : Nat) : Bool := (d.rd BPM_STAT.FAULTED).testBit p

/-- Pool p is initialising or rebuilding. -/
def Dev.poolInit (d : Dev) (p : Nat) : Bool := (d.rd BPM_STAT.INIT).testBit p

/-- COUNT and BASE of a pool. -/
def Dev.poolCount (d : Dev) (p : Nat) : Nat := d.rd (BPM_POOLCTL.COUNT p)
def Dev.poolBase (d : Dev) (p : Nat) : Nat := d.rd (BPM_POOLBASE.BASE p)
def Dev.poolRing (d : Dev) (p : Nat) : Nat := d.rd (BPM_POOLRING.RING p)

/-- The buffer of a pool at an address is LOST. -/
def Dev.lostAt (d : Dev) (p a : Nat) : Bool := d.ownerAt (bufKey p ((a - d.poolBase p) / bufSize p)) == lost

/-- Free buffers of a pool, cache and ring (R249, R255); a LOST buffer does not count (R243). -/
def Dev.poolFree (d : Dev) (p : Nat) : Nat :=
  ((d.pool p).cache.filter (fun a => !d.lostAt p a)).length + ((d.pool p).rc - (d.pool p).rlost)

/-- The enabled pool whose region holds an address. -/
def Dev.poolOf (d : Dev) (a : Nat) : Option Nat :=
  (List.range 5).find? (fun p =>
    d.poolEn p && decide (d.poolBase p ≤ a) && decide (a < d.poolBase p + d.poolCount p * bufSize p))

/-- BPM_FAULT, and the capture when it was zero before (R254, R257). -/
def bpmCapture (d : Dev) (cause addr pool target req : Nat) : Dev :=
  let first := d.rd BPM_FAULT.CAUSE == 0
  let d := d.wr BPM_FAULT.CAUSE (d.rd BPM_FAULT.CAUSE ||| 2 ^ (cause - 1))
  if first then
    (d.put BPM_FAULTADDR.addr (w32 addr)).put BPM_FAULTINFO.addr
      (w32 (2 ^ 28 * cause + 2 ^ 24 * pool + 2 ^ 16 * target + req))
  else d

/-- A rejected operation (R254). -/
def bpmReject (d : Dev) (cause addr pool target req : Nat) : Dev :=
  (bpmCapture d cause addr pool target req).bump BPM_FAULTCNT.COUNT 1

/-- Pool p becomes FAULTED. -/
def faultPool (d : Dev) (p : Nat) : Dev := d.wr BPM_STAT.FAULTED (setBit (d.rd BPM_STAT.FAULTED) p)

/-- A failed ring access: RING_ECC, integrity fault BPM_RING, the pool FAULTED (R257). -/
def ringFail (d : Dev) (p addr : Nat) : Dev := raiseFault (faultPool (bpmCapture d 10 addr p 0 0) p) 0x31

/-- A FREE buffer that becomes LOST and is not in the cache stands in the ring, where it no longer counts (R243). -/
def ringLost (d : Dev) (p key : Nat) : Dev :=
  let q := d.pool p
  if d.ownerAt key = 0 ∧ !q.cache.contains (d.poolBase p + key % 65536 * bufSize p) then
    d.setPool p { q with rlost := q.rlost + 1 } else d

/-- The BPM reads an owner-table entry; one found uncorrectable for the first time raises BPM_OWNER, faults the pool and
marks the buffer LOST (R243). -/
def readOwner (d : Dev) (p key : Nat) : Dev :=
  if d.bpm.bad.contains key then
    let d := ringLost { d with bpm := { d.bpm with bad := d.bpm.bad.filter (· != key) } } p key
    raiseFault (faultPool (d.setOwner key lost) p) 0x30
  else d

/-- Up to two accesses of a ring from entry `k` on, without crossing its end. -/
def ringSpans (count k n : Nat) : List (Nat × Nat) :=
  let n1 := min n (count - k)
  if n1 < n then [(k, n1), (0, n - n1)] else [(k, n1)]

/-- Entries of a ring read by the BPM, initiator 5; the address of a failed access otherwise. -/
def ringRead (d : Dev) (p k n : Nat) : Except Nat (List Nat) × Dev :=
  (ringSpans (d.poolCount p) k n).foldl (fun (acc : Except Nat (List Nat) × Dev) (s : Nat × Nat) =>
    match acc with
    | (.error e, d) => (.error e, d)
    | (.ok xs, d) =>
      let a := d.poolRing p + 4 * s.1
      match atriumAccess d 5 false a (4 * s.2) [] with
      | (.ok bs, d) => (.ok (xs ++ (bytesWords bs).map BitVec.toNat), d)
      | (.err _, d) => (.error a, d)) (.ok [], d)

/-- Entries of a ring written by the BPM; the address of a failed access, if any. -/
def ringWrite (d : Dev) (p k : Nat) (xs : List Nat) : Option Nat × Dev :=
  ((ringSpans (d.poolCount p) k xs.length).foldl (fun (acc : Option Nat × Dev × List Nat) (s : Nat × Nat) =>
    match acc with
    | (some e, d, r) => (some e, d, r)
    | (none, d, r) =>
      let a := d.poolRing p + 4 * s.1
      match atriumAccess d 5 true a (4 * s.2) ((r.take s.2).flatMap (fun x => leBytes 4 x)) with
      | (.ok _, d) => (none, d, r.drop s.2)
      | (.err _, d) => (some a, d, r)) (none, d, xs)) |> fun (e, d, _) => (e, d)

/-- One entry read from a ring: put into the cache, or discarded with RING_BAD (R257). -/
def takeRingEntry (d : Dev) (p x : Nat) : Dev :=
  let i := (x - d.poolBase p) / bufSize p
  let inRange := decide (d.poolBase p ≤ x) && decide (i < d.poolCount p) && (x - d.poolBase p) % bufSize p == 0
  let d := if inRange then readOwner d p (bufKey p i) else d
  if inRange && d.ownerAt (bufKey p i) == 0 && !(d.pool p).cache.contains x then
    d.setPool p { d.pool p with cache := (d.pool p).cache ++ [x] }
  else
    let q := d.pool p
    let d := if inRange && d.lostAt p x then d.setPool p { q with rlost := q.rlost - 1 } else d
    bpmCapture d 9 x p 0 0

/-- A cache below 8 entries reads up to 8 entries of the ring and checks each one (R255, R257). -/
def cacheRefill (d : Dev) (p : Nat) : Dev :=
  let q := d.pool p
  if !d.poolEn p || d.poolInit p || d.poolFaulted p || decide (8 ≤ q.cache.length) || q.rc == 0 then d
  else
    let n := min 8 q.rc
    match ringRead d p q.rp n with
    | (.ok xs, d) =>
      let d := d.setPool p { q with rp := (q.rp + n) % d.poolCount p, rc := q.rc - n }
      xs.foldl (fun d x => takeRingEntry d p x) d
    | (.error a, d) => ringFail d p a

/-- Which entry of a cache of `n` entries goes next is not defined (R255): the free value of a draw. -/
def pickIdx (seed n : Nat) : Nat := if n ≤ 1 then 0 else Config.freePick seed % n

/-- `n` entries moved out of a cache, which ones is not defined (R255): the entries moved and those that stay. -/
def pickOut : Nat → Nat → List Nat → List Nat × List Nat
  | 0, _, l => ([], l)
  | n + 1, seed, l =>
    match l with
    | [] => ([], [])
    | x :: r =>
      let k := pickIdx seed (x :: r).length
      let (m, s) := pickOut n (seed + 1) ((x :: r).eraseIdx k)
      (nth x (x :: r) k :: m, s)

/-- Eight entries of the cache are written back to the ring (R255, R257). -/
def writeBack8 (d : Dev) (p : Nat) : Dev :=
  let q := d.pool p
  let (m, s) := pickOut 8 d.seed q.cache
  let d := { d with seed := d.seed + 8 }
  match ringWrite d p ((q.rp + q.rc) % d.poolCount p) m with
  | (none, d) => d.setPool p { q with cache := s, rc := q.rc + m.length,
                                      rlost := q.rlost + (m.filter (d.lostAt p)).length }
  | (some a, d) => ringFail d p a

/-- A cache above 24 entries writes 8 entries back to the ring (R255). -/
def cacheWriteback (d : Dev) (p : Nat) : Dev :=
  if d.poolEn p && !d.poolInit p && !d.poolFaulted p && decide (24 < (d.pool p).cache.length) then writeBack8 d p else d

/-- A buffer becomes FREE and enters the cache; a full cache first waits for a ring write, except in a FAULTED pool,
where the buffer is marked FREE in the owner table only (R255, R256). -/
def freeBuf (d : Dev) (p i : Nat) : Dev :=
  let d := d.setOwner (bufKey p i) 0
  let d := if decide (32 ≤ (d.pool p).cache.length) && !d.poolFaulted p then writeBack8 d p else d
  let q := d.pool p
  if 32 ≤ q.cache.length then d
  else d.setPool p { q with cache := q.cache ++ [d.poolBase p + i * bufSize p] }

/-- A buffer of the cache is taken: LOST ones are dropped on the way (R243, R246). -/
def takeFromCache : Nat → Dev → Nat → Option Nat × Dev
  | 0, d, _ => (none, d)
  | n + 1, d, p =>
    let q := d.pool p
    match q.cache with
    | [] => (none, d)
    | x :: r =>
      let k := pickIdx d.seed (x :: r).length
      let a := nth x (x :: r) k
      let d := d.draw.setPool p { q with cache := (x :: r).eraseIdx k }
      let key := bufKey p ((a - d.poolBase p) / bufSize p)
      let d := readOwner d p key
      if d.ownerAt key = lost then takeFromCache n d p else (some a, d)

/-- A buffer can be had from the pool: it is enabled, not initialising and not FAULTED (R242, R247). -/
def Dev.poolServes (d : Dev) (p : Nat) : Bool := d.poolEn p && !d.poolInit p && !d.poolFaulted p

/-- One buffer of pool p becomes HELD by `o`, if the pool has one (R246). -/
def allocFrom (d : Dev) (p o : Nat) : Option Nat × Dev :=
  if !d.poolServes p || !d.bpmOn then (none, d)
  else
    let d := if (d.pool p).cache.isEmpty then cacheRefill d p else d
    match takeFromCache 33 d p with
    | (some a, d) => (some a, d.setOwner (bufKey p ((a - d.poolBase p) / bufSize p)) o)
    | (none, d) => (none, d)

/-- The word an allocation returns (R246). -/
def allocWord (p : Nat) : Option Nat → Word
  | some a => w32 (a ||| p * 2 ||| 1)
  | none => 0#32

/-- The smallest pool of 0 to 3 whose buffers hold (c + 1) × 64 bytes (R246). -/
def fitPool (c : Nat) : Nat := if c < 1 then 0 else if c < 4 then 1 else if c < 16 then 2 else 3

/-- The pools an ALLOCFIT tries, from `p` on (R247). -/
def allocSpill : Nat → Dev → Nat → Nat → Nat × Option Nat × Dev
  | 0, d, p, _ => (p, none, d)
  | n + 1, d, p, o =>
    match allocFrom d p o with
    | (some a, d) => (p, some a, d)
    | (none, d) =>
      if p < 3 ∧ d.on (BPM_POOLCTL.SPILL p) then allocSpill n (d.bump (BPM_CNT.SPILLS p) 1) (p + 1) o
      else (p, none, d)

/-- A request without an owner ID (R244, R254). -/
def badReq (d : Dev) (target req : Nat) : Dev := bpmReject d 8 0 7 target req

/-- A read of BPM_ALLOCp (R246, R249). -/
def bpmAlloc (d : Dev) (init p : Nat) : Resp × Dev :=
  if !d.bpmOn then (.err .offline, d)
  else match ownerOfInit init with
    | none => (.err .target, badReq d 0 0)
    | some o =>
      match allocFrom d p o with
      | (some a, d) => (.ok (wordBytes (allocWord p (some a))), d)
      | (none, d) => (.ok (wordBytes 0#32), d.bump (BPM_CNT.EMPTY p) 1)

/-- A read of BPM_ALLOCFITc (R246, R247, R249). -/
def bpmAllocFit (d : Dev) (init c : Nat) : Resp × Dev :=
  if !d.bpmOn then (.err .offline, d)
  else match ownerOfInit init with
    | none => (.err .target, badReq d 0 0)
    | some o =>
      match allocSpill 4 d (fitPool c) o with
      | (p, some a, d) => (.ok (wordBytes (allocWord p (some a))), d)
      | (_, none, d) => (.ok (wordBytes 0#32), d.bump (BPM_CNT.EMPTY (fitPool c)) 1)

/-- A check of Table BPM.2 that failed: its cause, the buffer's address and its pool. -/
structure BpmFail where
  cause : Nat
  addr : Nat
  pool : Nat
  deriving DecidableEq, Repr

/-- The checks of Table BPM.2 on one buffer, up to the owner check; `give` is the target of a GIVE. -/
def checkBuf (d : Dev) (o a : Nat) (chain : Bool) (give : Option Nat) : Except BpmFail (Nat × Nat) × Dev :=
  match d.poolOf a with
  | none => (.error ⟨1, a, 7⟩, d)
  | some p =>
    if (a - d.poolBase p) % bufSize p ≠ 0 ∨ (chain = true ∧ p ≠ 4) then (.error ⟨1, a, p⟩, d)
    else if (match give with | some t => !ownerValid t | none => false) then (.error ⟨6, a, p⟩, d)
    else
      let i := (a - d.poolBase p) / bufSize p
      let d := readOwner d p (bufKey p i)
      let w := d.ownerAt (bufKey p i)
      if w = lost then (.error ⟨11, a, p⟩, d)
      else if w = 0 then (.error ⟨if give.isSome then 4 else 2, a, p⟩, d)
      else if w ≠ o then (.error ⟨if give.isSome then 5 else 3, a, p⟩, d)
      else (.ok (p, i), d)

/-- A link word passes the range and alignment check of the CELL pool (R252). -/
def Dev.linkOk (d : Dev) (l : Nat) : Bool :=
  d.poolEn 4 && decide (d.poolBase 4 ≤ l) && (l - d.poolBase 4) % 32 == 0 &&
    decide ((l - d.poolBase 4) / 32 < d.poolCount 4)

/-- The cells of a chain, each with every check, the links read from the Atrium; at most 256 (R252, R253). -/
def walkChain : Nat → Dev → Nat → Nat → Option Nat → List (Nat × Nat) → Except BpmFail (List (Nat × Nat)) × Dev
  | 0, d, _, a, _, _ => (.error ⟨7, a, 4⟩, d)
  | n + 1, d, o, a, give, done =>
    match checkBuf d o a true give with
    | (.error f, d) => (.error f, d)
    | (.ok k, d) =>
      match atriumAccess d 5 false (a + 28) 4 [] with
      | (.err _, d) => (.error ⟨7, a, 4⟩, d)
      | (.ok bs, d) =>
        let l := leNat bs
        if l = 0 then (.ok (done ++ [k]), d)
        else if n = 0 ∨ !d.linkOk l then (.error ⟨7, a, 4⟩, d)
        else walkChain n d o l give (done ++ [k])

/-- Response cause of a rejected operation: ECC for OWNER_ECC (R243), TARGET otherwise (log entry 12). -/
def bpmErr (cause : Nat) : ErrCause := if cause = 11 then .ecc else .target

/-- A FREE, or a GIVE to `give`, of a buffer or a chain: every check first, then all of it or nothing (R252, R253). -/
def bpmMove (d : Dev) (own : Option Nat) (data : Word) (give : Option Nat) : Resp × Dev :=
  if !d.bpmOn then (.err .offline, d)
  else match own with
    | none => (.err .target, badReq d 0 0)
    | some o =>
      let a := fld data 31 5 * 32
      let r := if data.getLsbD 0 then walkChain 256 d o a give [] else
        match checkBuf d o a false give with
        | (.ok k, d) => (.ok [k], d)
        | (.error f, d) => (.error f, d)
      match r with
      | (.error f, d) => (.err (bpmErr f.cause), bpmReject d f.cause f.addr f.pool (give.getD 0) o)
      | (.ok ks, d) =>
        (.ok [], ks.foldl (fun d k => match give with
          | some t => d.setOwner (bufKey k.1 k.2) t
          | none => freeBuf d k.1 k.2) d)

/-- A port moves the cells of its own chain without reading links (R252); in LANDING the BPM serves nothing (R264). -/
def portMove (d : Dev) (o : Nat) (cells : List Nat) (give : Option Nat) : Dev :=
  if !d.bpmOn then d
  else
  let r := cells.foldl (fun (acc : Except BpmFail (List (Nat × Nat)) × Dev) a =>
    match acc with
    | (.error f, d) => (.error f, d)
    | (.ok ks, d) =>
      match checkBuf d o a false give with
      | (.ok k, d) => (.ok (ks ++ [k]), d)
      | (.error f, d) => (.error f, d)) (.ok [], d)
  match r with
  | (.error f, d) => bpmReject d f.cause f.addr f.pool (give.getD 0) o
  | (.ok ks, d) =>
    ks.foldl (fun d k => match give with
      | some t => d.setOwner (bufKey k.1 k.2) t
      | none => freeBuf d k.1 k.2) d

/-- Every buffer held by an owner becomes FREE; LOST ones are skipped (R243, R258). In LANDING the BPM serves nothing
(R264). -/
def reclaimOwner (d : Dev) (o : Nat) : Dev :=
  if !d.bpmOn then d
  else
  (d.bpm.owner.filter (fun e => d.ownerAt e.1 == o && o != 0 && o != lost)).foldl (fun d e =>
    let d := readOwner d (e.1 / 65536) e.1
    if d.ownerAt e.1 = lost then d else freeBuf d (e.1 / 65536) (e.1 % 65536)) d

/-- A write of BPM_RECLAIM (R258). -/
def bpmReclaim (d : Dev) (init o : Nat) : Resp × Dev :=
  if !d.bpmOn then (.err .offline, d)
  else match ownerOfInit init with
    | none => (.err .target, badReq d o 0)
    | some r => if r = 1 ∨ r = o then (.ok [], reclaimOwner d o) else (.err .target, badReq d o r)

/-- Buffers of an owner: cells and buffers of pools 0 to 3. -/
def Dev.ownCnt (d : Dev) (o : Nat) : Nat × Nat :=
  ((d.bpm.owner.filter (fun e => e.2 == o && o != 0 && decide (4 ≤ e.1 / 65536))).length,
   (d.bpm.owner.filter (fun e => e.2 == o && o != 0 && decide (e.1 / 65536 < 4))).length)

/-- Two byte ranges do not meet. -/
def apart (a la b lb : Nat) : Bool := decide (a + la ≤ b) || decide (b + lb ≤ a)

/-- The conditions of R241 for enabling pool p with a COUNT. -/
def Dev.poolLegal (d : Dev) (p count : Nat) : Bool :=
  let b := d.poolBase p
  let r := d.poolRing p
  let lb := count * bufSize p
  let lr := count * 4
  decide (1 ≤ count) && decide (count ≤ maxCount p) && b % bufSize p == 0 && r % 32 == 0
    && decide (b + lb ≤ 0x400000) && decide (r + lr ≤ 0x400000) && apart b lb r lr
    && (List.range 5).all (fun q => q == p || !d.poolEn q ||
        (apart b lb (d.poolBase q) (d.poolCount q * bufSize q) && apart b lb (d.poolRing q) (d.poolCount q * 4)
          && apart r lr (d.poolBase q) (d.poolCount q * bufSize q) && apart r lr (d.poolRing q) (d.poolCount q * 4)))

/-- Any buffer of the pool is HELD. -/
def Dev.poolHeld (d : Dev) (p : Nat) : Bool := d.bpm.owner.any (fun e => e.1 / 65536 == p && e.2 != lost)

/-- The owner-table entries of a pool are all FREE, with fresh codes. -/
def clearOwners (d : Dev) (p : Nat) : Dev :=
  { d with bpm := { d.bpm with owner := tdrop (fun k => k / 65536 == p) d.bpm.owner,
                               bad := d.bpm.bad.filter (fun k => k / 65536 != p) } }

/-- Every FREE buffer of a pool in ascending order. -/
def Dev.freeList (d : Dev) (p : Nat) : List Nat :=
  ((List.range (d.poolCount p)).filter (fun i => d.ownerAt (bufKey p i) == 0)).map
    (fun i => d.poolBase p + i * bufSize p)

/-- The whole ring written from entry 0 in accesses of 256 bytes; a failed one faults the pool (R242, R257). -/
def ringFill : Nat → Dev → Nat → Nat → List Nat → Option Nat × Dev
  | 0, d, _, _, _ => (none, d)
  | n + 1, d, p, k, xs =>
    if xs.isEmpty then (none, d)
    else match ringWrite d p k (xs.take 64) with
      | (none, d) => ringFill n d p (k + 64) (xs.drop 64)
      | (some a, d) => (some a, d)

/-- A write of the +0x4 word of BPM_POOLp (R241, R242). -/
def poolCtlWrite (d : Dev) (p : Nat) (data : Word) : Dev :=
  let en := data.getLsbD 31
  let count := fld data 15 0
  let sp := fld data 16 16
  if !d.poolEn p then
    let d := (d.wr (BPM_POOLCTL.SPILL p) sp).wr (BPM_POOLCTL.COUNT p) count
    if !en then d
    else if d.poolLegal p count then
      let d := (d.wr (BPM_POOLCTL.EN p) 1).wr BPM_STAT.INIT (setBit (d.rd BPM_STAT.INIT) p)
      let d := d.wr BPM_STAT.FAULTED (clrBit (d.rd BPM_STAT.FAULTED) p)
      (clearOwners d p).setPool p Pool.empty
    else d.wr BPM_STAT.CFGERR 1
  else if count ≠ d.poolCount p then d.wr BPM_STAT.CFGERR 1
  else if en then d.wr (BPM_POOLCTL.SPILL p) sp
  else if d.poolHeld p then d.wr BPM_STAT.CFGERR 1
  else
    let d := (d.wr (BPM_POOLCTL.EN p) 0).wr (BPM_POOLCTL.SPILL p) sp
    (clearOwners d p).setPool p Pool.empty

/-- A write of BASE or RING of a pool: one that changes it while EN = 1 is ignored and sets CFGERR (R241). -/
def poolWordWrite (d : Dev) (p a : Nat) (data : Word) : Dev :=
  if d.poolEn p && d.ld a != data then d.wr BPM_STAT.CFGERR 1 else d.put a data

/-- The initialisation ends: the ring holds every buffer in ascending order and INIT clears (R242). -/
def poolInitDone (d : Dev) (p : Nat) : Dev :=
  if d.poolEn p && d.poolInit p then
    let xs := d.freeList p
    let d := d.wr BPM_STAT.INIT (clrBit (d.rd BPM_STAT.INIT) p)
    match ringFill (xs.length + 1) d p 0 xs with
    | (none, d) =>
      (d.wr BPM_STAT.FAULTED (clrBit (d.rd BPM_STAT.FAULTED) p)).setPool p { Pool.empty with rc := xs.length }
    | (some a, d) => ringFail d p a
  else d

/-- A write of BPM_REBUILD (R257): the cache empties and the rebuild runs until `poolInitDone`. -/
def bpmRebuild (d : Dev) (init p : Nat) : Resp × Dev :=
  if !d.bpmOn then (.err .offline, d)
  else if init ≠ 0 ∨ 5 ≤ p ∨ !d.poolEn p then (.err .target, d)
  else
    let d := (List.range (d.poolCount p)).foldl (fun d i => readOwner d p (bufKey p i)) d
    let d := d.wr BPM_STAT.INIT (setBit (d.rd BPM_STAT.INIT) p)
    (.ok [], d.setPool p Pool.empty)

end Sys2Proof.Machine
end

