-- ==== Sys2Proof/Machine/Group.lean ====
section
/-!
DEFINITION. The group of joined devices as this device knows it: the graph, the diameter, the lead, peers that become
gone, lanes that go down or are quarantined, and the distribution of the latencies (R362 to R376, R337).
-/

namespace Sys2Proof.Machine

/-- The POS that the topology places behind a lane N, E, S, W = 0 to 3 (Table CNC.4). -/
def neighborOf (topo p lane : Nat) : Option Nat :=
  match topo with
  | 1 => if lane = 1 ∧ p < 7 then some (p + 1) else if lane = 3 ∧ 0 < p then some (p - 1) else none
  | 2 =>
    if lane = 2 ∧ p % 2 = 0 then some (p + 1)
    else if lane = 0 ∧ p % 2 = 1 then some (p - 1)
    else if lane = 1 ∧ p / 2 < 3 then some (p + 2)
    else if lane = 3 ∧ 0 < p / 2 then some (p - 2)
    else none
  | 3 => if lane = 1 then some ((p + 1) % 8) else if lane = 3 then some ((p + 7) % 8) else none
  | _ => none

/-- LSTATE of a lane: 6 JOINED, 7 QUARANTINED. -/
def Dev.lstate (d : Dev) (l : Nat) : Nat := d.rd (CNC_LSTAT.LSTATE l)

/-- The lane is JOINED. -/
def Dev.joined (d : Dev) (l : Nat) : Bool := d.lstate l == 6

/-- A lane beyond its registers. -/
def Dev.lane (d : Dev) (l : Nat) : Lane := nth Lane.idle d.lanes l

/-- The device with a lane replaced. -/
def Dev.setLane (d : Dev) (l : Nat) (x : Lane) : Dev := { d with lanes := setNth Lane.idle d.lanes l x }

/-- The peers behind the JOINED lanes. -/
def Dev.joinedPeers (d : Dev) : List Nat :=
  ((List.range 4).filter d.joined).map (fun l => d.rd (CNC_LSTAT.PEERPOS l))

/-- What device p reports of its joined neighbours; this device's own lanes for its own POS. -/
def Dev.reports (d : Dev) (p : Nat) : Option (List Nat) :=
  if p = d.pos then some d.joinedPeers else (d.grp.graph.find? (fun e => e.1 == p)).map Prod.snd

/-- Devices p and q are joined in the graph: every LINKSTATE known of the two says so, and one is known (R368). -/
def Dev.edge (d : Dev) (p q : Nat) : Bool :=
  match d.reports p, d.reports q with
  | some a, some b => a.contains q && b.contains p
  | some a, none => a.contains q
  | none, some b => b.contains p
  | none, none => false

/-- Devices within `n` seams of p, as a mask. -/
def Dev.within (d : Dev) : Nat → Nat → Nat
  | 0, p => 2 ^ p
  | n + 1, p =>
    let m := d.within n p
    maskFrom 8 (fun q => m.testBit q || (List.range 8).any (fun r => m.testBit r && d.edge r q))

/-- The devices reachable from this one, as a mask, counting itself (R369). -/
def Dev.reach (d : Dev) : Nat := d.within 7 d.pos

/-- Seams between two members, 0 when they are not connected. -/
def Dev.distance (d : Dev) (p q : Nat) : Nat := ((List.range 8).find? (fun n => (d.within n p).testBit q)).getD 0

/-- The longest shortest path of the group in seams (R368). -/
def Dev.diameter (d : Dev) (members : Nat) : Nat :=
  (bitsOf 8 members).foldl (fun m p => (bitsOf 8 members).foldl (fun m q => max m (d.distance p q)) m) 0

/-- The lowest POS of a mask. -/
def lowestPos (mask : Nat) : Nat := ((bitsOf 8 mask).head?).getD 0

/-! Blocks and slots. -/

/-- A plane block: the column of the earlier array cycle, then that of the later one (R359). -/
def planeBlock (c0 c1 : BitVec 128) : BitVec 257 := c1 ++ c0 ++ 0#1

/-- Columns of consecutive array cycles as plane blocks, the first of the earlier cycle of its slot (R359). -/
def planeBlocks : List (BitVec 128) → List (BitVec 257)
  | [] => []
  | [c] => [planeBlock c 0#128]
  | a :: b :: r => planeBlock a b :: planeBlocks r

/-- Columns of consecutive array cycles in the slots that carry them; `odd` when the first cycle is the later one of its
slot (R358). -/
def planeSlots (odd : Bool) (cs : List (BitVec 128)) : List (BitVec 257) := planeBlocks (if odd then 0#128 :: cs else cs)

/-- A sideband block as it is sent (Table CNC.2): `sf` in slot 34 of the superframe. The bits of PAYLOAD within a TYPE are
not given (free convention, log entry 83). -/
def SbMsg.word (m : SbMsg) (sf : Bool) : BitVec 257 :=
  Config.sbPayload m.type m.payload m.data ++ BitVec.ofBool sf ++ BitVec.ofBool m.more ++ BitVec.ofBool m.copy
    ++ BitVec.ofNat 3 m.hops ++ BitVec.ofNat 3 m.origin ++ BitVec.ofNat 8 m.type ++ 1#1

/-- An IDLE block (Table CNC.3). -/
def SbMsg.idle : SbMsg := { type := 0, origin := 0, hops := 0, copy := false, payload := [] }

/-- The number of a block that starts at or before a Corridor cycle: 140 blocks in 340 ns (R358). -/
def blockAt (now : Nat) : Nat := now * 7 / 17

/-- The sideband slots of a superframe (R358). -/
def sbSlot (n : Nat) : Bool := n == 34 || n == 69 || n == 104 || n == 139

/-- Priority of a sideband TYPE, 1 first (Table CNC.3). -/
def sbPriority (t : Nat) : Nat :=
  match t with
  | 0x10 | 0x11 => 1
  | 0x12 => 2
  | 0x02 | 0x03 | 0x04 => 3
  | 0x01 | 0x20 => 4
  | 0x30 | 0x31 | 0x32 | 0x33 => 5
  | _ => 6

/-- The entry at place i of a queue may go out in a codeword: none of its TYPE and ORIGIN stands before it, a second copy is
in a later codeword than its first, and a LATCH of the frame has its beacon out (R360, R370). -/
def sbMay (q : List SbMsg) (cw : Nat) (i : Nat) : Bool :=
  match q[i]? with
  | some m => decide (m.after ≤ cw) && !(q.take i).any (fun x => x.type == m.type && x.origin == m.origin)
      && (!m.late || !q.any (fun x => x.type == 0x12))
  | none => false

/-- The place of the entry that a slot takes: of those that may go out, the oldest of the most urgent priority (R360). -/
def sbPick (q : List SbMsg) (cw : Nat) : Option Nat :=
  let may := (List.range q.length).filter (sbMay q cw)
  let pri := fun i => sbPriority ((q[i]?).getD SbMsg.idle).type
  may.find? (fun i => may.all (fun j => decide (pri i ≤ pri j)))

/-- The queue after the entry at place i has gone out in a codeword: the second copy of a vote waits for a later one (R31,
R370). -/
def sbGone (q : List SbMsg) (cw i : Nat) : List SbMsg :=
  let m := (q[i]?).getD SbMsg.idle
  let r := q.eraseIdx i
  match r.findIdx? (fun x => !m.copy && x.copy && x.type == m.type && x.origin == m.origin && x.payload == m.payload) with
  | some k => r.modify k (fun x => { x with after := cw + 1 })
  | none => r

/-- A lane at the start of a block: it sends the sideband block whose turn it is, an IDLE block where a sideband slot has
none, and else a plane block without columns. In the model no column is due in an idle cycle, so every plane slot is free
(R358 to R360). -/
def Lane.slot (x : Lane) (block : Nat) : Lane :=
  let n := block % 140
  match sbPick x.txq (block / 20) with
  | some i => { x with sent := ((x.txq[i]?).getD SbMsg.idle).word (n == 34), txq := sbGone x.txq (block / 20) i }
  | none => { x with sent := if sbSlot n then SbMsg.idle.word (n == 34) else planeBlock 0#128 0#128 }

/-- The data bytes of a message in blocks of at most 29, MORE in all but the last (R359; log entry 83). -/
def sbChunks (m : SbMsg) : Nat → List Byte → List SbMsg
  | 0, _ => []
  | n + 1, bs =>
    if bs.length ≤ 29 then [{ m with payload := [], data := bs, more := false }]
    else { m with payload := [], data := bs.take 29, more := true } :: sbChunks m n (bs.drop 29)

/-- The blocks of a message: its fields, then its data bytes. -/
def sbBlocks (m : SbMsg) : List SbMsg :=
  if m.data.isEmpty then [m] else { m with data := [], more := true } :: sbChunks m m.data.length m.data

/-- A near-end loop-back of Table CNC.7 is applied on a lane: depth 1, 2 or 4. -/
def Dev.nearLoop (d : Dev) (l : Nat) : Bool :=
  let n := d.rd (CNC_CTRL.LOOP l)
  d.svcOf (.lane l) == .underTest && (n == 1 || n == 2 || n == 4)

/-- A sideband message is queued on a lane; a vote counts as sent (R360). -/
def sendSb (d : Dev) (l : Nat) (m : SbMsg) : Dev :=
  let d := d.setLane l { d.lane l with txq := (d.lane l).txq ++ sbBlocks m }
  if m.type = 0x10 ∨ m.type = 0x11 then d.bump (CNC_SBCNT.VOTETX l) 1 else d

/-- A block is queued on every JOINED lane but one (R367, R370). -/
def floodSb (d : Dev) (skip : Option Nat) (m : SbMsg) : Dev :=
  (List.range 4).foldl (fun d l => if d.joined l && skip != some l then sendSb d l m else d) d

/-- Both copies of a vote are queued on every JOINED lane but one (R31, R370). -/
def floodVote (d : Dev) (skip : Option Nat) (m : SbMsg) : Dev :=
  floodSb (floodSb d skip { m with copy := false }) skip { m with copy := true }

/-- This device's LINKSTATE goes out on its JOINED lanes (R368). -/
def sendLinkstate (d : Dev) : Dev :=
  let n := tget (fun _ => 0) d.grp.change d.pos % 2 ^ 16
  let d := { d with grp := { d.grp with change := tset (fun _ => 0) d.grp.change d.pos (n + 1) } }
  floodSb d none { type := 0x03, origin := d.pos, hops := 0, copy := false, payload := n :: d.joinedPeers }

/-- The latch vector of this device goes out in two copies (R370). -/
def sendLatch (d : Dev) : Dev :=
  let s := d.grp.voteSeq
  let d := { d with grp := { d.grp with voteSeq := (s + 1) % 2 ^ 16 } }
  floodVote d none { type := 0x10, origin := d.pos, hops := 0, copy := false, payload := [d.gal.latches, s] }

/-- A bit of CNC_GERR is set; source 60 pulses. -/
def groupError (d : Dev) (f : Fld) : Dev := (d.wr f 1).pulse 60

/-- Effective budget of a bank's image under given latencies (R337). -/
def Dev.beffWith (d : Dev) (b lat anylat : Nat) : Nat :=
  d.rd (GSQ_BI_B0.B0 b) + d.rd (GSQ_BI_N.NSEAM b) * lat + d.rd (GSQ_BI_N.NANY b) * anylat

/-- Bank b is loaded. -/
def Dev.loaded (d : Dev) (b : Nat) : Bool := (d.rd GSQ_BANK.LOADED).testBit b

/-- Some loaded bank would exceed GSQ_FPER.CYCLES (R337). -/
def Dev.overBudget (d : Dev) (lat anylat : Nat) : Bool :=
  (List.range 2).any (fun b => d.loaded b && decide (d.acts GSQ_FPER.CYCLES < d.beffWith b lat anylat))

/-- A remote request to a peer that is gone ends with GONE (R372). -/
def raGone (d : Dev) (p : Nat) : Dev :=
  if d.rd CNC_RARES.RES = 2 ∧ d.rd CNC_RACTL.DST = p then
    let d := (d.wr CNC_RARES.RES 4).wr CNC_RACTL.GO 0
    groupError { d with lanes := d.lanes.map (fun x => { x with raFly := false }) } CNC_GERR.RAERR
  else d

/-- Peer p becomes gone: its locks are released as orphaned, its translations are invalidated, a request to it ends
(R376, R174, R433, R372), and what it reported is forgotten (log entry 20). -/
def peerGone (d : Dev) (p : Nat) : Dev :=
  let d := releaseHolder d (8 + p)
  let d := { d with tlb := d.tlb.filter (fun e => e.peer != p),
                    grp := { d.grp with graph := d.grp.graph.filter (fun e => e.1 != p),
                                        change := tdrop (· == p) d.grp.change,
                                        seen := d.grp.seen.filter (fun e => e.1 != p) } }
  raGone d p

/-- The largest PINNED of this device's seams that satisfy `ok`, and of the seams between other devices, which no rule
makes known here (free value, log entry 21). -/
def Dev.maxPinned (d : Dev) (ok : Nat → Bool) : Nat × Dev :=
  let own := ((List.range 4).filter ok).foldl (fun m l => max m (d.rd (CNC_LAT.PINNED l))) 0
  let far := d.grp.graph.any (fun e => e.2.any (fun q => q != d.pos))
  if far then (max own ((Config.freeWord d.seed).toNat % 129), d.draw) else (own, d)

/-- The pending update of LAT and ANYLAT for frame AT; `join` when it is for a join (R368). -/
def pendUpdate (d : Dev) (at_ lat anylat : Nat) (join : Bool) : Dev :=
  let d := { d with grp := { d.grp with updJoin := join } }
  (((d.put CNC_GUPDAT.addr (w32 at_)).wr CNC_GUPD.LAT lat).wr CNC_GUPD.ANYLAT anylat).wr CNC_GUPD.PENDING 1

/-- The lead computes LAT and ANYLAT and distributes them for frame FCNT + 64 (R368, R334); a lane that waits for its join
hears them too. -/
def sendUpdate (d : Dev) (lat anylat : Nat) (join : Bool) : Dev :=
  let at_ := (d.rd GSQ_FCNTLO.FCNT + 64) % 2 ^ 32
  let m : SbMsg := { type := 0x20, origin := d.pos, hops := 0, copy := false, payload := [2, at_, lat, anylat, bit join] }
  let d := floodSb (pendUpdate d at_ lat anylat join) none m
  (List.range 4).foldl (fun d l => if d.lstate l = 5 then sendSb d l m else d) d

/-- The lanes whose join waits for the new latencies. -/
def Dev.pendingLanes (d : Dev) : List Nat := (List.range 4).filter (fun l => d.lstate l == 5)

/-- LAT and ANYLAT of the group with the lanes that wait for their join counted as joined (R368). -/
def Dev.groupLatencies (d : Dev) : (Nat × Nat) × Dev :=
  let r := d.maxPinned (fun k => d.joined k || d.lstate k == 5)
  let j := d.pendingLanes.foldl (fun d l => d.wr (CNC_LSTAT.LSTATE l) 6) d
  ((r.1, if d.pendingLanes.isEmpty then 288 * d.rd CNC_GRP.DIAM else 288 * j.diameter j.reach), r.2)

/-- After a change of the group that is not a join, the lead distributes new values, in which a join that waits for its
frame stays counted; where they would exceed the frame period it keeps the old ANYLAT and sets ANYSHORT (R368). -/
def leadUpdate (d : Dev) : Dev :=
  if d.on CNC_GRP.ISLEAD then
    let join := !d.pendingLanes.isEmpty
    let ((lat, anylat), d) := d.groupLatencies
    if d.overBudget lat anylat && !join then
      groupError (sendUpdate d lat (d.rd GSQ_ANYLAT.LAT) false) CNC_GERR.ANYSHORT
    else sendUpdate d lat anylat join
  else d

/-- A pending update for a join is withdrawn (R381); the lead computes again where the group still needs other values than
those in force. -/
def dropUpdate (d : Dev) : Dev :=
  let d := { d.wr CNC_GUPD.PENDING 0 with grp := { d.grp with updJoin := false } }
  let v := d.groupLatencies.1
  if d.pendingLanes.isEmpty && d.rd GSQ_SEAMLAT.LAT == v.1 && d.rd GSQ_ANYLAT.LAT == v.2 then d else leadUpdate d

/-- The update that a lost join waited for is withdrawn in the whole group (R381): GROUPCMD kind 5 (log entry 41). -/
def withdrawUpdate (d : Dev) : Dev :=
  if d.on CNC_GUPD.PENDING && d.grp.updJoin then
    dropUpdate (floodSb d none { type := 0x20, origin := d.pos, hops := 0, copy := false,
                                 payload := [5, d.rd CNC_GUPDAT.AT] })
  else d

/-- The lead is gone: the lowest reachable POS becomes lead, a pending update is discarded, an unconfirmed group switch
is disarmed (R369). -/
def electLead (d : Dev) (members : Nat) : Dev :=
  let n := lowestPos members
  let d := (d.wr CNC_GRP.LEAD n).wr CNC_GRP.ISLEAD (bit (n == d.pos))
  let d := { d.wr CNC_GUPD.PENDING 0 with grp := { d.grp with updJoin := false } }
  let d := if d.wl.swGroup.isSome then
    { d.wr GSQ_SWCTL.ARMED 0 with wl := { d.wl with swGroup := none } } else d
  groupError d CNC_GERR.LEADCHG

/-- The graph has changed: members, diameter, peers that are gone, the lead, and the remote latch inputs
(R368, R369, R371, R376). -/
def regroup (d : Dev) : Dev :=
  let old := d.rd CNC_GRP.MEMBERS
  let new := d.reach
  let d := (d.wr CNC_GRP.MEMBERS new).wr CNC_GRP.DIAM (d.diameter new)
  let d := (bitsOf 8 old).foldl (fun d p => if new.testBit p then d else peerGone d p) d
  let d := if new.testBit (d.rd CNC_GRP.LEAD) then d else electLead d new
  balEval (leadUpdate d)

/-- This device alone as its own group and lead (R369; log entry 20). -/
def groupAlone (d : Dev) : Dev :=
  (((d.wr CNC_GRP.MEMBERS (2 ^ d.pos)).wr CNC_GRP.LEAD d.pos).wr CNC_GRP.ISLEAD 1).wr CNC_GRP.DIAM 0

/-- The block registers of a lane return to their reset values. -/
def laneBlk (d : Dev) (l : Nat) : Dev :=
  d.resetRegs (fun a => decide (a / 0x1000 = 0x40020 + l) && decide (a % 0x1000 < 0x400))

/-- A unit is forced OUT_OF_SERVICE; the cause is an EVQ event (R56). -/
def forcedOut (d : Dev) (u : UnitId) (block cause : Nat) : Dev :=
  evqKind (d.setSvc u .outOfService) block .forced false u.key cause

/-- The lane serves its edge: it is JOINED, or QUARANTINED (R375; log entry 20). -/
def Dev.edgeServes (d : Dev) (l : Nat) : Bool := decide (6 ≤ d.lstate l)

/-- A lane goes down with a cause: BLK reset, DOWNCAUSE, the forced transition, its buffers, the dead edge and the change of
the group (R373, R375, R56, R259). In steps 4 to 6 it abandons its join, and the update for it is withdrawn (R381). -/
def laneDown (d : Dev) (l cause : Nat) : Dev :=
  if d.lstate l = 0 then d
  else
    let was := d.joined l
    let joining := decide (3 ≤ d.lstate l) && decide (d.lstate l ≤ 5)
    let d := (laneBlk d l).setLane l { Lane.idle with dead := (d.lane l).dead || d.edgeServes l }
    let d := if joining then withdrawUpdate d else d
    let d := (d.wr (CNC_LSTAT.DOWNCAUSE l) cause).wr (CNC_ERR.DOWN l) 1
    let d := reclaimOwner (forcedOut d (.lane l) (0x20 + l) cause) (8 + l)
    let d := if d.grp.alignTo.any (fun x => x.2 == l) then { d with grp := { d.grp with alignTo := none } } else d
    if was then regroup (sendLinkstate d) else d

/-- A lane is quarantined with a cause: it carries nothing, stays IN_SERVICE, and its edge is dead (R363, R70, R375). -/
def laneQuarantine (d : Dev) (l cause : Nat) : Dev :=
  let was := d.joined l
  let d := (d.wr (CNC_LSTAT.LSTATE l) 7).wr (CNC_LSTAT.QCAUSE l) cause
  let d := (d.wr (CNC_ERR.QUAR l) 1).setLane l { d.lane l with dead := true }
  let d := d.pulse 60
  if was then regroup (sendLinkstate d) else d

/-- A lane in PENDING becomes JOINED (Table CNC.5 step 7). -/
def laneJoin (d : Dev) (l : Nat) : Dev :=
  let d := (d.wr (CNC_LSTAT.LSTATE l) 6).setLane l { d.lane l with dead := false }
  let d := d.pulse 60
  let d := sendLinkstate d
  let new := d.reach
  balEval ((d.wr CNC_GRP.MEMBERS new).wr CNC_GRP.DIAM (d.diameter new))

end Sys2Proof.Machine
end

