-- ==== Sys2Proof/Machine/Modes.lean ====
section
/-!
DEFINITION. Modes and resets as shared operations: entry to LIMP (R50), integrity faults (R489, R53), the DEV reset
(R59, R60), the Steward reset (R61, R77), a port bank that goes out of service (R544, R259), entry to RUN.
-/

namespace Sys2Proof.Machine

/-- A mode change and its CRIT event (R43, R168). -/
def setMode (d : Dev) (m : Mode) : Dev :=
  if d.mode = m then d
  else evqKind { d with prev := d.mode, mode := m } 0x00 .modeChange true d.mode.code m.code

/-! Port banks. -/

/-- A port beyond its registers. -/
def Dev.port (d : Dev) (n : Nat) : Port := tget portDflt d.ports n

/-- The device with a port replaced. -/
def Dev.setPort (d : Dev) (n : Nat) (p : Port) : Dev := { d with ports := tset portDflt d.ports n p }

/-- The eight ports of a bank. -/
def portsOf (b : Nat) : List Nat := (List.range 8).map (fun k => 8 * b + k)

/-- The BPM owner of a port. -/
def portOwner (n : Nat) : Nat := 0x10 + n

/-- The chain of a closed-queue entry, which belongs to its DEST, goes back to the BPM on its holder's behalf (R213; log
entry 24). -/
def freeChain (d : Dev) (word : Word) : Dev :=
  let a := fld word 31 5 * 32
  match d.poolOf a with
  | none => d
  | some p =>
    let o := d.ownerAt (bufKey p ((a - d.poolBase p) / bufSize p))
    if o = 0 ∨ o = lost then d else (bpmMove d (some o) word none).2

/-- The queued chains of a port go back to the BPM: its closed frames, and under its own ID its transmit messages, so that a
chain of another owner is refused as a foreign one (R213, R224, R244, R253). -/
def freePort (d : Dev) (n : Nat) : Dev :=
  let p := d.port n
  let d := p.closedQ.foldl freeChain d
  let d := (p.txq ++ (match p.tx with | some t => [t.head] | none => [])).foldl
    (fun d h => (bpmMove d (some (portOwner n)) (w32 (h ||| 1)) none).2) d
  reclaimOwner d (portOwner n)

/-- A port bank is in its BLK reset: registers at their reset values, ports idle. -/
def bankBlk (d : Dev) (b : Nat) : Dev :=
  let d := d.resetRegs (fun a => a / 0x1000 == 0x40010 + b)
  (portsOf b).foldl (fun d n => d.setPort n Port.idle) d

/-- A port bank goes OUT_OF_SERVICE (Table SVC.1, R259): chains freed, buffers reclaimed, BLK reset, DRAINED set after
it (log entry 24). -/
def bankOut (d : Dev) (b : Nat) : Dev :=
  let d := (portsOf b).foldl freePort d
  let d := (bankBlk d b).setSvc (.bank b) .outOfService
  d.wr (PBK_BCAUSE.DRAINED b) 1

/-! LIMP. -/

/-- A LIMP cause is recorded: the first in REASON and DETAIL, a further one in MORE (R52; log entry 25 for a cause that
meets an uncleared REASON outside LIMP). -/
def limpCause (d : Dev) (reason detail : Nat) : Dev :=
  if d.mode = .limp ∨ d.rd SYS_LIMP.REASON ≠ 0 then d.wr SYS_LIMP.MORE 1
  else (d.wr SYS_LIMP.REASON reason).wr SYS_LIMP.DETAIL detail

/-- The Gallery sequencer and the Riser in reset; bay memory, accumulators, program banks and any-line latches stay
(R50, R279). -/
def Gal.seqReset (g : Gal) : Gal :=
  { Gal.powerUp with mem := g.mem, acc := g.acc, c := g.c, a := g.a, t := g.t, o := g.o, e := g.e, p := g.p,
                     stack := g.stack, latches := g.latches, banks := g.banks, map := g.map, map2 := g.map2,
                     cleared := g.cleared }

/-- The loop-back settings of every unit UNDER_TEST are cleared (R553); a message in progress completes on the old path
(R239). -/
def clearLoops (d : Dev) : Dev :=
  let d := (List.range 48).foldl (fun d n =>
    if d.svcOf (.bank (n / 8)) = .underTest then
      (d.wr (PBK_LOOP.DEPTH n) 0).setPort n { d.port n with depth := if (d.port n).tx.isSome then (d.port n).depth else 0 }
    else d) d
  (List.range 4).foldl (fun d l =>
    if d.svcOf (.lane l) = .underTest then
      ((d.wr (CNC_CTRL.LOOP l) 0).wr (CNC_CTRL.FARLOOP l) 0).wr (CNC_CTRL.PRBS l) 0 else d) d

/-- The job of a DGE context ends with a cause (R452). -/
def dgeFail (d : Dev) (c cause : Nat) : Dev :=
  let d := ((d.wr (DGE_CSTAT.BUSY c) 0).wr (DGE_CSTAT.ERR c) 1).wr (DGE_CSTAT.CAUSE c) cause
  let d := d.wr (DGE_CSTAT.SPACE c) 16
  { d with dge := { d.dge with ctx := setNth DgeCtx.idle d.dge.ctx c DgeCtx.idle,
                               katWait := d.dge.katWait.filter (fun x => x.1 != c) } }

/-- A job of context S ends with ABORTED, if one runs (R471). -/
def dgeAbortS (d : Dev) : Dev := if (nth DgeCtx.idle d.dge.ctx 0).busy then dgeFail d 0 8 else d

/-- GSQ, RSR, the lanes and the port banks at entry to LIMP: sequencer and Riser reset, PIO_GOUT zero, SRD off, every port
bank OUT_OF_SERVICE but those of `tests`, which a SELFTEST ran on and which stay UNDER_TEST (R50, R527, R373, R553). -/
def limpUnits (d : Dev) (tests : Nat) : Dev :=
  let d := { d with gal := d.gal.seqReset }
  let d := (List.range 4).foldl (fun d x => d.wr (PIO_GOUT.GOUT x) 0) d
  let d := (List.range 4).foldl (fun d l => laneDown d l 7) d
  (List.range 6).foldl (fun d b =>
    if d.svcOf (.bank b) = .outOfService ∨ tests.testBit b then d
    else evqKind (bankOut d b) (0x10 + b) .forced false b 0) d

/-- The port banks on which a SELFTEST runs (R547). -/
def Dev.testBanks (d : Dev) : Nat :=
  maskFrom 6 (fun b => d.svcOf (.bank b) == .underTest && d.wl.testSlot.any (fun e => e.1 == (UnitId.bank b).key))

/-- A server starts after BOOT with no slot taken yet: VST_FWSTAT.TAKEN shows 0xFF (log entry 14). -/
def noneTaken (d : Dev) : Dev := if d.mode = .boot then d.wr VST_FWSTAT.TAKEN 0xFF else d

/-- The effects of an entry to LIMP. The locks of holders 1, 3 and 4 are released in that order, which R166 leaves to the
block (log entry 84). -/
def limpCore (d : Dev) (reason detail : Nat) : Dev :=
  let tests := d.testBanks
  let d := setMode (limpCause (noneTaken d) reason detail) .limp
  let d := clearLoops d
  let d := d.wr VST_FWSTAT.SERVER 2
  let d := dgeAbortS (abortBusy d)
  let d := releaseHolder (releaseHolder (releaseHolder d 1) 3) 4
  balEval (limpUnits d tests)

/-- Entry to LIMP (R50, R52, R146, R166, R553). Outside BOOT, RUN and DOZE there is no entry; in LIMP the cause sets MORE. -/
def limpEntry (d : Dev) (reason detail : Nat) : Dev :=
  match d.mode with
  | .limp => limpCause d reason detail
  | .boot | .run | .doze => inCycle (fun d => limpCore d reason detail) d
  | _ => d

/-! Integrity faults. -/

/-- Effects of one integrity fault (R489, R53): the trip source, the leaky count, BAL_INTCAUSE, one CRIT event, and LIMP
when the count reaches the limit in RUN or DOZE; in LIMP the cause sets MORE; in BOOT Table MOD.2 has no such transition
(log entry 26). A LIMIT that a write lowers to or below a COUNT already there leads to LIMP neither at that write nor at a
later fault; LIMP follows where a fault takes COUNT from below LIMIT to LIMIT or above (log entry 26). A count past 255 is
not given (free value, log entry 9). The uses of LIMIT and of the source matrix are checked, but not again for the fault of
that very check (R437; log entry 26). -/
def integCore (d : Dev) (code : Nat) (d0 : Word) : Dev :=
  let d := if code = 0x15 ∧ fld d0 23 16 = 0x09 then d else srcUse d 0xFFFF
  let d := tripMask d (d.srcMask BAL_SRC.INTEG) cInteg
  let old := d.rd SYS_INTEG.COUNT
  let new := if old < 255 then old + 1 else (Config.freeWord d.seed).toNat % 256
  let d := if old < 255 then d else d.draw
  let d := (d.wr SYS_INTEG.COUNT new).wr BAL_INTCAUSE.LAST code
  let d := evqAppend d 0x09 code true d0 0#32
  let d := if code = 0x15 ∧ d0 = 0x2C#32 then d else useTwin d SYS_INTEG.addr
  let limit := d.acts SYS_INTEG.LIMIT
  if old < limit ∧ limit ≤ new then
    match d.mode with
    | .run | .doze | .limp => limpEntry d 8 code
    | _ => d
  else d

/-- The integrity faults raised by a command are taken, oldest first; the bound is above what one command can raise, and
what would be left at it is dropped (log entry 26). A fault that falls in the next cycle stays. -/
def settleN : Nat → Dev → Dev
  | 0, d => { d with faults := d.faults.filter (fun f => f.1 == evqCritNext) }
  | n + 1, d =>
    match d.faults.find? (fun f => f.1 != evqCritNext) with
    | none => d
    | some f => settleN n (integCore { d with faults := d.faults.erase f } f.1 f.2)

/-- The faults raised by a command are taken in that command, their events in the order of R166; what the arbiter refuses of
those raises further faults, which are taken after them. A fault left for the next cycle is taken with the next command. -/
def settle (d : Dev) : Dev :=
  if d.faults = [] then d
  else
    let d := settleN 1024 (inCycle (settleN 4096) d)
    { d with faults := d.faults.map (fun _ => (evqCrit, 0#32)) }

/-- What a command does in one cycle with the faults that it raises there: all their events in the order of R166. -/
def oneCycle (f : Dev → Dev) (d : Dev) : Dev := inCycle (fun d => settle (f d)) d

/-- The next state with a changed device, its faults taken. -/
def fin (s : State) (d : Dev) : Host.Outcome State Fault Refusal := .next { s with dev := settle d }

/-- A request of a row at its target: refused outside the modes in which the NI admits it, else its response and effect. -/
def rowWrite (init : Nat) (s : State) (f : Dev → Resp × Dev) : Host.Outcome State Fault Refusal :=
  if s.dev.niOpen init then
    let r := f s.dev
    fin s { r.2 with resp := r.1 }
  else fin s { s.dev with resp := .err .offline }

/-! Deferred service transitions. -/

/-- The deferred SET_SERVICE commands of a unit complete with the state reached (R132, Table VST.8); in LANDING no response is
written and no slot changes (R147). -/
def svcReport (d : Dev) (u : UnitId) : Dev :=
  if !d.niOpen 0 then d
  else
  let ss := tget (fun _ => []) d.wl.svcSlot u.key
  let d := { d with wl := { d.wl with svcSlot := tdrop (· == u.key) d.wl.svcSlot } }
  ss.foldl (fun d n => complete d n 0 [b8 (d.svcOf u).code, 0#8, 0#8, 0#8] true) d

/-- SET_SERVICE of a lane completes when its join has ended, joined, quarantined or down (R363, R544). -/
def lanesReport (d : Dev) : Dev :=
  (List.range 4).foldl (fun d l =>
    if d.lstate l = 0 ∨ d.lstate l = 6 ∨ d.lstate l = 7 then
      (if d.svcOf (.lane l) = .draining then d else svcReport d (.lane l)) else d) d

/-! Resets. -/

/-- Which source a DEV reset came from (SYS_RSTCAUSE). -/
inductive RstCause where
  | pin | resting | hostReq | vst
  deriving DecidableEq, Repr

/-- The register of the cause flags after a DEV reset: its own flag set, the other "last DEV reset" flags clear
(SYS_RSTCAUSE; log entry 27). -/
def rstCauseWord (w : Word) (c : RstCause) : Word :=
  (w &&& 0x41#32) ||| (match c with | .pin => 0x04#32 | .resting => 0x08#32 | .hostReq => 0x10#32 | .vst => 0x20#32)

/-- The strap pins in SYS_STRAP positions: BOOTSEL [8], TOPO [5:4], POS [2:0] (R522). -/
def strapWord (straps : Nat) : Word := w32 straps &&& 0x137#32

/-- The charger starts at an entry to BOOT: CHGON while VHOLD is below VFULL (R504). -/
def chargerStart (d : Dev) : Dev :=
  let d := d.wr PSV_STAT.CHGON (bit (decide (d.pins.vhold < 15000)))
  { d.wr PSV_STAT.IOWARN (bit (decide (d.pins.vio0 < 3100))) with pins := { d.pins with vfix := d.pins.vhold } }

/-- What Wailith knows of the Logbook, of Steward resets and of IPT_COUNT outlasts a DEV reset (R77, R102; log entry 22). -/
def Wail.kept (w : Wail) : Wail :=
  { Wail.idle with resets := w.resets, logSealed := w.logSealed, logSealNo := w.logSealNo, logOpen := w.logOpen,
                   iptSeen := w.iptSeen }

/-- A DEV reset (R59, R60, R57, R476): every register of class DEV, BLK and HLK restored, all locks free with no orphan
flag, every channel TRIPPED, straps sampled, BOOT at step 0x1 waiting for PLL lock. SYS_MODE.PREV returns to 0 (R11). AON
registers, Logbook memory and pads stay. -/
def devReset (d : Dev) (c : RstCause) (straps : Nat) : Dev :=
  let n : Dev := { Dev.init with
    now := d.now, epoch := d.now, seed := d.seed, mode := .boot, modeKnown := d.modeKnown,
    regs := d.regs.filter (fun e => regClass e.1 == some .aon),
    iptOut := d.iptOut, iptDriven := d.iptDriven, wl := d.wl.kept,
    log := d.log, logErr := d.logErr, pins := { d.pins with straps := straps, undriven := false } }
  let n := n.put SYS_RSTCAUSE.addr (rstCauseWord (d.ld SYS_RSTCAUSE.addr) c)
  let n := (n.put SYS_STRAP.addr (strapWord straps)).wr SYS_BOOTSTAT.STEP 1
  let n := chargerStart n
  if d.mode = .boot then n else evqKind n 0x00 .modeChange true d.mode.code Mode.boot.code

/-- Power-up of VDD_AON: every register class, SYS_LIMP, the save status and SYS_RSTCAUSE restored (R59, Table MOD.5);
Logbook memory is non-volatile. -/
def aonReset (d : Dev) (straps : Nat) : Dev :=
  let n : Dev := { Dev.init with
    now := d.now, epoch := d.now, seed := d.seed, log := d.log, logErr := d.logErr,
    wl := { d.wl.kept with resets := [], iptSeen := 0 },
    pins := { d.pins with straps := straps, undriven := false, vaon := true, jtagIr := 0, jtagDr := [], tdo := [] } }
  let n := (n.put SYS_STRAP.addr (strapWord straps)).wr SYS_BOOTSTAT.STEP 1
  chargerStart n

/-- An NI whose initiator was reset discards the responses still outstanding (R407). -/
def niDrop (d : Dev) (ni : Nat) : Dev :=
  let s := nth NiStat.idle d.noc.live ni
  if s.out = 0 then d else d.setNi ni { s with drop := true }

/-- One word of source enables and one of configurations as Wailith leaves them: of each source of the Steward target but
84 they are Wailith's own choice, which the manual does not give (free values, log entry 67). -/
def ownEnables (d : Dev) (k : Nat) : Dev :=
  let own := w32 (maskFrom 32 (fun j => let n := 32 * k + j
    !srcReserved n && n != 84 && !(d.ld (ICU_CFG.addr (n / 4))).getLsbD (8 * (n % 4) + 4)))
  d.draw.put (ICU_EN.addr k) ((d.ld (ICU_EN.addr k) &&& ~~~own) ||| (Config.freeWord d.seed &&& own))
def ownPriorities (d : Dev) (k : Nat) : Dev :=
  let w := d.ld (ICU_CFG.addr k)
  let own := (List.range 4).foldl (fun (m : Word) j =>
    if srcReserved (4 * k + j) || 4 * k + j == 84 || w.getLsbD (8 * j + 4) then m else m ||| w32 (0xF * 2 ^ (8 * j))) 0#32
  d.draw.put (ICU_CFG.addr k) ((w &&& ~~~own) ||| (Config.freeWord d.seed &&& own))

/-- Wailith configures the interrupt tree when it starts: its own sources, and source 84 to the host with priority 4,
enabled (R162). -/
def wailithSources (d : Dev) : Dev :=
  let d := (List.range 28).foldl ownPriorities ((List.range 4).foldl ownEnables d)
  let d := d.put (ICU_EN.addr 2) (setFld (d.ld (ICU_EN.addr 2)) 20 20 1)
  d.put (ICU_CFG.addr 21) (setFld (d.ld (ICU_CFG.addr 21)) 4 0 0x14)

/-- Wailith starts or restarts: the Logbook walk, owner 0x01 reclaimed, its interrupt sources, BUSY slots ABORTED (R468,
R259, R162, R146). -/
def wailithRestart (d : Dev) : Dev := abortBusy (wailithSources (reclaimOwner (logStart d) 1))

/-- Steward resets within a sliding second, the new one counted (R77). -/
def Dev.recentResets (d : Dev) : List Nat := (d.wl.resets ++ [d.now]).filter (fun t => decide (d.now < 1000000000 + t))

/-- A Steward reset with a cause: 1 watchdog, 2 lockstep mismatch, 3 Wailith request (R61, R77, R174, R471, R486, R553).
In LANDING and RESTING the Steward does not run and nothing happens; in BOOT before step 0x7 and in LIMP there is no
Wailith to restart (log entry 28). -/
def stewardResetCore (d : Dev) (cause : Nat) : Dev :=
  if d.mode = .landing ∨ d.mode = .resting then d
  else
    let d := (d.bump SYS_STWRST.COUNT 1).wr SYS_STWRST.CAUSE cause
    let d := evqKind d 0x00 .stewardReset true cause 0
    let rs := d.recentResets
    let d := niDrop { d with wl := { d.wl with resets := rs } } 0
    let d := dgeAbortS (clearLoops (releaseHolder d 1))
    let d := (d.wr BAL_WDSTAT.SWDACT 1).wr BAL_WDSTAT.SNEXT 0
    let d := balEval { d with bal := { d.bal with swdLast := d.now, swdHalf := false } }
    if 3 ≤ rs.length ∧ d.mode ≠ .boot then limpEntry d 9 cause
    else match d.mode with
      | .run =>
        if sha384 d.image = d.wl.imgDigest then wailithRestart d else limpEntry d 1 0
      | .boot => if 7 ≤ d.rd SYS_BOOTSTAT.STEP ∧ sha384 d.image ≠ d.wl.imgDigest then limpEntry d 1 0 else d
      | .limp => abortBusy d
      | _ => d

/-- A Steward reset with its events in the order of R166. -/
def stewardReset (d : Dev) (cause : Nat) : Dev := inCycle (fun d => stewardResetCore d cause) d

/-- Entry to RUN: the watchdogs count from now with fresh keys, the frame watchdog from 0 (R488, R485; log entry 29). -/
def enterRun (d : Dev) : Dev :=
  let d := (setMode d .run).wr VST_FWSTAT.SERVER 1
  let d := (((d.wr BAL_WDSTAT.SNEXT 0).wr BAL_WDSTAT.HNEXT 0).wr BAL_WDSTAT.FMISS 0).wr BAL_WDSTAT.FWDACT 0
  { d with bal := { d.bal with swdLast := d.now, hwdLast := d.now, swdHalf := false, hwdHalf := false,
                               frames := false } }

end Sys2Proof.Machine
end

