-- ==== Sys2Proof/Machine/Balustrade.lean ====
section
/-!
DEFINITION. The Balustrade: release (R483, R484), watchdogs (R485 to R488, R498, R561), the clock monitor (R477), the
read-back of the trip pins (R478), the life signal (R475), and the commands of their rows.
-/

namespace Sys2Proof.Machine

/-- The halves of the channel's BAL_SRCn and BAL_LIFEn agree. -/
def Dev.chanTwinOk (d : Dev) (n : Nat) : Bool := d.twinOk (BAL_SRC.addr n) && d.twinOk (BAL_LIFE.addr n)

/-- Channel n is released by an acknowledge in this cycle: every condition of R483; `pulses` holds the channels for which
a pulse source arrives in the cycle. -/
def Dev.releasable (d : Dev) (pulses n : Nat) : Bool :=
  (d.rd BAL_STATE.TRIPPED).testBit n && d.mode == .run && d.levels n == 0 && !pulses.testBit n && d.chanTwinOk n

/-- A half period of channel n in Corridor cycles, and its next toggle one half period from now (R475). -/
def lifeNext (d : Dev) (n : Nat) : Dev :=
  { d with bal := { d.bal with lifeDue := setNth 0 d.bal.lifeDue n (d.now + 1000 * d.acts (BAL_LIFE.HALFP n)) } }

/-- The acknowledge takes effect: the named channels that meet every condition are released, with TRIPnA high and TRIPnB
low, their causes clear, one event and source 80 (R482, R483, R484). -/
def ackRelease (d : Dev) (mask pulses : Nat) : Dev :=
  let rel := maskFrom 16 (fun n => mask.testBit n && d.releasable pulses n)
  if rel = 0 then d
  else
    let causes := (bitsOf 16 rel).foldl (fun m n => m ||| (d.ld (BAL_TCAUSE.addr n)).toNat) 0
    let left := maskFrom 16 (fun n => (d.rd BAL_STATE.TRIPPED).testBit n && !rel.testBit n)
    let d := (bitsOf 16 rel).foldl (fun d n => d.put (BAL_TCAUSE.addr n) 0#32) d
    let d := d.wr BAL_STATE.TRIPPED left
    let d := { d with bal := { d.bal with
      outA := maskFrom 16 (fun n => rel.testBit n || d.bal.outA.testBit n),
      outB := maskFrom 16 (fun n => !rel.testBit n && d.bal.outB.testBit n), aonTrip := left } }
    let d := (d.bump BAL_CNT.RELEASES (bitsOf 16 rel).length).pulse 80
    let d := (bitsOf 16 rel).foldl lifeNext d
    evqAppend d 0x09 (Config.evCode .release).toNat true (w32 rel) (w32 causes)

/-- The Steward watchdog expires: its source becomes active and the Steward is reset with cause 1 (R486). -/
def swdExpire (d : Dev) : Dev := inCycle (fun d => stewardReset (balEval (d.wr BAL_WDSTAT.SWDACT 1)) 1) d

/-- The host heartbeat watchdog expires (R487). -/
def hwdExpire (d : Dev) : Dev := balEval (d.wr BAL_WDSTAT.HWDACT 1)

/-- Timeouts in Corridor cycles. -/
def Dev.swdTo (d : Dev) : Nat := 10000 * d.acts BAL_SWD.TO
def Dev.hwdTo (d : Dev) : Nat := 1000000 * d.acts BAL_HWD.TO

/-- The expected key of a watchdog (R488). -/
def keyOf (next : Nat) : Nat := if next = 0 then 0x5A5A else 0xA5A5

/-- A write of BAL_SKICK (R486, R488). -/
def skickWrite (d : Dev) (init : Nat) (data : Word) : Resp × Dev :=
  if init ≠ 0 then (.err .target, d)
  else if d.mode ≠ .run then (.ok [], d)
  else if data.toNat = keyOf (d.rd BAL_WDSTAT.SNEXT) then
    let d := (d.wr BAL_WDSTAT.SNEXT (1 - d.rd BAL_WDSTAT.SNEXT)).wr BAL_WDSTAT.SWDACT 0
    (.ok [], { d with bal := { d.bal with swdLast := d.now, swdHalf := false } })
  else (.ok [], swdExpire (d.wr BAL_EVT.SKEY 1))

/-- A write of BAL_HKICK (R487, R488). -/
def hkickWrite (d : Dev) (init : Nat) (data : Word) : Resp × Dev :=
  if init ≠ 1 then (.err .target, d)
  else if d.mode ≠ .run then (.ok [], d)
  else if data.toNat = keyOf (d.rd BAL_WDSTAT.HNEXT) then
    let d := (d.wr BAL_WDSTAT.HNEXT (1 - d.rd BAL_WDSTAT.HNEXT)).wr BAL_WDSTAT.HWDACT 0
    (.ok [], { d with bal := { d.bal with hwdLast := d.now, hwdHalf := false } })
  else
    let d := useTwin (d.wr BAL_EVT.HKEY 1) BAL_HWD.addr
    (.ok [], if d.acts BAL_HWD.TO = 0 then d else hwdExpire d)

/-- A write of BAL_VTRIP: Steward only (Table BAL.1). -/
def vtripWrite (d : Dev) (init : Nat) (data : Word) : Resp × Dev :=
  if init ≠ 0 then (.err .target, d) else (.ok [], vcmdTrip d (fld data 15 0))

/-- The frame watchdog source is active while the count is at least MISS (R485). -/
def fwdEval (d : Dev) : Dev :=
  let d := useTwin d BAL_FWD.addr
  if d.mode = .run ∧ d.acts BAL_FWD.MISS ≤ d.rd BAL_WDSTAT.FMISS then balEval (d.wr BAL_WDSTAT.FWDACT 1) else d

/-- A frame start fell due while the previous frame was not complete: the count goes up in RUN (R485). -/
def frameMissed (d : Dev) : Dev := if d.mode = .run then fwdEval (d.bump BAL_WDSTAT.FMISS 1) else d

/-- A completed frame resets the count (R485). -/
def frameCompleted (d : Dev) : Dev := (d.wr BAL_WDSTAT.FMISS 0).wr BAL_WDSTAT.FWDACT 0

/-- A new BAL_SWD.TO that the time already passed exceeds expires the watchdog at once (R561). -/
def swdChanged (d : Dev) : Dev :=
  if d.mode = .run ∧ !d.on BAL_WDSTAT.SWDACT ∧ d.bal.swdLast + d.swdTo < d.now then swdExpire d else d

/-- A new BAL_HWD.TO: turned on from 0, the count starts now; otherwise the time already passed counts (R561). -/
def hwdChanged (d : Dev) (wasOff : Bool) : Dev :=
  if wasOff then { d with bal := { d.bal with hwdLast := d.now, hwdHalf := false } }
  else if d.acts BAL_HWD.TO = 0 then balEval (d.wr BAL_WDSTAT.HWDACT 0)
  else if d.mode = .run ∧ !d.on BAL_WDSTAT.HWDACT ∧ d.bal.hwdLast + d.hwdTo < d.now then hwdExpire d
  else d

/-! Commands. -/

/-- LIFE_TOGGLE (R475): time goes on to the channel's toggle, and the next one is due after the HALFP that now stands; the
halves of the channel's twin words are used (R481), then a HEALTHY channel's outputs toggle in antiphase. -/
def lifeToggle (d : Dev) (n : Nat) : Dev :=
  if 16 ≤ n ∨ !d.coreOn ∨ d.bal.clkLost then d
  else
    let d := lifeNext (d.until (nth 0 d.bal.lifeDue n)) n
    let bad := !d.chanTwinOk n
    let d := useTwin (useTwin d (BAL_SRC.addr n)) (BAL_LIFE.addr n)
    if bad then tripMask d (2 ^ n) cOwn
    else if (d.rd BAL_STATE.TRIPPED).testBit n then d
    else
      let a := d.bal.outA.testBit n
      let b := d.bal.outB
      { d with bal := { d.bal with outA := if a then clrBit d.bal.outA n else setBit d.bal.outA n,
                                   outB := if a then setBit b n else clrBit b n } }

def execLifeToggle (n : Nat) (s : State) : Host.Outcome State Fault Refusal := fin s (lifeToggle s.dev n)

/-- BAL_VTRIP (R480). -/
def execBalVtrip (init : Nat) (data : Word) (s : State) : Host.Outcome State Fault Refusal :=
  rowWrite init s (fun d => vtripWrite d init data)

/-- BAL_SKICK (R486). -/
def execBalSkick (init : Nat) (data : Word) (s : State) : Host.Outcome State Fault Refusal :=
  rowWrite init s (fun d => skickWrite d init data)

/-- BAL_HKICK (R487). -/
def execBalHkick (init : Nat) (data : Word) (s : State) : Host.Outcome State Fault Refusal :=
  rowWrite init s (fun d => hkickWrite d init data)

/-- FRAME_WATCHDOG_EXPIRY (R485). -/
def execFrameWatchdogExpiry (s : State) : Host.Outcome State Fault Refusal := fin s (fwdEval s.dev)

/-- STEWARD_WATCHDOG_EXPIRY (R486, R498): it counts only in RUN. A valid kick in the cycle restarts the count, which the
Steward reset does as well. -/
def stewardExpiry (d : Dev) (_kick : Bool) : Dev :=
  if d.mode = .run then
    let d := useTwin d BAL_SWD.addr
    swdExpire (d.until (d.bal.swdLast + d.swdTo))
  else d

def execStewardWatchdogExpiry (kick : Bool) (s : State) : Host.Outcome State Fault Refusal :=
  fin s (oneCycle (fun d => stewardExpiry d kick) s.dev)

/-- HOST_WATCHDOG_EXPIRY (R487, R498): it counts only in RUN and only when it is on; with a valid kick in the same cycle
the expiry takes effect and the kick restarts the count. -/
def hostExpiry (d : Dev) (kick : Bool) : Dev :=
  let d := if d.mode = .run then useTwin d BAL_HWD.addr else d
  if d.mode = .run ∧ d.acts BAL_HWD.TO ≠ 0 then
    let d := hwdExpire (d.until (d.bal.hwdLast + d.hwdTo))
    if kick then
      { d.wr BAL_WDSTAT.HNEXT (1 - d.rd BAL_WDSTAT.HNEXT) with bal := { d.bal with hwdLast := d.now, hwdHalf := false } }
    else d
  else d

def execHostWatchdogExpiry (kick : Bool) (s : State) : Host.Outcome State Fault Refusal :=
  fin s (hostExpiry s.dev kick)

/-- WATCHDOG_HALF_TIME (R488): source 81 and the warning bit, once in each period. -/
def halfTime (d : Dev) (host : Bool) : Dev :=
  if d.mode ≠ .run then d
  else if host then
    let d := useTwin d BAL_HWD.addr
    if d.acts BAL_HWD.TO = 0 ∨ d.bal.hwdHalf then d
    else
      let d := (d.until (d.bal.hwdLast + d.hwdTo / 2)).pulse 81
      { d.wr BAL_EVT.HWARN 1 with bal := { d.bal with hwdHalf := true } }
  else if d.bal.swdHalf then d
  else
    let d := useTwin d BAL_SWD.addr
    let d := (d.until (d.bal.swdLast + d.swdTo / 2)).pulse 81
    { d.wr BAL_EVT.SWARN 1 with bal := { d.bal with swdHalf := true } }

def execWatchdogHalfTime (host : Bool) (s : State) : Host.Outcome State Fault Refusal := fin s (halfTime s.dev host)

/-- CLOCK_LOSS (R477): every pin low, every channel TRIPPED with CLOCK. -/
def clockLoss (d : Dev) : Dev :=
  if d.coreOn then balEval { d with bal := { d.bal with clkLost := true } } else d

def execClockLoss (s : State) : Host.Outcome State Fault Refusal := fin s (clockLoss s.dev)

/-- CLOCK_RETURN (R477): integrity fault CLOCK; the channels stay TRIPPED. -/
def clockReturn (d : Dev) : Dev :=
  if d.bal.clkLost then raiseFault { d with bal := { d.bal with clkLost := false } } 0x61 else d

def execClockReturn (s : State) : Host.Outcome State Fault Refusal := fin s (clockReturn s.dev)

/-- The level a trip pin is driven to: bit 2n of a channel is TRIPnA, bit 2n + 1 TRIPnB. -/
def Dev.driven (d : Dev) (j : Nat) : Bool := if j % 2 = 0 then d.bal.outA.testBit (j / 2) else d.bal.outB.testBit (j / 2)

/-- TRIP_READBACK_CHECK (R478): a TRIPPED pin that reads high fails at once, a HEALTHY pin that differs from its driven
level at two consecutive checks; each channel with a failing pin raises READBACK and trips with OWN (log entry 32). -/
def readback (d : Dev) (levels : Word) : Dev :=
  if !d.coreOn then d
  else
    let st := d.rd BAL_STATE.TRIPPED
    let diff := maskFrom 32 (fun j => levels.getLsbD j != d.driven j)
    let bad := maskFrom 32 (fun j =>
      if st.testBit (j / 2) then levels.getLsbD j else diff.testBit j && d.bal.rdbkBad.testBit j)
    let d := { d.put BAL_RDBK.addr levels with bal := { d.bal with rdbkBad := diff } }
    let chans := maskFrom 16 (fun n => bad.testBit (2 * n) || bad.testBit (2 * n + 1))
    let d := tripMask d chans cOwn
    (bitsOf 16 chans).foldl (fun d _ => raiseFault d 0x60) d

def execTripReadbackCheck (levels : Word) (s : State) : Host.Outcome State Fault Refusal := fin s (readback s.dev levels)

/-- LOCKSTEP_MISMATCH (R490): the request of the cycle is not issued, the Steward is reset with cause 2, LOCKSTEP is
raised. The Steward runs in BOOT, RUN and LIMP. -/
def lockstep (d : Dev) : Dev :=
  match d.mode with
  | .boot | .run | .limp => raiseFault (stewardReset d 2) 0x20
  | _ => d

def execLockstepMismatch (s : State) : Host.Outcome State Fault Refusal := fin s (oneCycle lockstep s.dev)

/-- INTEG_COUNT_DECAY (R53). -/
def integDecay (d : Dev) : Dev :=
  if d.coreOn ∧ d.rd SYS_INTEG.COUNT ≠ 0 then d.wr SYS_INTEG.COUNT (d.rd SYS_INTEG.COUNT - 1) else d

def execIntegCountDecay (s : State) : Host.Outcome State Fault Refusal := fin s (integDecay s.dev)

/-- STEWARD_RESET (R61). -/
def execStewardReset (cause : Nat) (s : State) : Host.Outcome State Fault Refusal := fin s (stewardReset s.dev cause)

/-- LIMP_ENTRY (R50). -/
def execLimpEntry (reason detail : Nat) (s : State) : Host.Outcome State Fault Refusal :=
  fin s (limpEntry s.dev reason detail)

end Sys2Proof.Machine
end

