-- ==== Sys2Proof/Machine/Bpm.lean ====
section
/-!
DEFINITION. The commands of the buffer pools (R240 to R264).
-/

namespace Sys2Proof.Machine

/-- A write of the +0x4 word of a pool as a request. -/
def poolRequest (d : Dev) (p : Nat) (data : Word) : Resp × Dev :=
  if !d.bpmOn then (.err .offline, d) else (.ok [], if p < 5 then poolCtlWrite d p data else d)

/-- BPM_POOL_ENABLE (R241, R242): the write carries EN = 1. -/
def execBpmPoolEnable (p : Nat) (data : Word) (s : State) : Host.Outcome State Fault Refusal :=
  let r := poolRequest s.dev p (setFld data 31 31 1)
  fin s { r.2 with resp := r.1 }

/-- BPM_POOL_DISABLE (R241): the write carries EN = 0. -/
def execBpmPoolDisable (p : Nat) (data : Word) (s : State) : Host.Outcome State Fault Refusal :=
  let r := poolRequest s.dev p (setFld data 31 31 0)
  fin s { r.2 with resp := r.1 }

/-- POOL_INIT_COMPLETE (R242). -/
def execPoolInitComplete (p : Nat) (s : State) : Host.Outcome State Fault Refusal :=
  fin s (if s.dev.bpmOn ∧ p < 5 then poolInitDone s.dev p else s.dev)

/-- BPM_ALLOC (R246, R249); an offset that names no pool reads zero. -/
def execBpmAlloc (init p : Nat) (s : State) : Host.Outcome State Fault Refusal :=
  let r := if p < 5 then bpmAlloc s.dev init p else (.ok (wordBytes 0#32), s.dev)
  fin s { r.2 with resp := r.1 }

/-- BPM_ALLOCFIT (R246, R247, R249). -/
def execBpmAllocfit (init c : Nat) (s : State) : Host.Outcome State Fault Refusal :=
  let r := bpmAllocFit s.dev init (c % 64)
  fin s { r.2 with resp := r.1 }

/-- BPM_FREE (R252 to R254). -/
def execBpmFree (init : Nat) (data : Word) (s : State) : Host.Outcome State Fault Refusal :=
  let r := bpmMove s.dev (ownerOfInit init) data none
  fin s { r.2 with resp := r.1 }

/-- BPM_GIVE (R252 to R254). -/
def execBpmGive (init o : Nat) (data : Word) (s : State) : Host.Outcome State Fault Refusal :=
  let r := bpmMove s.dev (ownerOfInit init) data (some o)
  fin s { r.2 with resp := r.1 }

/-- BPM_RECLAIM (R258). -/
def execBpmReclaim (init : Nat) (data : Word) (s : State) : Host.Outcome State Fault Refusal :=
  let r := bpmReclaim s.dev init (fld data 5 0)
  fin s { r.2 with resp := r.1 }

/-- BPM_REBUILD (R257). -/
def execBpmRebuild (init : Nat) (data : Word) (s : State) : Host.Outcome State Fault Refusal :=
  let r := bpmRebuild s.dev init (fld data 2 0)
  fin s { r.2 with resp := r.1 }

/-- REBUILD_COMPLETE (R257): the ring is written from the owner table. -/
def execRebuildComplete (p : Nat) (s : State) : Host.Outcome State Fault Refusal :=
  fin s (if s.dev.bpmOn ∧ p < 5 then poolInitDone s.dev p else s.dev)

/-- CACHE_REFILL (R255). -/
def execCacheRefill (p : Nat) (s : State) : Host.Outcome State Fault Refusal :=
  fin s (if s.dev.bpmOn ∧ p < 5 then cacheRefill s.dev p else s.dev)

/-- CACHE_WRITEBACK (R255). -/
def execCacheWriteback (p : Nat) (s : State) : Host.Outcome State Fault Refusal :=
  fin s (if s.dev.bpmOn ∧ p < 5 then cacheWriteback s.dev p else s.dev)

end Sys2Proof.Machine
end

