-- ==== Sys2Proof/Machine/Pins.lean ====
section
/-!
DEFINITION. GPIO pins: ownership by peripheral functions, levels, the output registers, pin-interrupt lines and wake
inputs (R216 to R219, R524 to R534), and the commands of their rows.
-/

namespace Sys2Proof.Machine

/-- Number of PBK_CTRL.LINE as it acts for port n (R216). -/
def Dev.lineOf (d : Dev) (n : Nat) : Nat := (d.port n).line

/-- The RTS/DE function of port n is enabled: RTS by the LINE of the receiver, DE by that of the transmitter (R216, R528). -/
def Dev.rtsOn (d : Dev) (n : Nat) : Bool := (d.port n).rxLine == 1 || d.lineOf n == 2

/-- The CTS function of port n is enabled (R528). -/
def Dev.ctsOn (d : Dev) (n : Nat) : Bool := d.lineOf n == 1

/-- The enabled functions of pin k of GPIO port x, the first one first, as port number and whether it is RTS/DE
(Table PIN.3). -/
def Dev.functions (d : Dev) (x k : Nat) : List (Nat × Bool) :=
  let rts := fun n => if d.rtsOn n then [(n, true)] else []
  let cts := fun n => if d.ctsOn n then [(n, false)] else []
  match x with
  | 0 => rts k
  | 1 => rts (16 + k)
  | 2 => rts (32 + k) ++ cts (16 + k)
  | _ => cts k ++ cts (32 + k)

/-- Software keeps pin k of port x (R530). -/
def Dev.kept (d : Dev) (x k : Nat) : Bool := (d.rd (PIO_KEEP.KEEP x)).testBit k

/-- The function that owns a pin (R528, R529, R530). -/
def Dev.owner (d : Dev) (x k : Nat) : Option (Nat × Bool) := if d.kept x k then none else (d.functions x k).head?

/-- The functions refused on a pin. -/
def Dev.refused (d : Dev) (x k : Nat) : List (Nat × Bool) :=
  if d.kept x k then d.functions x k else (d.functions x k).drop 1

/-- PIO_OWNx. -/
def Dev.pioOwn (d : Dev) (x : Nat) : Nat := maskFrom 16 (fun k => (d.owner x k).isSome)

/-- PIO_CONFLICTx. -/
def Dev.pioConflict (d : Dev) (x : Nat) : Nat := maskFrom 16 (fun k => !(d.refused x k).isEmpty)

/-- Every refused function: pin, port number, RTS/DE. -/
def Dev.allRefused (d : Dev) : List (Nat × Nat × Nat × Bool) :=
  (List.range 4).flatMap (fun x => (List.range 16).flatMap (fun k =>
    (d.refused x k).map (fun f => (x, k, f.1, f.2))))

/-- After a change of LINE or KEEP: a refusal that begins sets PBK_STAT.CFGERR of its port (R529, R530). -/
def pinsChanged (old d : Dev) : Dev :=
  let was := old.allRefused
  d.allRefused.foldl (fun d r => if was.contains r then d else d.wr (PBK_STAT.CFGERR r.2.2.1) 1) d

/-- RTS of a port is asserted (R218). -/
def Dev.rtsOf (d : Dev) (n : Nat) : Bool :=
  if d.mode = .doze then d.on (PBK_WAKE.EN n)
  else (d.port n).rts && d.on (PBK_CTRL.RXEN n) && d.svcOf (.bank (n / 8)) == .inService

/-- DE of a port in LINE 2, else its RTS, as the level on its pin (R217, R218). -/
def Dev.rtsLevel (d : Dev) (n : Nat) : Bool :=
  let p := d.port n
  if p.line = 2 then p.dePin == !d.on (PBK_CTRL.DEPOL n) else d.rtsOf n == d.on (PBK_CTRL.RTSPOL n)

/-- The value v of a GPIO output (R524); PIO_GOUTx reads zero while the GAL domain is off (R527). -/
def Dev.goutOf (d : Dev) (x : Nat) : Nat := if d.galOn then d.rd (PIO_GOUT.GOUT x) else 0

/-- The value v of R524 for a pin. -/
def Dev.pioValue (d : Dev) (x k : Nat) : Bool :=
  (d.rd (PIO_OUT.OUT x)).testBit k || ((d.rd (PIO_GSEL.GSEL x)).testBit k && (d.goutOf x).testBit k)

/-- The level the device drives on a pin, if it drives it (R524, R528, R534). -/
def Dev.pinDrive (d : Dev) (x k : Nat) : Option Bool :=
  if d.pins.undriven then none
  else match d.owner x k with
    | some (n, true) => some (d.rtsLevel n)
    | some (_, false) => none
    | none =>
      if !(d.rd (PIO_DIR.DIR x)).testBit k then none
      else if (d.rd (PIO_OD.OD x)).testBit k then (if d.pioValue x k then none else some false)
      else some (d.pioValue x k)

/-- The pad level of a pin: what the device drives, else the level from outside, pulls included (R526; log entry 30). -/
def Dev.pinLevel (d : Dev) (x k : Nat) : Bool :=
  match d.pinDrive x k with
  | some b => b
  | none => (nth 0 d.pins.gpio x).testBit k

/-- PIO_INx. -/
def Dev.pioIn (d : Dev) (x : Nat) : Nat := maskFrom 16 (d.pinLevel x)

/-- The GPIO pin of a port's CTS function (Table PIN.3). -/
def ctsPinOf (n : Nat) : Nat × Nat :=
  if n < 16 then (3, n) else if n < 32 then (2, n - 16) else (3, n - 32)

/-- CTS of a port is asserted: its function owns the pin and the pad has the asserted level (R217, R529). -/
def Dev.ctsOf (d : Dev) (n : Nat) : Bool :=
  let (x, k) := ctsPinOf n
  match d.owner x k with
  | some (m, false) => m == n && (d.pinLevel x k == d.on (PBK_CTRL.CTSPOL n))
  | _ => false

/-- A change of pad levels is noted with the array cycle and the levels before it, for the synchroniser of PIOIN; changes
older than two array cycles are forgotten (R318; log entry 33). -/
def padsMove (f : Dev → Dev) (d : Dev) : Dev :=
  let old := (List.range 4).map d.pioIn
  let e := f d
  if (List.range 4).map e.pioIn = old then e
  else
    let now := d.rd GSQ_BCNT_NOW.NOW
    { e with gal := { e.gal with padHist := e.gal.padHist.filter (fun x => decide (now < x.1 + 2)) ++ [(now, old)] } }

/-! Output registers. -/

/-- A write of PIO_SETx, PIO_CLRx or PIO_TGLx through the new value of PIO_OUTx (R525). -/
def pioSetOut (d : Dev) (x : Nat) (f : Nat → Nat) : Dev :=
  padsMove (fun d => d.wr (PIO_OUT.OUT x) (f (d.rd (PIO_OUT.OUT x)) % 2 ^ 16)) d

/-! Pin-interrupt lines. -/

/-- A new MODE of a line: a pulse pending bit of a former pulse mode clears when the new mode is no pulse mode (R532). -/
def pintCfgWrite (d : Dev) (n : Nat) (data : Word) : Dev :=
  let m := fld data 2 0
  let m := if 6 ≤ m then d.rd (PIO_PINTCFG.MODE n) else m
  let was := d.pintPulse n
  let d := d.put (PIO_PINTCFG.addr n) (setFld (data &&& 0x10F37#32) 2 0 m)
  if was && !d.pintPulse n then
    let s := 88 + n
    d.put (ICU_PEND.addr (s / 32)) (d.ld (ICU_PEND.addr (s / 32)) &&& ~~~w32 (2 ^ (s % 32)))
  else d

/-- The level from outside at pin k of port x. -/
def padFromOutside (d : Dev) (x k : Nat) (level : Bool) : Dev :=
  let v := nth 0 d.pins.gpio x
  { d with pins := { d.pins with gpio := setNth 0 d.pins.gpio x (if level then setBit v k else clrBit v k) } }

/-- A filtered level of line n (R532): the pad of its pin has it (R526), PIO_PINTLVL shows it, and source 88 + n pulses at an
edge of the kind MODE names. -/
def pinEdge (d : Dev) (n : Nat) (level : Bool) : Dev :=
  if 16 ≤ n ∨ !d.coreOn then d
  else
    let d := padsMove (fun d => padFromOutside d (d.rd (PIO_PINTCFG.PORT n)) n level) d
    let old := (d.rd PIO_PINTLVL.LEVEL).testBit n
    let v := d.rd PIO_PINTLVL.LEVEL
    let d := d.wr PIO_PINTLVL.LEVEL (if level then setBit v n else clrBit v n)
    let m := d.acts (PIO_PINTCFG.MODE n)
    if (!old && level && (m == 1 || m == 3)) || (old && !level && (m == 2 || m == 3)) then d.pulse (88 + n) else d

/-- A wake event (R49): in DOZE the return to RUN begins; during DOZE entry it is held pending. -/
def wake (d : Dev) : Dev :=
  if d.mode = .doze ∨ d.wl.dozeWait.isSome then { d with wl := { d.wl with wakeHeld := true } } else d

/-- The lines of a mask that are wake inputs (R533). -/
def Dev.wakeLines (d : Dev) (mask : Nat) : Nat :=
  maskFrom 16 (fun n => mask.testBit n && d.on (PIO_PINTCFG.WAKE n) &&
    (let m := d.acts (PIO_PINTCFG.MODE n); decide (1 ≤ m) && decide (m ≤ 5)))

/-- Pulses on wake inputs in DOZE: their bits in PIO_WAKESRC and one wake event (R533). -/
def pinWakeOn (d : Dev) (mask : Nat) : Dev :=
  let w := d.wakeLines mask
  if w = 0 ∨ !(d.mode = .doze ∨ d.wl.dozeWait.isSome) then d
  else wake (d.wr PIO_WAKESRC.LINE (d.rd PIO_WAKESRC.LINE ||| w))

/-- The wake inputs in a level mode whose level already matches when DOZE entry completes (R533). -/
def Dev.levelWakes (d : Dev) : Nat :=
  maskFrom 16 (fun n => d.on (PIO_PINTCFG.WAKE n) &&
    (let m := d.acts (PIO_PINTCFG.MODE n)
     let l := d.pinLevel (d.rd (PIO_PINTCFG.PORT n)) n
     (m == 4 && l) || (m == 5 && !l)))

/-! Commands. -/

/-- PIO_SET (R525). -/
def execPioSet (x : Nat) (data : Word) (s : State) : Host.Outcome State Fault Refusal :=
  fin s (if x < 4 ∧ s.dev.niOpen 0 then pioSetOut s.dev x (fun o => o ||| fld data 15 0) else s.dev)

/-- PIO_CLR (R525). -/
def execPioClr (x : Nat) (data : Word) (s : State) : Host.Outcome State Fault Refusal :=
  fin s (if x < 4 ∧ s.dev.niOpen 0 then pioSetOut s.dev x (fun o => o &&& (0xFFFF - fld data 15 0)) else s.dev)

/-- PIO_TGL (R525). -/
def execPioTgl (x : Nat) (data : Word) (s : State) : Host.Outcome State Fault Refusal :=
  fin s (if x < 4 ∧ s.dev.niOpen 0 then pioSetOut s.dev x (fun o => o ^^^ fld data 15 0) else s.dev)

/-- PIO_OUT_WRITE (R525). -/
def execPioOutWrite (x : Nat) (data : Word) (s : State) : Host.Outcome State Fault Refusal :=
  fin s (if x < 4 ∧ s.dev.niOpen 0 then pioSetOut s.dev x (fun _ => fld data 15 0) else s.dev)

/-- PIN_INTERRUPT_EDGE (R532). -/
def execPinInterruptEdge (n : Nat) (level : Bool) (s : State) : Host.Outcome State Fault Refusal :=
  fin s (pinEdge s.dev n level)

/-- PIN_WAKE (R533). -/
def execPinWake (mask : Nat) (s : State) : Host.Outcome State Fault Refusal := fin s (pinWakeOn s.dev mask)

end Sys2Proof.Machine
end

