-- ==== Sys2Proof/Machine/Interrupts.lean ====
section
/-!
DEFINITION. The interrupt tree (R152 to R165), the Steward's side of the event queue (R169), the Newel locks (R170 to
R175), and the commands of their rows.
-/

namespace Sys2Proof.Machine

/-! Level sources (Table INT.1). -/

/-- The port source (PBK_IE): an enabled status bit, LINEDOWN, or a closed frame with FQIE. -/
def Dev.portIrq (d : Dev) (n : Nat) : Bool :=
  (d.ld (PBK_STAT.addr n) &&& d.ld (PBK_IE.addr n) &&& 0x3FFBF#32) != 0#32 || d.on (PBK_STAT.LINEDOWN n)
    || (!(d.port n).closedQ.isEmpty && d.on (PBK_CTRL.FQIE n))

/-- Some enabled pool has fewer free buffers than its LOWMARK (R249). -/
def Dev.poolLow (d : Dev) : Bool :=
  (List.range 5).any (fun p => d.poolEn p && decide (d.poolFree p < d.rd (BPM_POOLLOW.LOWMARK p)))

/-- VHOLD has reached VREADY (R506). -/
def Dev.vready (d : Dev) : Bool := decide (100 * d.acts PSV_CAPCFG.VREADY ≤ d.pins.vhold)

/-- PSV_STAT with its status bits as they stand. -/
def Dev.psvStat (d : Dev) : Word := setFld (d.ld PSV_STAT.addr) 1 1 (bit d.vready)

/-- DGE_STAT: DONE and ERR of both contexts. -/
def Dev.dgeStat (d : Dev) : Word :=
  w32 (bit (d.on (DGE_CSTAT.DONE 0)) + 2 * bit (d.on (DGE_CSTAT.ERR 0)) + 4 * bit (d.on (DGE_CSTAT.DONE 1))
    + 8 * bit (d.on (DGE_CSTAT.ERR 1)))

/-- Number of the EVQ entries reaches the mark, or events have been lost (R168). -/
def Dev.evqIrq (d : Dev) : Bool :=
  decide (d.acts EVQ_CFG.MARK ≤ d.evq.length) || d.rd EVQ_LOST.COUNT != 0 || d.on EVQ_LOST.CRITLOST

/-- The cause of a level source. -/
def Dev.srcLevel (d : Dev) (n : Nat) : Bool :=
  if n < 48 then d.portIrq n
  else if n < 54 then d.ld (PBK_BCAUSE.addr (n - 48)) != 0#32
  else if 56 ≤ n ∧ n < 60 then (d.ld (CNC_ERR.addr (n - 56)) &&& d.ld (CNC_IE.addr (n - 56))) != 0#32
  else if n = 61 then d.on CWT_FAULT.VALID
  else if n = 65 then d.gal.trapped
  else if n = 73 then d.rd BPM_FAULT.CAUSE != 0
  else if n = 74 then d.poolLow
  else if n = 75 then (d.ld ATC_ERR.addr &&& d.ld ATC_IE.addr) != 0#32
  else if n = 76 then (d.dgeStat &&& d.ld DGE_IE.addr) != 0#32
  else if n = 77 then d.rd NOC_PRBSTAT.HIT != 0
  else if n = 79 then (d.psvStat &&& d.ld PSV_IE.addr) != 0#32
  else if n = 82 then d.ld NWL_ERR.addr != 0#32
  else if n = 83 then d.evqIrq
  else if n = 84 then d.vst.st.any (· == 3)
  else if n = 85 then d.vst.st.any (· == 1)
  else if n = 86 then d.on HPT_STAT.WERR || d.hl.drop
  else if 88 ≤ n ∧ n < 104 then
    let m := d.acts (PIO_PINTCFG.MODE (n - 88))
    let l := (d.rd PIO_PINTLVL.LEVEL).testBit (n - 88)
    (m == 4 && l) || (m == 5 && !l)
  else false

/-! Delivery. -/

/-- A bit of one of the six-word source registers. -/
def Dev.srcBit (d : Dev) (a : Nat → Nat) (n : Nat) : Bool := (d.ld (a (n / 32))).getLsbD (n % 32)

/-- Pending state of a source (R153, R154). -/
def Dev.srcPend (d : Dev) (n : Nat) : Bool :=
  if srcReserved n then false else if d.srcPulse n then d.srcBit ICU_PEND.addr n else d.srcLevel n

/-- Priority and target of a source (ICU_CFGk); true is the host. -/
def Dev.srcPrio (d : Dev) (n : Nat) : Nat := fld (d.ld (ICU_CFG.addr (n / 4))) (8 * (n % 4) + 3) (8 * (n % 4))
def Dev.srcHost (d : Dev) (n : Nat) : Bool := (d.ld (ICU_CFG.addr (n / 4))).getLsbD (8 * (n % 4) + 4)

/-- A source is claimed and not completed. -/
def Dev.srcAct (d : Dev) (n : Nat) : Bool := d.srcBit ICU_ACT.addr n

/-- Running level of a target: the highest priority among its active sources (R155). -/
def Dev.runLvl (d : Dev) (host : Bool) : Nat :=
  (List.range 112).foldl (fun m n => if d.srcAct n && d.srcHost n == host then max m (d.srcPrio n) else m) 0

/-- Threshold of a target. -/
def Dev.thr (d : Dev) (host : Bool) : Nat := if host then d.rd ICU_TGT_H.THR else d.rd ICU_TGT_S.THR

/-- Global disable of a target (R161). -/
def Dev.gdis (d : Dev) (host : Bool) : Bool := if host then d.on ICU_TGT_H.GDIS else d.on ICU_TGT_S.GDIS

/-- A source is delivered to a target (R155, R159, R161). -/
def Dev.delivered (d : Dev) (host : Bool) (n : Nat) : Bool :=
  d.srcBit ICU_EN.addr n && d.srcPend n && !d.srcAct n && d.srcHost n == host && !d.gdis host
    && decide (max (d.thr host) (d.runLvl host) < d.srcPrio n)

/-- ICU_GCAUSEg for the host. -/
def Dev.gcause (d : Dev) (g : Nat) : Nat := maskFrom 8 (fun k => d.delivered true (8 * g + k))

/-- ICU_SUM or ICU_SUMS (R163). -/
def Dev.icuSum (d : Dev) (host : Bool) : Nat :=
  maskFrom 24 (fun g => (List.range 8).any (fun k => d.delivered host (8 * g + k)))

/-- The IRQ_N pin is driven low: the host summary is not zero, while the CORE domain works and the pads drive (R83, R84,
R534). It follows the summary at once; it is no snapshot. -/
def Dev.irqLow (d : Dev) : Bool := d.coreOn && !d.pins.undriven && d.icuSum true != 0

/-- The delivered source of highest priority, the lowest number first (R156). -/
def Dev.best (d : Dev) (host : Bool) : Option Nat :=
  (List.range 112).foldl (fun b n =>
    if d.delivered host n then
      match b with
      | some m => if d.srcPrio m < d.srcPrio n then some n else b
      | none => some n
    else b) none

/-- A bit of one of the six-word source registers replaced. -/
def Dev.putSrc (d : Dev) (a : Nat → Nat) (n : Nat) (v : Bool) : Dev :=
  d.put (a (n / 32)) (setFld (d.ld (a (n / 32))) (n % 32) (n % 32) (bit v))

/-- A claim (R156): the source becomes active, a pulse source loses its pending bit unless a pulse arrives with it. -/
def claim (d : Dev) (host pulse : Bool) : Word × Dev :=
  match d.best host with
  | none => (0xFF#32, d)
  | some n =>
    let w := w32 (d.srcPrio n * 256 + n)
    let d' := d.putSrc ICU_ACT.addr n true
    (w, if d.srcPulse n then d'.putSrc ICU_PEND.addr n pulse else d')

/-- A completion (R157, R178). -/
def eoi (d : Dev) (host : Bool) (n : Nat) (pulse : Bool) : Dev :=
  let d := if pulse && d.srcPulse n then d.pulse n else d
  if n < 112 ∧ d.srcAct n ∧ d.srcHost n = host then d.putSrc ICU_ACT.addr n false
  else if host then d.wr ICU_ERR.EOI_H 1 else d.wr ICU_ERR.EOI_S 1

/-- The sources of word k that satisfy `p`, as a word. -/
def srcWord (k : Nat) (p : Nat → Bool) : Word := w32 (maskFrom 32 (fun j => p (32 * k + j)))

/-- A write of ICU_PENDk: only pulse sources keep what is written; a pulse in the same cycle is kept (R153, R154, R160). -/
def pendWrite (d : Dev) (k : Nat) (data pulses : Word) : Dev :=
  if k < 6 then d.put (ICU_PEND.addr k) ((data ||| pulses) &&& srcWord k (fun n => d.srcPulse n && !srcReserved n)) else d

/-- A write of ICU_ENk (R153, R160). -/
def enWrite (d : Dev) (k : Nat) (data : Word) : Dev :=
  if k < 6 then d.put (ICU_EN.addr k) (data &&& srcWord k (fun n => !srcReserved n)) else d

/-- A write of ICU_CFGk: an active source moved to the other target loses its active bit (R153, R179). -/
def cfgWrite (d : Dev) (k : Nat) (data : Word) : Dev :=
  if k < 48 then
    let keep := (List.range 4).foldl (fun m j => if srcReserved (4 * k + j) then m else m + 2 ^ (8 * j) * 0x1F) 0
    let new := data &&& w32 keep
    let moved := (List.range 4).filter (fun j => (d.ld (ICU_CFG.addr k)).getLsbD (8 * j + 4) != new.getLsbD (8 * j + 4))
    moved.foldl (fun d j => d.putSrc ICU_ACT.addr (4 * k + j) false) (d.put (ICU_CFG.addr k) new)
  else d

/-- A Host Link reset ends every claim of the host target (R164). -/
def clearHostClaims (d : Dev) : Dev :=
  (List.range 6).foldl (fun d k =>
    d.put (ICU_ACT.addr k) (d.ld (ICU_ACT.addr k) &&& ~~~srcWord k d.srcHost)) d

/-! Newel. -/

/-- Holder ID of a Corridor request; a lane carries the POS of the origin (R170, R385). -/
def nwlHolder (init origin : Nat) : Option Nat :=
  match init with
  | 0 => some 1 | 1 => some 2 | 3 => some 3 | 2 => some 4
  | 8 | 9 | 10 | 11 => some (8 + origin % 8)
  | _ => none

/-- The NWL_ACQn word of a lock for a requester. -/
def Dev.acqWord (d : Dev) (n : Nat) (granted already : Bool) : Word :=
  w32 (2 ^ 31 * bit granted + 2 ^ 30 * bit (d.orphan n) + 2 ^ 29 * bit already + d.holder n % 16)

/-- The NWL_PEEKn word. -/
def Dev.peekWord (d : Dev) (n : Nat) : Word := w32 (2 ^ 30 * bit (d.orphan n) + d.holder n % 16)

/-- The holder of a lock set. -/
def Dev.setHolder (d : Dev) (n h : Nat) : Dev := { d with holders := tset (fun _ => 0) d.holders n h }

/-- An attempt of holder h to acquire lock n (R171). -/
def nwlAcquire (d : Dev) (h n : Nat) : Word × Dev :=
  if d.holder n = 0 then
    let d := d.setHolder n h
    (d.acqWord n true false, d)
  else if d.holder n = h then (d.acqWord n true true, d)
  else (d.acqWord n false false, d.bump NWL_CNT.DENIED 1)

/-- NWL_ERRINFO of the last error (R170, R172). -/
def nwlError (d : Dev) (f : Fld) (srcid req lock : Nat) : Dev :=
  (d.wr f 1).put NWL_ERRINFO.addr (w32 (2 ^ 12 * srcid + 2 ^ 8 * (req % 16) + lock % 64))

/-- A release of lock n by holder h: whether it was released (R172). -/
def nwlRelease (d : Dev) (h n : Nat) : Bool × Dev :=
  if d.holder n = h then (true, d.setHolder n 0)
  else if d.holder n = 0 then (false, nwlError d NWL_ERR.NOTHELD 0 h n)
  else (false, nwlError d NWL_ERR.FOREIGN 0 h n)

/-- The holder of a lock clears its ORPHAN flag (R173). -/
def nwlClear (d : Dev) (h n : Nat) : Dev :=
  if d.holder n = h then
    d.wr (NWL_ORPHAN.ORPHAN (n / 32)) (clrBit (d.rd (NWL_ORPHAN.ORPHAN (n / 32))) (n % 32)) else d

/-- One Newel operation of a holder in the form of the NWL instruction: ACQ, REL, CLRORPH or PEEK; the result word and L
(R319). -/
def newelOp (d : Dev) (h op lock : Nat) : Word × Bool × Dev :=
  let owned := fun (d : Dev) => let g := d.holder lock == h; d.acqWord lock g g
  match op with
  | 0 => let r := nwlAcquire d h lock; (r.1, r.1.getLsbD 31, r.2)
  | 1 => let r := nwlRelease d h lock; (owned r.2, r.1, r.2)
  | 2 => let r := nwlClear d h lock; (owned r, r.holder lock == h, r)
  | _ => (d.peekWord lock, d.orphan lock, d)

/-- A request from an initiator with no holder ID (R170). -/
def nwlBad (d : Dev) (init lock : Nat) : Resp × Dev := (.err .target, nwlError d NWL_ERR.BADREQ 1 init lock)

/-- A read of NWL_ACQn. -/
def nwlAcqRead (d : Dev) (init origin n : Nat) : Resp × Dev :=
  match nwlHolder init origin with
  | none => nwlBad d init n
  | some h =>
    let r := nwlAcquire d h n
    (.ok (wordBytes r.1), r.2)

/-- A write of NWL_ACQn. -/
def nwlRelWrite (d : Dev) (init origin n : Nat) (data : Word) : Resp × Dev :=
  match nwlHolder init origin with
  | none => nwlBad d init n
  | some h =>
    if data.getLsbD 0 then
      let r := nwlRelease d h n
      (if r.1 then .ok [] else .err .target, r.2)
    else (.ok [], d)

/-- A write of NWL_ORPHANk; a flag that hardware sets in the same cycle reads 1 afterwards, and the
locks released with it count (R165, R173). -/
def nwlOrphanWrite (d : Dev) (init origin k : Nat) (data sets : Word) : Resp × Dev :=
  match nwlHolder init origin with
  | none => nwlBad d init 0
  | some h =>
    let d := (bitsOf 32 data.toNat).foldl (fun d j => nwlClear d h (32 * k + j)) d
    if sets = 0#32 then (.ok [], d)
    else
      let d := d.wr (NWL_ORPHAN.ORPHAN k) (d.rd (NWL_ORPHAN.ORPHAN k) ||| sets.toNat)
      (.ok [], d.bump NWL_CNT.ORPHREL (bitsOf 32 sets.toNat).length)

/-- A write of NWL_FORCE (R175). -/
def nwlForceWrite (d : Dev) (init : Nat) (data : Word) : Resp × Dev :=
  match nwlHolder init 0 with
  | none => nwlBad d init (fld data 5 0)
  | some _ =>
    if init ≠ 0 then (.err .target, d)
    else
      let n := fld data 5 0
      (.ok [], if d.holder n = 0 then d else orphanStep d (2 ^ n) (0x30 + d.holder n))

/-- The Newel and the Steward side of the EVQ serve a request whose NI admits it (R409) and whose register exists. -/
def nwlServe (s : State) (init n bound : Nat) (f : Dev → Resp × Dev) : Host.Outcome State Fault Refusal :=
  if s.dev.niOpen init ∧ n < bound then
    let r := f s.dev
    fin s { r.2 with resp := r.1 }
  else fin s { s.dev with resp := .err .offline }

/-! EVQ, Steward side. -/

/-- A write of EVQ_POSTC (R169). -/
def postcWrite (d : Dev) (init : Nat) (data : Word) : Resp × Dev :=
  if init ≠ 0 then (.err .target, d)
  else
    let seq := d.rd EVQ_NEXTSEQ.SEQ
    let d := evqAppend d 0x80 (fld data 7 0) (data.getLsbD 8) (d.ld (EVQ_POSTD.addr 0)) (d.ld (EVQ_POSTD.addr 1))
    (.ok [], d.wr EVQ_POSTSEQ.SEQ seq)

/-- A write of EVQ_POP (R169). -/
def popWrite (d : Dev) (init : Nat) (data : Word) : Resp × Dev :=
  if init ≠ 0 then (.err .target, d)
  else (.ok [], if data.getLsbD 0 then { d with evq := d.evq.tail } else d)

/-! Commands. -/

/-- ICU_CLAIM (R156). -/
def execIcuClaim (host pulse : Bool) (s : State) : Host.Outcome State Fault Refusal :=
  if s.dev.niOpen (bit host) then
    let r := claim s.dev host pulse
    fin s { r.2 with resp := .ok (wordBytes r.1) }
  else fin s { s.dev with resp := .err .offline }

/-- ICU_EOI (R157, R178). -/
def execIcuEoi (host : Bool) (src : Nat) (pulse : Bool) (s : State) : Host.Outcome State Fault Refusal :=
  fin s (if s.dev.niOpen (bit host) then eoi s.dev host src pulse else s.dev)

/-- ICU_PEND_WRITE (R160). -/
def execIcuPendWrite (k : Nat) (data pulses : Word) (s : State) : Host.Outcome State Fault Refusal :=
  fin s (if s.dev.niOpen 0 then pendWrite s.dev k data pulses else s.dev)

/-- ICU_CFG_WRITE (R179). -/
def execIcuCfgWrite (k : Nat) (data : Word) (s : State) : Host.Outcome State Fault Refusal :=
  fin s (if s.dev.niOpen 0 then cfgWrite s.dev k data else s.dev)

/-- EVQ_POSTC (R169). -/
def execEvqPostc (init : Nat) (data : Word) (s : State) : Host.Outcome State Fault Refusal :=
  nwlServe s init 0 1 (fun d => postcWrite d init data)

/-- EVQ_POP (R169). -/
def execEvqPop (init : Nat) (data : Word) (s : State) : Host.Outcome State Fault Refusal :=
  nwlServe s init 0 1 (fun d => popWrite d init data)

/-- A request that is due in the cycle in which its holder is reset is discarded with an error response (R176). -/
def unlessReset (reset : Bool) (f : Dev → Resp × Dev) (d : Dev) : Resp × Dev := if reset then (.err .target, d) else f d

/-- NWL_ACQ (R171). -/
def execNwlAcq (sender : Sender) (n : Nat) (holderReset : Bool) (s : State) : Host.Outcome State Fault Refusal :=
  nwlServe s sender.init n 64 (unlessReset holderReset (fun d => nwlAcqRead d sender.init sender.origin n))

/-- NWL_REL (R172). -/
def execNwlRel (sender : Sender) (n : Nat) (data : Word) (holderReset : Bool) (s : State) : Host.Outcome State Fault Refusal :=
  nwlServe s sender.init n 64 (unlessReset holderReset (fun d => nwlRelWrite d sender.init sender.origin n data))

/-- NWL_ORPHAN_CLEAR (R173). -/
def execNwlOrphanClear (sender : Sender) (k : Nat) (data : Word) (cycle : OrphanCycle) (s : State) :
    Host.Outcome State Fault Refusal :=
  nwlServe s sender.init k 2 (unlessReset cycle.holderReset
    (fun d => nwlOrphanWrite d sender.init sender.origin k data cycle.sets))

/-- NWL_FORCE (R175). -/
def execNwlForce (init : Nat) (data : Word) (s : State) : Host.Outcome State Fault Refusal :=
  nwlServe s init 0 1 (fun d => nwlForceWrite d init data)

end Sys2Proof.Machine
end

