-- ==== Sys2Proof/Machine/Operands.lean ====
section
/-!
DEFINITION. Bit planes and the operand forms of the Gallery: fields as lists of planes, lowest bit first, their
arithmetic in all bays at once (R266, R305 to R309), shifts (R276, R310) and operand words (R296, R297).
-/

namespace Sys2Proof.Machine

/-- The plane of all zeros and the plane of all ones. -/
def p0 : Plane := 0#16384
def p1 : Plane := BitVec.allOnes 16384

/-- The plane of a constant bit. -/
def pBit (b : Bool) : Plane := if b then p1 else p0

/-- Where the mask is 1 the first plane, elsewhere the second. -/
def pSel (m a b : Plane) : Plane := (a &&& m) ||| (b &&& ~~~m)

/-- A constant as a field of width w. -/
def pConst (w v : Nat) : List Plane := (List.range w).map (fun k => pBit (v.testBit k))

/-- A field widened or cut to n planes, extended by its last plane when signed. -/
def pExt (sg : Bool) (n : Nat) (a : List Plane) : List Plane :=
  let e := if sg then (a.getLast?).getD p0 else p0
  (List.range n).map (fun k => (a[k]?).getD e)

/-- Bit-serial addition with a carry plane: the sum and the carry out. -/
def pAdd : List Plane → List Plane → Plane → List Plane × Plane
  | a :: as, b :: bs, c =>
    let t := a ^^^ b
    let r := pAdd as bs ((a &&& b) ||| (t &&& c))
    ((t ^^^ c) :: r.1, r.2)
  | _, _, c => ([], c)

/-- The complement of a field. -/
def pNot (a : List Plane) : List Plane := a.map (fun x => ~~~x)

/-- a − b and the borrow plane, 1 where a < b unsigned. -/
def pSub (a b : List Plane) : List Plane × Plane :=
  let r := pAdd a (pNot b) p1
  (r.1, ~~~r.2)

/-- The two's complement negative of a field. -/
def pNeg (a : List Plane) : List Plane := (pAdd (pNot a) (List.replicate a.length p0) p1).1

/-- The OR of all planes of a field. -/
def pOr (a : List Plane) : Plane := a.foldl (· ||| ·) p0

/-- Where the fields are equal. -/
def pEq (a b : List Plane) : Plane := ~~~pOr (List.zipWith (· ^^^ ·) a b)

/-- The sign plane of a field. -/
def pTop (a : List Plane) : Plane := (a.getLast?).getD p0

/-- Where a < b, signed or unsigned. -/
def pLt (sg : Bool) (a b : List Plane) : Plane :=
  let r := pSub a b
  if sg then
    let s := pTop r.1
    s ^^^ ((pTop a ^^^ pTop b) &&& (pTop a ^^^ s))
  else r.2

/-- Signed overflow of an addition with sum s. -/
def pAddOv (a b s : List Plane) : Plane := ~~~(pTop a ^^^ pTop b) &&& (pTop a ^^^ pTop s)

/-- Signed overflow of a subtraction with difference s. -/
def pSubOv (a b s : List Plane) : Plane := (pTop a ^^^ pTop b) &&& (pTop a ^^^ pTop s)

/-- Where the field holds −2^(w−1). -/
def pMostNeg (a : List Plane) : Plane := pTop a &&& ~~~pOr a.dropLast

/-- A field chosen by a mask plane. -/
def pPick (m : Plane) (a b : List Plane) : List Plane := List.zipWith (pSel m) a b

/-- LOGIC: bit (4a + 2b + c) of the truth table t in every bay (Table GIS.4). -/
def pLogic (t : Nat) (a b c : Plane) : Plane :=
  (List.range 8).foldl (fun r k =>
    if t.testBit k then
      r ||| ((if k.testBit 2 then a else ~~~a) &&& (if k.testBit 1 then b else ~~~b) &&& (if k.testBit 0 then c else ~~~c))
    else r) p0

/-- Width in which accumulator sums are exact: 64-bit products and 48-bit accumulators fit (R274, R308). -/
def accW : Nat := 66

/-- The exact product of two fields, each extended by its signedness (R308). -/
def pMul (a : List Plane) (sa : Bool) (b : List Plane) (sb : Bool) : List Plane :=
  let ax := pExt sa accW a
  let n := b.length
  ((List.range n).zip b).foldl (fun acc jb =>
    let term := (List.replicate jb.1 p0 ++ ax.map (· &&& jb.2)).take accW
    if sb && jb.1 + 1 == n then (pAdd acc (pNot term) p1).1 else (pAdd acc term p0).1)
    (List.replicate accW p0)

/-- The exact sum of an accumulator and an addend: where it leaves 48 bits, and the 48 planes stored under OVMODE, wrapped
or saturated (R274, Table GAL.2). -/
def accSum (wrap : Bool) (acc addend : List Plane) : Plane × List Plane :=
  let e := (pAdd (pExt true accW acc) (pExt true accW addend) p0).1
  let sign := pTop e
  let ov := ((e.drop 47).dropLast).foldl (fun m x => m ||| (x ^^^ sign)) p0
  if wrap then (ov, e.take 48)
  else (ov, ((List.range 48).zip (e.take 48)).map (fun kx => pSel ov (if kx.1 == 47 then sign else ~~~sign) kx.2))

/-- Bits s to s + w − 1 of an accumulator. -/
def accBits (acc : List Plane) (s w : Nat) : List Plane := (acc.drop s).take w

/-- The saturating read: where it clamps, and the field (Table GIS.6). -/
def accClamp (acc : List Plane) (s w : Nat) : Plane × List Plane :=
  let sign := pTop acc
  let ovf := (acc.drop (s + w - 1)).foldl (fun m x => m ||| (x ^^^ sign)) p0
  (ovf, ((List.range w).zip (accBits acc s w)).map (fun kx => pSel ovf (if kx.1 + 1 == w then sign else ~~~sign) kx.2))

/-- Number of ones of a plane, counted by halves. -/
def popN : Nat → Nat → Nat → Nat
  | 0, _, x => x % 2
  | n + 1, w, x => popN n (w / 2) (x % 2 ^ (w / 2)) + popN n (w / 2) (x / 2 ^ (w / 2))

/-- Number of bays in which a plane is 1 (R280). -/
def pCount (a : Plane) : Nat := popN 14 16384 a.toNat

/-! Shifts. -/

/-- The plane of the bays of columns k with `f k`. -/
def colPlane (m : Nat) : Plane := (BitVec.replicate 128 (BitVec.ofNat 128 m)).setWidth 16384

/-- Columns 0 to d − 1, and rows 0 to d − 1. -/
def colsBelow (d : Nat) : Plane := colPlane (2 ^ d - 1)
def rowsBelow (d : Nat) : Plane := BitVec.ofNat 16384 (2 ^ (128 * d) - 1)

/-- The bays a shift by d in direction dr leaves without a source in the device (R276). -/
def vacant (dr d : Nat) : Plane :=
  match dr with
  | 0 => ~~~rowsBelow (128 - d)
  | 1 => colsBelow d
  | 2 => rowsBelow d
  | _ => ~~~colsBelow (128 - d)

/-- A plane moved d steps in direction 0 N, 1 E, 2 S, 3 W; bays without a source take 0 (R276). -/
def moved (dr d : Nat) (x : Plane) : Plane :=
  match dr with
  | 0 => x >>> (128 * d)
  | 1 => (x <<< d) &&& ~~~colsBelow d
  | 2 => x <<< (128 * d)
  | _ => (x >>> d) &&& colsBelow (128 - d)

/-- The bits that leave the opposite edge, where they come in again (WRAP, Table GAL.3). -/
def wrapped (dr d : Nat) (x : Plane) : Plane :=
  match dr with
  | 0 => x <<< (128 * (128 - d))
  | 1 => (x >>> (128 - d)) &&& colsBelow d
  | 2 => x >>> (128 * (128 - d))
  | _ => (x <<< (128 - d)) &&& ~~~colsBelow (128 - d)

/-- One bit-column or bit-row of a neighbour placed at the kth receiving column or row: columns by ascending column number,
rows by ascending row number (R277). -/
def seamBit (dr d k : Nat) (v : BitVec 128) : Plane :=
  let rowAt := fun r => (v.setWidth 16384) <<< (128 * r)
  let colAt := fun c => (List.range 128).foldl (fun p r => if v.getLsbD r then p ||| (1#16384 <<< (128 * r + c)) else p) p0
  match dr with
  | 0 => rowAt (128 - d + k)
  | 1 => colAt k
  | 2 => rowAt k
  | _ => colAt (128 - d + k)

/-- The planes that the bits of a seam give the receiving edge: w × d bit-columns or bit-rows, plane by plane (R277). -/
def seamPlanes (w d dr : Nat) (bits : List (BitVec 128)) : List Plane :=
  (List.range w).map (fun j =>
    (List.range d).foldl (fun p k => p ||| seamBit dr d k (nth 0#128 bits (j * d + k))) p0)

/-- A bit-column or bit-row of a plane in the place where the neighbour's receiving edge takes it (R277). -/
def edgeBits (dr d k : Nat) (x : Plane) : BitVec 128 :=
  let col := fun c => BitVec.ofNat 128 (maskFrom 128 (fun r => x.getLsbD (128 * r + c)))
  match dr with
  | 0 => (x >>> (128 * (128 - d + k))).setWidth 128
  | 1 => col k
  | 2 => (x >>> (128 * k)).setWidth 128
  | _ => col (128 - d + k)

/-- The columns that a SEAM shift in direction dr sends over the edge it leaves by, plane by plane (R276, R277). -/
def seamCols (d dr : Nat) (srcs : List Plane) : List (BitVec 128) :=
  srcs.flatMap (fun x => (List.range d).map (fun k => edgeBits dr d k (wrapped dr d x)))

/-! Operand words. -/

/-- An operand of R296. -/
inductive Opnd where
  | mem (i : Nat)
  | flag (f : Nat)
  | rel (n : Nat) (k : Int)
  deriving DecidableEq, Repr

/-- The operand an index word names, if it is defined (R296). -/
def opndOf (w : BitVec 16) : Option Opnd :=
  let n := w.toNat
  if n < 0x1000 then some (.mem n)
  else if n < 0x2000 then if n % 0x1000 < 8 then some (.flag (n % 8)) else none
  else if n < 0x8000 then none
  else some (.rel (n / 2 ^ 11 % 16) (signed 11 n))

end Sys2Proof.Machine
end

