-- ==== Sys2Proof/Machine/Sequencer.lean ====
section
/-!
DEFINITION. The Gallery sequencer as operations: time, traps (R283), loops (R303), the issue of an instruction (R298,
R299), bank switches (R333 to R335), budgets (R337, R338), Riser transfers (R313 to R316, R342 to R346), NWL results
(R319) and the end of a frame (R304).
-/

namespace Sys2Proof.Machine

/-- The Gallery replaced through a function. -/
def Dev.setGal (d : Dev) (f : Gal → Gal) : Dev := { d with gal := f d.gal }

/-- GSQ_BCNT.NOW: array cycles of the frame so far (R338). -/
def Dev.bcnt (d : Dev) : Nat := d.rd GSQ_BCNT_NOW.NOW

/-- Array time goes on to a count of the frame, and device time with it: an array cycle is 1.25 ns. -/
def galTime (d : Dev) (n : Nat) : Dev := (d.wr GSQ_BCNT_NOW.NOW n).until (d.gal.frameAt + n * 5 / 4)

/-- The active bank, if there is one. -/
def Dev.activeBank (d : Dev) : Option Nat := if d.on GSQ_BANK.NONE then none else some (d.rd GSQ_BANK.ACTIVE)

/-- The target of an armed switch. -/
def Dev.armedBank (d : Dev) : Option Nat := if d.on GSQ_SWCTL.ARMED then some (d.rd GSQ_SWCTL.TARGET) else none

/-- Effective budget of a bank's image (R337). -/
def Dev.beff (d : Dev) (b : Nat) : Nat := d.beffWith b (d.acts GSQ_SEAMLAT.LAT) (d.acts GSQ_ANYLAT.LAT)

/-- Effective YIELD budget of a bank's image (R337). -/
def Dev.ybeff (d : Dev) (b : Nat) : Nat :=
  d.rd (GSQ_BI_YB0.YB0 b) + d.rd (GSQ_BI_YN.YNSEAM b) * d.acts GSQ_SEAMLAT.LAT
    + d.rd (GSQ_BI_YN.YNANY b) * d.acts GSQ_ANYLAT.LAT

/-- The sequencer recomputes GSQ_BUDGET.EFF of the active bank (R337). -/
def setEff (d : Dev) : Dev :=
  match d.activeBank with
  | some b => d.wr GSQ_BUDGET.EFF (d.beff b)
  | none => d.wr GSQ_BUDGET.EFF 0

/-- Frame f is at or after AT, modulo 2^32 (R334). -/
def atOrAfter (f at_ : Nat) : Bool := decide ((2 ^ 32 + f - at_ % 2 ^ 32) % 2 ^ 32 < 2 ^ 31)

/-- An armed switch takes effect (R335): the target becomes active, DONE, source 66 and a CRIT event with the request
number and the frame number (in DATA0 and DATA1: log entry 8). -/
def takeSwitch (d : Dev) : Dev :=
  match d.armedBank with
  | none => d
  | some b =>
    let d := ((d.wr GSQ_BANK.ACTIVE b).wr GSQ_BANK.NONE 0).wr GSQ_SWCTL.ARMED 0
    let req := d.rd GSQ_SWREQ.REQ
    let d := ((d.wr GSQ_SWREQ.DONE req).wr CNC_GRP.SETTLED 1).pulse 66
    setEff (evqAppend d 0x0E (Config.evCode .bankSwitch).toNat true (w32 req) (d.ld GSQ_FCNTLO.addr))

/-! Traps. -/

/-- The sequencer stops in a trap (R283, R340): the lowest cause and the instruction address in GSQ_TRAP, source 65, and
SAFEMASK as a Gallery TRIP request where the image is a safety image. -/
def seqTrap (d : Dev) (codes : List Nat) (addr : Nat) : Dev :=
  let code := codes.foldl min 255
  let d := (d.wr GSQ_TRAP.CAUSE code).wr GSQ_TRAP.ADDR addr
  let d := d.setGal (fun g => { g with running := false, fend := false, trapped := true, stall := none,
                                       repReady := d.on GSQ_REPCTL.ARMED })
  match d.activeBank with
  | some b => if d.on (GSQ_BI_SAFE.SAFETY b) then galTrip d (d.rd (GSQ_BI_SAFE.SAFEMASK b)) else d
  | none => d

/-- BUDGET is due: source 67 pulses (R338). -/
def Dev.overLimit (d : Dev) : Bool := decide (d.gal.limit < d.bcnt)

/-! Riser. -/

/-- An RSR_ERR status is recorded: the first one since RSR_ERR was zero is captured, source 72 pulses (R316, R346). -/
def rsrError (d : Dev) (bits : Nat) (rin : Bool) (desc : Nat) : Dev :=
  if bits = 0 then d
  else
    let first := d.ld RSR_ERR.addr == 0#32
    let d := d.put RSR_ERR.addr (d.ld RSR_ERR.addr ||| w32 bits)
    let d := if first then
      d.put RSR_ERRINFO.addr (w32 (2 ^ 16 * (d.rd GSQ_FCNTLO.FCNT % 2 ^ 16) + bit (!rin) * 256 + desc % 64)) else d
    d.pulse 72

/-- RSR_ERR bits. -/
def eQfull : Nat := 1
def eLate : Nat := 2
def eLocked : Nat := 32
def eOrphan : Nat := 64
def eNodesc : Nat := 128
def eAlign : Nat := 256

/-- The RSR_ERR bit of a failed access (R346). -/
def errBit : ErrCause → Nat
  | .offline => 4 | .ecc => 8 | _ => 16

/-- The bays a descriptor maps, with their channels, in ascending order (R342, R344). -/
def Dev.mappedBays (d : Dev) (chmax : Nat) : List (Nat × Nat) :=
  if d.on RSR_MAPCTL.VALID then d.gal.map.filter (fun e => e.2 < chmax) else []

/-- The plane with a 1 in every bay of a list. -/
def bayPlane (bs : List Nat) : Plane := bs.foldl (fun p b => p ||| (1#16384 <<< b)) p0

/-- The value of a field in one bay. -/
def bayVal (vals : List Plane) (b : Nat) : Nat := vals.foldr (fun p v => bit (p.getLsbD b) + 2 * v) 0

/-- The element of channel ch. -/
def Xfer.elem (x : Xfer) (ch : Nat) : Nat := x.base + ch * x.stride

/-- Transfers of the queue that move elements and are not complete. -/
def Dev.outstanding (d : Dev) : Nat := (d.gal.xfers.filter (fun x => !x.refused)).length

/-- A read of every mapped element, in ascending bay order (R314, R346). -/
def rinRead (d : Dev) (x : Xfer) : Dev × Xfer :=
  (d.mappedBays x.chmax).foldl (fun (dx : Dev × Xfer) e =>
    let r := atriumAccess dx.1 2 false (dx.2.elem e.2) dx.2.esz []
    match r.1 with
    | .ok bs =>
      let v := leNat bs
      (r.2, { dx.2 with vals := ((List.range x.w).zip dx.2.vals).map (fun kp =>
        if v.testBit kp.1 then kp.2 ||| (1#16384 <<< e.1) else kp.2) })
    | .err c => (r.2, { dx.2 with causes := dx.2.causes ||| errBit c, failed := dx.2.failed ||| (1#16384 <<< e.1) }))
    (d, { x with vals := List.replicate x.w p0 })

/-- A write of every mapped element, in ascending bay order, so the higher bay remains (R315, R344, R346). -/
def routWrite (d : Dev) (x : Xfer) (bays : List (Nat × Nat)) : Dev × Xfer :=
  bays.foldl (fun (dx : Dev × Xfer) e =>
    let v := bayVal x.vals e.1
    let v := if x.sext && v.testBit (x.w - 1) then v + (2 ^ (8 * x.esz) - 2 ^ x.w) else v
    let r := atriumAccess dx.1 2 true (x.elem e.2) x.esz (leBytes x.esz v)
    match r.1 with
    | .ok _ => (r.2, dx.2)
    | .err c => (r.2, { dx.2 with causes := dx.2.causes ||| errBit c, failed := dx.2.failed ||| (1#16384 <<< e.1) }))
    (d, x)

/-- Every element of a transfer has failed. -/
def Dev.allFail (d : Dev) (x : Xfer) : Xfer :=
  { x with failed := bayPlane ((d.mappedBays x.chmax).map Prod.fst), vals := if x.rin then List.replicate x.w p0 else x.vals }

/-- The first transfer of the queue starts (R313, R345, R27): its lock is tried, and a RIN reads its elements. -/
def xferStart (d : Dev) (x : Xfer) : Dev × Xfer :=
  let x := { x with started := true }
  match x.lock with
  | none => if x.rin then rinRead d x else (d, x)
  | some n =>
    let (w, d) := nwlAcquire d 4 n
    if w.getLsbD 31 then
      let x := { x with held := true, causes := x.causes ||| (if w.getLsbD 30 then eOrphan else 0) }
      if x.rin then rinRead d x else (d, x)
    else (d, d.allFail { x with causes := x.causes ||| eLocked })

/-- Transfers run one at a time: the first that is not refused starts when none before it runs (R313). -/
def xferKick (d : Dev) : Dev :=
  match d.gal.xfers.find? (fun x => !x.refused) with
  | none => d
  | some x =>
    if x.started then d
    else
      let (d, y) := xferStart d x
      d.setGal (fun g => { g with xfers := g.xfers.map (fun z => if z = x then y else z) })

/-- A field of the bays, every bay written (R314). -/
def putField (g : Gal) (i : Nat) (vals : List Plane) : Gal :=
  { g with mem := ((List.range vals.length).zip vals).foldl (fun t kv => tset (fun _ => p0) t (i + kv.1) kv.2) g.mem }

/-- A transfer that moves elements has completed: when a frame waits for the last one after FEND, the frame is complete
in that cycle, or the budget is already exceeded (R304, R338). -/
def frameDone (d : Dev) (at_ : Nat) : Dev :=
  if d.gal.fend ∧ !d.gal.ok ∧ d.outstanding = 0 then
    if d.overLimit then seqTrap (d.pulse 67) [0x0A] d.gal.fendPc
    else
      let d := (d.wr GSQ_BCNT_LAST.LAST at_).wr GSQ_BCNT_MAX.MAX (max (d.rd GSQ_BCNT_MAX.MAX) at_)
      frameCompleted ((d.setGal (fun g => { g with ok := true })).pulse 64)
  else d

/-- A transfer commits in cycle c_j (R314, R315, R316, R345, R346). `moved` bays are those moved in time; a transfer
without a limit moves all. -/
def xferCommit (d : Dev) (x : Xfer) (late : Option Nat) : Dev :=
  let bays := d.mappedBays x.chmax
  let bad := late.map (fun n => bays.drop n)
  let x := match bad with
    | some l =>
      let m := bayPlane (l.map Prod.fst)
      { x with causes := x.causes ||| eLate, failed := x.failed ||| m,
               vals := if x.rin then x.vals.map (fun p => p &&& ~~~m) else x.vals }
    | none => x
  let (d, x) :=
    if x.rin then (d.setGal (fun g => putField g x.dst x.vals), x)
    else if x.refused || x.causes &&& eLocked != 0 then (d, x)
    else routWrite d x (match late with | some n => bays.take n | none => bays)
  let d := match x.errp with
    | some i => d.setGal (fun g => putField g i [x.failed])
    | none => d
  let d := if x.refused then d else d.bump RSR_CNT.XFERS 1
  let d := if x.failed != p0 || x.refused || x.causes &&& eLocked != 0 then d.bump RSR_CNT.ERRS 1 else d
  let d := rsrError d (if x.refused then 0 else x.causes) x.rin x.desc
  match x.lock with
  | some n => if x.held then (nwlRelease d 4 n).2 else d
  | none => d

/-- The transfer with the earliest c_j, the first issued among equals. -/
def nextXfer : List Xfer → Option Xfer
  | [] => none
  | x :: r =>
    match nextXfer r with
    | some y => if y.due < x.due then some y else some x
    | none => some x

/-- One transfer completes. -/
def xferFinish (d : Dev) (x : Xfer) (late : Option Nat) : Dev :=
  let d := xferKick d
  let x := if x.refused then x else (d.gal.xfers.find? (fun y => !y.refused)).getD x
  let d := xferCommit d x late
  let d := xferKick (d.setGal (fun g => { g with xfers := g.xfers.erase x }))
  let d := if d.gal.fend ∧ !d.gal.ok then galTime d (max d.bcnt x.due) else d
  frameDone d x.due

/-- Every transfer with c_j up to cycle n completes, in order (R313). -/
def xfersUpTo : Nat → Nat → Dev → Dev
  | 0, _, d => d
  | k + 1, n, d =>
    match nextXfer d.gal.xfers with
    | none => d
    | some x => if x.due ≤ n then xfersUpTo k n (xferFinish d x none) else d

/-- NWL results due up to cycle n arrive in Sd and L (R319). -/
def nwlUpTo (n : Nat) (g : Gal) : Gal :=
  let due := g.nwl.filter (fun x => decide (x.due ≤ n))
  let g := due.foldl (fun g x => { g with s := setNth 0#32 g.s x.sd x.word, l := x.l }) g
  { g with nwl := g.nwl.filter (fun x => !decide (x.due ≤ n)) }

/-- What arrives at a fixed later time and falls due up to cycle n (R299). -/
def deliver (d : Dev) (n : Nat) : Dev := (xfersUpTo (d.gal.xfers.length) n d).setGal (nwlUpTo n)

/-! Issue. -/

/-- The sequencer can issue an instruction: it runs a frame and no shift is stalled. -/
def Dev.canIssue (d : Dev) : Bool := d.galOn && d.gal.running && d.gal.stall.isNone

/-- What an instruction does, decided in its first cycle (R298): a trap before it changes any state; a run of some cycles
with its writes, the traps it raises and the address it continues at; or a seam stall. -/
inductive Work where
  | trap (code : Nat)
  | run (cycles : Nat) (wr : Dev → Dev) (traps : List Nat) (jump : Option Nat)
  | stall (cycles : Nat) (wr : Dev → Dev) (st : Stall)

/-- Trap causes (Table GAL.4). -/
def tAccOvf : Nat := 1
def tAstackOvf : Nat := 2
def tAstackUnf : Nat := 3
def tCallOvf : Nat := 4
def tCallUnf : Nat := 5
def tLoop : Nat := 6
def tRange : Nat := 7
def tIllegal : Nat := 8
def tSeam : Nat := 9
def tBudget : Nat := 10

/-- After the instruction at `pc`, the innermost loop that ends there counts a pass, and with its last pass closes and lets
the next one out that ends there count (R303): the next address and the open loops, innermost first. Loops that end elsewhere
stay open. -/
def loopEnd (pc : Nat) : List Loop → Nat × List Loop
  | [] => (pc + 1, [])
  | l :: r =>
    if l.last = pc then if 1 < l.left then (l.first, { l with left := l.left - 1 } :: r) else loopEnd pc r
    else ((loopEnd pc r).1, l :: (loopEnd pc r).2)

/-- A taken JMP or BR to t closes every loop whose body t lies outside of, and every loop inside it (R303). -/
def closeLoops (t : Nat) (ls : List Loop) : List Loop :=
  (ls.reverse.takeWhile (fun l => decide (l.first ≤ t) && decide (t ≤ l.last))).reverse

/-- The end of an instruction (R338, R283, R303, R304). -/
def finish (d : Dev) (traps : List Nat) (jump : Option Nat) : Dev :=
  let pc := d.gal.pc
  let late := d.overLimit
  let d := if late then d.pulse 67 else d
  let codes := traps ++ (if late then [tBudget] else [])
  if !codes.isEmpty then seqTrap d codes pc
  else if !d.gal.running then frameDone d (d.bcnt - 1)
  else match jump with
    | some t => d.setGal (fun g => { g with pc := t })
    | none => d.setGal (fun g => let r := loopEnd pc g.loops; { g with pc := r.1 % 16384, loops := r.2 })

/-- An instruction issues (R298, R299): results due before its last cycle arrive before its writes, those due in its last
cycle after them. -/
def issue (d : Dev) (w : Work) : Dev :=
  if !d.canIssue then d
  else
    let i := d.bcnt
    match w with
    | .trap c => finish (galTime (deliver d i) (i + 1)) [c] none
    | .run k wr traps jump =>
      let d := wr (if k < 2 then d else deliver d (i + k - 2))
      finish (galTime (deliver d (i + k - 1)) (i + k)) traps jump
    | .stall k wr st => galTime ((wr d).setGal (fun g => { g with stall := some st })) (i + k)

/-- The meaning of an instruction. -/
def galExec (s : State) (f : Dev → Work) : Host.Outcome State Fault Refusal := fin s (issue s.dev (f s.dev))

/-! Operands in the Gallery. -/

/-- A scalar register. -/
def Gal.sreg (g : Gal) (n : Nat) : Word := nth 0#32 g.s n

/-- A scalar register written. -/
def Gal.setS (g : Gal) (n : Nat) (v : Word) : Gal := { g with s := setNth 0#32 g.s n v }

/-- A plane of bay memory. -/
def Gal.plane (g : Gal) (i : Nat) : Plane := tget (fun _ => p0) g.mem i

/-- The 48 planes of the accumulator. -/
def Gal.accs (g : Gal) : List Plane := (List.range 48).map (nth p0 g.acc)

/-- A flag plane (Table GIS.2). -/
def Gal.flag (g : Gal) (f : Nat) : Plane :=
  match f with
  | 0 => g.c | 1 => g.a | 2 => g.t | 3 => g.o | 4 => g.e | 5 => g.p | 6 => p0 | _ => p1

/-- A field of bay memory. -/
def Gal.field (g : Gal) (i w : Nat) : List Plane := (List.range w).map (fun k => g.plane (i + k))

/-- A place an operand names once it is evaluated. -/
inductive Place where
  | mem (i : Nat)
  | flag (f : Nat)
  deriving DecidableEq, Repr

/-- An operand of width w evaluated (R266, R296, R297, R323): its place, or the trap it raises. `flagOk` says which flags
are defined in the position. -/
def place (g : Gal) (word : BitVec 16) (w : Nat) (flagOk : Nat → Bool) : Except Nat Place :=
  match opndOf word with
  | none => .error tIllegal
  | some (.flag f) => if w = 1 ∧ flagOk f then .ok (.flag f) else .error tIllegal
  | some (.mem i) => if i + w ≤ 4096 then .ok (.mem i) else .error tRange
  | some (.rel n k) =>
    let i := ((g.sreg n).toNat : Int) + k
    if 0 ≤ i ∧ i + w ≤ 4096 then .ok (.mem i.toNat) else .error tRange

/-- A source operand: a flag is defined where the width is 1. -/
def src (g : Gal) (word : BitVec 16) (w : Nat) : Except Nat Place := place g word w (fun _ => true)

/-- A destination operand of a field instruction: memory only. -/
def dst (g : Gal) (word : BitVec 16) (w : Nat) : Except Nat Place := place g word w (fun _ => false)

/-- The planes at a place. -/
def Gal.at_ (g : Gal) (p : Place) (w : Nat) : List Plane :=
  match p with
  | .mem i => g.field i w
  | .flag f => [g.flag f]

/-- Planes written at a place in the active bays (R271). -/
def Gal.put (g : Gal) (p : Place) (act : Plane) (vals : List Plane) : Gal :=
  match p with
  | .mem i => putField g i (((List.range vals.length).zip vals).map (fun kv => pSel act kv.2 (g.plane (i + kv.1))))
  | .flag 0 => { g with c := pSel act ((vals.head?).getD p0) g.c }
  | .flag 2 => { g with t := pSel act ((vals.head?).getD p0) g.t }
  | .flag _ => g

/-- A bit field of an instruction field. -/
def bits (n hi lo : Nat) : Nat := n / 2 ^ lo % 2 ^ (hi + 1 - lo)

/-- The lowest trap of several checks, if there is one (Table GAL.4). -/
def firstTrap (ts : List (Option Nat)) : Option Nat :=
  ts.foldl (fun m t => match m, t with | some a, some b => some (min a b) | some a, none => some a | none, x => x) none

/-- A field that an opcode does not use must be zero (R295). -/
def unused (b : Bool) : Option Nat := if b then none else some tIllegal

/-- The trap of an operand, if it has one. -/
def trapOf {α : Type} : Except Nat α → Option Nat
  | .ok _ => none
  | .error c => some c

/-- The running Stepcode defines an opcode first defined in 2.m (R320, Table GIS.9). -/
def Dev.scDefines (d : Dev) (m : Nat) : Bool :=
  decide (2 < d.rd SYS_VER_SC.MAJ) || (d.rd SYS_VER_SC.MAJ == 2 && decide (m ≤ d.rd SYS_VER_SC.MIN))

end Sys2Proof.Machine
end

