-- ==== Sys2Proof/Machine/GalleryControl.lean ====
section
/-!
DEFINITION. Gallery instructions of Table GIS.3: sequencer control and scalars (R300 to R304, R324, R325, R333).
-/

namespace Sys2Proof.Machine

/-- The work of an instruction whose checks pass; otherwise the lowest trap (Table GAL.4). -/
def guard (ts : List (Option Nat)) (w : Work) : Work :=
  match firstTrap ts with
  | some c => .trap c
  | none => w

/-- One cycle that changes the Gallery only. -/
def step1 (f : Gal → Gal) (jump : Option Nat) : Work := .run 1 (fun d => d.setGal f) [] jump

/-- A scalar register named in a field occupies bits [3:0]; the other bits are zero. -/
def scalarField (n : Nat) : Option Nat := unused (n < 16)

/-- Operand q of the scalar instructions (Table GIS.3), and its checks. -/
def qVal (g : Gal) (x b : Nat) : Word :=
  if x % 2 = 0 then g.sreg b else if x.testBit 1 then (BitVec.ofNat 16 b).signExtend 32 else w32 b
def qCheck (x b : Nat) : Option Nat := if x % 2 = 0 then unused (b < 16 && !x.testBit 1) else none

/-- A scalar instruction Sd = f(Sa, q). -/
def scalarOp (f : Word → Word → Word) (x : BitVec 8) (d a b : BitVec 16) (v : Dev) : Work :=
  guard [unused (x.toNat < 4), scalarField d.toNat, scalarField a.toNat, qCheck x.toNat b.toNat]
    (step1 (fun g => g.setS d.toNat (f (v.gal.sreg a.toNat) (qVal v.gal x.toNat b.toNat))) none)

/-- A target address is a word address 0 to 16,383 (R302). -/
def targetOk (b : BitVec 16) : Option Nat := unused (b.toNat < 16384)

/-- NOP. -/
def nopWork (x : BitVec 8) (d a b : BitVec 16) : Work :=
  guard [unused (x == 0#8 && d == 0#16 && a == 0#16 && b == 0#16)] (step1 id none)

/-- JMP (R302, R303). -/
def jmpWork (x : BitVec 8) (d a b : BitVec 16) : Work :=
  guard [unused (x == 0#8 && d == 0#16 && a == 0#16), targetOk b]
    (step1 (fun g => { g with loops := closeLoops b.toNat g.loops }) (some b.toNat))

/-- BR (R301, R302, R325). -/
def brWork (x : BitVec 8) (d a b : BitVec 16) (v : Dev) : Work :=
  guard [unused (x.toNat < 2 && d == 0#16 && a == 0#16), targetOk b]
    (if v.gal.l != (x == 1#8) then step1 (fun g => { g with loops := closeLoops b.toNat g.loops }) (some b.toNat)
     else step1 id none)

/-- CALL (R282, R302). -/
def callWork (x : BitVec 8) (d a b : BitVec 16) (v : Dev) : Work :=
  guard [unused (x == 0#8 && d == 0#16 && a == 0#16), targetOk b,
         if v.gal.calls.length < 16 then none else some tCallOvf]
    (step1 (fun g => { g with calls := (g.pc + 1) % 16384 :: g.calls }) (some b.toNat))

/-- RET (R282, R302). -/
def retWork (x : BitVec 8) (d a b : BitVec 16) (v : Dev) : Work :=
  guard [unused (x == 0#8 && d == 0#16 && a == 0#16 && b == 0#16),
         if v.gal.calls.isEmpty then some tCallUnf else none]
    (step1 (fun g => { g with calls := g.calls.tail }) v.gal.calls.head?)

/-- The count of a LOOP (Table GIS.3, R324). -/
def loopCount (g : Gal) (x : BitVec 8) (a b : BitVec 16) : Nat :=
  if x == 0#8 then b.toNat else (g.sreg a.toNat).toNat % 65536

/-- LOOP (R282, R303, R324). -/
def loopWork (x : BitVec 8) (d a b : BitVec 16) (v : Dev) : Work :=
  let e := d.toNat
  let n := loopCount v.gal x a b
  let inside := match v.gal.loops with | [] => true | l :: _ => decide (e ≤ l.last)
  guard [unused (x.toNat < 2 && decide (e < 16384)),
         if x == 0#8 then unused (a == 0#16) else unused (a.toNat < 16 && b == 0#16),
         unused (decide (v.gal.pc < e) && inside),
         if n ≠ 0 ∧ 4 ≤ v.gal.loops.length then some tLoop else none]
    (if n = 0 then step1 id (some ((e + 1) % 16384))
     else step1 (fun g => { g with loops := { first := g.pc + 1, last := e, left := n } :: g.loops })
            (some (v.gal.pc + 1)))

/-- FEND (R304): the frame's program ends; an armed repair has then seen a frame end (R348). -/
def fendWork (x : BitVec 8) (d a b : BitVec 16) (v : Dev) : Work :=
  guard [unused (x == 0#8 && d == 0#16 && a == 0#16 && b == 0#16)]
    (step1 (fun g => { g with running := false, fend := true, fendPc := g.pc,
                              repReady := v.on GSQ_REPCTL.ARMED }) none)

/-- The bank a YIELD in this cycle continues in, when every condition of R333 holds; NOW counts the YIELD's own cycle. -/
def Dev.yieldTo (v : Dev) : Option Nat :=
  match v.armedBank with
  | none => none
  | some b =>
    if v.on GSQ_SWCTL.YEN ∧ atOrAfter (v.rd GSQ_FCNTLO.FCNT) (v.rd GSQ_SWAT.AT) ∧ v.rd (GSQ_BI_ENTRY.YENTRY b) ≠ 0xFFFF
        ∧ v.gal.loops = [] ∧ v.gal.calls = [] ∧ v.gal.stack = [] ∧ v.bcnt + 1 + v.ybeff b ≤ v.beff b
    then some b else none

/-- YIELD (R304, R333, R335). -/
def yieldWork (x : BitVec 8) (d a b : BitVec 16) (v : Dev) : Work :=
  guard [unused (x == 0#8 && d == 0#16 && a == 0#16 && b == 0#16)]
    (match v.yieldTo with
     | some t => .run 1 (fun dv => (takeSwitch dv).setGal (fun g => { g with limit := v.beff t })) []
                   (some (v.rd (GSQ_BI_ENTRY.YENTRY t) % 16384))
     | none => step1 id none)

/-- SLI. -/
def sliWork (x : BitVec 8) (d a b : BitVec 16) : Work :=
  guard [unused (x == 0#8), scalarField d.toNat]
    (step1 (fun g => g.setS d.toNat (w32 (65536 * a.toNat + b.toNat))) none)

/-- The relation of SCMP (codes 0 to 5). -/
def scmpRel (rel : Nat) (a q : Word) : Bool :=
  match rel with
  | 0 => a == q
  | 1 => a != q
  | 2 => decide (a.toNat < q.toNat)
  | 3 => decide (q.toNat ≤ a.toNat)
  | 4 => decide (a.toInt < q.toInt)
  | _ => decide (q.toInt ≤ a.toInt)

/-- SCMP (R301). -/
def scmpWork (x : BitVec 8) (d a b : BitVec 16) (v : Dev) : Work :=
  let n := x.toNat
  guard [unused (d == 0#16 && bits n 3 2 == 0 && bits n 7 7 == 0 && decide (bits n 6 4 < 6)), scalarField a.toNat,
         qCheck n b.toNat]
    (step1 (fun g => { g with l := scmpRel (bits n 6 4) (v.gal.sreg a.toNat) (qVal v.gal n b.toNat) }) none)

/-- SRDL (R303): loop counter 0 belongs to the outermost open loop. -/
def srdlWork (x : BitVec 8) (d a b : BitVec 16) (v : Dev) : Work :=
  guard [unused (x == 0#8 && b == 0#16 && decide (a.toNat < 4)), scalarField d.toNat]
    (step1 (fun g => g.setS d.toNat (w32 ((v.gal.loops.reverse[a.toNat]?).map Loop.left |>.getD 0))) none)

/-! Meanings. -/

def execGalNop (x : BitVec 8) (d a b : BitVec 16) (s : State) : Host.Outcome State Fault Refusal :=
  galExec s (fun _ => nopWork x d a b)

def execGalJmp (x : BitVec 8) (d a b : BitVec 16) (s : State) : Host.Outcome State Fault Refusal :=
  galExec s (fun _ => jmpWork x d a b)

def execGalBr (x : BitVec 8) (d a b : BitVec 16) (s : State) : Host.Outcome State Fault Refusal :=
  galExec s (brWork x d a b)

def execGalCall (x : BitVec 8) (d a b : BitVec 16) (s : State) : Host.Outcome State Fault Refusal :=
  galExec s (callWork x d a b)

def execGalRet (x : BitVec 8) (d a b : BitVec 16) (s : State) : Host.Outcome State Fault Refusal :=
  galExec s (retWork x d a b)

def execGalLoop (x : BitVec 8) (d a b : BitVec 16) (s : State) : Host.Outcome State Fault Refusal :=
  galExec s (loopWork x d a b)

def execGalFend (x : BitVec 8) (d a b : BitVec 16) (s : State) : Host.Outcome State Fault Refusal :=
  galExec s (fendWork x d a b)

def execGalYield (x : BitVec 8) (d a b : BitVec 16) (s : State) : Host.Outcome State Fault Refusal :=
  galExec s (yieldWork x d a b)

def execGalSli (x : BitVec 8) (d a b : BitVec 16) (s : State) : Host.Outcome State Fault Refusal :=
  galExec s (fun _ => sliWork x d a b)

def execGalSadd (x : BitVec 8) (d a b : BitVec 16) (s : State) : Host.Outcome State Fault Refusal :=
  galExec s (scalarOp (fun p q => p + q) x d a b)

def execGalSsub (x : BitVec 8) (d a b : BitVec 16) (s : State) : Host.Outcome State Fault Refusal :=
  galExec s (scalarOp (fun p q => p - q) x d a b)

def execGalSand (x : BitVec 8) (d a b : BitVec 16) (s : State) : Host.Outcome State Fault Refusal :=
  galExec s (scalarOp (fun p q => p &&& q) x d a b)

def execGalSor (x : BitVec 8) (d a b : BitVec 16) (s : State) : Host.Outcome State Fault Refusal :=
  galExec s (scalarOp (fun p q => p ||| q) x d a b)

def execGalSxor (x : BitVec 8) (d a b : BitVec 16) (s : State) : Host.Outcome State Fault Refusal :=
  galExec s (scalarOp (fun p q => p ^^^ q) x d a b)

def execGalSshl (x : BitVec 8) (d a b : BitVec 16) (s : State) : Host.Outcome State Fault Refusal :=
  galExec s (scalarOp (fun p q => p <<< (q.toNat % 32)) x d a b)

def execGalSshr (x : BitVec 8) (d a b : BitVec 16) (s : State) : Host.Outcome State Fault Refusal :=
  galExec s (scalarOp (fun p q => p >>> (q.toNat % 32)) x d a b)

def execGalSsra (x : BitVec 8) (d a b : BitVec 16) (s : State) : Host.Outcome State Fault Refusal :=
  galExec s (scalarOp (fun p q => p.sshiftRight (q.toNat % 32)) x d a b)

def execGalScmp (x : BitVec 8) (d a b : BitVec 16) (s : State) : Host.Outcome State Fault Refusal :=
  galExec s (scmpWork x d a b)

def execGalSrdl (x : BitVec 8) (d a b : BitVec 16) (s : State) : Host.Outcome State Fault Refusal :=
  galExec s (srdlWork x d a b)

end Sys2Proof.Machine
end

