-- ==== Sys2Proof/Machine/GalleryField.lean ====
section
/-!
DEFINITION. Gallery instructions of Tables GIS.4 to GIS.6: planes and activity (R271, R272, R305), fields (R306, R307,
R326) and the accumulator (R273 to R275, R308, R309).
-/

namespace Sys2Proof.Machine

/-! Planes and activity. -/

/-- LOGIC (R305): the destination may be C or T. -/
def logicWork (x : BitVec 8) (d a b : BitVec 16) (v : Dev) : Work :=
  let g := v.gal
  match place g d 1 (fun f => f == 0 || f == 2), src g a 1, src g b 1 with
  | .ok pd, .ok pa, .ok pb =>
    let r := pLogic x.toNat ((g.at_ pa 1).headD p0) ((g.at_ pb 1).headD p0) g.c
    step1 (fun h => h.put pd g.a [r]) none
  | rd, ra, rb => guard [trapOf rd, trapOf ra, trapOf rb] (.trap tIllegal)

/-- PUSHA (R271, R272, R293). -/
def pushaWork (x : BitVec 8) (d a b : BitVec 16) (v : Dev) : Work :=
  let g := v.gal
  let r := src g a 1
  guard [unused (x == 0#8 && d == 0#16 && b == 0#16), trapOf r, if g.stack.length < 8 then none else some tAstackOvf]
    (match r with
     | .ok p => step1 (fun h => { h with stack := g.a :: h.stack, a := g.a &&& (g.at_ p 1).headD p0 }) none
     | .error c => .trap c)

/-- ELSEA (R271, R272). -/
def elseaWork (x : BitVec 8) (d a b : BitVec 16) (v : Dev) : Work :=
  let g := v.gal
  guard [unused (x == 0#8 && d == 0#16 && a == 0#16 && b == 0#16), if g.stack.isEmpty then some tAstackUnf else none]
    (step1 (fun h => { h with a := g.stack.headD p0 &&& ~~~g.a }) none)

/-- POPA (R271, R272). -/
def popaWork (x : BitVec 8) (d a b : BitVec 16) (v : Dev) : Work :=
  let g := v.gal
  guard [unused (x == 0#8 && d == 0#16 && a == 0#16 && b == 0#16), if g.stack.isEmpty then some tAstackUnf else none]
    (step1 (fun h => { h with a := g.stack.headD p0, stack := g.stack.tail }) none)

/-- SETA (R271). -/
def setaWork (x : BitVec 8) (d a b : BitVec 16) (v : Dev) : Work :=
  let g := v.gal
  let r := src g a 1
  guard [unused (x == 0#8 && d == 0#16 && b == 0#16), trapOf r]
    (match r with
     | .ok p => step1 (fun h => { h with a := (g.at_ p 1).headD p0 }) none
     | .error c => .trap c)

/-- CLRF (R269, R305). -/
def clrfWork (x : BitVec 8) (d a b : BitVec 16) (v : Dev) : Work :=
  let m := x.toNat
  let act := v.gal.a
  let clr := fun (k : Nat) (p : Plane) => if m.testBit k then p &&& ~~~act else p
  guard [unused (decide (m < 16) && d == 0#16 && a == 0#16 && b == 0#16)]
    (step1 (fun h => { h with c := clr 0 h.c, t := clr 1 h.t, o := clr 2 h.o, e := clr 3 h.e }) none)

/-! Fields. -/

/-- Width and signedness of a field instruction (R295). -/
def widthOf (x : BitVec 8) : Nat := x.toNat % 32 + 1
def signOf (x : BitVec 8) : Bool := x.toNat.testBit 5

/-- What a field instruction writes in the active bays: its destination, C and T. -/
structure FieldOut where
  val : List Plane
  c : Option Plane
  t : Option Plane

/-- A field result written in the active bays (R271, R306). -/
def Gal.putOut (g : Gal) (act : Plane) (p : Option Place) (o : FieldOut) : Gal :=
  let g := match p with | some q => g.put q act o.val | none => g
  let g := match o.c with | some c => { g with c := pSel act c g.c } | none => g
  match o.t with | some t => { g with t := pSel act t g.t } | none => g

/-- The run of a field instruction: w + 1 cycles. -/
def fieldRun (w : Nat) (act : Plane) (p : Option Place) (o : FieldOut) : Work :=
  .run (w + 1) (fun dv => dv.setGal (fun h => h.putOut act p o)) [] none

/-- A field instruction with destination D and sources A and B. -/
def field3 (x : BitVec 8) (d a b : BitVec 16) (m : Nat) (v : Dev) (f : List Plane → List Plane → FieldOut) : Work :=
  let g := v.gal
  let w := widthOf x
  match dst g d w, src g a w, src g b w with
  | .ok pd, .ok pa, .ok pb =>
    guard [unused (x.toNat < 64 && v.scDefines m)] (fieldRun w g.a (some pd) (f (g.at_ pa w) (g.at_ pb w)))
  | rd, ra, rb => guard [unused (x.toNat < 64 && v.scDefines m), trapOf rd, trapOf ra, trapOf rb] (.trap tIllegal)

/-- A field instruction with destination D, source A and a scalar or nothing in B. -/
def field2 (x : BitVec 8) (d a : BitVec 16) (bOk : Bool) (m : Nat) (v : Dev) (f : List Plane → FieldOut) : Work :=
  let g := v.gal
  let w := widthOf x
  match dst g d w, src g a w with
  | .ok pd, .ok pa => guard [unused (x.toNat < 64 && bOk && v.scDefines m)] (fieldRun w g.a (some pd) (f (g.at_ pa w)))
  | rd, ra => guard [unused (x.toNat < 64 && bOk && v.scDefines m), trapOf rd, trapOf ra] (.trap tIllegal)

/-- A sum and its flags (R306). -/
def addOut (a b : List Plane) : FieldOut := let r := pAdd a b p0; ⟨r.1, some r.2, some (pAddOv a b r.1)⟩

/-- A difference and its flags (R306). -/
def subOut (a b : List Plane) : FieldOut := let r := pSub a b; ⟨r.1, some r.2, some (pSubOv a b r.1)⟩

/-- Sn[w−1:0] as a field. -/
def Gal.scalarPlanes (g : Gal) (n w : Nat) : List Plane := pConst w (g.sreg n).toNat

/-- The relation of CMP and CMPS. -/
def cmpRel (rel : Nat) (sg : Bool) (a b : List Plane) : Plane :=
  match rel with
  | 0 => pEq a b
  | 1 => ~~~pEq a b
  | 2 => pLt sg a b
  | _ => ~~~pLt sg a b

/-- CMP. -/
def cmpWork (x : BitVec 8) (d a b : BitVec 16) (v : Dev) : Work :=
  let g := v.gal
  let w := widthOf x
  match src g a w, src g b w with
  | .ok pa, .ok pb =>
    guard [unused (d == 0#16 && v.scDefines 0)]
      (fieldRun w g.a none ⟨[], none, some (cmpRel (x.toNat / 64) (signOf x) (g.at_ pa w) (g.at_ pb w))⟩)
  | ra, rb => guard [unused (d == 0#16 && v.scDefines 0), trapOf ra, trapOf rb] (.trap tIllegal)

/-- CMPS. -/
def cmpsWork (x : BitVec 8) (d a b : BitVec 16) (v : Dev) : Work :=
  let g := v.gal
  let w := widthOf x
  match src g a w with
  | .ok pa =>
    guard [unused (d == 0#16 && v.scDefines 0), scalarField b.toNat]
      (fieldRun w g.a none
        ⟨[], none, some (cmpRel (x.toNat / 64) (signOf x) (g.at_ pa w) (g.scalarPlanes b.toNat w))⟩)
  | ra => guard [unused (d == 0#16 && v.scDefines 0), scalarField b.toNat, trapOf ra] (.trap tIllegal)

/-- The value of BCAST before it is cut to w bits (Table GIS.5). -/
def bcastVal (g : Gal) (x : BitVec 8) (a b : BitVec 16) : Nat :=
  if a.getLsbD 4 then (g.sreg (a.toNat % 16)).toNat
  else if signOf x then (b.signExtend 32).toNat else b.toNat

/-- BCAST. -/
def bcastWork (x : BitVec 8) (d a b : BitVec 16) (v : Dev) : Work :=
  let g := v.gal
  let w := widthOf x
  let ok := x.toNat < 64 && v.scDefines 0 && (if a.getLsbD 4 then a.toNat < 32 && b == 0#16 else a == 0#16)
  match dst g d w with
  | .ok pd => guard [unused ok] (fieldRun w g.a (some pd) ⟨pConst w (bcastVal g x a b), none, none⟩)
  | rd => guard [unused ok, trapOf rd] (.trap tIllegal)

/-! Accumulator. -/

/-- One addition into the accumulator in the last cycle (R274, R290, R308): `acc` is its starting value. -/
def accRun (k : Nat) (v : Dev) (acc addend : List Plane) : Work :=
  let g := v.gal
  let mode := v.acts GSQ_CFG.OVMODE
  let r := accSum (mode == 0) acc addend
  let ov := r.1 &&& g.a
  .run k (fun dv => (useTwin dv GSQ_CFG.addr).setGal (fun h =>
      { h with acc := List.zipWith (pSel g.a) r.2 h.accs, o := h.o ||| ov }))
    (if mode = 2 ∧ ov ≠ p0 then [tAccOvf] else []) none

/-- ACLR: a plane operation of one cycle. -/
def aclrWork (x : BitVec 8) (d a b : BitVec 16) (v : Dev) : Work :=
  let act := v.gal.a
  guard [unused (x == 0#8 && d == 0#16 && a == 0#16 && b == 0#16)]
    (step1 (fun h => { h with acc := h.accs.map (fun p => p &&& ~~~act) }) none)

/-- MAC and MUL: `keep` adds to the accumulator, otherwise the starting value is 0 (R308). -/
def macWork (keep : Bool) (x : BitVec 8) (d a b : BitVec 16) (v : Dev) : Work :=
  let g := v.gal
  let w1 := widthOf x
  let w2 := d.toNat % 32 + 1
  let ok := x.toNat < 32 && bits d.toNat 13 5 == 0 && v.scDefines 0
  match src g a w1, src g b w2 with
  | .ok pa, .ok pb =>
    guard [unused ok]
      (accRun (w1 * w2 + w2) v (if keep then g.accs else List.replicate 48 p0)
        (pMul (g.at_ pa w1) (d.getLsbD 15) (g.at_ pb w2) (d.getLsbD 14)))
  | ra, rb => guard [unused ok, trapOf ra, trapOf rb] (.trap tIllegal)

/-- ACCF. -/
def accfWork (x : BitVec 8) (d a b : BitVec 16) (v : Dev) : Work :=
  let g := v.gal
  let w := widthOf x
  let ok := x.toNat < 64 && d == 0#16 && b == 0#16 && v.scDefines 0
  match src g a w with
  | .ok pa => guard [unused ok] (accRun (w + 1) v g.accs (pExt (signOf x) accW (g.at_ pa w)))
  | ra => guard [unused ok, trapOf ra] (.trap tIllegal)

/-- ACCRD and ACCRDS (R275, R309). -/
def accrdWork (clamp : Bool) (x : BitVec 8) (d a b : BitVec 16) (v : Dev) : Work :=
  let g := v.gal
  let w := widthOf x
  let s := b.toNat
  let ok := x.toNat < 32 && a == 0#16 && s < 64 && decide (s + w ≤ 48) && v.scDefines (if clamp then 3 else 0)
  match dst g d w with
  | .ok pd =>
    let r := accClamp g.accs s w
    guard [unused ok]
      (fieldRun w g.a (some pd) (if clamp then ⟨r.2, none, some r.1⟩ else ⟨accBits g.accs s w, none, none⟩))
  | rd => guard [unused ok, trapOf rd] (.trap tIllegal)

/-! The remaining field instructions. -/

def movfWork (x : BitVec 8) (d a b : BitVec 16) (v : Dev) : Work := field2 x d a (b == 0#16) 0 v (fun p => ⟨p, none, none⟩)
def addWork (x : BitVec 8) (d a b : BitVec 16) (v : Dev) : Work := field3 x d a b 0 v addOut
def subWork (x : BitVec 8) (d a b : BitVec 16) (v : Dev) : Work := field3 x d a b 0 v subOut
def addsWork (x : BitVec 8) (d a b : BitVec 16) (v : Dev) : Work :=
  field2 x d a (b.toNat < 16) 0 v (fun p => addOut p (v.gal.scalarPlanes b.toNat (widthOf x)))
def subsWork (x : BitVec 8) (d a b : BitVec 16) (v : Dev) : Work :=
  field2 x d a (b.toNat < 16) 0 v (fun p => subOut p (v.gal.scalarPlanes b.toNat (widthOf x)))
def minWork (x : BitVec 8) (d a b : BitVec 16) (v : Dev) : Work :=
  field3 x d a b 1 v (fun p q => ⟨pPick (pLt (signOf x) p q) p q, none, none⟩)
def maxWork (x : BitVec 8) (d a b : BitVec 16) (v : Dev) : Work :=
  field3 x d a b 1 v (fun p q => ⟨pPick (pLt (signOf x) p q) q p, none, none⟩)
def absWork (x : BitVec 8) (d a b : BitVec 16) (v : Dev) : Work :=
  field2 x d a (b == 0#16) 2 v (fun p => ⟨pPick (pTop p) (pNeg p) p, none, some (pMostNeg p)⟩)
def negWork (x : BitVec 8) (d a b : BitVec 16) (v : Dev) : Work :=
  field2 x d a (b == 0#16) 2 v (fun p => ⟨pNeg p, none, some (pMostNeg p)⟩)
def selWork (x : BitVec 8) (d a b : BitVec 16) (v : Dev) : Work :=
  field3 x d a b 0 v (fun p q => ⟨pPick v.gal.t p q, none, none⟩)

/-! Meanings. -/

def execGalLogic (x : BitVec 8) (d a b : BitVec 16) (s : State) : Host.Outcome State Fault Refusal :=
  galExec s (logicWork x d a b)

def execGalPusha (x : BitVec 8) (d a b : BitVec 16) (s : State) : Host.Outcome State Fault Refusal :=
  galExec s (pushaWork x d a b)

def execGalElsea (x : BitVec 8) (d a b : BitVec 16) (s : State) : Host.Outcome State Fault Refusal :=
  galExec s (elseaWork x d a b)

def execGalPopa (x : BitVec 8) (d a b : BitVec 16) (s : State) : Host.Outcome State Fault Refusal :=
  galExec s (popaWork x d a b)

def execGalSeta (x : BitVec 8) (d a b : BitVec 16) (s : State) : Host.Outcome State Fault Refusal :=
  galExec s (setaWork x d a b)

def execGalClrf (x : BitVec 8) (d a b : BitVec 16) (s : State) : Host.Outcome State Fault Refusal :=
  galExec s (clrfWork x d a b)

def execGalMovf (x : BitVec 8) (d a b : BitVec 16) (s : State) : Host.Outcome State Fault Refusal :=
  galExec s (movfWork x d a b)

def execGalAdd (x : BitVec 8) (d a b : BitVec 16) (s : State) : Host.Outcome State Fault Refusal :=
  galExec s (addWork x d a b)

def execGalSub (x : BitVec 8) (d a b : BitVec 16) (s : State) : Host.Outcome State Fault Refusal :=
  galExec s (subWork x d a b)

def execGalAdds (x : BitVec 8) (d a b : BitVec 16) (s : State) : Host.Outcome State Fault Refusal :=
  galExec s (addsWork x d a b)

def execGalSubs (x : BitVec 8) (d a b : BitVec 16) (s : State) : Host.Outcome State Fault Refusal :=
  galExec s (subsWork x d a b)

def execGalCmp (x : BitVec 8) (d a b : BitVec 16) (s : State) : Host.Outcome State Fault Refusal :=
  galExec s (cmpWork x d a b)

def execGalCmps (x : BitVec 8) (d a b : BitVec 16) (s : State) : Host.Outcome State Fault Refusal :=
  galExec s (cmpsWork x d a b)

def execGalMin (x : BitVec 8) (d a b : BitVec 16) (s : State) : Host.Outcome State Fault Refusal :=
  galExec s (minWork x d a b)

def execGalMax (x : BitVec 8) (d a b : BitVec 16) (s : State) : Host.Outcome State Fault Refusal :=
  galExec s (maxWork x d a b)

def execGalAbs (x : BitVec 8) (d a b : BitVec 16) (s : State) : Host.Outcome State Fault Refusal :=
  galExec s (absWork x d a b)

def execGalNeg (x : BitVec 8) (d a b : BitVec 16) (s : State) : Host.Outcome State Fault Refusal :=
  galExec s (negWork x d a b)

def execGalSel (x : BitVec 8) (d a b : BitVec 16) (s : State) : Host.Outcome State Fault Refusal :=
  galExec s (selWork x d a b)

def execGalBcast (x : BitVec 8) (d a b : BitVec 16) (s : State) : Host.Outcome State Fault Refusal :=
  galExec s (bcastWork x d a b)

def execGalAclr (x : BitVec 8) (d a b : BitVec 16) (s : State) : Host.Outcome State Fault Refusal :=
  galExec s (aclrWork x d a b)

def execGalMac (x : BitVec 8) (d a b : BitVec 16) (s : State) : Host.Outcome State Fault Refusal :=
  galExec s (macWork true x d a b)

def execGalMul (x : BitVec 8) (d a b : BitVec 16) (s : State) : Host.Outcome State Fault Refusal :=
  galExec s (macWork false x d a b)

def execGalAccf (x : BitVec 8) (d a b : BitVec 16) (s : State) : Host.Outcome State Fault Refusal :=
  galExec s (accfWork x d a b)

def execGalAccrd (x : BitVec 8) (d a b : BitVec 16) (s : State) : Host.Outcome State Fault Refusal :=
  galExec s (accrdWork false x d a b)

def execGalAccrds (x : BitVec 8) (d a b : BitVec 16) (s : State) : Host.Outcome State Fault Refusal :=
  galExec s (accrdWork true x d a b)

end Sys2Proof.Machine
end

