-- ==== Sys2Proof/Machine/GalleryMove.lean ====
section
/-!
DEFINITION. Gallery instructions of Tables GIS.7 and GIS.8: shifts and seams (R276, R277, R310, R341, R375), reductions
(R278 to R280, R311, R312), Riser transfers (R313 to R316), TRIP, PIO and NWL (R317 to R319), and the undefined word.
-/

namespace Sys2Proof.Machine

/-! Shifts. -/

/-- The lane behind the edge that a shift in direction dr receives from (R276, Table CNC.4). -/
def seamLane (dr : Nat) : Nat := (dr + 2) % 4

/-- The result of a shift inside the device under edge mode ZERO, ONE or WRAP (Table GAL.3). -/
def shiftPlane (edge dr d : Nat) (x : Plane) : Plane :=
  match edge with
  | 1 => moved dr d x ||| vacant dr d
  | 2 => moved dr d x ||| wrapped dr d x
  | _ => moved dr d x

/-- A SEAM shift completed with the planes that the seam delivered (R277). -/
def seamVals (w d dr : Nat) (srcs : List Plane) (bits : List (BitVec 128)) : List Plane :=
  List.zipWith (fun p q => moved dr d p ||| q) srcs (seamPlanes w d dr bits)

/-- Loop-back 4 of the lane behind the edge that a shift in direction dr leaves over: the bits enter the opposite edge of the
same device (Table CNC.7). The lane is UNDER_TEST, the opposite one UNDER_TEST or OUT_OF_SERVICE. -/
def Dev.seamLoop (d : Dev) (dr : Nat) : Bool :=
  let opp := d.svcOf (.lane (seamLane dr))
  d.svcOf (.lane dr) == .underTest && d.rd (CNC_CTRL.LOOP dr) == 4 && (opp == .underTest || opp == .outOfService)

/-- A SEAM shift sends its columns over the edge by which they leave, when that lane carries planes (R277, R358, R359). The
superframes count from Corridor cycle 0 (log entry 83). -/
def sendColumns (dr n : Nat) (vals : List Plane) (d : Dev) : Dev :=
  if d.joined dr || d.seamLoop dr then
    d.setLane dr { d.lane dr with planes := planeSlots (d.now * 4 / 5 % 2 == 1) (seamCols n dr vals) }
  else d

/-- SHIFT (R276, R277, R292, R310, R341, R375): `seam` holds the bits that the joined neighbour delivers in time, none
when it does not. Under loop-back 4 they are the device's own, and arrive PINNED cycles after their sending (Table CNC.7). -/
def shiftWork (x : BitVec 8) (d a b : BitVec 16) (seam : Option (List (BitVec 128))) (v : Dev) : Work :=
  let g := v.gal
  let w := widthOf x
  let n := bits b.toNat 6 0 + 1
  let dr := bits b.toNat 9 8
  let edge := bits b.toNat 11 10
  let ok := x.toNat < 32 && bits b.toNat 7 7 == 0 && bits b.toNat 15 12 == 0
  match dst g d w, src g a w with
  | .ok pd, .ok pa =>
    let vals := g.at_ pa w
    guard [unused ok]
      (if edge < 3 then
        .run (w * n) (fun dv => dv.setGal (fun h => h.put pd g.a (vals.map (shiftPlane edge dr n)))) [] none
      else
        let k := w * n + v.acts GSQ_SEAMLAT.LAT
        let l := seamLane dr
        let st := fun (loop : Bool) =>
          { w := w, dst := match pd with | .mem i => i | .flag f => f, src := vals, d := n, dir := dr, addr := g.pc,
            start := v.bcnt + k, loop := loop : Stall }
        let out := sendColumns dr n vals
        if v.joined l then
          match seam with
          | some bs =>
            .run k (fun dv => (useTwin (out dv) GSQ_SEAMLAT.addr).setGal (fun h => h.put pd g.a (seamVals w n dr vals bs))) [] none
          | none => .stall k out (st false)
        else if v.seamLoop dr then
          let lat := v.rd (CNC_LAT.PINNED dr)
          if lat ≤ v.acts GSQ_SEAMLAT.LAT then
            .run k (fun dv => (useTwin (out dv) GSQ_SEAMLAT.addr).setGal (fun h =>
              h.put pd g.a (vals.map (shiftPlane 2 dr n)))) [] none
          else .stall k out (st true)
        else
          let dead := if (v.lane l).dead then vacant dr n else p0
          .run k (fun dv => (out dv).setGal (fun h =>
            let h := h.put pd g.a (vals.map (moved dr n))
            { h with e := h.e ||| dead })) [] none)
  | rd, ra => guard [unused ok, trapOf rd, trapOf ra] (.trap tIllegal)

/-! Reductions. -/

/-- An any-line latch takes a value; a change of the vector is voted to the group and reaches the matrix (R279, R311,
R370). -/
def setLatch (d : Dev) (k : Nat) (val : Bool) : Dev :=
  let old := d.gal.latches
  let new := if val then setBit old k else clrBit old k
  if new = old then d else balEval (sendLatch (d.setGal (fun g => { g with latches := new })))

/-- A GANY vote goes out in two copies (R370). -/
def sendGany (d : Dev) (val : Bool) : Dev :=
  floodVote d none { type := 0x11, origin := d.pos, hops := 0, copy := false,
                     payload := [bit val, d.rd GSQ_FCNTLO.FCNT % 2 ^ 16, d.gal.ord] }

/-- A vote of this GROUP ANY has been received from a member (R311). -/
def Dev.anyVoted (d : Dev) : Bool :=
  d.gal.votes.any (fun v => v.2.1 == 65536 * (d.rd GSQ_FCNTLO.FCNT % 2 ^ 16) + d.gal.ord && v.2.2
    && (d.rd CNC_GRP.MEMBERS).testBit v.1)

/-- ANY (R278, R291, R311). -/
def anyWork (x : BitVec 8) (d a b : BitVec 16) (v : Dev) : Work :=
  let g := v.gal
  let n := x.toNat
  let r := src g a 1
  let grp := n.testBit 0
  let k := bits n 7 5
  let ok := bits n 4 2 == 0 && b == 0#16 && (n.testBit 1 || k == 0)
  guard [unused ok, scalarField d.toNat, trapOf r]
    (match r with
     | .ok p =>
       let own := ((g.at_ p 1).headD p0 &&& g.a) != p0
       let all := own || (grp && v.anyVoted)
       .run (32 + if grp then v.acts GSQ_ANYLAT.LAT else 0)
         (fun dv =>
           let dv := if grp then useTwin dv GSQ_ANYLAT.addr else dv
           let dv := if n.testBit 1 then setLatch dv k own else dv
           let dv := if grp then (sendGany dv own).setGal (fun h => { h with ord := h.ord + 1 }) else dv
           dv.setGal (fun h => { h.setS d.toNat (w32 (bit all)) with l := all }))
         [] none
     | .error c => .trap c)

/-- COUNT (R280, R291, R312). -/
def countWork (x : BitVec 8) (d a b : BitVec 16) (v : Dev) : Work :=
  let g := v.gal
  let r := src g a 1
  guard [unused (x == 0#8 && b == 0#16), scalarField d.toNat, trapOf r]
    (match r with
     | .ok p =>
       let c := pCount ((g.at_ p 1).headD p0 &&& g.a)
       .run 20 (fun dv => dv.setGal (fun h => { h.setS d.toNat (w32 c) with l := c != 0 })) [] none
     | .error c => .trap c)

/-! Riser. -/

/-- Word i of descriptor n of a bank (Table GPR.3). -/
def Dev.descWord (d : Dev) (b n i : Nat) : Word := d.ld (RSR_DESC.addr (256 * b + 4 * n + i))

/-- Descriptors of a bank's image (R343). -/
def Dev.ndesc (d : Dev) (b : Nat) : Nat := (nth PBank.empty d.gal.banks b).ndesc

/-- A transfer is issued in cycle i (R313, R316, R343): no descriptor, then alignment, then room. -/
def riserIssue (d : Dev) (i : Nat) (rin : Bool) (w esz : Nat) (sext : Bool) (dst desc : Nat) (vals : List Plane) : Dev :=
  match d.activeBank with
  | none => rsrError d eNodesc rin desc
  | some b =>
    if d.ndesc b ≤ desc then rsrError d eNodesc rin desc
    else
      let w0 := d.descWord b desc 0
      let w1 := d.descWord b desc 1
      let w2 := d.descWord b desc 2
      let base := w0.toNat
      let stride := fld w1 15 0
      let bad := base % esz != 0 || stride % esz != 0
      let full := decide (16 ≤ d.outstanding)
      let refused := bad || full
      let start := if refused then i else max i d.gal.lastC
      let x : Xfer :=
        { rin := rin, w := w, esz := esz, sext := sext, dst := dst, desc := desc, base := base, stride := stride,
          chmax := fld w1 31 16, lock := if w2.getLsbD 7 && !refused then some (fld w2 5 0) else none,
          errp := if w2.getLsbD 31 then some (fld w2 27 16) else none, start := start,
          due := start + 64 + 1024 * esz, refused := refused, started := refused, held := false, causes := 0,
          failed := p0, vals := vals }
      let x := if refused then d.allFail x else x
      let d := d.setGal (fun g => { g with xfers := g.xfers ++ [x], lastC := if refused then g.lastC else x.due })
      if refused then rsrError d (if bad then eAlign else eQfull) rin desc else xferKick d

/-- RIN and ROUT (R313 to R315, R343): ESZ 3, w > 8E and descriptors 64 to 255 are undefined. -/
def riserWork (rin : Bool) (x : BitVec 8) (d a b : BitVec 16) (v : Dev) : Work :=
  let g := v.gal
  let n := x.toNat
  let w := n % 32 + 1
  let esz := bits n 6 5
  let e := 2 ^ esz
  let i := v.bcnt
  let ok := esz < 3 && decide (w ≤ 8 * e) && decide (b.toNat < 64)
  if rin then
    match dst g d w with
    | .ok (.mem p) =>
      guard [unused (ok && !n.testBit 7 && a == 0#16)]
        (.run 1 (fun dv => riserIssue dv i true w e false p b.toNat (List.replicate w p0)) [] none)
    | r => guard [unused (ok && !n.testBit 7 && a == 0#16), trapOf r] (.trap tIllegal)
  else
    match src g a w with
    | .ok p =>
      guard [unused (ok && d == 0#16)]
        (.run 1 (fun dv => riserIssue dv i false w e (n.testBit 7) 0 b.toNat (g.at_ p w)) [] none)
    | r => guard [unused (ok && d == 0#16), trapOf r] (.trap tIllegal)

/-! TRIP, PIO, NWL. -/

/-- TRIP (R317). -/
def tripWork (x : BitVec 8) (d a b : BitVec 16) (v : Dev) : Work :=
  let g := v.gal
  let n := x.toNat
  let c := n % 4
  let byS := n.testBit 2
  let mask := if byS then (g.sreg a.toNat).toNat % 65536 else b.toNat
  guard [unused (decide (n < 8) && d == 0#16 && decide (c < 3)),
         if byS then unused (b == 0#16 && decide (a.toNat < 16)) else unused (a == 0#16)]
    (if c = 0 ∨ (c = 1 ∧ g.l) ∨ (c = 2 ∧ !g.l) then .run 1 (fun dv => galTrip dv mask) [] none else step1 id none)

/-- PIO (R318). -/
def pioWork (x : BitVec 8) (d a b : BitVec 16) (v : Dev) : Work :=
  let g := v.gal
  let n := x.toNat
  let port := bits n 3 2
  let m := b.toNat
  let val := (g.sreg a.toNat).toNat % 65536
  let out := fun (o : Nat) => match n % 4 with
    | 0 => o ||| m
    | 1 => o &&& (65535 - m)
    | 2 => o ^^^ m
    | _ => (o &&& (65535 - m)) ||| (val &&& m)
  guard [unused (decide (n < 16) && d == 0#16), if n % 4 = 3 then unused (decide (a.toNat < 16)) else unused (a == 0#16)]
    (.run 1 (padsMove (fun dv => dv.wr (PIO_GOUT.GOUT port) (out (dv.rd (PIO_GOUT.GOUT port))))) [] none)

/-- The levels of port x behind the synchroniser, for an instruction that issues now: those before the first change of the
last two array cycles (R318; log entry 33). -/
def Dev.pioSync (d : Dev) (x : Nat) : Nat :=
  match d.gal.padHist.find? (fun e => decide (d.bcnt < e.1 + 2)) with
  | some e => nth 0 e.2 x
  | none => d.pioIn x

/-- PIOIN (R318): the levels at the pins two cycles before. -/
def pioinWork (x : BitVec 8) (d a b : BitVec 16) (v : Dev) : Work :=
  let n := x.toNat
  guard [unused (n % 4 == 0 && decide (n < 16) && a == 0#16 && b == 0#16), scalarField d.toNat]
    (step1 (fun h => h.setS d.toNat (w32 (v.pioSync (bits n 3 2)))) none)

/-- NWL (R319): the request is served in the issue cycle, the result falls due 16 cycles later. -/
def nwlWork (x : BitVec 8) (d a b : BitVec 16) (v : Dev) : Work :=
  let n := x.toNat
  let i := v.bcnt
  guard [unused (decide (n < 4) && a == 0#16 && decide (b.toNat < 64)), scalarField d.toNat]
    (.run 1 (fun dv =>
      let r := newelOp dv 3 n b.toNat
      r.2.2.setGal (fun h => { h with nwl := h.nwl ++ [{ due := i + 16, sd := d.toNat, word := r.1, l := r.2.1, seen := false }] }))
      [] none)

/-! Seam stalls. -/

/-- SEAM_STALL_END (R341): the missing bits arrive before the stall reaches SEAMTO; how many cycles it lasted is open,
except over loop-back 4, where they arrive PINNED cycles after their sending. -/
def stallEnd (d : Dev) (seam : List (BitVec 128)) : Dev :=
  match d.gal.stall with
  | none => d
  | some st =>
    let d := useTwin d GSQ_SEAMTO.addr
    let lim := d.acts GSQ_SEAMTO.CYCLES
    let k := 1 + (if st.loop then d.rd (CNC_LAT.PINNED st.dir) - d.acts GSQ_SEAMLAT.LAT - 1
      else (Config.freeWord d.seed).toNat) % max 1 (lim - 1)
    let d := d.draw
    let last := max d.bcnt (st.start + k) - 1
    let act := d.gal.a
    let vals := if st.loop then st.src.map (shiftPlane 2 st.dir st.d) else seamVals st.w st.d st.dir st.src seam
    let d := (deliver d (last - 1)).setGal (fun h => { h.put (.mem st.dst) act vals with stall := none })
    finish (galTime (deliver d last) (last + 1)) [] none

/-- SEAM_ABORT (R341, R351): missing bits count as 0, E is set in every bay whose destination draws on the seam, the trap
ends the frame, and a CRIT event is posted. SEAMTO counts from the cycle in which the stall began. -/
def stallAbort (d : Dev) (seam : List (Option (BitVec 128))) : Dev :=
  match d.gal.stall with
  | none => d
  | some st =>
    let d := useTwin d GSQ_SEAMTO.addr
    let last := max d.bcnt (st.start + d.acts GSQ_SEAMTO.CYCLES) - 1
    let act := d.gal.a
    let d := (deliver d (last - 1)).setGal (fun h =>
      let h := h.put (.mem st.dst) act (seamVals st.w st.d st.dir st.src (seam.map (fun b => b.getD 0#128)))
      { h with stall := none, e := h.e ||| vacant st.dir st.d })
    let d := evqKind d 0x0E .seamAbort true st.addr (d.rd GSQ_FCNTLO.FCNT)
    finish (galTime (deliver d last) (last + 1)) [tSeam] none

/-! Meanings. -/

def execGalShift (x : BitVec 8) (d a b : BitVec 16) (seam : Option (List (BitVec 128))) (s : State) :
    Host.Outcome State Fault Refusal :=
  galExec s (shiftWork x d a b seam)

def execGalAny (x : BitVec 8) (d a b : BitVec 16) (s : State) : Host.Outcome State Fault Refusal :=
  galExec s (anyWork x d a b)

def execGalCount (x : BitVec 8) (d a b : BitVec 16) (s : State) : Host.Outcome State Fault Refusal :=
  galExec s (countWork x d a b)

def execGalRin (x : BitVec 8) (d a b : BitVec 16) (s : State) : Host.Outcome State Fault Refusal :=
  galExec s (riserWork true x d a b)

def execGalRout (x : BitVec 8) (d a b : BitVec 16) (s : State) : Host.Outcome State Fault Refusal :=
  galExec s (riserWork false x d a b)

def execGalTrip (x : BitVec 8) (d a b : BitVec 16) (s : State) : Host.Outcome State Fault Refusal :=
  galExec s (tripWork x d a b)

def execGalPio (x : BitVec 8) (d a b : BitVec 16) (s : State) : Host.Outcome State Fault Refusal :=
  galExec s (pioWork x d a b)

def execGalPioin (x : BitVec 8) (d a b : BitVec 16) (s : State) : Host.Outcome State Fault Refusal :=
  galExec s (pioinWork x d a b)

def execGalNwl (x : BitVec 8) (d a b : BitVec 16) (s : State) : Host.Outcome State Fault Refusal :=
  galExec s (nwlWork x d a b)

/-- The work of a word, by its opcode (Tables GIS.3 to GIS.8); an opcode not listed traps ILLEGAL (R295). -/
def wordWork (op : Nat) (x : BitVec 8) (d a b : BitVec 16) (v : Dev) : Work :=
  match op with
  | 0x01 => nopWork x d a b
  | 0x02 => jmpWork x d a b
  | 0x03 => brWork x d a b v
  | 0x04 => callWork x d a b v
  | 0x05 => retWork x d a b v
  | 0x06 => loopWork x d a b v
  | 0x07 => fendWork x d a b v
  | 0x08 => yieldWork x d a b v
  | 0x10 => sliWork x d a b
  | 0x11 | 0x12 | 0x13 | 0x14 | 0x15 | 0x16 | 0x17 | 0x18 => scalarOp (fun p _ => p) x d a b v
  | 0x19 => scmpWork x d a b v
  | 0x1A => srdlWork x d a b v
  | 0x20 => logicWork x d a b v
  | 0x21 => pushaWork x d a b v
  | 0x22 => elseaWork x d a b v
  | 0x23 => popaWork x d a b v
  | 0x24 => setaWork x d a b v
  | 0x25 => clrfWork x d a b v
  | 0x30 => movfWork x d a b v
  | 0x31 => addWork x d a b v
  | 0x32 => subWork x d a b v
  | 0x33 => addsWork x d a b v
  | 0x34 => subsWork x d a b v
  | 0x35 => cmpWork x d a b v
  | 0x36 => cmpsWork x d a b v
  | 0x37 => minWork x d a b v
  | 0x38 => maxWork x d a b v
  | 0x39 => absWork x d a b v
  | 0x3A => negWork x d a b v
  | 0x3B => selWork x d a b v
  | 0x3C => bcastWork x d a b v
  | 0x40 => aclrWork x d a b v
  | 0x41 => macWork true x d a b v
  | 0x42 => macWork false x d a b v
  | 0x43 => accfWork x d a b v
  | 0x44 => accrdWork false x d a b v
  | 0x45 => accrdWork true x d a b v
  | 0x50 => shiftWork x d a b none v
  | 0x51 => anyWork x d a b v
  | 0x52 => countWork x d a b v
  | 0x60 => riserWork true x d a b v
  | 0x61 => riserWork false x d a b v
  | 0x62 => tripWork x d a b v
  | 0x63 => pioWork x d a b v
  | 0x64 => pioinWork x d a b v
  | 0x65 => nwlWork x d a b v
  | _ => .trap tIllegal

/-- A word is undefined in a state: the checks of its opcode answer ILLEGAL before any change (R295, R320). -/
def Work.illegal : Work → Bool
  | .trap c => c == tIllegal
  | _ => false

/-- GAL_ILLEGAL (R295): an undefined word traps ILLEGAL; a defined one is no event of this row. -/
def execGalIllegal (word : BitVec 64) (s : State) : Host.Outcome State Fault Refusal :=
  let w := wordWork (word.toNat / 2 ^ 56) (word.extractLsb' 48 8) (word.extractLsb' 32 16) (word.extractLsb' 16 16)
    (word.extractLsb' 0 16) s.dev
  if w.illegal then galExec s (fun _ => .trap tIllegal) else .next s

/-- NWL_RESULT (R319): array time goes on to the oldest result that has not arrived, which arrives in Sd and L. While the
program runs it stays noted, since an instruction of the same cycle does not replace it: `issue` writes it again behind that
instruction. -/
def nwlResult (d : Dev) : Dev :=
  let k := d.gal.nwl.findIdx (fun x => !x.seen)
  match d.gal.nwl[k]? with
  | none => d
  | some r =>
    let d := if d.gal.running then galTime d (max d.bcnt r.due) else d
    d.setGal (fun g => { g.setS r.sd r.word with
      l := r.l,
      nwl := if g.running then setNth r g.nwl k { r with seen := true } else g.nwl.eraseIdx k })

def execNwlResult (s : State) : Host.Outcome State Fault Refusal := fin s (nwlResult s.dev)

end Sys2Proof.Machine
end

