-- ==== Sys2Proof/Machine/GalleryFrame.lean ====
section
/-!
DEFINITION. Frames of the Gallery: frame starts and what applies at them (R281, R286, R287, R333 to R336, R342, R348,
R350, R352, R367, R368), the power-up clear (R268), the completion of Riser transfers, the budget (R338) and the plane
window (R26, R347).
-/

namespace Sys2Proof.Machine

/-- The power-up clear (R268): bay memory and accumulators, before the first frame. -/
def powerClear (d : Dev) : Dev :=
  if d.galOn ∧ !d.gal.cleared then
    d.setGal (fun g => { g with mem := [], acc := List.replicate 48 p0, cleared := true }) else d

/-! What applies at a frame start. -/

/-- SEAMLAT and ANYLAT as the Wailith of a member writes them (R277, R285, R337). -/
def setLatencies (d : Dev) (lat anylat : Nat) : Dev :=
  let d := d.putTwin GSQ_SEAMLAT.addr (w32 lat)
  setEff (d.putTwin GSQ_ANYLAT.addr (w32 anylat))

/-- A GROUPCMD update takes effect in the frame whose number equals AT: the joining lanes join. At a join, values that would
exceed the frame period are not applied by any member, with a joining lane or without; its joining lanes are quarantined with
BUDGET, and the cause is logged (R334, R337, R368, Table CNC.5). -/
def applyUpdate (d : Dev) : Dev :=
  if d.on CNC_GUPD.PENDING ∧ d.rd CNC_GUPDAT.AT = d.rd GSQ_FCNTLO.FCNT then
    let lat := d.rd CNC_GUPD.LAT
    let anylat := d.rd CNC_GUPD.ANYLAT
    let ls := d.pendingLanes
    let join := d.grp.updJoin || !ls.isEmpty
    let d := { d.wr CNC_GUPD.PENDING 0 with grp := { d.grp with updJoin := false } }
    if join && d.overBudget lat anylat then
      let d := ls.foldl (fun d l => laneQuarantine d l 8) d
      evqKind d 0x80 .budgetJoin false lat anylat
    else ls.foldl laneJoin (setLatencies d lat anylat)
  else d

/-- Physical column carrying logical column c (GSQ_COLMAP). -/
def Dev.pcol (d : Dev) (c : Nat) : Nat := fld (d.ld (GSQ_COLMAP.addr (c / 4))) (8 * (c % 4) + 7) (8 * (c % 4))

/-- A field of planes cleared in one logical column. -/
def zeroCol (g : Gal) (c : Nat) : Gal :=
  let keep := ~~~colPlane (2 ^ c)
  { g with mem := (g.mem.map (fun e => (e.1, e.2 &&& keep))).filter (fun e => e.2 != p0),
           acc := g.acc.map (· &&& keep), o := g.o &&& keep, e := g.e &&& keep }

/-- An armed repair takes effect at a frame start (R348, R349): copy or clear, GSQ_COLMAP, service states, P in the
repaired column, source 68, the CRIT event with c, the spare's physical column and CLEARED (their places: log entry 8), and
the completion of REPAIR_COLUMN. -/
def applyRepair (d : Dev) : Dev :=
  let c := d.rd GSQ_REPCTL.LCOL
  let sp := 128 + d.rd GSQ_REPCTL.SPARE
  let used := match d.activeBank with | some b => d.beff b | none => 0
  let copy := d.on GSQ_REPCTL.COPY && decide (4160 + used ≤ d.acts GSQ_FPER.CYCLES)
  let old := d.pcol c
  let d := d.put (GSQ_COLMAP.addr (c / 4)) (setFld (d.ld (GSQ_COLMAP.addr (c / 4))) (8 * (c % 4) + 7) (8 * (c % 4)) sp)
  let d := (d.setSvc (.col old) .outOfService).setSvc (.col sp) .inService
  let d := d.setGal (fun g => { (if copy then g else zeroCol g c) with p := colPlane (2 ^ c), repReady := false })
  let d := (((d.wr GSQ_REPCTL.ARMED 0).wr GSQ_REPSTAT.DONE 1).wr GSQ_REPSTAT.PCOL sp).wr GSQ_REPSTAT.LCOL c
  let d := if copy then d else d.wr GSQ_REPSTAT.CLEARED 1
  let d := evqAppend (d.pulse 68) 0x0E (Config.evCode .repair).toNat true (w32 c) (w32 (sp + 256 * bit (!copy)))
  match d.wl.repSlot with
  | some n => { d with wl := { d.wl with
      repSlot := none, due := d.wl.due ++ [(n, 0, [b8 (Svc.inService).code, 0#8, 0#8, 0#8])] } }
  | none => d

/-- A loaded map takes effect (R342). -/
def applyMap (d : Dev) : Dev :=
  match d.gal.map2 with
  | some m => ((d.setGal (fun g => { g with map := m, map2 := none })).wr RSR_MAPCTL.PEND 0).wr RSR_MAPCTL.VALID 1
  | none => d

/-- The lead disarms a group switch that a member has not armed before frame AT − 1 (R336): type 0x20, kind 1 disarms. -/
def groupSwitchCheck (d : Dev) : Dev :=
  match d.wl.swGroup, d.wl.swSlot with
  | some (_, at_, _, _), some slot =>
    if d.on CNC_GRP.ISLEAD ∧ atOrAfter (d.rd GSQ_FCNTLO.FCNT) (2 ^ 32 + at_ - 1) then
      let d := (d.wr GSQ_SWCTL.ARMED 0)
      let d := floodSb d none { type := 0x20, origin := d.pos, hops := 0, copy := false, payload := [1, at_] }
      { d with wl := { d.wl with swGroup := none, swSlot := none, due := d.wl.due ++ [(slot, 6, [])] } }
    else d
  | _, _ => d

/-- The lead sends its beacon at each frame start; a member counts frames without one (R367). A device sends a MARKER on
each lane that measures, is joined or is looped back at its near end, and its last LATCH, once per frame behind the beacon
(R365, R366, R370, Table CNC.7). -/
def frameSideband (d : Dev) : Dev :=
  let d := if d.on CNC_GRP.ISLEAD then
      floodSb { d.wr CNC_BEACON.FCNT (d.rd GSQ_FCNTLO.FCNT) with
                grp := { d.grp with beaconMiss := 0, beaconFrame := false } } none
        { type := 0x12, origin := d.pos, hops := 0, copy := false, payload := [d.rd GSQ_FCNTLO.FCNT, d.rd CNC_GRP.LEAD] }
    else { d with grp := { d.grp with beaconMiss := if d.grp.beaconFrame then 0 else d.grp.beaconMiss + 1,
                                      beaconFrame := false } }
  let d := (List.range 4).foldl (fun d l => if d.lstate l = 4 ∨ d.lstate l = 6 ∨ d.nearLoop l then
    sendSb d l { type := 0x02, origin := d.pos, hops := 0, copy := false, payload := [0] } else d) d
  floodSb d none { type := 0x10, origin := d.pos, hops := 0, copy := false,
                   payload := [d.gal.latches, (65535 + d.grp.voteSeq) % 2 ^ 16], late := true }

/-- The state of Table GAL.1 and R281 at a frame start, and the entry of the active bank. -/
def startProgram (d : Dev) : Dev :=
  let run := d.activeBank
  let fcnt := d.rd GSQ_FCNTLO.FCNT
  let entry := match run with | some b => d.rd (GSQ_BI_ENTRY.ENTRY b) | none => 0
  let limit := match run with | some b => d.beff b | none => 0
  setEff (d.setGal (fun g =>
    { g.setS 15 (w32 fcnt) with
      c := p0, a := p1, t := p0, stack := [], loops := [], calls := [], pc := entry % 16384, running := run.isSome,
      fend := false, ok := false, trapped := false, fendPc := 0, limit := limit, ord := 0, startDue := false,
      fresh := false, votes := g.votes.filter (fun v => v.2.1 / 65536 == fcnt % 2 ^ 16) }))

/-- A frame begins: what waits for the boundary applies, then the program starts (R140, R286, R333, R350, R352). -/
def frameBegin (d : Dev) : Dev :=
  let g := d.gal
  let overrun := g.running
  let ended := g.running || g.fend || g.trapped
  let now := if overrun then d.bcnt - g.period else 0
  let at_ := if overrun then g.frameAt + g.period * 5 / 4 else max d.now (g.frameAt + g.period * 5 / 4)
  let late := g.period
  let d := d.setGal (fun g =>
    { g with p := p0, padHist := [], frameAt := at_, lastC := g.lastC - late,
             xfers := g.xfers.map (fun x => { x with due := x.due - late, start := x.start - late }),
             nwl := g.nwl.map (fun x => { x with due := x.due - late }) })
  let d := galTime (useTwin d GSQ_FPER.addr) now
  let d := d.setGal (fun g => { g with period := d.acts GSQ_FPER.CYCLES })
  let d := useTwin (useTwin d GSQ_SEAMLAT.addr) GSQ_ANYLAT.addr
  let d := applyUpdate d
  let d := if d.on GSQ_REPCTL.ARMED ∧ !overrun ∧ (g.repReady ∨ !ended) ∧ !g.fresh then applyRepair d else d
  let d := if (d.activeBank).isNone ∨ (ended ∧ atOrAfter (d.rd GSQ_FCNTLO.FCNT) (d.rd GSQ_SWAT.AT)) then takeSwitch d else d
  frameSideband (groupSwitchCheck (startProgram (applyMap d)))

/-- FRAME_START (R286, R287, R41, R485): frames start in RUN. A frame start that falls due while a shift is stalled is
counted, and its frame starts when the stall ends. -/
def frameStart (d : Dev) : Dev :=
  if d.mode ≠ .run ∨ d.wl.dozeWait.isSome then d
  else
    let d := deliver (powerClear d) (d.gal.period - 1)
    let d := if d.gal.running then d.pulse 67 else d
    let d := if !d.gal.ok ∧ d.bal.frames then frameMissed d else d
    let d := { d with bal := { d.bal with frames := true } }
    let n := d.rd GSQ_FCNTLO.FCNT + 1
    let d := d.wr GSQ_FCNTLO.FCNT n
    let d := if n = 2 ^ 32 then d.wr GSQ_FCNTHI.FCNT (d.rd GSQ_FCNTHI.FCNT + 1) else d
    if d.mode ≠ .run then d
    else if d.gal.stall.isSome then d.setGal (fun g => { g with startDue := true })
    else frameBegin d

/-- After a stall has ended, a frame start that fell due during it takes place at once (R287). -/
def afterStall (d : Dev) : Dev := 
  if d.gal.startDue ∧ d.gal.stall.isNone ∧ d.mode = .run ∧ d.wl.dozeWait.isNone then frameBegin d else d

/-! The plane window. -/

/-- The bytes of the planes that an access touches. -/
def planeBytes (g : Gal) (i n : Nat) : List Byte := (List.range n).flatMap (fun k => leBytes 2048 (g.plane (i + k)).toNat)

/-- A plane-window access, by offset in the window (R26, R109, R347). -/
def planeAccess (d : Dev) (write : Bool) (off len : Nat) (data : List Byte) : Resp × Dev :=
  if !d.galOn then (.err .offline, d)
  else
    let i := off / 2048
    let n := (off + len + 2047) / 2048 - i
    let old := planeBytes d.gal i n
    let o := off % 2048
    if write then
      let new := old.take o ++ sliceB data 0 len ++ old.drop (o + len)
      (.ok [], d.setGal (fun g => putField g i ((List.range n).map (fun k =>
        BitVec.ofNat 16384 (leNat ((new.drop (2048 * k)).take 2048))))))
    else (.ok (sliceB old o len), d)

/-! Meanings. -/

/-- GAL_POWER_UP_CLEAR (R268). -/
def execGalPowerUpClear (s : State) : Host.Outcome State Fault Refusal := fin s (powerClear s.dev)

/-- A cycle in which a frame may start; Wailith then answers the commands that the frame start has completed. -/
def frameCycle (f : Dev → Dev) (d : Dev) : Dev := lanesReport (answerDue (oneCycle f d))

/-- FRAME_START (R286). -/
def execFrameStart (s : State) : Host.Outcome State Fault Refusal := fin s (frameCycle frameStart s.dev)

/-- SEAM_STALL_END (R341). -/
def execSeamStallEnd (seam : List (BitVec 128)) (s : State) : Host.Outcome State Fault Refusal :=
  fin s (frameCycle (fun d => afterStall (stallEnd d seam)) s.dev)

/-- SEAM_ABORT (R341). -/
def execSeamAbort (seam : List (Option (BitVec 128))) (s : State) : Host.Outcome State Fault Refusal :=
  fin s (frameCycle (fun d => afterStall (stallAbort d seam)) s.dev)

/-- RISER_TRANSFER_COMPLETE (R313): the transfer with the earliest c_j commits; array time of a frame in progress goes on
to it. `late` is the number of elements moved by c_j when not all were (R316). -/
def riserComplete (d : Dev) (late : Option Nat) : Dev :=
  match nextXfer d.gal.xfers with
  | none => d
  | some x =>
    let d := if d.gal.running then galTime d (max d.bcnt (x.due + 1)) else d
    xferFinish d x late

def execRiserTransferComplete (late : Option Nat) (s : State) : Host.Outcome State Fault Refusal :=
  fin s (if s.dev.galOn then riserComplete s.dev late else s.dev)

/-- BUDGET_EXCEEDED (R338): a frame that is not complete has used more cycles than its limit. What falls due up to the
limit has arrived before; a frame that its last transfer has completed by then traps no more (R304). While a shift is stalled the
trap waits for the end of the instruction. -/
def budgetExceeded (d : Dev) : Dev :=
  if !(d.gal.running || (d.gal.fend && !d.gal.ok)) || !d.galOn then d
  else
    let d := deliver d d.gal.limit
    if !(d.gal.running || (d.gal.fend && !d.gal.ok)) then d
    else
    let d := galTime d (max d.bcnt (d.gal.limit + 1))
    if d.gal.stall.isSome then d
    else seqTrap (d.pulse 67) [tBudget] (if d.gal.fend then d.gal.fendPc else d.gal.pc)

def execBudgetExceeded (s : State) : Host.Outcome State Fault Refusal := fin s (budgetExceeded s.dev)

/-- PLANE_WINDOW_ACCESS (R26, R347); an access outside the window is not one of this row. -/
def execPlaneWindowAccess (write : Bool) (addr len : Nat) (data : List Byte) (s : State) :
    Host.Outcome State Fault Refusal :=
  if 0x31000000 ≤ addr ∧ 0 < len ∧ addr + len ≤ 0x31800000 then
    let r := planeAccess s.dev write (addr - 0x31000000) len data
    fin s { r.2 with resp := r.1 }
  else fin s { s.dev with resp := .err .decode }

end Sys2Proof.Machine
end

