-- ==== Sys2Proof/Machine/Concourse.lean ====
section
/-!
DEFINITION. The Concourse: the join of a lane, sideband messages, lane loss, remote access as its origin (R358 to R383),
and the commands of their rows.
-/

namespace Sys2Proof.Machine

/-- The lane number names a lane whose circuits are powered (Table ARC.3). -/
def Dev.laneOn (d : Dev) (l : Nat) : Bool := decide (l < 4) && d.srdOn && d.mode == .run

/-- A quarantine whose cause no rule gives, since the step limits of Table CNC.5 name none: one of Table CNC.6 (free value,
log entry 40). -/
def quarantineOpen (d : Dev) (l : Nat) : Dev := laneQuarantine d.draw l (1 + (Config.freeWord d.seed).toNat % 10)

/-! Join. -/

/-- First 8 bytes of the digest of the active image, zero with no active bank (Table CNC.5). -/
def Dev.activeDigest (d : Dev) : List Byte :=
  match d.activeBank with
  | some b => sliceB (nth PBank.empty d.gal.banks b).digest 0 8
  | none => List.replicate 8 0#8

/-- Devices of the group, counting this one. -/
def Dev.groupSize (d : Dev) : Nat := max 1 (bitsOf 8 (d.rd CNC_GRP.MEMBERS)).length

/-- HELLO of this device (Table CNC.5 step 3). -/
def sendHello (d : Dev) (l : Nat) : Dev :=
  let d := d.setLane l { d.lane l with helloAt := d.now }
  sendSb d l { type := 0x01, origin := d.pos, hops := 0, copy := false,
               payload := [d.pos, d.topo, d.rd SYS_GEN.FABGEN, d.rd SYS_GEN.WLGEN, d.rd SYS_GEN.PEERMIN,
                           d.rd SYS_GEN.PEERMAX, d.acts GSQ_FPER.CYCLES, leNat d.activeDigest, d.rd CNC_GRP.LEAD,
                           d.groupSize, bit d.activeBank.isSome] }

/-- In step 3 a HELLO is due every 10 µs (Table CNC.5). -/
def helloTick (d : Dev) (l : Nat) : Dev :=
  if d.lstate l = 2 ∧ 10000 + (d.lane l).helloAt ≤ d.now then sendHello d l else d

/-- The join sequence starts on a lane (R363). An edge that is dead stays so until the lane is JOINED (R375). -/
def laneStart (d : Dev) (l : Nat) : Dev :=
  (laneBlk d l |>.wr (CNC_LSTAT.LSTATE l) 1).setLane l { Lane.idle with dead := (d.lane l).dead }

/-- LANE_TRAINED (Table CNC.5 steps 1 to 3): taps PRE3, PRE2, PRE1, POST, MAIN. -/
def laneTrained (d : Dev) (l : Nat) (taps : List Nat) : Dev :=
  if !d.laneOn l || d.lstate l != 1 then d
  else
    let t := fun k => nth 0 taps k % 256
    let d := d.put (CNC_TXEQ0.addr l) (w32 (2 ^ 24 * t 0 + 2 ^ 16 * t 1 + 2 ^ 8 * t 2 + t 3))
    let d := (d.put (CNC_TXEQ1.addr l) (w32 (t 4))).wr (CNC_LSTAT.LSTATE l) 2
    sendHello d l

def execLaneTrained (lane : Nat) (taps : List Nat) (s : State) : Host.Outcome State Fault Refusal :=
  fin s (laneTrained s.dev lane taps)

/-- LANE_TRAIN_FAIL (R363): three tries, then OUT_OF_SERVICE with cause TRAIN. -/
def laneTrainFail (d : Dev) (l : Nat) : Dev :=
  if !d.laneOn l || d.lstate l != 1 then d
  else
    let x := d.lane l
    if 2 ≤ x.tries then lanesReport (laneDown d l 5) else d.setLane l { x with tries := x.tries + 1 }

def execLaneTrainFail (lane : Nat) (s : State) : Host.Outcome State Fault Refusal := fin s (laneTrainFail s.dev lane)

/-- HELLO_TIMEOUT (R363). -/
def execHelloTimeout (lane : Nat) (s : State) : Host.Outcome State Fault Refusal :=
  fin s (if s.dev.laneOn lane && s.dev.lstate lane == 2 then lanesReport (quarantineOpen s.dev lane) else s.dev)

/-- JOIN_STEP_TIMEOUT (R363, Table CNC.5 steps 4 to 6). -/
def execJoinStepTimeout (lane : Nat) (s : State) : Host.Outcome State Fault Refusal :=
  fin s (if s.dev.laneOn lane && (s.dev.lstate lane == 3 || s.dev.lstate lane == 4 || s.dev.lstate lane == 5) then
    lanesReport (quarantineOpen s.dev lane) else s.dev)

/-- What a HELLO carries (Table CNC.5 step 3), with the measured rate difference in ppm. -/
structure Hello where
  pos : Nat
  topo : Nat
  fabgen : Nat
  wlgen : Nat
  ranges : List (Nat × Nat)
  ppm : Nat
  fper : Nat
  digest : List Byte
  lead : Nat
  size : Nat
  settled : Bool
  deriving DecidableEq, Repr

/-- A generation lies in one of a list of ranges. -/
def inRanges (g : Nat) (rs : List (Nat × Nat)) : Bool := rs.any (fun r => decide (r.1 ≤ g) && decide (g ≤ r.2))

/-- The first cause of Table CNC.6 that a HELLO meets: codes 1 to 6. -/
def Dev.helloCause (d : Dev) (l : Nat) (h : Hello) : Option Nat :=
  if h.fabgen ≠ d.rd SYS_GEN.FABGEN then some 1
  else if !inRanges (d.rd SYS_GEN.WLGEN) h.ranges || !inRanges h.wlgen d.wl.peerRanges then some 2
  else if h.topo ≠ d.topo ∨ neighborOf d.topo d.pos l ≠ some h.pos then some 3
  else if 20 < h.ppm then some 4
  else if h.fper ≠ d.acts GSQ_FPER.CYCLES then some 5
  else if sliceB h.digest 0 8 ≠ d.activeDigest ∨ h.settled ≠ d.activeBank.isSome then some 6
  else none

/-- The choice of step 4: this device aligns, or the peer does, or neither may (R364). -/
inductive AlignSide where
  | skip | own | peer | twoLeads
  deriving DecidableEq, Repr

/-- R364. -/
def Dev.alignSide (d : Dev) (h : Hello) : AlignSide :=
  let lead := d.rd CNC_GRP.LEAD
  let n := d.groupSize
  if h.lead = lead then .skip
  else if !h.settled && !d.activeBank.isSome then (if lead < h.lead then .peer else .own)
  else if h.settled && d.activeBank.isSome then
    if n = 1 ∧ h.size = 1 then (if h.pos < d.pos then .own else .peer)
    else if n = 1 then .own
    else if h.size = 1 then .peer
    else .twoLeads
  else .twoLeads

/-- The members of a group learn that they realign, and to which lead (R364): GROUPCMD kind 6 (log entry 41). -/
def sendRealign (d : Dev) (lead : Nat) : Dev :=
  floodSb d none { type := 0x20, origin := d.pos, hops := 0, copy := false,
                   payload := [6, d.rd GSQ_FCNTLO.FCNT, lead] }

/-- SB_HELLO (R363, R364, R70): the checks, and the step that follows. A repeated HELLO of a later step is ignored. -/
def helloIn (d : Dev) (l : Nat) (h : Hello) : Dev :=
  if !d.laneOn l || d.lstate l != 2 then d
  else
    let d := ((d.wr (CNC_LSTAT.PEERVALID l) 1).wr (CNC_LSTAT.PEERPOS l) h.pos).put (CNC_PEER.addr l)
      (w32 (2 ^ 24 * (h.lead % 8) + 2 ^ 16 * (h.topo % 4) + 2 ^ 8 * (h.wlgen % 256) + h.fabgen % 256))
    match d.helloCause l h with
    | some c => lanesReport (laneQuarantine d l c)
    | none =>
      match d.alignSide h with
      | .twoLeads => lanesReport (laneQuarantine (groupError d CNC_GERR.TWOLEADS) l 9)
      | .own => sendRealign { d.wr (CNC_LSTAT.LSTATE l) 3 with grp := { d.grp with alignTo := some (h.lead, l) } } h.lead
      | _ => d.wr (CNC_LSTAT.LSTATE l) 4

def execSbHello (lane pos topo fabgen wlgen : Nat) (ranges : List (Nat × Nat)) (ppm fper : Nat) (digest : List Byte)
    (leadPos size : Nat) (settled : Bool) (s : State) : Host.Outcome State Fault Refusal :=
  fin s (helloIn s.dev lane { pos := pos, topo := topo, fabgen := fabgen, wlgen := wlgen, ranges := ranges, ppm := ppm,
                              fper := fper, digest := digest, lead := leadPos, size := size, settled := settled })

/-- This device aligns to the reference that stands behind a lane: the lane is at step 4, or a member of the same group at its
other side has told that the group realigns (R364). -/
def Dev.aligns (d : Dev) (l : Nat) : Bool :=
  d.grp.alignTo.any (fun x => x.2 == l) && (d.lstate l == 3 || d.joined l)

/-- LANE_ALIGN (R364): after FEND the gap is lengthened, the next frame has the reference's number, and the reference's lead
is the lead; the wait is no overrun. Every member of the aligning group does so. -/
def laneAlign (d : Dev) (l fcnt : Nat) : Dev :=
  if !d.laneOn l || !d.aligns l || d.gal.running || d.gal.stall.isSome then d
  else
    let lead := (d.grp.alignTo.map Prod.fst).getD 0
    let joining := d.lstate l == 3
    let d := (d.wr GSQ_FCNTLO.FCNT (fcnt % 2 ^ 32)).wr GSQ_FCNTHI.FCNT (fcnt / 2 ^ 32)
    let d := (d.wr CNC_GRP.LEAD lead).wr CNC_GRP.ISLEAD (bit (lead == d.pos))
    let d := { d with grp := { d.grp with alignTo := none } }
    frameBegin (if joining then d.wr (CNC_LSTAT.LSTATE l) 4 else d)

def execLaneAlign (lane fcnt : Nat) (s : State) : Host.Outcome State Fault Refusal :=
  fin s (frameCycle (fun d => laneAlign d lane fcnt) s.dev)

/-- The lead computes and distributes the latencies for a joining lane, or quarantines it with BUDGET (R337, R368). -/
def joinUpdate (d : Dev) (l : Nat) : Dev :=
  if !d.on CNC_GRP.ISLEAD then d
  else
    let ((lat, anylat), d) := d.groupLatencies
    if d.overBudget lat anylat then evqKind (lanesReport (laneQuarantine d l 8)) 0x80 .budgetJoin false lat anylat
    else sendUpdate d lat anylat true

/-- Array cycles from the marked cycle to the arrival (R365). -/
def Dev.markDelay (d : Dev) (cycle arrival : Nat) : Nat :=
  if cycle ≤ arrival then arrival - cycle else arrival + d.acts GSQ_FPER.CYCLES - cycle

/-- A MARKER of step 5 (R365): the measurement goes on, has pinned the latency, begins again, or has failed for good. -/
inductive Measured where
  | more | pinned | again | failed
  deriving DecidableEq, Repr

def markMeasure (d : Dev) (l v : Nat) : Measured × Dev :=
  let d := d.wr (CNC_LAT.MARK l) v
  let x := d.lane l
  let ms := x.marks ++ [v]
  if ms.length < 16 then (.more, d.setLane l { x with marks := ms })
  else if ms.all (· == v) && decide (v ≤ 128) then
    (.pinned, (d.wr (CNC_LAT.PINNED l) v).setLane l { x with marks := [], attempts := 0 })
  else if 3 ≤ x.attempts then (.failed, d.setLane l { x with marks := [] })
  else (.again, d.setLane l { x with marks := [], attempts := x.attempts + 1 })

/-- SB_MARKER (R365, R366). Under loop-back 4 the lane measures PINNED as at step 5 (Table CNC.7). -/
def markerIn (d : Dev) (l cycle arrival : Nat) : Dev :=
  if !d.laneOn l then d
  else
    let v := d.markDelay cycle arrival
    if d.lstate l = 4 then
      match markMeasure d l v with
      | (.pinned, d) => joinUpdate (d.wr (CNC_LSTAT.LSTATE l) 5) l
      | (.failed, d) => lanesReport (laneQuarantine d l 7)
      | (_, d) => d
    else if d.nearLoop l ∧ d.rd (CNC_CTRL.LOOP l) = 4 then (markMeasure d l v).2
    else if d.lstate l = 6 then
      let d := d.wr (CNC_LAT.MARK l) v
      let p := d.rd (CNC_LAT.PINNED l)
      if 2 < max p v - min p v then lanesReport ((laneDown d l 6).wr (CNC_ERR.DRIFT l) 1) else d
    else d

def execSbMarker (lane cycle arrival : Nat) (s : State) : Host.Outcome State Fault Refusal :=
  fin s (markerIn s.dev lane cycle arrival)

/-! Votes and beacons. -/

/-- A message arrives on a JOINED lane. -/
def Dev.heard (d : Dev) (l : Nat) : Bool := d.laneOn l && d.joined l

/-- The first copy of a message: it is noted, at most 256 are kept; a duplicate is dropped (R370). -/
def firstCopy (d : Dev) (origin kind seq : Nat) : Option Dev :=
  if d.grp.seen.contains (origin, kind, seq) then none
  else some { d with grp := { d.grp with seen := (d.grp.seen ++ [(origin, kind, seq)]).drop (d.grp.seen.length - 255) } }

/-- SB_LATCH (R370, R371). -/
def latchIn (d : Dev) (l origin hops vec seq : Nat) : Dev :=
  if !d.heard l then d
  else
    let d := d.bump (CNC_SBCNT.VOTERX l) 1
    if origin = d.pos ∨ 8 ≤ origin then d
    else match firstCopy d origin 0x10 seq with
      | none => d
      | some d =>
        let d := { d with grp := { d.grp with remote := setNth 0 d.grp.remote origin (vec % 256) } }
        let d := floodVote d (some l) { type := 0x10, origin := origin, hops := hops + 1, copy := false,
                                        payload := [vec % 256, seq] }
        balEval d

def execSbLatch (lane origin hops : Nat) (_copy : Bool) (vec seq : Nat) (s : State) :
    Host.Outcome State Fault Refusal := fin s (latchIn s.dev lane origin hops vec seq)

/-- SB_GANY (R311, R370). -/
def ganyIn (d : Dev) (l origin hops : Nat) (value : Bool) (fcnt ord : Nat) : Dev :=
  if !d.heard l then d
  else
    let d := d.bump (CNC_SBCNT.VOTERX l) 1
    let key := 65536 * (fcnt % 2 ^ 16) + ord % 2 ^ 16
    if origin = d.pos then d
    else match firstCopy d origin 0x11 key with
      | none => d
      | some d =>
        let d := d.setGal (fun g => { g with votes := g.votes ++ [(origin, key, value)] })
        floodVote d (some l) { type := 0x11, origin := origin, hops := hops + 1, copy := false,
                               payload := [bit value, fcnt % 2 ^ 16, ord % 2 ^ 16] }

def execSbGany (lane origin hops : Nat) (_copy value : Bool) (fcnt ord : Nat) (s : State) :
    Host.Outcome State Fault Refusal := fin s (ganyIn s.dev lane origin hops value fcnt ord)

/-- A beacon is missing or differs: every JOINED lane is quarantined with ALIGN and the device runs alone (R367). -/
def beaconLost (d : Dev) : Dev :=
  let d := groupError d CNC_GERR.BEACONMISS
  let d := { d with grp := { d.grp with beaconMiss := 0 } }
  lanesReport ((List.range 4).foldl (fun d l => if d.joined l then laneQuarantine d l 10 else d) d)

/-- SB_BEACON (R367): every one is checked against FCNT, and the first of a frame is relayed. The lead takes none. A member
that realigns checks none until it has aligned (R364; log entry 20). -/
def beaconIn (d : Dev) (l origin hops fcnt lead : Nat) : Dev :=
  if !d.heard l || d.on CNC_GRP.ISLEAD || d.grp.alignTo.isSome then d
  else if fcnt % 2 ^ 32 ≠ d.rd GSQ_FCNTLO.FCNT then beaconLost d
  else if d.grp.beaconFrame then d
  else
    let d := { d.wr CNC_BEACON.FCNT fcnt with grp := { d.grp with beaconFrame := true } }
    floodSb d (some l) { type := 0x12, origin := origin, hops := hops + 1, copy := false, payload := [fcnt, lead] }

def execSbBeacon (lane origin hops fcnt leadPos : Nat) (s : State) : Host.Outcome State Fault Refusal :=
  fin s (beaconIn s.dev lane origin hops fcnt leadPos)

/-- BEACON_MISS (R367): BEACONTO consecutive frames without a beacon while the lead is reachable. -/
def beaconMiss (d : Dev) : Dev :=
  if d.mode != .run || d.on CNC_GRP.ISLEAD || !(d.rd CNC_GRP.MEMBERS).testBit (d.rd CNC_GRP.LEAD) then d
  else
    let d := useTwin d CNC_GCFG.addr
    if d.acts CNC_GCFG.BEACONTO ≤ d.grp.beaconMiss then beaconLost d else d

def execBeaconMiss (s : State) : Host.Outcome State Fault Refusal := fin s (beaconMiss s.dev)

/-! Group messages. -/

/-- SB_LINKSTATE (R368, R369): the first of a device, or a newer change number, updates the graph and is relayed. -/
def linkstateIn (d : Dev) (l origin hops change : Nat) (links : List Nat) : Dev :=
  if !d.heard l || origin == d.pos then d
  else
    let last := tget (fun _ => 0) d.grp.change origin
    let age := (2 ^ 16 + change % 2 ^ 16 + 1 - last) % 2 ^ 16
    if last ≠ 0 ∧ (age = 0 ∨ 2 ^ 15 ≤ age) then d
    else
      let d := { d with grp := { d.grp with
        change := tset (fun _ => 0) d.grp.change origin (change % 2 ^ 16 + 1),
        graph := d.grp.graph.filter (fun e => e.1 != origin) ++ [(origin, links)] } }
      let d := floodSb d (some l) { type := 0x03, origin := origin, hops := hops + 1, copy := false,
                                    payload := change :: links }
      lanesReport (regroup d)

def execSbLinkstate (lane origin hops change : Nat) (links : List Nat) (s : State) :
    Host.Outcome State Fault Refusal := fin s (linkstateIn s.dev lane origin hops change links)

/-- SB_LEAVE (R373, R374). -/
def execSbLeave (lane : Nat) (s : State) : Host.Outcome State Fault Refusal :=
  fin s (if s.dev.laneOn lane && decide (2 ≤ s.dev.lstate lane) then lanesReport (laneDown s.dev lane 4) else s.dev)

/-- A group switch is armed in GSQ_SWCTL by Wailith (R333, R336). -/
def armSwitch (d : Dev) (bank at_ yen : Nat) : Dev :=
  let d := (((d.wr GSQ_SWCTL.TARGET bank).wr GSQ_SWCTL.YEN yen).wr GSQ_SWCTL.ARMED 1).put GSQ_SWAT.addr (w32 at_)
  d.wr GSQ_SWREQ.REQ (d.rd GSQ_SWREQ.REQ + 1)

/-- A reply to the lead, or a word of the lead to its members. -/
def groupWord (d : Dev) (kind at_ : Nat) : Dev :=
  floodSb d none { type := 0x20, origin := d.pos, hops := 0, copy := false, payload := [kind, at_] }

/-- A member is asked to arm (R336): the image of the target bank has the lead's digest, no switch is armed, no DOZE entry
is under way (R353) and its frame number has not reached AT − 1. -/
def memberArm (d : Dev) (at_ bank digest : Nat) : Dev :=
  let ok := decide (bank < 2) && d.loaded bank && leNat (nth PBank.empty d.gal.banks bank).digest == digest
    && !d.on GSQ_SWCTL.ARMED && d.wl.dozeWait.isNone && !atOrAfter (d.rd GSQ_FCNTLO.FCNT) ((2 ^ 32 + at_ - 1) % 2 ^ 32)
  if ok then
    let d := armSwitch d bank at_ 0
    groupWord { d with wl := { d.wl with swGroup := some (bank, at_, [], []) } } 3 at_
  else groupWord d 4 at_

/-- The lead hears that a member has armed; with the last one SWITCH_BANK completes and the members learn it (R336). -/
def leadConfirm (d : Dev) (origin at_ : Nat) : Dev :=
  match d.wl.swGroup with
  | some (bank, a, asked, armed) =>
    if a ≠ at_ then d
    else
      let armed := if armed.contains origin then armed else armed ++ [origin]
      if asked.all armed.contains then
        let d := groupWord { d with wl := { d.wl with swGroup := none } } 3 at_
        match d.wl.swSlot with
        | some n => complete { d with wl := { d.wl with swSlot := none } } n 0 (leBytes 4 (d.rd GSQ_SWREQ.REQ)) true
        | none => d
      else { d with wl := { d.wl with swGroup := some (bank, a, asked, armed) } }
  | none => d

/-- The lead hears a refusal: every member that has armed is disarmed and SWITCH_BANK returns STATE (R336). -/
def leadRefused (d : Dev) (at_ : Nat) : Dev :=
  match d.wl.swGroup with
  | some (_, a, _, _) =>
    if a ≠ at_ then d
    else
      let d := groupWord ({ d with wl := { d.wl with swGroup := none } }.wr GSQ_SWCTL.ARMED 0) 1 at_
      match d.wl.swSlot with
      | some n => complete { d with wl := { d.wl with swSlot := none } } n 6 [] true
      | none => d
  | none => d

/-- A GROUPCMD as it goes out; the image digest of an arm request is carried in bytes. -/
def groupMsg (origin hops kind at_ : Nat) (args : List Nat) : SbMsg :=
  { type := 0x20, origin := origin, hops := hops, copy := false,
    payload := kind :: at_ :: (if kind = 0 then args.take 1 else args),
    data := if kind = 0 then leBytes 48 (nth 0 args 1) else [] }

/-- SB_GROUPCMD (R336, R368, R381, R364): kinds 0 arm, 1 disarm, 2 update, 3 armed or confirmed, 4 refused, 5 update
withdrawn, 6 realign (log entry 41). -/
def groupcmdIn (d : Dev) (l origin hops kind at_ : Nat) (args : List Nat) : Dev :=
  if !(d.heard l || (d.laneOn l && d.lstate l == 5)) || origin == d.pos then d
  else match firstCopy d origin (0x20 + 256 * kind) at_ with
    | none => d
    | some d =>
      let d := floodSb d (some l) (groupMsg origin (hops + 1) kind at_ args)
      let fromLead := origin == d.rd CNC_GRP.LEAD
      match kind with
      | 0 => if fromLead then memberArm d at_ (nth 0 args 0) (nth 0 args 1) else d
      | 1 => if fromLead && d.wl.swGroup.any (fun x => x.2.1 == at_) then
          { d.wr GSQ_SWCTL.ARMED 0 with wl := { d.wl with swGroup := none } } else d
      | 2 => if fromLead then pendUpdate d (at_ % 2 ^ 32) (nth 0 args 0) (nth 0 args 1) (nth 0 args 2 == 1) else d
      | 3 => if d.on CNC_GRP.ISLEAD then leadConfirm d origin at_
          else if fromLead then { d with wl := { d.wl with swGroup := none } } else d
      | 4 => if d.on CNC_GRP.ISLEAD then leadRefused d at_ else d
      | 5 => if d.on CNC_GUPD.PENDING && d.grp.updJoin && d.rd CNC_GUPDAT.AT == at_ % 2 ^ 32 then dropUpdate d else d
      | 6 => if d.activeBank.isNone then { d with grp := { d.grp with alignTo := some (nth 0 args 0 % 8, l) } } else d
      | _ => d

def execSbGroupcmd (lane origin hops kind at_ : Nat) (args : List Nat) (s : State) :
    Host.Outcome State Fault Refusal := fin s (groupcmdIn s.dev lane origin hops kind at_ args)

/-- The lane towards another device: the shortest direction in a line or ring, east or west first in a grid; another
joined lane where that one is not joined (R372; log entry 42). -/
def Dev.route (d : Dev) (dst : Nat) : Option Nat :=
  let p := d.pos
  let want := match d.topo with
    | 1 => if p < dst then 1 else 3
    | 2 => if p / 2 < dst / 2 then 1 else if dst / 2 < p / 2 then 3 else if dst % 2 = 1 then 2 else 0
    | _ => if (dst + 8 - p) % 8 ≤ 4 then 1 else 3
  if d.joined want then some want else (List.range 4).find? d.joined

/-- A remote access or lock message for another device is relayed towards it, without the Corridor (R372); with no other way
than the lane it came on, it is lost (log entry 42). -/
def relaySb (d : Dev) (l dst : Nat) (m : SbMsg) : Dev :=
  match d.route dst with
  | some k => if k = l then d else sendSb d k { m with hops := m.hops + 1 }
  | none => d

/-- SB_LOCK_REQ (R372, R170): the receiving lane issues the Newel request under holder 0x8 + ORIGIN and sends the result; a
request for another device is relayed. -/
def lockReqIn (d : Dev) (l origin dst hops lock op : Nat) : Dev :=
  if !d.heard l then d
  else if dst ≠ d.pos then
    relaySb d l dst { type := 0x32, origin := origin, hops := hops, copy := false, payload := [dst, lock, op] }
  else if !d.niOpen (8 + l) then d
  else
    let r := newelOp d (8 + origin % 8) (op % 4) (lock % 64)
    sendSb r.2.2 l { type := 0x33, origin := d.pos, hops := 0, copy := false, payload := [origin, r.1.toNat, 0] }

def execSbLockReq (lane : Nat) (route : Route) (lock op : Nat) (s : State) : Host.Outcome State Fault Refusal :=
  fin s (lockReqIn s.dev lane route.origin route.dst route.hops lock op)

/-! Remote access as its origin. -/

/-- The outstanding remote request ends with a result (R372). -/
def raEnd (d : Dev) (res : Nat) : Dev :=
  let d := (d.wr CNC_RARES.RES res).wr CNC_RACTL.GO 0
  let d := { d with lanes := d.lanes.map (fun x => { x with raFly := false }) }
  if res = 1 then d else groupError d CNC_GERR.RAERR

/-- A remote request to a device is outstanding. -/
def Dev.raOpen (d : Dev) (origin : Nat) (lock : Bool) : Bool :=
  d.rd CNC_RARES.RES == 2 && d.rd CNC_RACTL.DST == origin && (d.acts CNC_RACTL.OP == 2) == lock

/-- SB_LOCK_RSP (R372); a response for another device is relayed. -/
def lockRspIn (d : Dev) (l origin dst hops : Nat) (result : Word) (error : Bool) : Dev :=
  if !d.heard l then d
  else if dst ≠ d.pos then
    relaySb d l dst { type := 0x33, origin := origin, hops := hops, copy := false,
                      payload := [dst, result.toNat, bit error] }
  else if !d.raOpen origin true then d
  else raEnd (d.put CNC_RARESULT.addr result) (if error then 3 else 1)

def execSbLockRsp (lane : Nat) (route : Route) (result : Word) (error : Bool) (s : State) :
    Host.Outcome State Fault Refusal := fin s (lockRspIn s.dev lane route.origin route.dst route.hops result error)

/-- SB_RA_RSP (R372): the data of a READ goes to LADDR, written by the receiving lane; a response for another device is
relayed. -/
def raRspIn (d : Dev) (l origin dst hops : Nat) (error : Bool) (data : List Byte) : Dev :=
  if !d.heard l then d
  else if dst ≠ d.pos then
    relaySb d l dst { type := 0x31, origin := origin, hops := hops, copy := false, payload := [dst, bit error],
                      data := data }
  else if !d.raOpen origin false then d
  else if error then raEnd d 3
  else if d.acts CNC_RACTL.OP = 0 then
    let n := d.acts CNC_RACTL.LEN
    let a := d.rd CNC_RALADDR.LADDR
    let r := atriumAccess d (8 + l) true a n (sliceB data 0 n)
    raEnd r.2 (if r.1.good then 1 else 3)
  else raEnd d 1

def execSbRaRsp (lane : Nat) (route : Route) (error : Bool) (data : List Byte) (s : State) :
    Host.Outcome State Fault Refusal := fin s (raRspIn s.dev lane route.origin route.dst route.hops error data)

/-- A write of CNC_RA.GO (R372). A write while a request is outstanding changes nothing. -/
def raGo (d : Dev) (init : Nat) (data : Word) : Resp × Dev :=
  if init ≠ 0 then (.err .target, d)
  else if d.rd CNC_RARES.RES = 2 then (.ok [], d)
  else
    let op := if fld data 29 28 = 3 then d.rd CNC_RACTL.OP else fld data 29 28
    let d := ((d.wr CNC_RACTL.OP op).wr CNC_RACTL.DST (fld data 26 24)).wr CNC_RACTL.LEN (fld data 8 0)
    if !data.getLsbD 31 then (.ok [], d)
    else
      let dst := fld data 26 24
      let d := { d.wr CNC_RACTL.GO 1 with grp := { d.grp with raTime := d.now } }
      if dst = d.pos ∨ !(d.rd CNC_GRP.MEMBERS).testBit dst then (.ok [], raEnd d 4)
      else match d.route dst with
        | none => (.ok [], raEnd d 4)
        | some l =>
          let n := d.acts CNC_RACTL.LEN
          let va := (d.ld CNC_RARADDR.addr)
          let la := d.rd CNC_RALADDR.LADDR
          if op = 2 then
            let d := sendSb d l { type := 0x32, origin := d.pos, hops := 0, copy := false,
                                  payload := [dst, fld va 13 8, fld va 1 0] }
            (.ok [], (d.wr CNC_RARES.RES 2).setLane l { d.lane l with raFly := true })
          else if op = 1 then
            let r := atriumAccess d (8 + l) false la n []
            if r.1.good then
              let d := sendSb r.2 l { type := 0x30, origin := d.pos, hops := 0, copy := false,
                                      payload := [dst, 1, va.toNat, n], data := r.1.bytes }
              (.ok [], (d.wr CNC_RARES.RES 2).setLane l { d.lane l with raFly := true })
            else (.ok [], raEnd r.2 3)
          else
            let d := sendSb d l { type := 0x30, origin := d.pos, hops := 0, copy := false,
                                  payload := [dst, 0, va.toNat, n] }
            (.ok [], (d.wr CNC_RARES.RES 2).setLane l { d.lane l with raFly := true })

/-- CNC_RA_GO (R372). -/
def execCncRaGo (init : Nat) (data : Word) (s : State) : Host.Outcome State Fault Refusal :=
  let r := if s.dev.niOpen init then raGo s.dev init data else (.err .offline, s.dev)
  fin s { r.2 with resp := r.1 }

/-- RA_TIMEOUT (R372). -/
def execRaTimeout (s : State) : Host.Outcome State Fault Refusal :=
  fin s (if s.dev.rd CNC_RARES.RES = 2 then raEnd (s.dev.until (100000 + s.dev.grp.raTime)) 5 else s.dev)

/-! Lane errors. -/

/-- SB_IDLE (R360). -/
def execSbIdle (_lane : Nat) (s : State) : Host.Outcome State Fault Refusal := fin s s.dev

/-- SB_UNDEFINED_TYPE (R361): discarded and counted. -/
def execSbUndefinedType (lane _type : Nat) (s : State) : Host.Outcome State Fault Refusal :=
  fin s (if s.dev.laneOn lane && decide (2 ≤ s.dev.lstate lane) then
    s.dev.setLane lane { s.dev.lane lane with undef := (s.dev.lane lane).undef + 1 } else s.dev)

/-- UNCORRECTABLE_CODEWORD (R361, R373): `gap` good codewords since the last uncorrectable one. -/
def codewordLost (d : Dev) (l gap : Nat) : Dev :=
  if !d.laneOn l || decide (d.lstate l < 2) then d
  else
    let d := (d.bump (CNC_FECUNC.UNCORR l) 1).wr (CNC_ERR.FECUNC l) 1
    let x := d.lane l
    let h := (true :: (List.replicate (min gap 4) false ++ x.fec)).take 4
    if 2 ≤ (h.filter id).length then lanesReport (laneDown d l 3) else d.setLane l { x with fec := h }

def execUncorrectableCodeword (lane gap : Nat) (s : State) : Host.Outcome State Fault Refusal :=
  fin s (codewordLost s.dev lane gap)

/-- LANE_SIGNAL_LOSS (R373). -/
def execLaneSignalLoss (lane : Nat) (s : State) : Host.Outcome State Fault Refusal :=
  fin s (if s.dev.laneOn lane && decide (2 ≤ s.dev.lstate lane) then lanesReport (laneDown s.dev lane 1) else s.dev)

/-- LANE_LOCK_LOSS (R373). -/
def execLaneLockLoss (lane : Nat) (s : State) : Host.Outcome State Fault Refusal :=
  fin s (if s.dev.laneOn lane && decide (2 ≤ s.dev.lstate lane) then lanesReport (laneDown s.dev lane 2) else s.dev)

/-! Loop-backs. -/

/-- A test pattern replaces the codeword stream of a lane: PRBS 1 or 2 at loop-back depth 0, 2 or 3, UNDER_TEST (R378). -/
def Dev.prbsOn (d : Dev) (l : Nat) : Bool :=
  let p := d.rd (CNC_CTRL.PRBS l)
  let n := d.rd (CNC_CTRL.LOOP l)
  d.svcOf (.lane l) == .underTest && (p == 1 || p == 2) && (n == 0 || n == 2 || n == 3)

/-- While a pattern runs the checker locks, and once it has locked it counts bit errors; when and how many is not given (free
values, log entry 89). -/
def prbsTick (d : Dev) (l : Nat) : Dev :=
  if !d.prbsOn l then d
  else
    let n := (Config.freeWord d.seed).toNat
    let d := d.draw
    if !d.on (CNC_PRBSCNT.LOCK l) then d.wr (CNC_PRBSCNT.LOCK l) (n % 2)
    else
      let d := d.bump (CNC_PRBSCNT.ERRS l) (n % 64)
      if n % 64 = 0 then d else d.wr (CNC_ERR.PRBSERR l) 1

/-- After a write of CNC_CTRL: loop-backs and patterns apply only while the lane is UNDER_TEST (R377). A checker that no
pattern reaches is not locked (R378; log entry 89). -/
def cncAfter (d : Dev) (l : Nat) : Dev :=
  if d.svcOf (.lane l) = .underTest ∨ (d.rd (CNC_CTRL.LOOP l) = 0 ∧ d.rd (CNC_CTRL.FARLOOP l) = 0
      ∧ d.rd (CNC_CTRL.PRBS l) = 0) then (if d.prbsOn l then d else d.wr (CNC_PRBSCNT.LOCK l) 0)
  else (((d.wr (CNC_CTRL.LOOP l) 0).wr (CNC_CTRL.FARLOOP l) 0).wr (CNC_CTRL.PRBS l) 0).wr (CNC_ERR.CFGERR l) 1

end Sys2Proof.Machine
end

