-- ==== Sys2Proof/Machine/Atrium.lean ====
section
/-!
DEFINITION. The commands of the Atrium and the Logbook memory (R412 to R428), and the translation of remote accesses with
its buffer and walker (R429 to R433).
-/

namespace Sys2Proof.Machine

/-- The cycles in which an access of an initiator waits at a bank that serves another one (R415). -/
def conflicts (d : Dev) (init waited : Nat) : Dev :=
  if init < 16 ∧ waited ≠ 0 then d.bump (ATC_CFLCT.COUNT init) waited else d

/-- ATRIUM_ACCESS (R412): an access of 1 to 256 bytes within the Atrium that has arrived at its NI. -/
def execAtriumAccess (sender : AtriumSender) (write : Bool) (addr len : Nat) (data : List Byte) (s : State) :
    Host.Outcome State Fault Refusal :=
  if !s.dev.niOpen sender.init then fin s { s.dev with resp := .err .offline }
  else if 1 ≤ len ∧ len ≤ 256 ∧ addr + len ≤ 0x400000 then
    let r := atriumServe s.dev sender.init write addr len (sliceB data 0 len)
    fin s { (conflicts r.2 sender.init sender.waited) with resp := r.1 }
  else fin s { s.dev with resp := .err .decode }

/-- ATRIUM_ECC_WRITEBACK (R417). -/
def execAtriumEccWriteback (word : Nat) (s : State) : Host.Outcome State Fault Refusal :=
  fin s (if s.dev.coreOn then eccWriteback s.dev word else s.dev)

/-- ATRIUM_PATROL_READ (R418). -/
def execAtriumPatrolRead (bank : Nat) (s : State) : Host.Outcome State Fault Refusal := fin s (patrolRead s.dev bank)

/-- The state a deferred SET_SERVICE asks for (Table VST.8 byte 2). -/
def Dev.askedState (d : Dev) (slot : Nat) : Svc := if d.cmdAt slot 10 1 = 3 then .underTest else .inService

/-- ATRIUM_BANK_INIT_COMPLETE (R419): the bank that SET_SERVICE takes out of OUT_OF_SERVICE is on; one that was off holds
zeros; the command completes. In LANDING no command completes (R147). -/
def bankReady (d : Dev) (n : Nat) : Dev :=
  let u := UnitId.atb n
  match tget (fun _ => []) d.wl.svcSlot u.key with
  | [] => d
  | slot :: _ =>
    if 16 ≤ n ∨ d.svcOf u ≠ .outOfService ∨ !d.niOpen 0 then d
    else
      let d := if d.atrOff.testBit n then bankZero d n else d
      svcReport (d.setSvc u (d.askedState slot)) u

def execAtriumBankInitComplete (bank : Nat) (s : State) : Host.Outcome State Fault Refusal := fin s (bankReady s.dev bank)

/-- LOGBOOK_MEMORY_WRITE (R392, R424), by Corridor address. -/
def execLogbookMemoryWrite (init addr : Nat) (data : List Byte) (s : State) : Host.Outcome State Fault Refusal :=
  if !s.dev.niOpen init then fin s { s.dev with resp := .err .offline }
  else if 0x10000000 ≤ addr ∧ 1 ≤ data.length ∧ data.length ≤ 256 ∧ addr + data.length ≤ 0x10100000 then
    let r := logbookWrite s.dev init (addr % 0x10000000) data
    fin s { r.2 with resp := r.1 }
  else fin s { s.dev with resp := .err .decode }

/-- LOGBOOK_MEMORY_READ (R423), by Corridor address. -/
def execLogbookMemoryRead (init addr len : Nat) (s : State) : Host.Outcome State Fault Refusal :=
  if !s.dev.niOpen init then fin s { s.dev with resp := .err .offline }
  else if 0x10000000 ≤ addr ∧ 1 ≤ len ∧ len ≤ 256 ∧ addr + len ≤ 0x10100000 then
    fin s { s.dev with resp := logbookRead s.dev (addr % 0x10000000) len }
  else fin s { s.dev with resp := .err .decode }

/-! Translation. -/

/-- A cause of Table MEM.2 and its level. -/
structure XlatFail where
  cause : Nat
  level : Nat
  deriving DecidableEq, Repr

/-- A failed translation: counted, and captured when VALID was zero (R431). -/
def xlatFault (d : Dev) (f : XlatFail) (peer va : Nat) (write : Bool) : Dev :=
  let first := !d.on CWT_FAULT.VALID
  let d := d.bump CWT_FAULTCNT.COUNT 1
  if first then
    (d.put CWT_FAULT.addr (w32 (2 ^ 31 + 2 ^ 16 * f.cause + 2 ^ 12 * f.level + 2 ^ 8 * (peer % 8) + bit write * 16))).put
      CWT_FAULTVA.addr (w32 va)
  else d

/-- The address lies in the device region (Table ARC.4). -/
def inDevice (a : Nat) : Bool := decide (0x40000000 ≤ a) && decide (a < 0x50000000)

/-- The checks of a leaf: PERM, then DEV_DENIED (Table MEM.2). -/
def leafCheck (d : Dev) (e : TlbEnt) (write : Bool) : Option XlatFail × Dev :=
  if !e.perm.testBit (if write then 2 else 1) then (some ⟨7, 2⟩, d)
  else if inDevice (4096 * e.page) then
    let d := useTwin d CWT_DEVPERM.addr
    if e.perm.testBit 3 && (d.rd CWT_DEVPERM.PEER).testBit e.peer then (none, d) else (some ⟨8, 2⟩, d)
  else (none, d)

/-- One table read of the walker, initiator 13: the pointer is checked first (R430). -/
def walkRead (d : Dev) (table index level : Nat) : Except XlatFail Nat × Dev :=
  if 0x400000 ≤ table then (.error ⟨3, level⟩, d)
  else match atriumAccess d 13 false (table + 8 * index) 8 [] with
    | (.ok bs, d) => (.ok (leNat bs), d)
    | (.err _, d) => (.error ⟨4, level⟩, d)

/-- A walk from the level-1 table of a base register value (R429, R430). -/
def walkTable (d : Dev) (base : Word) (peer va : Nat) : Except XlatFail TlbEnt × Dev :=
  match walkRead d (8192 * fld base 31 13) (va / 2 ^ 22) 1 with
  | (.error f, d) => (.error f, d)
  | (.ok e1, d) =>
    if e1 / 2 % 2 ^ 12 ≠ 0 ∨ 2 ^ 32 ≤ e1 then (.error ⟨5, 1⟩, d)
    else if e1 % 2 = 0 then (.error ⟨6, 1⟩, d)
    else match walkRead d (2 ^ 13 * (e1 / 2 ^ 13)) (va / 2 ^ 12 % 1024) 2 with
      | (.error f, d) => (.error f, d)
      | (.ok e2, d) =>
        if e2 / 16 % 256 ≠ 0 ∨ 2 ^ 32 ≤ e2 then (.error ⟨5, 2⟩, d)
        else if e2 % 2 = 0 then (.error ⟨6, 2⟩, d)
        else (.ok { peer := peer, vpn := va / 4096, page := e2 / 4096, perm := e2 % 16 }, d)

/-- A translation enters the buffer of 64 entries as the most recently used one (R433). -/
def tlbFill (d : Dev) (e : TlbEnt) : Dev :=
  { d with tlb := (e :: d.tlb.filter (fun x => !(x.peer == e.peer && x.vpn == e.vpn))).take 64 }

/-- The checks that need no table (R431): NO_TABLE, CROSS. -/
def Dev.xlatEarly (d : Dev) (peer va len : Nat) : Option XlatFail :=
  if !d.on (CWT_BASE.EN peer) then some ⟨1, 0⟩
  else if 4096 < va % 4096 + len then some ⟨2, 0⟩
  else none

/-- A lookup in the buffer; a hit becomes the most recently used entry (R433). -/
def tlbLookup (d : Dev) (peer va : Nat) : Option TlbEnt × Dev :=
  match d.tlb.find? (fun e => e.peer == peer && e.vpn == va / 4096) with
  | some e => (some e, tlbFill (d.bump CWT_TLBCNT.HIT 1) e)
  | none => (none, d)

/-- A write of CWT_INVAL (R433). -/
def cwtInval (d : Dev) (data : Word) : Dev :=
  let p := fld data 10 8
  match fld data 1 0 with
  | 0 => { d with tlb := [] }
  | 1 => { d with tlb := d.tlb.filter (fun e => e.peer != p) }
  | 2 => { d with tlb := d.tlb.filter (fun e => !(e.peer == p && e.vpn == fld data 31 12)) }
  | _ => d

/-- CWT_INVAL (R433). -/
def execCwtInval (data : Word) (s : State) : Host.Outcome State Fault Refusal :=
  fin s (if s.dev.niOpen 0 then cwtInval s.dev data else s.dev)

/-- The walk in progress has lost its base: its result will not fill the buffer (R444). -/
def staleWalk (d : Dev) (p : Nat) : Dev :=
  match d.walks with
  | q :: r => if q.peer = p then { d with walks := { q with stale := true } :: r } else d
  | [] => d

/-- A write of CWT_BASEp invalidates the entries of its peer (R433); a change spoils a walk in progress (R444). -/
def cwtBase (d : Dev) (p : Nat) (data : Word) : Dev :=
  let old := d.ld (CWT_BASE.addr p)
  let d := { d.put (CWT_BASE.addr p) (data &&& 0xFFFFE001#32) with tlb := d.tlb.filter (fun e => e.peer != p) }
  if d.ld (CWT_BASE.addr p) = old then d else staleWalk d p

/-- A new CWT_DEVPERM invalidates the entries of the peers whose bit changes (R433). -/
def devpermInval (old d : Dev) : Dev :=
  let x := old.rd CWT_DEVPERM.PEER ^^^ d.rd CWT_DEVPERM.PEER
  { d with tlb := d.tlb.filter (fun e => !x.testBit e.peer) }

/-- CWT_BASE_WRITE (R433): registers 0 to 7 are CWT_BASEp; any other number is the new applied value of CWT_DEVPERM. -/
def cwtBaseWrite (d : Dev) (p : Nat) (data : Word) : Dev :=
  if !d.niOpen 0 then d
  else if p < 8 then cwtBase d p data
  else devpermInval d (d.putTwin CWT_DEVPERM.addr data)

def execCwtBaseWrite (p : Nat) (data : Word) (s : State) : Host.Outcome State Fault Refusal :=
  fin s (cwtBaseWrite s.dev p data)

end Sys2Proof.Machine
end

