-- ==== Sys2Proof/Machine/Dge.lean ====
section
/-!
DEFINITION. The digest engine: contexts, list jobs, programmed messages, key slots and the known-answer test
(R446 to R458, R470 to R472), and the commands of its rows.
-/

namespace Sys2Proof.Machine

/-- A DGE context. -/
def Dev.dctx (d : Dev) (c : Nat) : DgeCtx := nth DgeCtx.idle d.dge.ctx c

/-- The device with a DGE context replaced. -/
def Dev.setCtx (d : Dev) (c : Nat) (x : DgeCtx) : Dev := { d with dge := { d.dge with ctx := setNth DgeCtx.idle d.dge.ctx c x } }

/-- The key of a slot: slot 0 is fused, slots 1 to 7 are loaded (R455). -/
def Dev.keyOfSlot (d : Dev) (s : Nat) : Option (List Byte) := if s = 0 then some slot0Bytes else nth none d.dge.keys (s - 1)

/-- A message fails with cause KEY (R455): slot 0 for context H or SHA-384, or a slot that is not loaded. -/
def Dev.keyBad (d : Dev) (c : Nat) (algo keyed : Bool) (s : Nat) : Bool :=
  keyed && (if s = 0 then c == 1 || algo else (d.keyOfSlot s).isNone)

/-- The digest of a message (R446). -/
def Dev.digestOf (d : Dev) (algo keyed : Bool) (s : Nat) (m : List Byte) : List Byte :=
  if keyed then hmac (if algo then sha384Alg else sha256Alg) ((d.keyOfSlot s).getD []) m
  else if algo then sha384 m else sha256 m

/-- A digest goes to DGE_cDIG; words 8 to 11 are 0 after SHA-256. -/
def putDigest (d : Dev) (c : Nat) (dig : List Byte) : Dev :=
  (List.range 12).foldl (fun d k => d.put (DGE_DIG.addr c k) (w32 (leAt dig (4 * k) 4))) d

/-- The START of a context waits for the known-answer test (R458). -/
def Dev.waitsKat (d : Dev) (c : Nat) : Bool := d.dge.katWait.any (fun x => x.1 == c)

/-- The job of a context ends well: DONE is set, BUSY clears (R449, R453). -/
def dgeDone (d : Dev) (c : Nat) : Dev :=
  let d := ((d.wr (DGE_CSTAT.BUSY c) 0).wr (DGE_CSTAT.DONE c) 1).wr (DGE_CSTAT.SPACE c) 16
  d.setCtx c DgeCtx.idle

/-- The engine takes words from the buffer of a context; how many it has taken by a given moment is open. -/
def dgeDrain (d : Dev) (c : Nat) : Dev :=
  let held := 16 - d.rd (DGE_CSTAT.SPACE c)
  if held = 0 ∨ d.waitsKat c then d
  else (d.wr (DGE_CSTAT.SPACE c) (16 - (Config.freeWord d.seed).toNat % (held + 1))).draw

/-- A START on an idle context (R447, R453, R458). A programmed message whose key cannot serve fails at once. -/
def dgeOpen (d : Dev) (c : Nat) (data : Word) : Dev :=
  let x : DgeCtx := { busy := true, list := !data.getLsbD 4, algo := data.getLsbD 3, keyed := data.getLsbD 2,
                      kslot := fld data 10 8, lastn := fld data 17 16 + 1, msg := [] }
  let d := ((d.setCtx c x).wr (DGE_CSTAT.BUSY c) 1).wr (DGE_CSTAT.MSGS c) 0
  if d.dge.kat then { d with dge := { d.dge with katWait := d.dge.katWait ++ [(c, data)] } }
  else if !x.list && d.keyBad c x.algo x.keyed x.kslot then dgeFail d c 5
  else d

/-- The context of a request exists and accepts writes of the initiator (R447). -/
def dgeWriter (init c : Nat) : Bool := c == 1 || (c == 0 && init == 0)

/-- START. -/
def dgeStartW (d : Dev) (init c : Nat) (data : Word) : Resp × Dev :=
  if !dgeWriter init c then (.err .target, d)
  else if (d.dctx c).busy then (.err .target, d)
  else (.ok [], dgeOpen d c data)

/-- The open programmed message of a context. -/
def Dev.openMsg (d : Dev) (c : Nat) : Bool := (d.dctx c).busy && !(d.dctx c).list && (d.dctx c).lastn != 0

/-- The open programmed message is finished: its digest goes to DGE_cDIG (R453). A message that waits for the known-answer
test finishes after it. -/
def dgeEnd (d : Dev) (c : Nat) : Dev :=
  let x := d.dctx c
  if d.waitsKat c then d.setCtx c { x with lastn := 0 }
  else dgeDone ((putDigest d c (d.digestOf x.algo x.keyed x.kslot x.msg)).wr (DGE_CSTAT.MSGS c) 1) c

/-- A data write of `n` bytes: ORDER without an open message, OVERFLOW without space, or the bytes are appended (R453,
R454). -/
def dgeAppend (d : Dev) (init c : Nat) (data : Word) (n : Nat) : Resp × Dev :=
  if !dgeWriter init c then (.err .target, d)
  else if !d.openMsg c then (.err .target, (d.wr (DGE_CSTAT.ERR c) 1).wr (DGE_CSTAT.CAUSE c) 7)
  else if d.rd (DGE_CSTAT.SPACE c) = 0 then (.err .target, dgeFail d c 6)
  else
    let x := d.dctx c
    let d := d.setCtx c { x with msg := x.msg ++ (wordBytes data).take n }
    (.ok [], dgeDrain (d.wr (DGE_CSTAT.SPACE c) (d.rd (DGE_CSTAT.SPACE c) - 1)) c)

/-- A write of DGE_cDATA. -/
def dgeDataW (d : Dev) (init c : Nat) (data : Word) : Resp × Dev := dgeAppend d init c data 4

/-- A write of DGE_cLAST: the low LASTN bytes of the START, then the message is finished. -/
def dgeLastW (d : Dev) (init c : Nat) (data : Word) : Resp × Dev :=
  match dgeAppend d init c data (d.dctx c).lastn with
  | (.ok bs, d) => (.ok bs, dgeEnd d c)
  | r => r

/-- A write of FINISH (R453); without an open message it does nothing. -/
def dgeFinishW (d : Dev) (init c : Nat) : Resp × Dev :=
  if !dgeWriter init c then (.err .target, d)
  else (.ok [], if d.openMsg c then dgeEnd d c else d)

/-- A write of ABORT (R470). -/
def dgeAbortW (d : Dev) (init c : Nat) : Resp × Dev :=
  if !dgeWriter init c then (.err .target, d)
  else (.ok [], if (d.dctx c).busy then dgeFail d c 8 else d)

/-- A write of DGE_cCMD: the bits that are 1 act in the order ABORT, FINISH, START. -/
def dgeCmdWrite (d : Dev) (init c : Nat) (data : Word) : Resp × Dev :=
  let r : Resp × Dev := if data.getLsbD 29 then dgeAbortW d init c else (.ok [], d)
  let r := if r.1 = .ok [] ∧ data.getLsbD 30 then dgeFinishW r.2 init c else r
  if r.1 = .ok [] ∧ data.getLsbD 31 then dgeStartW r.2 init c data
  else if dgeWriter init c then r else (.err .target, r.2)

/-! List jobs. -/

/-- A list job fails at a descriptor (R450, R451, R452). -/
def listFail (d : Dev) (c cause desc : Nat) : Dev := dgeFail (d.put (DGE_ERRDESC.addr c) (w32 desc)) c cause

/-- CAUSE of an error response (R451). -/
def dgeCause : ErrCause → Nat
  | .window => 1
  | .ecc => 2
  | _ => 9

/-- Bytes of the Atrium read by the engine in requests of at most 256 bytes, initiator 4 (R447). -/
def dgeFetch : Nat → Dev → Nat → Nat → Except ErrCause (List Byte) × Dev
  | 0, d, _, _ => (.ok [], d)
  | n + 1, d, a, len =>
    if len = 0 then (.ok [], d)
    else
      let k := min 256 len
      match atriumAccess d 4 false a k [] with
      | (.err e, d) => (.error e, d)
      | (.ok bs, d) =>
        match dgeFetch n d (a + k) (len - k) with
        | (.ok r, d) => (.ok (bs ++ r), d)
        | (.error e, d) => (.error e, d)

/-- A descriptor (Table LOG.1). -/
structure DgeDesc where
  addr : Nat
  len : Nat
  flags : Nat
  next : Nat
  deriving DecidableEq, Repr

/-- The message a list job has open: ALGO, KEYED, KSLOT of its first descriptor, and its bytes. -/
structure DgeMsg where
  algo : Bool
  keyed : Bool
  kslot : Nat
  bytes : List Byte
  deriving DecidableEq, Repr

/-- The fields of a descriptor keep Table LOG.1, and its message goes on or ends properly (R449, R450). -/
def DgeDesc.ok (x : DgeDesc) (m : Option DgeMsg) : Bool :=
  decide (x.len ≤ 0x400000) && decide (x.addr + x.len ≤ 0x400000) && decide (x.flags < 128)
    && (if x.flags.testBit 2 then x.next % 16 == 0 else x.next == 0 && x.flags.testBit 0)
    && (match m with
        | some m => m.algo == x.flags.testBit 3 && m.keyed == x.flags.testBit 1 && m.kslot == x.flags / 16
        | none => true)

/-- A list job from descriptor number `k` at `a` with the open message `m` (R449 to R452). -/
def listRun : Nat → Dev → Nat → Nat → Option DgeMsg → Dev
  | 0, d, c, a, _ => listFail d c 4 a
  | n + 1, d, c, a, m =>
    if a % 16 ≠ 0 ∨ 0x400000 < a + 16 then listFail d c 3 a
    else match atriumAccess d 4 false a 16 [] with
    | (.err e, d) => listFail d c (dgeCause e) a
    | (.ok bs, d) =>
      let x : DgeDesc := { addr := leAt bs 0 4, len := leAt bs 4 4, flags := leAt bs 8 4, next := leAt bs 12 4 }
      if !x.ok m then listFail d c 3 a
      else
        let m := m.getD { algo := x.flags.testBit 3, keyed := x.flags.testBit 1, kslot := x.flags / 16, bytes := [] }
        if d.keyBad c m.algo m.keyed m.kslot then listFail d c 5 a
        else match dgeFetch 16385 d x.addr x.len with
        | (.error e, d) => listFail d c (dgeCause e) a
        | (.ok bs, d) =>
          let m := { m with bytes := m.bytes ++ bs }
          if !x.flags.testBit 0 then listRun n d c x.next (some m)
          else
            let dig := d.digestOf m.algo m.keyed m.kslot m.bytes
            let done := d.rd (DGE_CSTAT.MSGS c)
            match atriumAccess d 4 true (d.rd (DGE_RES.ADDR c) + 64 * done) dig.length dig with
            | (.err e, d) => listFail d c (dgeCause e) a
            | (.ok _, d) =>
              let d := (putDigest d c dig).wr (DGE_CSTAT.MSGS c) (done + 1)
              if x.flags.testBit 2 then listRun n d c x.next none else dgeDone d c

/-- DGE_LIST_JOB_COMPLETE (R449 to R452): the list job of a context runs to its end. -/
def listJob (d : Dev) (c : Nat) : Dev :=
  let x := d.dctx c
  if 2 ≤ c ∨ !d.niOpen 4 ∨ !x.busy ∨ !x.list ∨ d.waitsKat c then d
  else
    let a := d.rd (DGE_LIST.ADDR c)
    if d.rd (DGE_RES.ADDR c) % 64 ≠ 0 then listFail d c 3 a else listRun 4096 d c a none

/-! Keys. -/

/-- The key slots that the messages of a list name, message by message, from a descriptor on (R449). -/
def Dev.listSlots (d : Dev) : Nat → Nat → Bool → List (Option Nat)
  | 0, _, _ => []
  | n + 1, a, first =>
    let f := leNat (d.atrBytes (a + 8) 4)
    let here := if first then [if f.testBit 1 then some (f / 16 % 8) else none] else []
    if f.testBit 2 then here ++ d.listSlots n (leNat (d.atrBytes (a + 12) 4)) (f.testBit 0) else here

/-- The slot that a message in progress names (R456). The model runs a list job in one piece at its end; which of its messages
is in progress before that is not given (free value, log entry 65). -/
def Dev.slotInUse (d : Dev) (c : Nat) : Option Nat :=
  let x := d.dctx c
  if !x.busy then none
  else if !x.list then (if x.keyed then some x.kslot else none)
  else
    let ms := d.listSlots 4096 (d.rd (DGE_LIST.ADDR c)) true
    nth none ms ((Config.freeWord d.seed).toNat % max 1 ms.length)

/-- DGE_KEYLD reads zero and is cleared after a LOAD or ZERO (R456). -/
def clearKeyld (d : Dev) : Dev := { d with dge := { d.dge with keyld := List.replicate 16 0#32 } }

/-- A key slot gets a key or none, and DGE_KEYSTAT shows it (R455). -/
def setKey (d : Dev) (s : Nat) (k : Option (List Byte)) : Dev :=
  let v := d.rd DGE_KEYSTAT.LOADED
  clearKeyld { d.wr DGE_KEYSTAT.LOADED (if k.isSome then setBit v s else clrBit v s) with
    dge := { d.dge with keys := setNth none d.dge.keys (s - 1) k } }

/-- The KEYCTL is refused: not the Steward, slot 0, or a slot of a message in progress (R455, R456). -/
def Dev.keyRefused (d : Dev) (init s : Nat) : Bool :=
  init != 0 || s == 0 || d.slotInUse 0 == some s || d.slotInUse 1 == some s

/-- LOAD: LEN bytes of DGE_KEYLD (R455); a LEN below 1 acts as 1, one above 64 as 64 (R559). -/
def keyLoad (d : Dev) (init : Nat) (data : Word) : Resp × Dev :=
  let s := fld data 18 16
  let n := max 1 (min 64 (fld data 6 0))
  if d.keyRefused init s then (.err .target, d.draw)
  else (.ok [], setKey d.draw s (some ((d.dge.keyld.flatMap wordBytes).take n)))

/-- ZERO. -/
def keyZero (d : Dev) (init : Nat) (data : Word) : Resp × Dev :=
  let s := fld data 18 16
  if d.keyRefused init s then (.err .target, d.draw) else (.ok [], setKey d.draw s none)

/-- A write of DGE_KEYCTL: ZERO acts before LOAD; with neither bit only the checks of R455 and R456 apply. -/
def keyctlWrite (d : Dev) (init : Nat) (data : Word) : Resp × Dev :=
  if data.getLsbD 9 then
    match keyZero d init data with
    | (.ok bs, d) => if data.getLsbD 8 then keyLoad d init data else (.ok bs, d)
    | r => r
  else if data.getLsbD 8 then keyLoad d init data
  else if init ≠ 0 ∨ fld data 18 16 = 0 then (.err .target, d) else (.ok [], d)

/-- A write of DGE_KEYLDk; only the Steward loads keys (R455). -/
def keyldWrite (d : Dev) (init k : Nat) (data : Word) : Resp × Dev :=
  if init ≠ 0 then (.err .target, d)
  else (.ok [], { d with dge := { d.dge with keyld := setNth 0#32 d.dge.keyld k data } })

/-! The known-answer test. -/

/-- A write of DGE_KAT: GO is the Steward's (R458), PASS and FAIL clear on 1. -/
def katWrite (d : Dev) (init : Nat) (data : Word) : Resp × Dev :=
  if data.getLsbD 31 && init != 0 then (.err .target, d)
  else
    let d := if data.getLsbD 1 then d.wr DGE_KAT.FAIL 0 else d
    let d := if data.getLsbD 0 then d.wr DGE_KAT.PASS 0 else d
    (.ok [], if data.getLsbD 31 then { d.wr DGE_KAT.GO 1 with dge := { d.dge with kat := true } } else d)

/-- A START that waited opens: a key that cannot serve fails it, a message already finished gives its digest. -/
def katRelease (d : Dev) (c : Nat) : Dev :=
  let x := d.dctx c
  if x.list then d
  else if d.keyBad c x.algo x.keyed x.kslot then dgeFail d c 5
  else if x.lastn = 0 then dgeEnd d c
  else dgeDrain d c

/-- DGE_KAT_COMPLETE (R458): once both contexts are idle the run ends; `fail` is the first failing test, 0 for none.
The CRIT event that Wailith logs for it is that of the integrity fault. -/
def katDone (d : Dev) (fail : Nat) : Dev :=
  let runs := (List.range 2).any (fun c => (d.dctx c).busy && !d.waitsKat c)
  if !d.coreOn ∨ !d.dge.kat ∨ runs ∨ 6 ≤ fail then d
  else
    let ws := d.dge.katWait
    let d := { d.wr DGE_KAT.GO 0 with dge := { d.dge with kat := false, katWait := [] } }
    let d := if fail = 0 then d.wr DGE_KAT.PASS 1
      else
        let d := raiseFault ((d.wr DGE_KAT.FAIL 1).wr DGE_KAT.TEST fail) 0x40
        if fail = 5 then { d with wl := { d.wl with noSeals := true } } else d
    ws.foldl (fun d w => katRelease d w.1) d

/-! Commands. -/

/-- DGE_START (R447). -/
def execDgeStart (init c : Nat) (data : Word) (s : State) : Host.Outcome State Fault Refusal :=
  rowWrite init s (fun d => dgeStartW d init c data)

/-- DGE_LIST_JOB_COMPLETE (R449). -/
def execDgeListJobComplete (c : Nat) (s : State) : Host.Outcome State Fault Refusal := fin s (listJob s.dev c)

/-- DGE_DATA (R453, R454). -/
def execDgeData (init c : Nat) (data : Word) (s : State) : Host.Outcome State Fault Refusal :=
  rowWrite init s (fun d => dgeDataW d init c data)

/-- DGE_LAST (R453). -/
def execDgeLast (init c : Nat) (data : Word) (s : State) : Host.Outcome State Fault Refusal :=
  rowWrite init s (fun d => dgeLastW d init c data)

/-- DGE_FINISH (R453). -/
def execDgeFinish (init c : Nat) (_data : Word) (s : State) : Host.Outcome State Fault Refusal :=
  rowWrite init s (fun d => dgeFinishW d init c)

/-- DGE_ABORT (R470). -/
def execDgeAbort (init c : Nat) (_data : Word) (s : State) : Host.Outcome State Fault Refusal :=
  rowWrite init s (fun d => dgeAbortW d init c)

/-- DGE_KEY_LOAD (R455). -/
def execDgeKeyLoad (init : Nat) (data : Word) (s : State) : Host.Outcome State Fault Refusal :=
  rowWrite init s (fun d => keyLoad d init data)

/-- DGE_KEY_ZERO (R456). -/
def execDgeKeyZero (init : Nat) (data : Word) (s : State) : Host.Outcome State Fault Refusal :=
  rowWrite init s (fun d => keyZero d init data)

/-- DGE_KAT_GO (R458). -/
def execDgeKatGo (init : Nat) (data : Word) (s : State) : Host.Outcome State Fault Refusal :=
  rowWrite init s (fun d => katWrite d init (data ||| 0x80000000#32))

/-- DGE_KAT_COMPLETE (R458). -/
def execDgeKatComplete (fail : Nat) (s : State) : Host.Outcome State Fault Refusal := fin s (katDone s.dev fail)

end Sys2Proof.Machine
end

