-- ==== Sys2Proof/Machine/PortReceive.lean ====
section
/-!
DEFINITION. Reception of a port: characters, address detection, frames into chained cells, the closed-frame queue,
raw-stream rings, auto-baud and wake (R181 to R215, R218, R231, R232), and the commands of their rows.
-/

namespace Sys2Proof.Machine

/-- Corridor initiator of a port: 7 for banks 0 to 2, 12 for banks 3 to 5 (Table COR.1). -/
def portInit (n : Nat) : Nat := if n < 24 then 7 else 12

/-- Data bits of a character (Table PBK.1). -/
def Dev.dataBits (d : Dev) (n : Nat) : Nat := 7 + d.acts (PBK_FMT.DBITS n)

/-- PAR of a port: 0 none, 1 even, 2 odd, 3 mark, 4 space. -/
def Dev.parity (d : Dev) (n : Nat) : Nat := d.acts (PBK_FMT.PAR n)

/-- Oversampling factor of an OS code (R187). -/
def osOf (code : Nat) : Nat := match code with | 0 => 16 | 1 => 8 | _ => 4

/-- 64 × OS × (DIV + FRAC/64): the divisor of R187 in sixty-fourths of a port-clock cycle. -/
def Dev.divisor (d : Dev) (n : Nat) : Nat :=
  osOf (d.acts (PBK_BAUD.OS n)) * (64 * d.rd (PBK_BAUD.DIV n) + d.rd (PBK_BAUD.FRAC n))

/-- The combination is legal (R187). -/
def Dev.baudLegal (d : Dev) (n : Nat) : Bool :=
  d.rd (PBK_BAUD.DIV n) != 0 && decide (64 * 20 ≤ d.divisor n) && decide (d.divisor n ≤ 64 * 800000)

/-- Address detection is on with the format that it requires (R196). -/
def Dev.addrOn (d : Dev) (n : Nat) : Bool := d.on (PBK_ADDR.EN n) && d.dataBits n == 9 && d.parity n == 0

/-- The CRC check is on with a format that it admits (R202). -/
def Dev.crcOn (d : Dev) (n : Nat) : Bool := d.on (PBK_FRM.CRCEN n) && (d.dataBits n != 9 || d.on (PBK_ADDR.EN n))

/-- A configuration that sets CFGERR when it is written (R187, R196, R202). -/
def Dev.portBad (d : Dev) (n : Nat) : Bool :=
  !d.baudLegal n || (d.on (PBK_ADDR.EN n) && !d.addrOn n) || (d.on (PBK_FRM.CRCEN n) && !d.crcOn n)

/-- The bank of the port works: IN_SERVICE, DRAINING or UNDER_TEST (Table MOD.4). -/
def Dev.bankWorks (d : Dev) (n : Nat) : Bool := decide (n < 48) && d.svcOf (.bank (n / 8)) != .outOfService

/-- The receiver of the port runs (R182, R187, R205, R206, R207); in a DRAINING bank for the character in progress only
(R213). -/
def Dev.rxLive (d : Dev) (n : Nat) : Bool :=
  d.bankWorks n && d.on (PBK_CTRL.RXEN n) && d.baudLegal n
    && (d.svcOf (.bank (n / 8)) != .draining || (d.port n).lastChar)
    && (d.mode == .run || (d.mode == .doze && (d.port n).awake))

/-- The port's own transmission in a LINE of one wire pair mutes its receiver, outside a loop-back (R216, R227). -/
def Dev.muted (d : Dev) (n : Nat) : Bool :=
  let p := d.port n
  (p.line == 2 || p.line == 3) && (p.rxLine == 2 || p.rxLine == 3) && p.depth == 0
    && (match p.tx with | some t => !t.waiting | none => false)

/-- The RXD pin is the source of what the port receives: not in the loop-backs of depth 1 to 3 (Table PFE.3). -/
def Dev.hearsPin (d : Dev) (n : Nat) : Bool :=
  let k := (d.port n).depth
  k == 0 || decide (4 ≤ k)

/-- Bytes of one stored character (R185). -/
def Dev.charSize (d : Dev) (n : Nat) : Nat := if d.dataBits n = 9 then 2 else 1

/-- Bytes of a frame still in the FIFO. -/
def Frame.waiting (f : Frame) : Nat := f.data.length - f.spilled

/-- Characters in the receive FIFO. -/
def Dev.fifoLevel (d : Dev) (n : Nat) : Nat :=
  let p := d.port n
  ((p.frames.map Frame.waiting).sum + p.rawBuf.length) / d.charSize n

/-- RTS of LINE 1 follows the FIFO level (R218, R238); LO of HI or more acts as HI − 1. -/
def rtsUpdate (d : Dev) (n : Nat) : Dev :=
  let p := d.port n
  if p.rxLine ≠ 1 then d
  else
    let hi := d.acts (PBK_FLOW.HI n)
    let lo := if hi ≤ d.rd (PBK_FLOW.LO n) then hi - 1 else d.rd (PBK_FLOW.LO n)
    let l := d.fifoLevel n
    let v := if hi ≤ l then false else if l ≤ lo then true else p.rts
    d.setPort n { p with rts := v }

/-- The receiver takes over a LINE at a start edge: in LINE 1 RTS follows the FIFO from then on (R216, R218). -/
def rxSetLine (d : Dev) (n line : Nat) : Dev :=
  let p := d.port n
  if p.rxLine = line then d
  else
    let e := d.setPort n { p with rxLine := line, rts := line == 1 }
    rtsUpdate (pinsChanged d e) n

/-- The open frame of a port. -/
def Port.open? (p : Port) : Option Frame :=
  match p.frames.getLast? with
  | some f => if f.closed then none else some f
  | none => none

/-- The port with its last frame ovwd. -/
def Port.putLast (p : Port) (f : Frame) : Port := { p with frames := p.frames.dropLast ++ [f] }

/-- A bit of FSTAT set. -/
def Frame.flag (f : Frame) (j : Nat) : Frame := { f with fstat := setBit f.fstat j }

/-- Low bytes of the characters of a frame, over which the CRC runs (R201, R202). -/
def crcBytes (size : Nat) : List Byte → List Byte
  | a :: b :: r => if size = 2 then a :: crcBytes size r else a :: crcBytes size (b :: r)
  | r => r

/-- The open frame closes with a cause; one that closes with GAP is CRC-checked (R197, R201, R202). -/
def closeFrame (d : Dev) (n cause : Nat) : Dev :=
  let p := d.port n
  match p.open? with
  | none => d
  | some f =>
    let check := cause == 0 && d.crcOn n
    let bad := check && (decide (f.data.length < 3) || crc16 (crcBytes (d.charSize n) f.data) != 0)
    let g := { f with closed := true, fstat := f.fstat + cause + 8 * bit check + 16 * bit bad }
    let d := d.setPort n (p.putLast g)
    if bad then d.bump (PBK_CNT3.CRCBAD n) 1 else d

/-- In RAW mode a close event makes the bytes stored so far due for the ring (R203). -/
def rawClose (d : Dev) (n : Nat) : Dev :=
  let p := d.port n
  d.setPort n { p with rawFlush := p.rawBuf.length, rawLen := 0 }

/-- The MODE of PBK_FRM. -/
def Dev.frmMode (d : Dev) (n : Nat) : Nat := d.acts (PBK_FRM.MODE n)

/-- A close event of the line: the open frame closes, or the raw bytes become due. -/
def closeEvent (d : Dev) (n cause : Nat) : Dev := if d.frmMode n = 4 then rawClose d n else closeFrame d n cause

/-- Overrun flags and count (R232). -/
def overrun (d : Dev) (n : Nat) : Dev := (d.wr (PBK_STAT.OVR n) 1).bump (PBK_CNT2.OVERRUN n) 1

/-- A character enters the ring's part of the FIFO (R203, R232). -/
def rawStore (d : Dev) (n ch : Nat) (bs : List Byte) : Dev :=
  let p := d.port n
  let k := bs.length
  let full := decide (256 ≤ d.fifoLevel n)
  if full && p.rawFlush == p.rawBuf.length then overrun d n
  else
    let d := if full then overrun d n else d
    let p := { p with rawBuf := (if full then p.rawBuf.take (p.rawBuf.length - k) else p.rawBuf) ++ bs,
                      rawLen := if full then p.rawLen else p.rawLen + k }
    let d := d.setPort n p
    if d.acts (PBK_FRML.FLEN n) ≤ p.rawLen ∨ ch = d.rd (PBK_FRML.DELIM n) % 2 ^ d.dataBits n then rawClose d n else d

/-- What a stored character brings to its frame. -/
structure RxMark where
  par : Bool
  frm : Bool
  bcast : Bool
  deriving DecidableEq, Repr

/-- A character is stored in a chained-cell mode: it opens a frame where none is open, overwrites the last character of a
full FIFO, or is dropped behind a closed frame; then the close rules of the mode apply (R197, R210, R211, R232). -/
def frameStore (d : Dev) (n ch : Nat) (bs : List Byte) (m : RxMark) : Dev :=
  let p := d.port n
  let full := decide (256 ≤ d.fifoLevel n)
  let ovw := full && (match p.open? with | some f => decide (bs.length ≤ f.waiting) | none => false)
  if full && !ovw then (overrun d n).setPort n { p with ovrNext := true }
  else
    let d := if full then overrun d n else d
    let f := match p.open? with
      | some f => f
      | none => { data := [], spilled := 0, cells := [], time := d.timeUs % 2 ^ 32, closed := false,
                  fstat := 128 * bit p.ovrNext + 256 * bit m.bcast + 1024 * bit p.abdFrame }
    let fresh := p.open?.isNone
    let f := if m.par then f.flag 5 else f
    let f := if m.frm then f.flag 6 else f
    let f := if ovw then f.flag 7 else f
    let f := if p.wakeNext then f.flag 9 else f
    let f := { f with data := (if ovw then f.data.take (f.data.length - bs.length) else f.data) ++ bs }
    let q := if fresh then { p with frames := p.frames ++ [f], ovrNext := false, abdFrame := false } else p.putLast f
    let d := d.setPort n q
    let mode := d.frmMode n
    if mode = 1 ∧ d.acts (PBK_FRML.FLEN n) ≤ f.data.length then closeFrame d n 1
    else if mode = 2 ∧ ch = d.rd (PBK_FRML.DELIM n) % 2 ^ d.dataBits n then closeFrame d n 2
    else if d.acts (PBK_FRMX.MAXLEN n) ≤ f.data.length then closeFrame d n 5
    else d

/-- The bytes of a character (R185). -/
def charBytes (size ch : Nat) : List Byte := leBytes size ch

/-- A character that address detection lets through is stored; a captured wake character sets WSTAT (R205). -/
def storeChar (d : Dev) (n ch : Nat) (m : RxMark) : Dev :=
  let bs := charBytes (d.charSize n) ch
  let d1 := if d.frmMode n = 4 then rawStore d n ch bs else frameStore d n ch bs m
  let d1 := if (d.port n).wakeNext then
    (d1.wr (PBK_WAKE.WSTAT n) 1).setPort n { d1.port n with wakeNext := false } else d1
  rtsUpdate d1 n

/-- An address character matches: the own address under the mask, or the broadcast address (R196). -/
def Dev.addrMatch (d : Dev) (n ch : Nat) : Bool × Bool :=
  let own := (ch ^^^ d.rd (PBK_ADDR.OWN n)) &&& d.rd (PBK_ADDR.MASK n) &&& 0xFF == 0
  let bc := d.on (PBK_ADDR.BCEN n) && ch % 256 == d.rd (PBK_ADDR.BCAST n)
  (own || bc, bc)

/-- Address detection on a character (R196); a matching address closes the open frame in MODE 3 (Table PBK.3). The last match
stays when PBK_ADDR.EN or RXEN is turned off and on again, where the manual says nothing (log entry 88). -/
def addressed (d : Dev) (n ch : Nat) (m : RxMark) : Dev :=
  let skip := fun (d : Dev) => d.bump (PBK_CNT2.ADDRSKIP n) 1
  if 256 ≤ ch then
    let (hit, bc) := d.addrMatch n ch
    let d := d.setPort n { d.port n with match_ := hit }
    if hit then storeChar (if d.frmMode n = 3 then closeFrame d n 3 else d) n ch { m with bcast := bc } else skip d
  else if (d.port n).match_ then storeChar d n ch m
  else skip d

/-- A received break (R195, R212): nothing is stored, the open frame closes, the raw bytes become due. -/
def breakIn (d : Dev) (n : Nat) : Dev :=
  let p := d.port n
  let d := (d.wr (PBK_STAT.BREAK n) 1).bump (PBK_CNT1.BREAK n) 1
  let d := d.setPort n { p with idleDone := false, wakeNext := false,
                                match_ := p.match_ && !(d.frmMode n == 3 && p.open?.isNone) }
  closeEvent d n 4

/-- The parity bit of a character was at space: as expected or not (Table PBK.1). -/
def parityLow (par bits ch : Nat) (bad : Bool) : Bool :=
  let ones := (bitsOf bits ch).length % 2
  match par with
  | 0 => true
  | 1 => (ones == 0) != bad
  | 2 => (ones == 1) != bad
  | 3 => bad
  | _ => !bad

/-- A character as the shifter delivers it (R183, R184, R188, R195, R231); the start bit of a wake character is not
verified (R205). -/
def receiveChar (d : Dev) (n ch : Nat) (startMark parityBad stopLow : Bool) : Dev :=
  if startMark ∧ !(d.port n).wakeNext then d.bump (PBK_CNT1.NOISE n) 1
  else
    let ch := ch % 2 ^ d.dataBits n
    let par := d.parity n
    if ch = 0 ∧ stopLow ∧ parityLow par (d.dataBits n) ch parityBad then breakIn d n
    else
      let pb := parityBad && par != 0
      let d := if pb then (d.wr (PBK_STAT.PARERR n) 1).bump (PBK_CNT0.PARITY n) 1 else d
      let d := if stopLow then (d.wr (PBK_STAT.FRMERR n) 1).bump (PBK_CNT0.FRAMING n) 1 else d
      let d := d.setPort n { d.port n with idleDone := false }
      let m : RxMark := { par := pb, frm := stopLow, bcast := false }
      let d := if d.addrOn n then addressed d n ch m else storeChar d n ch m
      if (d.port n).wakeNext then d.setPort n { d.port n with wakeNext := false } else d

/-- The sync character (R190). -/
def Dev.syncChar (d : Dev) (n : Nat) : Nat :=
  (match d.acts (PBK_ABD.SYNC n) with | 0 => 0x55 | 1 => 0x0D | _ => d.rd (PBK_ABD.CHAR n)) % 2 ^ d.dataBits n

/-- Auto-baud can run: no parity, and a sync character whose most significant data bit is 0 (R190). -/
def Dev.abdLegal (d : Dev) (n : Nat) : Bool := d.parity n == 0 && !(d.syncChar n).testBit (d.dataBits n - 1)

/-- Auto-baud runs (R190). -/
def Dev.abdRuns (d : Dev) (n : Nat) : Bool := d.on (PBK_ABD.EN n) && d.abdLegal n

/-- The port waits after a failed measurement and takes no character (R193). -/
def Dev.abdWaits (d : Dev) (n : Nat) : Bool :=
  d.abdRuns n && !(d.port n).abdArmed && decide (0 < (d.port n).abdFails)

/-- What a character does in the setting that held at its start edge, when `late` changes of BAUD, FMT or LINE came after that
edge (R186, R216). -/
def inSetting (d : Dev) (n late : Nat) (f : Dev → Dev) : Dev :=
  let p := d.port n
  let d := if p.rxHist.isEmpty then d else d.setPort n { p with rxHist := [] }
  match if late = 0 then none else p.rxHist[late - 1]? with
  | none => f (rxSetLine d n (d.rd (PBK_CTRL.LINE n)))
  | some (baud, fmt, line) =>
    let e := f (rxSetLine ((d.put (PBK_BAUD.addr n) baud).put (PBK_FMT.addr n) fmt) n line)
    (e.put (PBK_BAUD.addr n) (d.ld (PBK_BAUD.addr n))).put (PBK_FMT.addr n) (d.ld (PBK_FMT.addr n))

/-- The last character of a DRAINING bank is in: its frame closes with FORCED and the receiver stops (R213). -/
def drainChar (d : Dev) (n : Nat) : Dev :=
  let p := d.port n
  if p.lastChar then closeEvent (d.setPort n { p with lastChar := false }) n 6 else d

/-- CHARACTER_RECEIVE; `late` is the number of writes of PBK_BAUD, PBK_FMT or PBK_CTRL.LINE since the start edge. -/
def characterReceive (d : Dev) (n ch : Nat) (startMark parityBad stopLow : Bool) (late : Nat) : Dev :=
  if !d.bankWorks n || !d.hearsPin n then d
  else inSetting d n late (fun d =>
    if !d.rxLive n || d.muted n || d.abdWaits n then d
    else drainChar (receiveChar d n ch startMark parityBad stopLow) n)

def execCharacterReceive (rx : RxEnd) (ch : Nat) (startMark parityBad stopLow : Bool) (s : State) :
    Host.Outcome State Fault Refusal := fin s (characterReceive s.dev rx.port ch startMark parityBad stopLow rx.late)

/-- BREAK_RECEIVE (R195). With read-back on, a break of the other station is seen when it is complete (R237). -/
def breakReceive (d : Dev) (n late : Nat) : Dev :=
  if !d.bankWorks n || !d.hearsPin n then d
  else inSetting d n late (fun d => if d.rxLive n && !d.muted n then drainChar (breakIn d n) n else d)

def execBreakReceive (rx : RxEnd) (s : State) : Host.Outcome State Fault Refusal := fin s (breakReceive s.dev rx.port rx.late)

/-- The receiver of the port works and listens, to its pin or to a loop through its shifter (R227, Table PFE.3). -/
def Dev.listens (d : Dev) (n : Nat) : Bool := d.rxLive n && !d.muted n && (d.port n).depth != 1

/-- IDLE_LINE (R194). -/
def idleLine (d : Dev) (n : Nat) : Dev :=
  let p := d.port n
  if !d.listens n || p.idleDone then d else (d.wr (PBK_STAT.IDLE n) 1).setPort n { p with idleDone := true }

def execIdleLine (port : Nat) (s : State) : Host.Outcome State Fault Refusal := fin s (idleLine s.dev port)

/-- GAP_EXPIRY (Table PBK.3, R203). -/
def gapExpiry (d : Dev) (n : Nat) : Dev :=
  let m := d.frmMode n
  if d.listens n && (m == 0 || m == 3 || m == 4) then closeEvent d n 0 else d

def execGapExpiry (port : Nat) (s : State) : Host.Outcome State Fault Refusal := fin s (gapExpiry s.dev port)

/-- LINE_DOWN (R195). -/
def execLineDown (port : Nat) (s : State) : Host.Outcome State Fault Refusal :=
  fin s (if s.dev.listens port && s.dev.hearsPin port then s.dev.wr (PBK_STAT.LINEDOWN port) 1 else s.dev)

/-- LINE_UP (R195). -/
def execLineUp (port : Nat) (s : State) : Host.Outcome State Fault Refusal :=
  fin s (if s.dev.listens port && s.dev.hearsPin port then s.dev.wr (PBK_STAT.LINEDOWN port) 0 else s.dev)

/-! Chained cells. -/

/-- Data bytes that `k` cells of a chain hold (R198). -/
def chainRoom (k : Nat) : Nat := if k = 0 then 0 else 20 + 28 * (k - 1)

/-- Atrium write of a port; an error response changes nothing (log entry 36). -/
def portWrite (d : Dev) (n a : Nat) (bs : List Byte) : Dev := (atriumAccessFor d (portInit n) n true a bs.length bs).2

/-- A port takes a cell: none at PORTMAX or more, and an empty pool counts in EMPTY (R200, R248, R249). -/
def portCell (d : Dev) (n : Nat) : Option Nat × Dev :=
  let max := d.rd BPM_CELLQ.PORTMAX
  if max ≠ 0 ∧ max ≤ (d.ownCnt (portOwner n)).1 then (none, d)
  else match allocFrom d 4 (portOwner n) with
    | (some a, d) => (some a, d)
    | (none, d) => (none, d.bump (BPM_CNT.EMPTY 4) 1)

/-- The bytes of a frame move from the FIFO into its cells while cells can be had (R198, R200, R251). -/
def spillFrame : Nat → Dev → Nat → Frame → Frame × Dev
  | 0, d, _, f => (f, d)
  | k + 1, d, n, f =>
    if f.data.length ≤ f.spilled then (f, d)
    else
      let room := chainRoom f.cells.length
      if f.spilled < room then
        let m := min (room - f.spilled) f.waiting
        let cell := (f.cells.getLast?).getD 0
        let off := if f.cells.length = 1 then 8 + f.spilled else f.spilled - chainRoom (f.cells.length - 1)
        spillFrame k (portWrite d n (cell + off) ((f.data.drop f.spilled).take m)) n { f with spilled := f.spilled + m }
      else match portCell d n with
        | (none, d) => (f, d)
        | (some a, d) =>
          let d := portWrite d n (a + 28) (leBytes 4 0)
          let d := match f.cells.getLast? with | some c => portWrite d n (c + 28) (leBytes 4 a) | none => d
          spillFrame k d n { f with cells := f.cells ++ [a] }

/-- The frames of a port spill in order; a frame that cannot go on holds the later ones back. -/
def spillAll : Nat → Dev → Nat → List Frame → List Frame × Dev
  | 0, d, _, fs => (fs, d)
  | _, d, _, [] => ([], d)
  | k + 1, d, n, f :: r =>
    let (g, d) := spillFrame 400 d n f
    if g.waiting = 0 then
      let (s, d) := spillAll k d n r
      (g :: s, d)
    else (g :: r, d)

/-- CELL_SPILL (R200). -/
def cellSpill (d : Dev) (n : Nat) : Dev :=
  if !d.bankWorks n || !(d.mode == .run || d.mode == .doze) then d
  else
    let p := d.port n
    let (fs, d) := spillAll 512 d n p.frames
    rtsUpdate (d.setPort n { d.port n with frames := fs }) n

def execCellSpill (port : Nat) (s : State) : Host.Outcome State Fault Refusal := fin s (cellSpill s.dev port)

/-- The header of a closed frame (Table PBK.4). -/
def Frame.header (f : Frame) : List Byte := leBytes 2 f.data.length ++ leBytes 2 f.fstat ++ leBytes 4 f.time

/-- The bytes of the last cell of a closed frame beyond LEN, up to its link word, are undefined (R198; free bytes, log
entry 9); they lie where the port may write. -/
def lastBytes (d : Dev) (n : Nat) (f : Frame) : Dev :=
  let k := f.cells.length
  let used := if k ≤ 1 then 8 + f.data.length else f.data.length - chainRoom (k - 1)
  match f.cells.getLast? with
  | none => d
  | some c =>
    let a := c + used
    let m := 28 - used
    if d.windowsPermit (portInit n) true a m && d.banksServe (portInit n) a m then
      { d with seed := d.seed + m, atr := atrPut d.atr a ((List.range m).map (fun i => Config.freeByte (d.seed + i))) }
    else d

/-- The oldest closed frame, all in cells, leaves the port: freed under CRCDROP or with a full queue, else given to DEST
and queued (R199, R202). -/
def giveFrame (d : Dev) (n : Nat) (f : Frame) : Dev :=
  let head := (f.cells.head?).getD 0
  let d := lastBytes (portWrite d n head f.header) n f
  let o := portOwner n
  if f.fstat.testBit 4 && d.on (PBK_FRM.CRCDROP n) then portMove d o f.cells none
  else if 16 ≤ (d.port n).closedQ.length then
    (((portMove d o f.cells none).bump (PBK_CNT3.FRMDROP n) 1).wr (PBK_STAT.FQFULL n) 1)
  else
    let d := portMove d o f.cells (some (d.acts (PBK_FRM.DEST n)))
    let p := d.port n
    d.setPort n { p with closedQ := p.closedQ ++ [w32 (head ||| 1)] }

/-- FRAME_GIVE (R199): a frame whose characters still wait for a cell stays (R200). -/
def frameGive (d : Dev) (n : Nat) : Dev :=
  let d := cellSpill d n
  let p := d.port n
  match p.frames with
  | f :: r =>
    if f.closed && f.waiting == 0 && d.bankWorks n && (d.mode == .run || d.mode == .doze) then
      giveFrame (d.setPort n { p with frames := r }) n f
    else d
  | [] => d

def execFrameGive (port : Nat) (s : State) : Host.Outcome State Fault Refusal := fin s (frameGive s.dev port)

/-- A read of PBK_FRMQ pops one entry, or returns 0 (R199). -/
def frmqPop (d : Dev) (n : Nat) : Word × Dev :=
  let p := d.port n
  match p.closedQ with
  | e :: r => (e, d.setPort n { p with closedQ := r })
  | [] => (0#32, d)

/-- PBK_FRMQ_POP (R199); a bank OUT_OF_SERVICE answers OFFLINE (R411). -/
def frmqRead (d : Dev) (n : Nat) : Resp × Dev :=
  if d.bankWorks n && d.coreOn then
    let r := frmqPop d n
    (.ok (wordBytes r.1), r.2)
  else (.err .offline, d)

def execPbkFrmqPop (_init port : Nat) (s : State) : Host.Outcome State Fault Refusal :=
  let r := frmqRead s.dev port
  fin s { r.2 with resp := r.1 }

/-! Raw-stream mode. -/

/-- Bytes of the ring of a RAW port. -/
def Dev.rawSize (d : Dev) (n : Nat) : Nat := 256 * 2 ^ d.acts (PBK_RAWSIZE.SIZE n)

/-- A write of a RAW port is rejected: RAWERR, and the port stops until BASE is rewritten (R204). -/
def rawFail (d : Dev) (n : Nat) : Dev := (d.wr (PBK_STAT.RAWERR n) 1).setPort n { d.port n with rawStop := true }

/-- One write of a RAW port: eight bytes, or fewer where a close event makes them due; never past RP − 1 (R203). A ring that
does not lie wholly in open windows gets each of its writes rejected, also in the part that a window covers (R204). -/
def rawStep (d : Dev) (n : Nat) : Option Dev :=
  let p := d.port n
  let sz := d.rawSize n
  let wp := d.rd (PBK_RAWWP.WP n) % sz
  let space := (d.rd (PBK_RAWRP.RP n) + 2 * sz - 1 - wp) % sz
  let k := if p.rawFlush ≠ 0 then min 8 p.rawFlush else if 8 ≤ p.rawBuf.length then 8 else 0
  if k = 0 ∨ space < k ∨ p.rawStop then none
  else
    let base := d.rd (PBK_RAWBASE.BASE n)
    let k1 := min k (sz - wp)
    if !d.windowsPermit (portInit n) true base sz then
      some (rawFail (windowReject (nocIssue d (portInit n) true (base + wp) k1 false n).2 (portInit n) true (base + wp)) n)
    else
    let (r1, d) := atriumAccessFor d (portInit n) n true (base + wp) k1 (p.rawBuf.take k1)
    let (r2, d) := if k1 < k then atriumAccessFor d (portInit n) n true base (k - k1) ((p.rawBuf.take k).drop k1)
      else (.ok [], d)
    if r1.good && r2.good then
      let d := d.setPort n { d.port n with rawBuf := p.rawBuf.drop k, rawFlush := p.rawFlush - k }
      some (d.wr (PBK_RAWWP.WP n) ((wp + k) % sz))
    else some (rawFail d n)

/-- The port writes until it has nothing due or the ring is full. -/
def rawDrain : Nat → Dev → Nat → Dev
  | 0, d, _ => d
  | k + 1, d, n =>
    match rawStep d n with
    | none => d
    | some d => rawDrain k d n

/-- RAW_RING_WRITE (R203). -/
def rawRingWrite (d : Dev) (n : Nat) : Dev :=
  if d.bankWorks n && (d.frmMode n == 4 || (d.port n).rawFlush != 0) && (d.mode == .run || d.mode == .doze) then rtsUpdate (rawDrain 600 d n) n else d

def execRawRingWrite (port : Nat) (s : State) : Host.Outcome State Fault Refusal := fin s (rawRingWrite s.dev port)

/-! Auto-baud. -/

/-- A write of the first word of PBK_ABD (R190, R215). After a write refused with CFGERR, EN reads 0, and a write of EN = 1
during the quiet wait of R193 arms at once and starts the count of failures again; the manual says neither (log entry 88). -/
def abdWrite (d : Dev) (n : Nat) (data : Word) : Dev :=
  let sync := if fld data 2 1 = 3 then d.rd (PBK_ABD.SYNC n) else fld data 2 1
  let d := (((d.wr (PBK_ABD.CHAR n) (fld data 24 16)).wr (PBK_ABD.TRIES n) (fld data 7 4)).wr (PBK_ABD.KEEP n)
    (fld data 3 3)).wr (PBK_ABD.SYNC n) sync
  let p := d.port n
  if !data.getLsbD 0 then (d.wr (PBK_ABD.EN n) 0).setPort n { p with abdArmed := false, abdFails := 0 }
  else if !d.abdLegal n then
    ((d.wr (PBK_ABD.EN n) 0).wr (PBK_STAT.CFGERR n) 1).setPort n { p with abdArmed := false, abdFails := 0 }
  else (d.wr (PBK_ABD.EN n) 1).setPort n { p with abdArmed := true, abdFails := 0 }

/-- ABD_ENABLE (R190). -/
def execAbdEnable (port : Nat) (data : Word) (s : State) : Host.Outcome State Fault Refusal :=
  fin s (if s.dev.bankWorks port && s.dev.coreOn then abdWrite s.dev port data else s.dev)

/-- A failed measurement (R193). -/
def abdFail (d : Dev) (n result : Nat) : Dev :=
  let d := ((d.wr (PBK_ABD.RESULT n) result).bump (PBK_CNT5.ABFAIL n) 1).wr (PBK_STAT.ABFAIL n) 1
  let p := d.port n
  if d.acts (PBK_ABD.TRIES n) ≤ p.abdFails + 1 then
    let d := closeEvent (d.setPort n { p with abdArmed := false, abdFails := 0 }) n 6
    ((d.wr (PBK_ABD.EN n) 0).wr (PBK_STAT.ABGIVEUP n) 1).wr (PBK_CTRL.RXEN n) 0
  else d.setPort n { p with abdArmed := false, abdFails := p.abdFails + 1 }

/-- Bit positions of the edges that a sync character predicts between its start edge and its rise into the stop bit. -/
def syncEdges (bits ch : Nat) : List Nat :=
  (List.range (bits + 1)).filter (fun i => i != 0 && ch.testBit (i - 1) != (decide (1 < i) && ch.testBit (i - 2)))

/-- Every counted edge lies within a quarter bit of its predicted position (R191). -/
def edgesFit (bits m : Nat) : List Nat → List Nat → Bool
  | [], [] => true
  | i :: is, e :: es =>
    let x := e * (1 + bits)
    let y := i * m
    decide (4 * (max x y - min x y) ≤ m) && edgesFit bits m is es
  | _, _ => false

/-- ABD_MEASURE (R191 to R193): `edges` are the counts before the rise into the stop bit, `m` the count at it. -/
def abdMeasure (d : Dev) (n : Nat) (edges : List Nat) (m : Nat) : Dev :=
  if !d.listens n || d.mode != .run || !d.abdRuns n || !(d.port n).abdArmed then d
  else
    let b := d.dataBits n
    if 7440000 < m ∨ 800000 * (1 + b) < m then abdFail d n 3
    else if !edgesFit b m (syncEdges b (d.syncChar n)) edges then abdFail d n 1
    else if m < 80 * (1 + b) then abdFail d n 2
    else
      let x := (1 + b) * osOf (d.acts (PBK_BAUD.OS n))
      let q := (2 * 64 * m + x) / (2 * x)
      let ch := d.syncChar n
      let d := d.wr (PBK_ABDM.MEASURED n) m
      let d := (d.wr (PBK_BAUD.DIV n) (q / 64)).wr (PBK_BAUD.FRAC n) (q % 64)
      let d := (d.wr (PBK_ABD.EN n) 0).wr (PBK_STAT.ABDONE n) 1
      let d := d.setPort n { d.port n with abdArmed := false, abdFails := 0, abdFrame := true }
      if d.on (PBK_ABD.KEEP n) then receiveChar d n ch false false false else d

def execAbdMeasure (port : Nat) (edges : List Nat) (m : Nat) (s : State) : Host.Outcome State Fault Refusal :=
  fin s (abdMeasure s.dev port edges m)

/-- ABD_TIMEOUT (R193). -/
def abdTimeout (d : Dev) (n : Nat) : Dev :=
  if d.listens n && d.mode == .run && d.abdRuns n && (d.port n).abdArmed then abdFail d n 3 else d

def execAbdTimeout (port : Nat) (s : State) : Host.Outcome State Fault Refusal := fin s (abdTimeout s.dev port)

/-- ABD_REARM (R193). -/
def abdRearm (d : Dev) (n : Nat) : Dev :=
  if d.listens n && d.abdWaits n then d.setPort n { d.port n with abdArmed := true } else d

def execAbdRearm (port : Nat) (s : State) : Host.Outcome State Fault Refusal := fin s (abdRearm s.dev port)

/-! Wake from DOZE. -/

/-- A port is enabled for wake and an edge on its RXD counts (R205). -/
def Dev.wakePort (d : Dev) (n : Nat) : Bool := d.bankWorks n && d.on (PBK_WAKE.EN n)

/-- What a wake edge does to its own port (R205, R207): at rates up to 1.5 Mbit/s it captures the character, above that it
receives from the next start edge on. A port that waits for auto-baud measures nothing, and one with RXEN = 0 captures
nothing. -/
def wakeCapture (d : Dev) (n : Nat) : Dev :=
  let p := d.port n
  if d.mode ≠ .doze ∨ p.awake ∨ d.abdRuns n ∨ !d.on (PBK_CTRL.RXEN n) then d
  else if d.divisor n < 64 * 160 then
    ((d.wr (PBK_WAKE.WSTAT n) 2).wr (PBK_STAT.WAKEMISS n) 1).setPort n { p with awake := true }
  else d.setPort n { p with wakeNext := true, wakeClk := true, awake := true }

/-- PORT_WAKE_EDGE (R205, R207, R214): the falling edges of one cycle. One wake event, for the lowest of the ports; each port
captures its own character. A port enabled for wake wakes the device also with RXEN = 0, where R182 has it ignore RXD and R205
makes the edge a wake event (log entry 88). -/
def portWakeEdge (d : Dev) (ports : List Nat) : Dev :=
  let ps := (List.range 48).filter (fun n => ports.contains n && d.wakePort n)
  match ps with
  | [] => d
  | n :: _ =>
    if !(d.mode = .doze ∨ d.wl.dozeWait.isSome) then d
    else
      let b := n / 8
      let d := if d.wl.wakeHeld then d else wake (d.wr (PBK_BCAUSE.WOKE b) (setBit (d.rd (PBK_BCAUSE.WOKE b)) (n % 8)))
      ps.foldl wakeCapture d

def execPortWakeEdge (ports : List Nat) (s : State) : Host.Outcome State Fault Refusal := fin s (portWakeEdge s.dev ports)

/-- SHIFTER_CLOCK_SWITCH (R206): the shifter goes on from the port clock. -/
def execShifterClockSwitch (port : Nat) (s : State) : Host.Outcome State Fault Refusal :=
  fin s (if s.dev.bankWorks port then s.dev.setPort port { s.dev.port port with wakeClk := false } else s.dev)

end Sys2Proof.Machine
end

