-- ==== Sys2Proof/Machine/PortSend.lean ====
section
/-!
DEFINITION. Transmission of a port: the transmit queue, messages, CTS, half duplex with collisions and retries,
loop-backs, the effects of writes to a port's registers (R213, R216 to R239), and the commands of their rows.
-/

namespace Sys2Proof.Machine

/-- The transmitter of a port works (R182, R187, R205). -/
def Dev.txLive (d : Dev) (n : Nat) : Bool :=
  d.bankWorks n && d.on (PBK_CTRL.TXEN n) && d.baudLegal n && d.mode == .run

/-- A write of PBK_TXQ: a full queue refuses it (R222). -/
def txqWrite (d : Dev) (n : Nat) (data : Word) : Resp × Dev :=
  if !(d.bankWorks n && d.coreOn) then (.err .offline, d)
  else
    let p := d.port n
    if 8 ≤ p.txq.length then (.err .target, d)
    else (.ok [], d.setPort n { p with txq := p.txq ++ [fld data 31 5 * 32] })

/-- PBK_TXQ_WRITE (R222). -/
def execPbkTxqWrite (_init port : Nat) (data : Word) (s : State) : Host.Outcome State Fault Refusal :=
  let r := txqWrite s.dev port data
  fin s { r.2 with resp := r.1 }

/-- LINE and the loop-back depth apply at a message boundary of the transmitter (R216, R239); in the EXTERNAL loop of LINE 2
DE is asserted for the whole test (Table PFE.3). -/
def applyLine (d : Dev) (n : Nat) : Dev :=
  let p := d.port n
  let l := d.rd (PBK_CTRL.LINE n)
  let depth := if d.svcOf (.bank (n / 8)) = .underTest then d.acts (PBK_LOOP.DEPTH n) else 0
  let e := d.setPort n { p with line := l, depth := depth, dePin := l == 2 && depth == 4 }
  if l = p.line then e else pinsChanged d e

/-- LINE and the loop-back depth apply now unless a message is in progress, on whose old path it completes (R216, R239). -/
def lineDue (d : Dev) (n : Nat) : Dev := if (d.port n).tx.isNone then applyLine d n else d

/-- The head cell of a transmit entry: the port owns it, and its LEN (R222). -/
def headCell (d : Dev) (n a : Nat) : Option Nat × Dev :=
  match d.poolOf a with
  | some 4 =>
    let key := bufKey 4 ((a - d.poolBase 4) / 32)
    if (a - d.poolBase 4) % 32 = 0 ∧ d.ownerAt key = portOwner n then
      match atriumAccessFor d (portInit n) n false a 2 [] with
      | (.ok bs, d) => (if 1 ≤ leNat bs ∧ leNat bs ≤ 4096 then some (leNat bs) else none, d)
      | (.err _, d) => (none, d)
    else (none, d)
  | _ => (none, d)

/-- Cells fetched into the transmit FIFO: their addresses and data, the next cell and the bytes that remain. -/
structure Fetched where
  cells : List Nat
  data : List Byte
  next : Nat
  left : Nat
  deriving DecidableEq, Repr

/-- The cells and data of a message of which `left` bytes remain, from the cell at `a` on, until `room` bytes are in (R198,
R222, R223, R251); none where a cell cannot be read or the chain ends before the message. -/
def fetchCells : Nat → Dev → Nat → Nat → Nat → Nat → Bool → Option Fetched × Dev
  | 0, d, _, _, _, _, _ => (none, d)
  | k + 1, d, n, a, left, room, head =>
    let off := if head then 8 else 0
    match atriumAccessFor d (portInit n) n false a 32 [] with
    | (.err _, d) => (none, d)
    | (.ok bs, d) =>
      let m := min left (28 - off)
      let part := sliceB bs off m
      let link := leAt bs 28 4
      if left ≤ m then (some { cells := [a], data := part, next := 0, left := 0 }, d)
      else if !d.linkOk link then (none, d)
      else if room ≤ m then (some { cells := [a], data := part, next := link, left := left - m }, d)
      else match fetchCells k d n link (left - m) (room - m) false with
        | (none, d) => (none, d)
        | (some f, d) => (some { f with cells := a :: f.cells, data := part ++ f.data }, d)

/-- The port takes entries of its queue: one that is not a message is dropped with TXBAD and stays with its owner; the
first message starts, one of up to 256 bytes when it is whole in the FIFO, a longer one when 256 bytes are (R222, R223, R225;
a message that cannot be read is dropped as well, log entry 37). -/
def takeEntry : Nat → Dev → Nat → Dev
  | 0, d, _ => d
  | k + 1, d, n =>
    let p := d.port n
    match p.txq with
    | [] => d
    | a :: r =>
      let d := d.setPort n { p with txq := r }
      let bad := fun (d : Dev) => takeEntry k (d.wr (PBK_STAT.TXBAD n) 1) n
      match headCell d n a with
      | (none, d) => bad d
      | (some len, d) =>
        match fetchCells 256 d n a len 256 true with
        | (none, d) => bad d
        | (some f, d) =>
          let t : TxMsg := { head := a, cells := f.cells, data := f.data, next := f.next, left := f.left, collisions := 0,
                             waiting := false, retry := d.rd (PBK_HD.RETRY n), cden := d.on (PBK_HD.CDEN n) }
          let p := d.port n
          d.setPort n { p with tx := some t, dePin := p.line == 2 && (p.depth == 0 || p.depth == 4) }

/-- In LINE 1 the transmitter obeys CTS, also in the loop-backs of depth 2 to 4, which exercise its logic (R220,
Table PFE.3). -/
def Dev.ctsHolds (d : Dev) (n : Nat) : Bool := (d.port n).line == 1 && (d.port n).depth != 1 && !d.ctsOf n

/-- In LINE 2 and 3, outside a loop-back, a message starts only when the receiver is not within a character and RXD has been at
mark for one character time, which sets IDLE of a receiver that runs (R194, R226); `mark` says so of the pin. -/
def Dev.lineFree (d : Dev) (n : Nat) (mark : Bool) : Bool :=
  let p := d.port n
  !(p.line == 2 || p.line == 3) || p.depth != 0 || (mark && (!d.rxLive n || p.idleDone))

/-- TX_MESSAGE_START (R220, R223, R224, R226, R239): a DRAINING bank starts no further entry; in LINE 1 CTS is asserted, in
LINE 2 and 3 the line is free. -/
def txStart (d : Dev) (n : Nat) (mark : Bool) : Dev :=
  if !d.txLive n || d.svcOf (.bank (n / 8)) == .draining || (d.port n).tx.isSome || (d.port n).txq.isEmpty then d
  else
    let d := applyLine d n
    if d.ctsHolds n || !d.lineFree n mark then d else takeEntry 8 d n

def execTxMessageStart (tx : TxStart) (s : State) : Host.Outcome State Fault Refusal :=
  fin s (txStart s.dev tx.port tx.mark)

/-- A message of the port is on the line. -/
def Dev.sending (d : Dev) (n : Nat) : Option TxMsg :=
  match (d.port n).tx with
  | some t => if t.waiting || !d.bankWorks n || d.mode != .run then none else some t
  | none => none

/-- Up to `room` bytes of the message in progress are fetched (R223); one whose next cell cannot be read ends there with TXBAD
(log entry 37). -/
def txFetch (d : Dev) (n room : Nat) (t : TxMsg) : Option TxMsg × Dev :=
  if t.left = 0 then (some t, d)
  else match fetchCells 256 d n t.next t.left room false with
    | (none, d) => (none, d)
    | (some f, d) =>
      (some { t with cells := t.cells ++ f.cells, data := t.data ++ f.data, next := f.next, left := f.left }, d)

/-- The port has no message in progress any more: DE released, a new LINE and depth apply. -/
def txEnd (d : Dev) (n : Nat) : Dev := applyLine (d.setPort n { d.port n with tx := none, dePin := false }) n

/-- The message ends where its next cell cannot be read: dropped with TXBAD, its chain stays with the port (log entry 37). -/
def txCut (d : Dev) (n : Nat) : Dev := txEnd (d.wr (PBK_STAT.TXBAD n) 1) n

/-- TX_GAP: only a message longer than the FIFO can run out of bytes; then its next cell comes in (R223). -/
def txGap (d : Dev) (n : Nat) : Dev :=
  match d.sending n with
  | some t =>
    if t.left = 0 then d
    else match txFetch (d.bump (PBK_CNT5.TXGAP n) 1) n 1 t with
      | (some t, d) => d.setPort n { d.port n with tx := some t }
      | (none, d) => txCut d n
  | none => d

def execTxGap (port : Nat) (s : State) : Host.Outcome State Fault Refusal := fin s (txGap s.dev port)

/-- Characters of a message (R185). -/
def msgChars (size : Nat) : List Byte → List Nat
  | a :: b :: r => if size = 2 then (a.toNat + 256 * b.toNat) % 512 :: msgChars size r else a.toNat :: msgChars size (b :: r)
  | [a] => [a.toNat]
  | [] => []

/-- The message comes back over a loop of depth 1 to 3. At depth 1 it goes from FIFO to FIFO, past the shifters and address
detection, and its end closes the frame with GAP (R233, Table PFE.3). -/
def loopBack (d : Dev) (n depth : Nat) (t : TxMsg) : Dev :=
  if depth = 0 ∨ 4 ≤ depth ∨ !d.rxLive n then d
  else
    let cs := msgChars (d.charSize n) t.data
    if depth = 1 then
      closeEvent (cs.foldl (fun d ch => storeChar d n ch { par := false, frm := false, bcast := false }) d) n 0
    else cs.foldl (fun d ch => receiveChar d n ch false false false) (rxSetLine d n (d.rd (PBK_CTRL.LINE n)))

/-- TX_MESSAGE_DONE (R220, R223, R224). While CTS is deasserted a character not begun is held, so the message is done only if
its last character had begun, which `begun` says. -/
def txDone (d : Dev) (n : Nat) (begun : Bool) : Dev :=
  match d.sending n with
  | none => d
  | some t =>
    if d.ctsHolds n && !begun then d
    else match txFetch d n t.left t with
      | (none, d) => txCut d n
      | (some t, d) =>
        let d := loopBack d n (d.port n).depth t
        let d := portMove d (portOwner n) t.cells none
        txEnd (d.wr (PBK_STAT.TXDONE n) 1) n

def execTxMessageDone (tx : TxLast) (s : State) : Host.Outcome State Fault Refusal :=
  fin s (txDone s.dev tx.port tx.begun)

/-- CTS_TIMEOUT (R221). -/
def ctsTimeout (d : Dev) (n : Nat) : Dev :=
  let p := d.port n
  if d.txLive n && d.ctsHolds n && d.rd (PBK_FLOW.CTSTO n) != 0 && (!p.txq.isEmpty || p.tx.isSome) then
    d.wr (PBK_STAT.CTSTO n) 1
  else d

def execCtsTimeout (port : Nat) (s : State) : Host.Outcome State Fault Refusal := fin s (ctsTimeout s.dev port)

/-- Read-back of RXD is on for a message, by the CDEN of its start (R227, R234, R238). -/
def Dev.readBack (d : Dev) (n : Nat) (t : TxMsg) : Bool :=
  let p := d.port n
  p.depth == 0 && (p.line == 3 || (p.line == 2 && t.cden))

/-- COLLISION (R228, R229): driving stops; after the last attempt the message is aborted. -/
def collide (d : Dev) (n : Nat) : Dev :=
  match d.sending n with
  | none => d
  | some t =>
    if !d.readBack n t then d
    else
      let d := (d.bump (PBK_CNT4.COLL n) 1).wr (PBK_STAT.COLL n) 1
      if t.retry ≤ t.collisions then
        let d := portMove d (portOwner n) t.cells none
        txEnd ((d.bump (PBK_CNT4.TXABORT n) 1).wr (PBK_STAT.TXABORT n) 1) n
      else
        let p := d.port n
        d.setPort n { p with dePin := false, tx := some { t with collisions := t.collisions + 1, waiting := true } }

def execCollision (port : Nat) (s : State) : Host.Outcome State Fault Refusal := fin s (collide s.dev port)

/-- RETRY_BACKOFF_END (R229): the message is sent again from its first character. -/
def retryStart (d : Dev) (n : Nat) : Dev :=
  let p := d.port n
  match p.tx with
  | some t =>
    if t.waiting && d.txLive n then
      d.setPort n { p with tx := some { t with waiting := false }, dePin := p.line == 2 }
    else d
  | none => d

def execRetryBackoffEnd (port : Nat) (s : State) : Host.Outcome State Fault Refusal := fin s (retryStart s.dev port)

/-! Writes to the registers of a port. -/

/-- A new PBK_BAUD, PBK_FMT or LINE: a receiver that runs keeps the setting that a character in progress may need (R186,
R216). -/
def keepSetting (d : Dev) (n off : Nat) (data : Word) : Dev :=
  let p := d.port n
  if d.rxLive n ∧ (off = 0x004 ∨ off = 0x008 ∨ (off = 0x000 ∧ fld data 5 4 ≠ d.rd (PBK_CTRL.LINE n))) then
    d.setPort n { p with rxHist := (d.ld (PBK_BAUD.addr n), d.ld (PBK_FMT.addr n), d.rd (PBK_CTRL.LINE n)) :: p.rxHist }
  else d

/-- Before a write: RXEN = 0 or a change of MODE closes the open frame with FORCED (R213), a character in progress keeps its
setting (R186, R216), and a loop-back depth outside UNDER_TEST sets CFGERR (R233). -/
def portBefore (d : Dev) (n off : Nat) (data : Word) : Dev :=
  let d := keepSetting d n off data
  if off = 0x000 ∧ d.on (PBK_CTRL.RXEN n) ∧ !data.getLsbD 0 then closeEvent d n 6
  else if off = 0x040 ∧ fld data 2 0 < 5 ∧ fld data 2 0 ≠ d.frmMode n then closeEvent d n 6
  else if off = 0x01C ∧ fld data 2 0 ≠ 0 ∧ d.svcOf (.bank (n / 8)) ≠ .underTest then d.wr (PBK_STAT.CFGERR n) 1
  else d

/-- After a write: illegal combinations, the line arrangement, the FIFO marks, the loop-back, the raw ring (R187, R196,
R202, R204, R216, R218, R233, R238). -/
def portAfter (d : Dev) (n off : Nat) : Dev :=
  let d := if (off = 0x004 ∨ off = 0x008 ∨ off = 0x030 ∨ off = 0x040) ∧ d.portBad n then d.wr (PBK_STAT.CFGERR n) 1 else d
  if off = 0x000 then lineDue d n
  else if off = 0x014 then
    rtsUpdate (if d.acts (PBK_FLOW.HI n) ≤ d.rd (PBK_FLOW.LO n) then d.wr (PBK_STAT.CFGERR n) 1 else d) n
  else if off = 0x01C then
    lineDue (if d.svcOf (.bank (n / 8)) ≠ .underTest then d.wr (PBK_LOOP.DEPTH n) 0 else d) n
  else if off = 0x060 then d.setPort n { d.port n with rawStop := false }
  else d

/-- PBK_STAT with the levels of CTS and RTS as they stand. -/
def Dev.portStat (d : Dev) (n : Nat) : Word :=
  let rts := (d.port n).rxLine == 1 && d.rtsOf n
  setFld (d.ld (PBK_STAT.addr n)) 19 18 (2 * bit (d.ctsOf n) + bit rts)

/-- A bank goes to DRAINING (R213): each open frame closes with FORCED, at once or, on a port with a character in the shifter,
after that character. `rxing` names the ports with one. -/
def bankForce (d : Dev) (b : Nat) (rxing : List Nat) : Dev :=
  (portsOf b).foldl (fun d n =>
    if rxing.contains n && d.rxLive n then d.setPort n { d.port n with lastChar := true } else closeEvent d n 6)
    d

end Sys2Proof.Machine
end

