-- ==== Sys2Proof/Machine/RegView.lean ====
section
/-!
DEFINITION. What a read of a register shows: the stored word without its WO fields, and the fields that show other state
of the device (the Register reference sections of spec/). The side effects of reads are in RegAccess.
-/

namespace Sys2Proof.Machine

/-- Which of `count` registers, `stride` apart from `base`, stands at an address. -/
def famIdx (base stride count a : Nat) : Option Nat :=
  if base ≤ a ∧ (a - base) % stride = 0 ∧ (a - base) / stride < count then some ((a - base) / stride) else none

/-- The stored word at an address as a read shows it: WO fields and bits of no field read 0 (R7, R15). -/
def Dev.plain (d : Dev) (a : Nat) : Word :=
  match specOf a with
  | some r => d.ld a &&& r.bitsWhere (fun f => f.acc != .wo)
  | none => d.ld a

/-- SYS_MODE, SYS_SVCSUM, SYS_HSUM (R43, R58, R71). -/
def Dev.modeWord (d : Dev) : Word := w32 (d.prev.code * 16 + d.mode.code)
def Dev.svcSum (d : Dev) : Word :=
  let out := fun u => d.svcOf u != .inService
  w32 (maskFrom 6 (fun b => out (.bank b)) + 2 ^ 6 * maskFrom 2 (fun b => out (.prog b))
    + 2 ^ 8 * maskFrom 4 (fun l => out (.lane l)) + 2 ^ 12 * maskFrom 16 (fun n => out (.atb n)))
def Dev.hsum (d : Dev) : Word :=
  w32 (bit (d.mode == .boot && d.rd SYS_BOOTSTAT.STEP == 5) + 2 * bit (d.mode == .limp))

/-- HPT_STAT: the WRs held, a read result held, a read pending (R87, R90, R92). -/
def Dev.hptStat (d : Dev) : Word :=
  let s := setFld (d.plain HPT_STAT.addr) 10 8 (d.hl.wq.length + d.hl.wfly.length)
  setFld (setFld s 2 2 (bit d.hl.held.isSome)) 1 1 (bit (d.hl.rdWait.isSome || d.hl.rdFly.isSome))

/-- IPT_STAT: ACTIVE follows INS_CS_N while it is low (R101); PWRSRC names the supply (IPT_STAT). -/
def Dev.iptStat (d : Dev) : Word :=
  setFld (setFld (d.plain IPT_STAT.addr) 1 1 (bit (!d.pins.vaon))) 0 0 (bit d.pins.insCs)

/-- A mask of slots in a state. -/
def Dev.slotMask (d : Dev) (st : Nat) : Nat := maskFrom 4 (fun n => d.slot n == st)

/-- Registers of the VST block. -/
def viewVst (d : Dev) (a : Nat) : Word :=
  if a = VST_SLOTSTAT.addr then w32 ((List.range 4).foldl (fun m n => m + d.slot n * 4 ^ n) 0)
  else if a = VST_DOORBELL.addr then w32 (d.slotMask 1)
  else if a = VST_DONE.addr then w32 (d.slotMask 3)
  else d.plain a

/-- Registers of the ICU block (R152 to R163). -/
def viewIcu (d : Dev) (a : Nat) : Word :=
  if a = ICU_SUM.addr then w32 (d.icuSum true)
  else if a = ICU_SUMS.addr then w32 (d.icuSum false)
  else if a = ICU_TGT_H.addr then setFld (d.plain a) 7 4 (d.runLvl true)
  else if a = ICU_TGT_S.addr then setFld (d.plain a) 7 4 (d.runLvl false)
  else match famIdx (ICU_PEND.addr 0) 4 6 a with
  | some k => srcWord k d.srcPend
  | none =>
    match famIdx (ICU_GCAUSE.addr 0) 4 24 a with
    | some g => w32 (d.gcause g)
    | none => d.plain a

/-- Registers of the EVQ block (R166 to R169). -/
def viewEvq (d : Dev) (a : Nat) : Word :=
  if a = EVQ_STAT.addr then w32 d.evq.length
  else match famIdx (EVQ_HEAD.addr 0) 4 4 a with
  | some k => match d.evq with
    | e :: _ => nth 0#32 e.words k
    | [] => 0#32
  | none => d.plain a

/-- Registers of the NWL block without the attempt that a read of NWL_ACQn makes (R170 to R173). -/
def viewNwl (d : Dev) (a : Nat) : Word :=
  match famIdx (NWL_HELD.addr 0) 4 2 a with
  | some k => w32 (maskFrom 32 (fun j => d.holder (32 * k + j) != 0))
  | none =>
    match famIdx (NWL_PEEK.addr 0) 4 64 a with
    | some n => d.peekWord n
    | none => d.plain a

/-- Registers of a port bank: number of the port and offset in its window. -/
def viewPbk (d : Dev) (a : Nat) : Word :=
  let n := 8 * (a / 0x1000 % 16) + a % 0x1000 / 0x200
  let off := a % 0x200
  if off = 0x00C then d.portStat n
  else if off = 0x078 then w32 (d.port n).txq.length
  else d.plain (canonAddr a)

/-- Registers of the BPM block. -/
def viewBpm (d : Dev) (a : Nat) : Word :=
  if a = BPM_STAT.addr then setFld (d.plain a) 4 0 (maskFrom 5 (fun p => d.poolEn p && d.poolFree p == 0))
  else match famIdx (BPM_LVL.addr 0) 4 5 a with
  | some p => w32 (2 ^ 16 * d.poolFree p + (d.pool p).cache.length)
  | none =>
    match famIdx (BPM_OWNCNT.addr 0) 4 64 a with
    | some o => let c := d.ownCnt o; w32 (2 ^ 16 * c.1 + c.2)
    | none => d.plain a

/-- Registers of the DGE block (R455, R456). -/
def viewDge (d : Dev) (a : Nat) : Word :=
  if a = DGE_STAT.addr then d.dgeStat else if a = DGE_KEYID0.addr then Config.keyId0 else d.plain a

/-- Registers of the PIO block (R524 to R530). -/
def viewPio (d : Dev) (a : Nat) : Word :=
  if a < 0x4000B100 then
    let x := a % 0x1000 / 0x40
    match a % 0x40 with
    | 0x00 => w32 (d.pioIn x)
    | 0x24 => w32 (d.goutOf x)
    | 0x28 => w32 (d.pioOwn x)
    | 0x2C => w32 (d.pioConflict x)
    | _ => d.plain a
  else d.plain a

/-- PWR of an Atrium bank (R419): on, retention, off or initialising. -/
def Dev.bankPwr (d : Dev) (n : Nat) : Nat :=
  if d.bankOn n then 0
  else if tget (fun _ => []) d.wl.svcSlot (UnitId.atb n).key ≠ [] then 3
  else if d.on (ATC_BANK.OOSPWR n) then 2 else 1

/-- Registers of the ATC block. -/
def viewAtc (d : Dev) (a : Nat) : Word :=
  match famIdx (ATC_BANK.addr 0) 4 16 a with
  | some n => setFld (setFld (d.plain a) 17 16 (d.svcOf (.atb n)).code) 9 8 (d.bankPwr n)
  | none => d.plain a

/-- Registers of the NOC block (R391, R398, R405). -/
def viewNoc (d : Dev) (a : Nat) : Word :=
  if a = NOC_RTBASE.addr then w32 (4096 * d.rtStage.1)
  else if a = NOC_RTLIM.addr then w32 (4096 * d.rtStage.2)
  else if a = NOC_RTCTL.addr then (d.rtEntry (d.rd NOC_RTSEL.NI) (d.rd NOC_RTSEL.ENTRY)).ctl
  else if a = NOC_TRSTAT.addr then setFld (d.plain a) 8 0 d.noc.trace.length
  else match famIdx (NOC_NICFG.addr 0) 4 16 a with
  | some n => setFld (d.plain a) 13 8 (nth NiStat.idle d.noc.live n).out
  | none =>
    match famIdx (NOC_TRDATA.addr 0) 4 4 a with
    | some j => d.traceWord j
    | none => d.plain a

/-- Registers of a lane block; the group registers lie in the block of lane N. -/
def viewCnc (d : Dev) (a : Nat) : Word :=
  if a = CNC_GRP.addr then setFld (d.plain a) 24 24 (bit (!d.on GSQ_BANK.NONE)) else d.plain a

/-- What a read of the register at an address shows; a read of no register shows 0 (R15). -/
def Dev.viewReg (d : Dev) (a : Nat) : Word :=
  match a / 0x1000 with
  | 0x40000 =>
    if a = SYS_MODE.addr then d.modeWord else if a = SYS_SVCSUM.addr then d.svcSum
    else if a = SYS_HSUM.addr then d.hsum else d.plain a
  | 0x40001 => if a = HPT_STAT.addr then d.hptStat else d.plain a
  | 0x40002 => if a = IPT_STAT.addr then d.iptStat else d.plain a
  | 0x40003 => viewVst d a
  | 0x40004 => viewIcu d a
  | 0x40005 => viewEvq d a
  | 0x40006 => viewNwl d a
  | 0x40007 => viewBpm d a
  | 0x40008 => viewDge d a
  | 0x4000A => if a = PSV_STAT.addr then d.psvStat else d.plain a
  | 0x4000B => viewPio d a
  | 0x4000C => viewAtc d a
  | 0x4000D => viewNoc d a
  | 0x4000F => if a = RSR_STAT.addr then w32 d.outstanding else d.plain a
  | 0x40010 | 0x40011 | 0x40012 | 0x40013 | 0x40014 | 0x40015 => viewPbk d a
  | 0x40020 | 0x40021 | 0x40022 | 0x40023 => viewCnc d a
  | _ => d.plain a

/-- What a read at an address shows: a register, or the complement of a twin register's applied value, of which the TW bits
are the stored complement half (R10, R437). -/
def Dev.view (d : Dev) (a : Nat) : Word :=
  match twinOf a with
  | some r => (~~~d.viewReg (a - 0x800) &&& ~~~r.twMask) ||| (d.ld a &&& r.twMask)
  | none => d.viewReg a

end Sys2Proof.Machine
end

