-- ==== Sys2Proof/Machine/Psv.lean ====
section
/-!
DEFINITION. The power supervisor: monitors, the charger, the Landing save, RESTING and the way out of it (R500 to R519,
R45), and the commands of their rows.
-/

namespace Sys2Proof.Machine

/-- The AON domain has power: the VDD_AON pin, or VHOLD at 5.0 V or above (R100, R512). -/
def Dev.aonOn (d : Dev) : Bool := d.pins.vaon || decide (5000 ≤ d.pins.vhold)

/-! Monitors (Table PWR.2). -/

/-- IO_WARNING (R502): the warning sets below 3.10 V and clears above 3.15 V. -/
def ioWarning (d : Dev) (mv : Nat) : Dev :=
  if !d.coreOn then d
  else
    let d := { d with pins := { d.pins with vio0 := mv } }
    if mv < 3100 then
      if d.on PSV_STAT.IOWARN then d else (d.wr PSV_STAT.IOWARN 1).bump PSV_CNT.WARNS 1
    else if 3150 < mv then d.wr PSV_STAT.IOWARN 0
    else d

/-- IO_RECOVERY (R514): at or above 3.20 V in LANDING, RECOVERED is set in the save status. -/
def ioRecovery (d : Dev) (mv : Nat) : Dev :=
  let d := { d with pins := { d.pins with vio0 := mv } }
  if 3200 ≤ mv ∧ d.mode = .landing then
    d.wr PSV_SAVESTAT.STATUS (setBit (d.rd PSV_SAVESTAT.STATUS) 24) else d

/-- The rail is out of range (Table PWR.2). -/
def railOut (mv : Nat) : Bool := decide (mv < 710) || decide (790 < mv)

/-- CORE_SUPPLY_FAULT (R502, R503). -/
def coreSupplyFault (d : Dev) (gal : Bool) (mv : Nat) : Dev :=
  let p := d.pins
  let d := { d with pins := { p with vcore := if gal then p.vcore else mv, vgal := if gal then mv else p.vgal } }
  if d.mode = .landing ∨ d.mode = .resting ∨ (gal ∧ !d.galOn) ∨ !railOut mv then d
  else raiseFault (d.wr (if gal then PSV_STAT.GALFLT else PSV_STAT.COREFLT) 1) 0x70

/-- VHOLD_LOW (R502): VHOLD has been below VREADY for 10 ms in RUN. -/
def vholdLow (d : Dev) : Dev :=
  if d.mode = .run then
    let v := 100 * d.acts PSV_CAPCFG.VREADY - 1
    let d := { d with pins := { d.pins with vhold := min d.pins.vhold v } }
    evqKind (d.wr PSV_STAT.VLOW 1) 0x0A .vlow true (d.pins.vhold / 100) 0
  else d

/-- CHARGER_FAULT (R504): the check of the charger's 10 ms finds a rise of less than 0.5 V below VFULL. -/
def chargerFault (d : Dev) : Dev :=
  if d.on PSV_STAT.CHGON then
    let d := if d.pins.vhold < d.pins.vfix + 500 then d.wr PSV_STAT.CHGFLT 1 else d
    { d with pins := { d.pins with vfix := d.pins.vhold } }
  else d

/-- The constant current in mA with which the charger charges VHOLD: PSV_CAPCFG.ICHG while it is on below VFULL, as it acts
(R504, R559). -/
def Dev.chargeMa (d : Dev) : Nat := if d.on PSV_STAT.CHGON then d.acts PSV_CAPCFG.ICHG else 0

/-- VHOLD_UPDATE (R504): PSV_VHOLD in units of 0.1 V, and the charger at VFULL. -/
def vholdUpdate (d : Dev) (mv : Nat) : Dev :=
  let d := { d with pins := { d.pins with vhold := mv } }
  let v := min 255 (mv / 100)
  let d := (d.wr PSV_VHOLD.VNOW v).wr PSV_VHOLD.VMIN (min v (d.rd PSV_VHOLD.VMIN))
  if d.mode = .landing ∨ d.mode = .resting then d else d.wr PSV_STAT.CHGON (bit (decide (mv < 15000)))

/-! The save area (Table PWR.4). -/

/-- Logbook offset of the save area. -/
def saveBase : Nat := 0xF0000

/-- A word of the save area. -/
def Dev.saveWord (d : Dev) (o : Nat) : Nat := leNat (d.logBytes (saveBase + o) 4)

/-- MAGIC is correct. -/
def Dev.saveMagic (d : Dev) : Bool := d.saveWord 0 == 0x4B4E4C53

/-- The bytes the CRC covers: state block, region table and LEN bytes of region data (R508). -/
def Dev.saveCovered (d : Dev) : List Byte :=
  d.logBytes (saveBase + 0x40) 224 ++ d.logBytes (saveBase + 0x400) (d.saveWord 0x0C)

/-- The save is valid (R509). -/
def Dev.saveValid (d : Dev) : Bool :=
  d.saveMagic && d.saveWord 4 / 2 ^ 28 == 1 && decide (d.saveWord 0x0C ≤ 64512)
    && crc32 d.saveCovered == d.saveWord 0x10 && d.saveWord 0x14 == 0xFFFFFFFF

/-- COUNT of the save area; without a valid MAGIC there has been no landing. -/
def Dev.saveCount (d : Dev) : Nat := if d.saveMagic then d.saveWord 8 else 0

/-- The 48 words of the state block (Table PWR.4). -/
def Dev.stateBlock (d : Dev) : List Word :=
  let g := fun a => if d.galOn then d.view a else 0#32
  [d.view SYS_MODE.addr, d.view SYS_LIMP.addr, d.view SYS_RSTCAUSE.addr, d.view SYS_INTEG.addr, d.view BAL_STATE.addr]
    ++ (List.range 16).map (fun n => d.view (BAL_TCAUSE.addr n))
    ++ [g GSQ_FCNTLO.addr, g GSQ_FCNTHI.addr, g GSQ_BANK.addr, g GSQ_TRAP.addr, g GSQ_BUDGET.addr, d.view CNC_GRP.addr,
        w32 d.timeUs, d.view SYS_SVCSUM.addr, d.view EVQ_NEXTSEQ.addr] ++ List.replicate 18 0#32

/-- The regions as saved: ADDR and the LEN that fits; a region outside the Atrium is skipped (R510). -/
def Dev.saveRegions (d : Dev) : List (Nat × Nat) :=
  ((List.range 4).foldl (fun (acc : List (Nat × Nat) × Nat) k =>
    let a := d.rd (PSV_SAVEADDR.ADDR k) * 8
    let n := d.acts (PSV_SAVELEN.LEN k) * 8
    let n := if a + n ≤ 0x400000 then min n acc.2 else 0
    (acc.1 ++ [(a, n)], acc.2 - n)) ([], 64512)).1

/-- The last saved region was cut short. -/
def Dev.saveTrunc (d : Dev) : Bool :=
  decide (64512 < (List.range 4).foldl (fun m k =>
    let a := d.rd (PSV_SAVEADDR.ADDR k) * 8
    let n := d.acts (PSV_SAVELEN.LEN k) * 8
    if a + n ≤ 0x400000 then m + n else m) 0)

/-- Bytes of a region: a bank that is not on reads as zero, a word with an ECC error as stored (R510). -/
def Dev.regionBytes (d : Dev) (a n : Nat) : List Byte :=
  (List.range n).map (fun i => if d.bankOn ((a + i) / 0x1000 % 16) then d.atrByte (a + i) else 0#8)

/-- The status word (Table PWR.5) without VEND. -/
def statusWord (result from_ vtrig : Nat) (nvmwr capwarn overwr trunc : Bool) (seq : Nat) : Nat :=
  2 ^ 28 * result + 2 ^ 25 * from_ + 2 ^ 16 * (vtrig % 256) + 2 ^ 7 * bit nvmwr + 2 ^ 6 * bit capwarn + 2 ^ 5 * bit overwr
    + 2 ^ 4 * bit trunc + seq % 16

/-- Header, state block, region table and region data of a save (Table PWR.3, Table PWR.4). -/
def writeSave (d : Dev) (status : Nat) (state : List Word) (regions : List (Nat × Nat)) (datas : List Byte) : Dev :=
  let d := d.logWrite saveBase (leBytes 4 0x4B4E4C53 ++ leBytes 4 status ++ leBytes 4 (d.saveCount + 1))
  let d := d.logWrite (saveBase + 0x14) (leBytes 4 0xFFFFFFFF ++ List.replicate 40 0#8)
  let d := d.logWrite (saveBase + 0x40) (state.flatMap wordBytes)
  let d := d.logWrite (saveBase + 0x100) (regions.flatMap (fun r => leBytes 4 r.1 ++ leBytes 4 r.2))
  let d := d.logWrite (saveBase + 0x120) (List.replicate 736 0#8)
  d.logWrite (saveBase + 0x400) datas

/-- GAL off: its memories and sequencer are lost; the any-line latches outlast it (R47, R279). -/
def galOff (d : Dev) : Dev :=
  let d := { d with gal := { Gal.powerUp with latches := d.gal.latches } }
  ((d.wr GSQ_BANK.LOADED 0).wr RSR_MAPCTL.VALID 0).wr RSR_MAPCTL.PEND 0

/-- What entry to LANDING ends at once (Table PWR.3): pending twin writes, key slots 1 to 7, the charger, the GAL and SRD
domains, the GPIO and TXD drivers; every channel trips (R440, R456, R499, R504, R534). -/
def landingEffects (d : Dev) : Dev :=
  let d := { d with twin := [], dge := { d.dge with keys := List.replicate 7 none },
                    wl := { d.wl with dozeWait := none, wakeHeld := false },
                    pins := { d.pins with undriven := true } }
  let d := ((d.wr DGE_KEYSTAT.LOADED 1).wr PSV_STAT.CHGON 0).wr VST_FWSTAT.SERVER 0
  let d := (List.range 4).foldl (fun d l => laneDown d l 7) (galOff d)
  balEval d

/-- The landing trigger in its cycle: from BOOT nothing is saved; otherwise the save starts with the state of the cycle before
(R507, R45). -/
def landingCore (d : Dev) (mv : Nat) (cut : Bool) (cause : Option (Nat × Nat)) : Dev :=
  let m := d.mode
  let boot := m == .boot
  let state := d.stateBlock
  let regions := d.saveRegions
  let datas := regions.flatMap (fun r => d.regionBytes r.1 r.2)
  let count := if boot then d.saveCount else d.saveCount + 1
  let status := statusWord (if boot then 2 else 4) m.code (d.pins.vhold / 100) cut (!d.vready)
    (!boot && d.saveValid) (!boot && d.saveTrunc) count
  let d := match cause with
    | some c => limpCause d c.1 c.2
    | none => d
  let d := { d with pins := { d.pins with vio0 := mv } }
  let d := landingEffects (setMode (d.bump PSV_CNT.LANDINGS 1) .landing)
  let d := d.wr PSV_SAVESTAT.STATUS status
  if boot then d else writeSave d status state regions datas

/-- LANDING_TRIGGER (R507, R45, R75). A LIMP cause of the same cycle is still recorded. `nvmwr` is given when Wailith was
writing a record or seal, of which that many words are written (R513). -/
def landingTrigger (d : Dev) (mv : Nat) (nvmwr : Option Nat) (cause : Option (Nat × Nat)) : Dev :=
  match d.mode with
  | .landing | .resting => d
  | _ => oneCycle (fun d => landingCore d mv nvmwr.isSome cause) (match nvmwr with
      | some k => logCut d k
      | none => d)

/-- LANDING_SAVE_COMPLETE (R507, R509): LEN and CRC, then STATUS with RESULT COMPLETE and VEND, and RESTING. With VHOLD
below 5.0 V before the end, STATUS stays IN_PROGRESS; `vend` is VHOLD in units of 0.1 V. -/
def landingDone (d : Dev) (vend : Nat) : Dev :=
  if d.mode ≠ .landing then d
  else
    let status := d.rd PSV_SAVESTAT.STATUS
    let d := { d with pins := { d.pins with vhold := 100 * vend } }
    let d :=
      if status / 2 ^ 28 = 4 ∧ 50 ≤ vend then
        let len := (List.range 4).foldl (fun m k => m + d.saveWord (0x104 + 8 * k)) 0
        let d := d.logWrite (saveBase + 0x0C) (leBytes 4 len)
        let d := d.logWrite (saveBase + 0x10) (leBytes 4 (crc32 d.saveCovered))
        let final := 2 ^ 28 + status % 2 ^ 28 + 2 ^ 8 * (vend % 256)
        (d.logWrite (saveBase + 4) (leBytes 4 final)).wr PSV_SAVESTAT.STATUS final
      else d
    setMode d .resting

/-- RESTING_EXIT (R512): the rails are in range and the full reset starts. -/
def restingExit (d : Dev) (straps : Nat) : Dev :=
  if d.mode = .resting ∧ d.aonOn then
    let ok := fun v => if railOut v then 750 else v
    let p := { d.pins with vio0 := max 3200 d.pins.vio0, vcore := ok d.pins.vcore, vgal := ok d.pins.vgal }
    devReset { d with pins := p } .resting straps
  else d

/-- AON_SHUTDOWN (R512): the AON domain loses its supply; only a power-up of VDD_AON starts it again. -/
def aonShutdown (d : Dev) : Dev :=
  if d.mode = .resting then
    { d with modeKnown := false, pins := { d.pins with vaon := false, vhold := min d.pins.vhold 4999 } }
  else d

/-! Commands. -/

def execIoWarning (mv : Nat) (s : State) : Host.Outcome State Fault Refusal := fin s (ioWarning s.dev mv)

def execIoRecovery (mv : Nat) (s : State) : Host.Outcome State Fault Refusal := fin s (ioRecovery s.dev mv)

def execLandingTrigger (mv : Nat) (nvmwr : Option Nat) (limpCause : Option (Nat × Nat)) (s : State) :
    Host.Outcome State Fault Refusal :=
  fin s (landingTrigger s.dev mv nvmwr limpCause)

def execLandingSaveComplete (vend : Nat) (s : State) : Host.Outcome State Fault Refusal := fin s (landingDone s.dev vend)

def execRestingExit (straps : Nat) (s : State) : Host.Outcome State Fault Refusal := fin s (restingExit s.dev straps)

def execAonShutdown (s : State) : Host.Outcome State Fault Refusal := fin s (aonShutdown s.dev)

def execCoreSupplyFault (gal : Bool) (mv : Nat) (s : State) : Host.Outcome State Fault Refusal :=
  fin s (coreSupplyFault s.dev gal mv)

def execVholdLow (s : State) : Host.Outcome State Fault Refusal := fin s (vholdLow s.dev)

def execChargerFault (s : State) : Host.Outcome State Fault Refusal := fin s (chargerFault s.dev)

def execVholdUpdate (mv : Nat) (s : State) : Host.Outcome State Fault Refusal := fin s (vholdUpdate s.dev mv)

end Sys2Proof.Machine
end

