-- ==== Sys2Proof/Machine/Boot.lean ====
section
/-!
DEFINITION. Reset sources, the boot sequence, DOZE and the return from it (R43 to R79, R506, R511, R558), and the commands
of their rows.
-/

namespace Sys2Proof.Machine

/-! Reset sources (Table MOD.5). -/

/-- RST_N_RESET (R59, R46, R63): a DEV reset; in RESTING the full reset; ignored in LANDING. A LIMP cause of the same cycle
is recorded. -/
def rstN (d : Dev) (straps : Nat) (cause : Option (Nat × Nat)) : Dev :=
  match d.mode with
  | .landing => d.wr SYS_RSTCAUSE.PIN_IGN 1
  | .resting => if d.aonOn then devReset d .resting straps else d
  | _ =>
    let d := match cause with
      | some c => limpCause d c.1 c.2
      | none => d
    devReset d .pin straps

/-- A write of SYS_RSTREQ (R62). -/
def rstreqWrite (d : Dev) (data : Word) : Resp × Dev :=
  if d.mode = .landing ∨ d.mode = .resting then (.err .target, d)
  else (.ok [], if fld data 31 24 = 0xA5 ∧ data.getLsbD 0 then devReset d .hostReq d.pins.straps else d)

/-- A write of SYS_LIMP (R52): CLR clears REASON, DETAIL and MORE, a 1 in MORE clears MORE; a cause of the same cycle is
kept. -/
def limpWrite (d : Dev) (data : Word) (cause : Option (Nat × Nat)) : Dev :=
  let d := if data.getLsbD 9 then d.put SYS_LIMP.addr 0#32 else if data.getLsbD 8 then d.wr SYS_LIMP.MORE 0 else d
  match cause with
  | some c => limpEntry d c.1 c.2
  | none => d

/-! Compatibility records and the boot bundle. -/

/-- KINDs of Table MOD.7. -/
def recKind (k : Nat) : Bool := k == 2 || k == 3 || k == 4

/-- Byte `i` of a compatibility record breaks R68 where the place of the image asks for a KIND. -/
def recByteBad (bs : List Byte) (kind i : Nat) : Bool :=
  let at_ := fun j => leAt bs j 1
  if i = 0 then at_ 0 != kind
  else if i = 6 ∨ i = 7 ∨ 0x1A ≤ i then at_ i != 0
  else if i = 0x18 ∨ i = 0x19 then kind != 4 && at_ i != 0
  else if 8 ≤ i then
    let p := 8 + (i - 8) / 4 * 4
    let valid := at_ (p + 3) % 2 == 1
    match i - p with
    | 0 => valid && !recKind (at_ p)
    | 1 => valid && decide (at_ (p + 2) < at_ (p + 1))
    | 3 => decide (2 ≤ at_ (p + 3))
    | _ => false
  else false

/-- First byte of a compatibility record that breaks R68. -/
def recBad (bs : List Byte) (kind : Nat) : Option Nat := (List.range 32).find? (recByteBad bs kind)

/-- Valid partner ranges of a KIND in a record (R66, R68). -/
def recRanges (bs : List Byte) (kind : Nat) : List (Nat × Nat) :=
  ((List.range 4).filter (fun i => leAt bs (8 + 4 * i) 1 == kind && leAt bs (11 + 4 * i) 1 % 2 == 1)).map
    (fun i => (leAt bs (9 + 4 * i) 1, leAt bs (10 + 4 * i) 1))

/-- The version word of a record, as in SYS_VER_WL. -/
def recVersion (bs : List Byte) : Word :=
  w32 (2 ^ 24 * leAt bs 1 1 + 2 ^ 16 * leAt bs 2 1 + 2 ^ 8 * leAt bs 3 1 + leAt bs 4 1)

/-- Placement of an image in a bundle (R558): `some false` for its offset, `some true` for its length. -/
def placeBad (off len limit bundle : Nat) : Option Bool :=
  if off < 0x20 ∨ bundle ≤ off then some false
  else if len < 128 ∨ limit < len - 128 ∨ bundle < off + len then some true
  else none

/-- The checks of R558 in their order: DETAIL of the first failure, or the two images. -/
def bundleCheck (d : Dev) : Except Nat (List Byte × List Byte) :=
  let base := d.rd SYS_BOOTADDR.ADDR
  let len := d.rd SYS_BOOTLEN.LEN
  if base % 4096 ≠ 0 ∨ len < 32 ∨ 0x400000 < base + len then .error 0x3FFFFF
  else
    let word := fun o => leNat (d.atrBytes (base + o) 4)
    let wo := word 0x08
    let wl := word 0x0C
    let so := word 0x10
    let sl := word 0x14
    if word 0 ≠ 0x4B4E4231 then .error 0
    else if word 4 ≠ len then .error 4
    else if word 0x18 ≠ 0 ∨ word 0x1C ≠ 0 then .error 0x18
    else match placeBad wo wl 229376 len, placeBad so sl 32768 len with
      | some b, _ => .error (if b then 0x0C else 0x08)
      | none, some b => .error (if b then 0x14 else 0x10)
      | none, none =>
        if so < wo + wl ∧ wo < so + sl then .error 0x10
        else
          let w := d.atrBytes (base + wo) wl
          let s := d.atrBytes (base + so) sl
          match recBad w 2, recBad s 3 with
          | some o, _ => .error (wo + o)
          | none, some o => .error (so + o)
          | none, none => .ok (w, s)

/-- The signature of an image covers its record and body (R65). -/
def imageSigned (img : List Byte) : Bool :=
  signatureOk (img.take (img.length - 96)) (img.drop (img.length - 96))

/-- Wailith is copied to private memory and starts: it knows the ranges of its record, walks the Logbook, configures its
interrupt sources, and owner 0x01 is reclaimed (R61, R66, R162, R259, R468). -/
def wailithStart (d : Dev) (w : List Byte) : Dev :=
  let peers := recRanges w 2
  let d := logStart { d with priv := privPut d.priv 0 w,
                             wl := { d.wl with imgLen := w.length, imgDigest := sha384 w, scPartners := recRanges w 3,
                                               peerRanges := peers } }
  let d := (d.wr SYS_GEN.WLGEN (leAt w 1 1)).wr SYS_GEN.PEERMIN ((peers.map Prod.fst).foldl min 255)
  let d := d.wr SYS_GEN.PEERMAX ((peers.map Prod.snd).foldl max 0)
  wailithSources (reclaimOwner d 1)

/-- Steps 0x6 and 0x7 of the boot sequence after GO (R71, R558, R65, R67): Wailith goes to private memory and Stepcode to
the microcode store. -/
def bootBundle (d : Dev) : Dev :=
  let d := (d.wr SYS_BOOTCTL.GO 1).wr SYS_BOOTSTAT.STEP 6
  match bundleCheck d with
  | .error o => limpEntry (d.wr SYS_BOOTCTL.GO 0) 5 o
  | .ok (w, s) =>
    let d := { d.wr SYS_BOOTCTL.GO 0 with wl := { d.wl with stepcode := s } }
    let wg := leAt w 1 1
    let sg := leAt s 1 1
    if !imageSigned w then limpEntry d 1 0
    else if !imageSigned s then limpEntry d 3 0
    else if wg < d.rd SYS_VER_BOOT.WLMIN ∨ d.rd SYS_VER_BOOT.WLMAX < wg then limpEntry d 2 wg
    else
      let d := (d.put SYS_VER_WL.addr (recVersion w)).put SYS_VER_SC.addr (recVersion s)
      let d := wailithStart (d.wr SYS_BOOTSTAT.STEP 7) w
      if !(d.wl.scPartners.any (fun r => decide (r.1 ≤ sg) && decide (sg ≤ r.2))) then limpEntry d 4 sg
      else d.wr SYS_BOOTSTAT.STEP 8

/-- A write of SYS_BOOTCTL (R73). -/
def bootctlWrite (d : Dev) (data : Word) : Dev :=
  if !data.getLsbD 0 then d
  else if d.mode = .boot ∧ d.rd SYS_BOOTSTAT.STEP = 5 then bootBundle d
  else d.wr SYS_BOOTSTAT.GOERR 1

/-! Boot steps 0x1 to 0x5. -/

/-- Step 0x3: the Atrium reads zero with a correct code; ICU, EVQ and Newel are reset (Table MOD.9). -/
def bootClear (d : Dev) : Dev :=
  let d := d.resetRegs (fun a => a / 0x1000 == 0x40004 || a / 0x1000 == 0x40005 || a / 0x1000 == 0x40006)
  { d with atr := [], atrUndef := false, atrKnown := [], atrErr := [], atrFix := [], evq := [], evGap := false, holders := [] }

/-- The steps after PLL lock, one at a time: 0x2 to 0x4, with the extended test of step 0x4 only where BOOTSEL = 1. A test
that fails in a step enters LIMP there with its number. -/
def bootFrom2 (d : Dev) (fail : Option (Nat × Nat)) : Dev :=
  let stop := fun (d : Dev) (step : Nat) (next : Dev → Dev) =>
    let d := d.wr SYS_BOOTSTAT.STEP step
    match fail with
    | some (k, n) => if k = step then limpEntry d 6 n else next d
    | none => next d
  let five := fun (d : Dev) => d.wr SYS_BOOTSTAT.STEP 5
  stop d 2 (fun d => stop (d.wr DGE_KAT.PASS 1) 3 (fun d =>
    let d := (bootClear d).wr SYS_BOOTSTAT.SAVED (bit d.saveValid)
    if d.on SYS_STRAP.BOOTSEL then stop d 4 five else five d))

/-- PLL_LOCK (R71): from step 0x0 or 0x1 to 0x5. `fail` is the step and the number of a failing test. -/
def pllLock (d : Dev) (fail : Option (Nat × Nat)) : Dev :=
  if d.mode ≠ .boot ∨ 1 < d.rd SYS_BOOTSTAT.STEP then d else bootFrom2 d fail

/-! Step 0x8. -/

/-- Atrium bytes written by Wailith in accesses of at most 256 bytes. -/
def stewardWrite : Nat → Dev → Nat → List Byte → Dev
  | 0, d, _, _ => d
  | n + 1, d, a, bs =>
    match bs with
    | [] => d
    | _ => stewardWrite n (atriumAccess d 0 true a (min 256 bs.length) (bs.take 256)).2 (a + 256) (bs.drop 256)

/-- The regions of the save copied back, packed in table order (R511). -/
def restoreRegions (d : Dev) : Dev :=
  ((List.range 4).foldl (fun (acc : Dev × Nat) k =>
    let a := d.saveWord (0x100 + 8 * k)
    let n := d.saveWord (0x104 + 8 * k)
    (stewardWrite 253 acc.1 a (d.logBytes (saveBase + 0x400 + acc.2) n), acc.2 + n)) (d, 0)).1

/-- Wailith acts on the Landing save (R511). An area without MAGIC holds no save. -/
def landingRestore (d : Dev) : Dev :=
  if !d.saveMagic || d.saveWord 0x14 != 0xFFFFFFFF then d
  else
    let valid := d.saveValid
    let status := w32 (d.saveWord 4)
    let crc := if valid then w32 (d.saveWord 0x10) else 0#32
    let d := if valid then restoreRegions d else d
    let seq := d.rd EVQ_NEXTSEQ.SEQ
    let d := (evqAppend d 0x80 0x03 false status crc).wr EVQ_POSTSEQ.SEQ seq
    d.logWrite (saveBase + 0x14) (leBytes 4 0)

/-- The body of the BOOT record (Table LOG.5). -/
def Dev.bootBody (d : Dev) : List Word :=
  [d.view SYS_VER_BOOT.addr, d.view SYS_VER_WL.addr, d.view SYS_VER_SC.addr, d.view SYS_STRAP.addr,
   d.view SYS_RSTCAUSE.addr, d.view SYS_LIMP.addr, d.view PSV_SAVESTAT.addr, d.view SYS_BOOTSTAT.addr]

/-- What Wailith does in step 0x8 before its check of VHOLD: it acts on the save, writes the BOOT record and clears SYS_LIMP
(Table MOD.9, R511, R466, R54). -/
def bootRecord (d : Dev) : Dev :=
  let d := landingRestore d
  (logAppend d 0x01 0 true d.bootBody).put SYS_LIMP.addr 0#32

/-- BOOT_VHOLD_READY (R506, R511, R466, R54): the BOOT record is written, and MODE becomes RUN. -/
def vholdReady (d : Dev) : Dev :=
  if d.mode ≠ .boot ∨ d.rd SYS_BOOTSTAT.STEP ≠ 8 ∨ !d.vready then d
  else groupAlone (enterRun (noneTaken (bootRecord d)))

/-- BOOT_DEADLINE_EXPIRY (R506, R54): the BOOT record has been written before the check that fails (Table MOD.9). -/
def deadlineExpiry (d : Dev) : Dev :=
  if d.mode ≠ .boot ∨ d.rd SYS_BOOTSTAT.STEP ≠ 8 ∨ d.vready then d
  else
    let d := bootRecord (d.until (d.epoch + 10000000 * d.acts PSV_CAPCFG.DEADLINE))
    limpEntry d 7 (d.rd PSV_VHOLD.VNOW)

/-! DOZE. -/

/-- The words of a program image that its copy holds: up to the last one that is not zero. -/
def copyWords (p : PBank) : Nat := p.code.foldl (fun m e => max m (e.1 + 1)) 0

/-- The bytes of the image copies, that of bank A first (R48). -/
def copiesBytes (cs : List (Option PBank)) : List Byte :=
  cs.flatMap (fun c => match c with
    | some p => (List.range (copyWords p)).flatMap (fun i => leBytes 8 (tget (fun _ => 0#64) p.code i).toNat)
    | none => [])

/-- No port has received a wake character of this DOZE yet (R205). -/
def portsSleep (d : Dev) : Dev :=
  (List.range 48).foldl (fun d n => d.setPort n { d.port n with awake := false, wakeNext := false, wakeClk := false }) d

/-- DOZE_ENTRY_COMPLETE (R47, R48, R175, R533): the Gallery stops and its locks are released, GAL and SRD turn off, the
Steward halts; a wake event held pending then takes effect. While a frame runs its end has not come. Wailith keeps a copy of
each loaded image at a place of its choice in the Atrium (free value, log entry 62). Service states stay as they are (R58). -/
def dozeEntry (d : Dev) : Dev :=
  match d.wl.dozeWait with
  | none => d
  | some _ =>
    if d.mode ≠ .run ∨ d.inFrame then d
    else
      let copies := (List.range 2).map (fun b => if d.loaded b then d.gal.banks[b]? else none)
      let lanes := (List.range 4).map (fun l => d.svcOf (.lane l) == .inService)
      let bs := copiesBytes copies
      let at_ := 8 * ((Config.freeWord d.seed).toNat % (0x80000 - bs.length / 8))
      let d := { d.draw with atr := atrPut d.atr at_ bs,
                             wl := { d.wl with dozeWait := none, copies := copies, copyAt := at_, laneIn := lanes } }
      let d := (List.range 4).foldl (fun d l => laneDown d l 7) (releaseHolder (releaseHolder d 3) 4)
      let d := portsSleep ((setMode (galOff d) .doze).wr VST_FWSTAT.SERVER 0)
      let w := d.levelWakes
      if w = 0 then d
      else wake (d.wr PIO_WAKESRC.LINE (d.rd PIO_WAKESRC.LINE ||| w))

/-- WAKE_EVENT (R49, R76): with a Vestibule LIMP command in the same cycle the device enters LIMP through RUN. -/
def wakeEvent (d : Dev) (limpTag : Option Nat) : Dev :=
  match limpTag with
  | some t =>
    if d.mode = .doze then limpEntry (setMode { d with wl := { d.wl with wakeHeld := false } } .run) 0x0A t else wake d
  | none => wake d

/-- WAKE_RESTORE_COMPLETE (R48, R119): the active image is back in its bank, the lanes train again, MODE becomes RUN; the
service time of waiting commands counts from now. -/
def wakeRestore (d : Dev) : Dev :=
  if d.mode ≠ .doze ∨ !d.wl.wakeHeld then d
  else
    let act := d.rd GSQ_BANK.ACTIVE
    let d := match nth none d.wl.copies act, d.on GSQ_BANK.NONE with
      | some b, false =>
        (d.setGal (fun g => { g with banks := setNth PBank.empty g.banks act b })).wr GSQ_BANK.LOADED (2 ^ act)
      | _, _ => d
    let lanes := d.wl.laneIn
    let d := { d with wl := { d.wl with wakeHeld := false },
                      vst := { d.vst with rung := (List.range 4).map (fun n =>
                        if d.slot n = 1 then d.now else nth 0 d.vst.rung n) } }
    let d := enterRun d
    (List.range 4).foldl (fun d l =>
      if nth false lanes l then laneStart (d.setSvc (.lane l) .inService) l else d) d

/-! Commands. -/

def execPowerUpAon (straps : Nat) (s : State) : Host.Outcome State Fault Refusal := fin s (aonReset s.dev straps)

def execRstNReset (straps : Nat) (limpCause : Option (Nat × Nat)) (s : State) : Host.Outcome State Fault Refusal :=
  fin s (rstN s.dev straps limpCause)

def execSysRstreq (_init : Nat) (data : Word) (s : State) : Host.Outcome State Fault Refusal :=
  let r := rstreqWrite s.dev data
  fin s { r.2 with resp := r.1 }

def execPllLock (fail : Option (Nat × Nat)) (s : State) : Host.Outcome State Fault Refusal := fin s (pllLock s.dev fail)

def execBootctlGo (init : Nat) (data : Word) (s : State) : Host.Outcome State Fault Refusal :=
  rowWrite init s (fun d => (.ok [], bootctlWrite d data))

def execBootVholdReady (s : State) : Host.Outcome State Fault Refusal := fin s (vholdReady s.dev)

def execBootDeadlineExpiry (s : State) : Host.Outcome State Fault Refusal := fin s (deadlineExpiry s.dev)

def execSysLimpClr (data : Word) (cause : Option (Nat × Nat)) (s : State) : Host.Outcome State Fault Refusal :=
  fin s (if s.dev.niOpen 0 then limpWrite s.dev data cause else s.dev)

def execDozeEntryComplete (s : State) : Host.Outcome State Fault Refusal := fin s (oneCycle dozeEntry s.dev)

def execWakeEvent (limpTag : Option Nat) (s : State) : Host.Outcome State Fault Refusal := fin s (oneCycle (fun d => wakeEvent d limpTag) s.dev)

def execWakeRestoreComplete (s : State) : Host.Outcome State Fault Refusal := fin s (wakeRestore s.dev)

end Sys2Proof.Machine
end

