-- ==== Sys2Proof/Machine/Twin.lean ====
section
/-!
DEFINITION. The twin-write protocol, its faults and the scrubber (R434 to R440, R445), what follows when a pair takes
effect, and the commands of their rows.
-/

namespace Sys2Proof.Machine

/-- The frame watchdog after a new MISS: its source is active while the count is at least MISS (R485). -/
def fwdChanged (d : Dev) : Dev :=
  if d.mode ≠ .run then d
  else if d.acts BAL_FWD.MISS ≤ d.rd BAL_WDSTAT.FMISS then balEval (d.wr BAL_WDSTAT.FWDACT 1)
  else d.wr BAL_WDSTAT.FWDACT 0

/-- A twin pair has taken effect: what the register's chapter makes of the new value (R483, R485, R496, R561, R277, R285,
R371, R530, R433). -/
def twinHook (old d : Dev) (a : Nat) : Dev :=
  if a = BAL_ACK.addr then ackRelease d (d.rd BAL_ACK.MASK) 0
  else if (famIdx (BAL_SRC.addr 0) 4 16 a).isSome ∨ a = CNC_GCFG.addr then balEval d
  else if a = BAL_FWD.addr then fwdChanged d
  else if a = BAL_SWD.addr then swdChanged d
  else if a = BAL_HWD.addr then hwdChanged d (old.acts BAL_HWD.TO == 0)
  else if a = GSQ_SEAMLAT.addr ∨ a = GSQ_ANYLAT.addr then setEff d
  else if (famIdx (PIO_KEEP.addr 0) 4 4 a).isSome then pinsChanged old d
  else if a = CWT_DEVPERM.addr then devpermInval old d
  else d

/-- Window permissions read 1 for initiator 0 (ATC_WINk). -/
def twinForced (a : Nat) (v : Word) : Word := if (famIdx (ATC_WINPERM.addr 0) 16 32 a).isSome then v ||| 0x00010001#32 else v

/-- A new applied value of a twin register. -/
def twinApply (d : Dev) (a : Nat) (v : Word) : Dev := twinHook d (d.putTwin a (twinForced a v)) a

/-- The pending twin write of a block. -/
def Dev.pendOf (d : Dev) (block : Nat) : Option TwinPend := d.twin.find? (fun p => blockOf p.addr == block)

/-- The pending twin write of a block is discarded with fault INCOMPLETE. -/
def twinIncomplete (d : Dev) (p : TwinPend) : Dev :=
  twinFault { d with twin := d.twin.filter (fun q => blockOf q.addr != blockOf p.addr) } 2 p.addr

/-- A window that has run out before this access ends first (R435: discarded at t + 65). -/
def twinExpired (d : Dev) (block : Nat) : Dev :=
  match d.pendOf block with
  | some p => if p.at_ + 64 < d.now then twinIncomplete d p else d
  | none => d

/-- A value write becomes the pending write of its block; an earlier one is INCOMPLETE (Table MEM.3). -/
def twinValue (d : Dev) (a : Nat) (v : Word) : Dev :=
  let d := twinExpired d (blockOf a)
  let d := match d.pendOf (blockOf a) with
    | some p => twinIncomplete d p
    | none => d
  { d with twin := d.twin ++ [{ addr := a, data := v, at_ := d.now }] }

/-- A complement write for the value register at `a` (Table MEM.3): it applies the pending value, or MISMATCH or ORPHAN. -/
def twinComplement (d : Dev) (a : Nat) (v : Word) : Dev :=
  let d := twinExpired d (blockOf a)
  match d.pendOf (blockOf a), specOf a with
  | some p, some r =>
    if p.addr ≠ a then twinFault d 3 a
    else
      let d := { d.until (p.at_ + 1) with twin := d.twin.filter (fun q => blockOf q.addr != blockOf a) }
      if v &&& r.twMask = ~~~p.data &&& r.twMask then twinApply d a p.data else twinFault d 1 a
  | _, _ => twinFault d 3 a

/-- A Steward write with TWIN = 1 (R435, R15, R50): to a value register, to a complement register, or FLAG. -/
def twinWrite (d : Dev) (a : Nat) (v : Word) : Resp × Dev :=
  if a % 4 ≠ 0 then (.err .target, d)
  else if !blockAssigned a then (.err .decode, d)
  else if (a = BAL_ACK.addr ∨ a = BAL_ACK.addr + 0x800) ∧ d.mode = .limp then (.err .target, d)
  else match specOf a with
  | some r => if r.isTwin then (.ok [], twinValue d a v) else (.err .twin, twinFault d 4 a)
  | none =>
    match twinOf a with
    | some _ => (.ok [], twinComplement d (a - 0x800) v)
    | none => (.err .twin, twinFault d 4 a)

/-- TWIN_WINDOW_EXPIRY (R435). -/
def windowExpiry (d : Dev) (block : Nat) : Dev :=
  match d.pendOf block with
  | some p => twinIncomplete (d.until (p.at_ + 65)) p
  | none => d

/-- A number put into its place in a rising list. -/
def insertAsc (a : Nat) : List Nat → List Nat
  | [] => [a]
  | b :: r => if a < b then a :: b :: r else if a = b then b :: r else b :: insertAsc a r

/-- The twin registers whose halves disagree, lowest address first; only a stored half can disagree. -/
def Dev.badTwins (d : Dev) : List Nat :=
  let val := fun a => if (twinOf a).isSome then a - 0x800 else a
  ((d.regs.map (fun e => val e.1)).filter (fun a => !d.twinOk a)).foldr insertAsc []

/-- The scrubber reads the block of a twin register (R438): it skips the sequencer while the GAL domain is off, and the block
of lane N while the SRD domain is off or the lane is OUT_OF_SERVICE. -/
def Dev.scrubs (d : Dev) (a : Nat) : Bool :=
  if a / 0x1000 = 0x4000E then d.galOn
  else if a / 0x1000 = 0x40020 then d.srdOn && d.svcOf (.lane 0) != .outOfService
  else true

/-- TWIN_SCRUB_PASS (R438): `us` is the length of the pass. -/
def scrubPass (d : Dev) (us : Nat) : Dev :=
  match d.mode with
  | .landing | .resting => d
  | _ =>
    let bad := d.badTwins.filter d.scrubs
    let d := bad.foldl (fun d a => twinFault d 6 a) d
    (d.bump TWN_STAT.PASSES 1).wr TWN_STAT.LASTPASS (min us 0xFFFF)

/-- BAL_ACK (R483, R50): the pair of the acknowledge takes effect; `pulses` holds the channels for which a pulse source
arrives in that cycle. -/
def ackWrite (d : Dev) (data : Word) (pulses : Nat) : Resp × Dev :=
  if d.mode = .limp then (.err .target, d)
  else
    let d := twinExpired d (blockOf BAL_ACK.addr)
    let d := match d.pendOf (blockOf BAL_ACK.addr) with
      | some p => twinIncomplete d p
      | none => d
    (.ok [], ackRelease (d.putTwin BAL_ACK.addr data) (fld data 15 0) pulses)

/-! Commands. -/

def execTwinValueWrite (addr : Nat) (data : Word) (s : State) : Host.Outcome State Fault Refusal :=
  rowWrite 0 s (fun d => twinWrite d addr data)

def execTwinComplementWrite (addr : Nat) (data : Word) (s : State) : Host.Outcome State Fault Refusal :=
  rowWrite 0 s (fun d => twinWrite d addr data)

def execTwinWindowExpiry (block : Nat) (s : State) : Host.Outcome State Fault Refusal := fin s (windowExpiry s.dev block)

def execTwinScrubPass (us : Nat) (s : State) : Host.Outcome State Fault Refusal := fin s (scrubPass s.dev us)

def execBalAck (data : Word) (pulses : Nat) (s : State) : Host.Outcome State Fault Refusal :=
  rowWrite 0 s (fun d => ackWrite d data pulses)

end Sys2Proof.Machine
end

