-- ==== Sys2Proof/Machine/RegAccess.lean ====
section
/-!
DEFINITION. Reads and writes of registers as the Corridor delivers them: alignment, assigned blocks, access codes, twin
rules and the effects each block's chapter gives a write (R7 to R18, R34, R114, R170, R411, R437).
-/

namespace Sys2Proof.Machine

/-! Vestibule slots as registers. -/

/-- A write of a word of a command slot (R114). -/
def slotWrite (d : Dev) (slot word : Nat) (data : Word) : Resp × Dev :=
  if d.slot slot = 0 then (.ok [], d.put (VST_CMD.addr (64 * slot + word)) data)
  else (.err .target, d.wr VST_ERR.WRBUSY 1)

/-- A write of VST_DOORBELL (R113, R114, R116). -/
def doorbellWrite (d : Dev) (data : Word) : Dev :=
  (bitsOf 4 data.toNat).foldl (fun d n =>
    if d.slot n = 0 then
      let d := d.setSlot n 1
      { d with vst := { d.vst with order := d.vst.order ++ [n], rung := setNth 0 d.vst.rung n d.now,
                                    touched := clrBit d.vst.touched n } }
    else d.wr VST_ERR.RING 1) d

/-- A write of VST_DONE (R115). -/
def doneWrite (d : Dev) (data : Word) : Dev :=
  (bitsOf 4 data.toNat).foldl (fun d n => if d.slot n = 3 then d.setSlot n 0 else d) d

/-! Checks of every access. -/

/-- The value register of the twin pair that an address belongs to, if it does. -/
def twinBase (a : Nat) : Option Nat :=
  match specOf a with
  | some r => if r.isTwin then some a else none
  | none => (twinOf a).map (fun _ => a - 0x800)

/-- The port bank of an address in a port bank block. -/
def pbkBank (a : Nat) : Option Nat :=
  if 0x40010 ≤ a / 0x1000 ∧ a / 0x1000 < 0x40016 then some (a / 0x1000 % 16) else none

/-- The port bank that an address lies in is held in its block reset (R411). -/
def Dev.bankHeld (d : Dev) (a : Nat) : Bool :=
  match pbkBank a with
  | some b => d.svcOf (.bank b) == .outOfService
  | none => false

/-- The lane of an address in a lane block. -/
def cncLane (a : Nat) : Option Nat :=
  if 0x40020 ≤ a / 0x1000 ∧ a / 0x1000 < 0x40024 then some (a / 0x1000 % 16) else none

/-- The block of an address is powered off or in its block reset (R411): a port bank or the BLK registers of a lane that are
OUT_OF_SERVICE, the sequencer and the Riser with the GAL domain off, a lane with the SRD domain off. The group registers in
the block of lane N are of class DEV and no part of that lane's reset (log entry 54). -/
def Dev.blockHeld (d : Dev) (a : Nat) : Bool :=
  d.bankHeld a || ((a / 0x1000 == 0x4000E || a / 0x1000 == 0x4000F) && !d.galOn)
    || (match cncLane a with
        | some l => !d.srdOn || (d.svcOf (.lane l) == .outOfService && regClass a == some .blk)
        | none => false)

/-- Why an access of a register word is refused before the register is reached: alignment (R14), an unassigned block (R15),
a block that does not serve (R411, R264). -/
def Dev.regRefused (d : Dev) (a : Nat) : Option ErrCause :=
  if a % 4 ≠ 0 then some .target
  else if !blockAssigned a then some .decode
  else if d.blockHeld a || (a / 0x1000 == 0x40007 && !d.bpmOn) then some .offline
  else none

/-- The request comes to the Newel from an initiator with no holder ID (R170). -/
def nwlForeign (init origin a : Nat) : Bool := a / 0x1000 == 0x40006 && (nwlHolder init origin).isNone

/-- The lock an access of the NWL block names, or 0 (R170). -/
def nwlLockOf (a : Nat) : Nat :=
  match famIdx (NWL_ACQ.addr 0) 4 64 a with
  | some n => n
  | none => (famIdx (NWL_PEEK.addr 0) 4 64 a).getD 0

/-! Reads. -/

/-- The RC fields of a register cleared; `incs` holds the increments of the same cycle, which are kept (R9, R165).
PSV_VHOLD.VMIN starts again at its reset value. -/
def readClear (d : Dev) (a : Nat) (incs : Word) : Dev :=
  match specOf a with
  | some r =>
    let m := r.bitsWhere (fun f => f.acc == .rc)
    if m = 0#32 then d else d.put a ((d.ld a &&& ~~~m) ||| (incs &&& m) ||| (r.resetWord &&& m))
  | none => d

/-- Reads that act: a claim, an attempt at a lock, the pop of a closed frame, an allocation. -/
def specialRead (d : Dev) (init origin a : Nat) : Option (Resp × Dev) :=
  match a / 0x1000 with
  | 0x40004 =>
    if a = ICU_CLAIM_H.addr then let r := claim d true false; some (.ok (wordBytes r.1), r.2)
    else if a = ICU_CLAIM_S.addr then let r := claim d false false; some (.ok (wordBytes r.1), r.2)
    else none
  | 0x40006 => (famIdx (NWL_ACQ.addr 0) 4 64 a).map (fun n => nwlAcqRead d init origin n)
  | 0x40007 =>
    match famIdx (BPM_ALLOC.addr 0) 4 5 a with
    | some p => some (bpmAlloc d init p)
    | none => (famIdx (BPM_ALLOCFIT.addr 0) 4 64 a).map (fun c => bpmAllocFit d init c)
  | 0x40010 | 0x40011 | 0x40012 | 0x40013 | 0x40014 | 0x40015 =>
    (famIdx (PBK_FRMQ.addr 0) 0x200 48 a).map (fun n => frmqRead d n)
  | _ => none

/-- One read of a register word (R7, R9, R10, R14, R15, R437). -/
def regRead (d : Dev) (init origin a : Nat) (incs : Word) : Resp × Dev :=
  match d.regRefused a with
  | some c => (.err c, if c = .decode then decodeFail d init a else d)
  | none =>
    if nwlForeign init origin a then nwlBad d init (nwlLockOf a)
    else match twinBase a with
      | some v =>
        if d.twinOk v then (.ok (wordBytes (d.view a)), readClear d a incs) else (.err .twin, twinFault d 5 v)
      | none =>
        match specialRead d init origin a with
        | some r => r
        | none => (.ok (wordBytes (d.view a)), readClear d (canonAddr a) incs)

/-! Writes. -/

/-- Undefined codes of enumerated fields of a port keep the field's value (Register reference of the port banks). -/
def keepCodes (r : RegSpec) (old v : Word) : Word :=
  r.fields.foldl (fun v f => match f.lim with
    | .codes cs => if cs.contains (fld v f.hi f.lo) then v else setFld v f.hi f.lo (fld old f.hi f.lo)
    | _ => v) v

/-- A write by the access codes alone: RW and RMW-plain stored, W1C cleared, W1S set, all else ignored (Table SCP.3). -/
def plainWrite (d : Dev) (a : Nat) (v : Word) : Dev :=
  match specOf a with
  | some r =>
    let old := d.ld a
    let v := if (pbkBank a).isSome then keepCodes r old v else v
    let st := r.bitsWhere (fun f => f.acc == .rw || f.acc == .rmw)
    let c := r.bitsWhere (fun f => f.acc == .w1c)
    let s := r.bitsWhere (fun f => f.acc == .w1s)
    if st ||| c ||| s = 0#32 then d
    else d.put a ((old &&& ~~~st &&& ~~~(c &&& v)) ||| (v &&& st) ||| (v &&& s))
  | none => d

/-- Some field of the register is for the Steward alone. -/
def stwOnly (a : Nat) : Bool :=
  match specOf a with
  | some r => r.fields.any (fun f => f.stw)
  | none => false

def writeSys (d : Dev) (a : Nat) (v : Word) : Option (Resp × Dev) :=
  if a = SYS_RSTREQ.addr then some (rstreqWrite d v)
  else if a = SYS_BOOTCTL.addr then some (.ok [], bootctlWrite d v)
  else if a = SYS_LIMP.addr then some (.ok [], limpWrite d v none)
  else none

def writeVst (d : Dev) (a : Nat) (v : Word) : Option (Resp × Dev) :=
  if a = VST_DOORBELL.addr then some (.ok [], doorbellWrite d v)
  else if a = VST_DONE.addr then some (.ok [], doneWrite d v)
  else (famIdx (VST_CMD.addr 0) 4 256 a).map (fun w => slotWrite d (w / 64) (w % 64) v)

def writeIcu (d : Dev) (a : Nat) (v : Word) : Option (Resp × Dev) :=
  if a = ICU_EOI_H.addr then some (.ok [], eoi d true (fld v 7 0) false)
  else if a = ICU_EOI_S.addr then some (.ok [], eoi d false (fld v 7 0) false)
  else match famIdx (ICU_EN.addr 0) 4 6 a with
  | some k => some (.ok [], enWrite d k v)
  | none =>
    match famIdx (ICU_PEND.addr 0) 4 6 a with
    | some k => some (.ok [], pendWrite d k v 0#32)
    | none => (famIdx (ICU_CFG.addr 0) 4 48 a).map (fun k => (.ok [], cfgWrite d k v))

def writeEvq (d : Dev) (init a : Nat) (v : Word) : Option (Resp × Dev) :=
  if a = EVQ_POP.addr then some (popWrite d init v)
  else if a = EVQ_POSTC.addr then some (postcWrite d init v)
  else none

def writeNwl (d : Dev) (init origin a : Nat) (v : Word) : Option (Resp × Dev) :=
  if a = NWL_FORCE.addr then some (nwlForceWrite d init v)
  else match famIdx (NWL_ACQ.addr 0) 4 64 a with
  | some n => some (nwlRelWrite d init origin n v)
  | none => (famIdx (NWL_ORPHAN.addr 0) 4 2 a).map (fun k => nwlOrphanWrite d init origin k v 0#32)

def writeBpm (d : Dev) (init a : Nat) (v : Word) : Option (Resp × Dev) :=
  if a = BPM_FREE.addr then some (bpmMove d (ownerOfInit init) v none)
  else if a = BPM_RECLAIM.addr then some (bpmReclaim d init (fld v 5 0))
  else if a = BPM_REBUILD.addr then some (bpmRebuild d init (fld v 2 0))
  else match famIdx (BPM_GIVE.addr 0) 4 64 a with
  | some o => some (bpmMove d (ownerOfInit init) v (some o))
  | none =>
    match famIdx (BPM_POOLCTL.addr 0) 0x10 5 a with
    | some p => some (poolRequest d p v)
    | none =>
      match famIdx (BPM_POOLBASE.addr 0) 0x10 5 a with
      | some p => some (.ok [], poolWordWrite d p a v)
      | none => (famIdx (BPM_POOLRING.addr 0) 0x10 5 a).map (fun p => (.ok [], poolWordWrite d p a v))

/-- Every register of context S is closed to all but initiator 0 (R447). -/
def writeDge (d : Dev) (init a : Nat) (v : Word) : Option (Resp × Dev) :=
  if 0x40008100 ≤ a ∧ a < 0x40008200 ∧ init ≠ 0 then some (.err .target, d)
  else if a = DGE_KAT.addr then some (katWrite d init v)
  else if a = DGE_KEYCTL.addr then some (keyctlWrite d init v)
  else match famIdx (DGE_KEYLD.addr 0) 4 16 a with
  | some k => some (keyldWrite d init k v)
  | none =>
    match famIdx (DGE_CMD.addr 0) 0x100 2 a, famIdx (DGE_DATA.addr 0) 0x100 2 a, famIdx (DGE_LAST.addr 0) 0x100 2 a with
    | some c, _, _ => some (dgeCmdWrite d init c v)
    | _, some c, _ => some (dgeDataW d init c v)
    | _, _, some c => some (dgeLastW d init c v)
    | _, _, _ => none

def writeBal (d : Dev) (init a : Nat) (v : Word) : Option (Resp × Dev) :=
  if a = BAL_VTRIP.addr then some (vtripWrite d init v)
  else if a = BAL_SKICK.addr then some (skickWrite d init v)
  else if a = BAL_HKICK.addr then some (hkickWrite d init v)
  else none

def writePio (d : Dev) (a : Nat) (v : Word) : Option (Resp × Dev) :=
  match famIdx (PIO_SET.addr 0) 0x40 4 a, famIdx (PIO_CLR.addr 0) 0x40 4 a, famIdx (PIO_TGL.addr 0) 0x40 4 a with
  | some x, _, _ => some (.ok [], pioSetOut d x (fun o => o ||| fld v 15 0))
  | _, some x, _ => some (.ok [], pioSetOut d x (fun o => o &&& (0xFFFF - fld v 15 0)))
  | _, _, some x => some (.ok [], pioSetOut d x (fun o => o ^^^ fld v 15 0))
  | _, _, _ => (famIdx (PIO_PINTCFG.addr 0) 4 16 a).map (fun n => (.ok [], pintCfgWrite d n v))

def writeNoc (d : Dev) (a : Nat) (v : Word) : Option (Resp × Dev) :=
  if a = NOC_RTSEL.addr then
    let d := plainWrite d a v
    some (.ok [], { d with noc := { d.noc with stage := none } })
  else if a = NOC_RTBASE.addr then some (.ok [], rtStageWrite d false v)
  else if a = NOC_RTLIM.addr then some (.ok [], rtStageWrite d true v)
  else if a = NOC_RTCTL.addr then some (.ok [], rtCommit d v)
  else if a = NOC_STATCTL.addr then some (.ok [], snapWrite d v)
  else if a = NOC_TRCTL.addr then some (.ok [], traceCtl d v)
  else if a = NOC_TGCTL.addr then some (.ok [], tgWrite d v)
  else none

def writeCwt (d : Dev) (a : Nat) (v : Word) : Option (Resp × Dev) :=
  if a = CWT_INVAL.addr then some (.ok [], cwtInval d v)
  else (famIdx (CWT_BASE.addr 0) 4 8 a).map (fun p => (.ok [], cwtBase d p v))

/-- Writes of port registers: the bank serves; the closing of frames comes first, the checks come after (R213, R187). -/
def writePbk (d : Dev) (a : Nat) (v : Word) : Option (Resp × Dev) :=
  let n := 8 * (a / 0x1000 % 16) + a % 0x1000 / 0x200
  let off := a % 0x200
  if off = 0x078 then some (txqWrite d n v)
  else if off = 0x020 then some (.ok [], abdWrite d n v)
  else some (.ok [], portAfter (plainWrite (portBefore d n off v) (canonAddr a) v) n off)

/-- Writes that do more than the access codes say, by block. -/
def specialWrite (d : Dev) (init origin a : Nat) (v : Word) : Option (Resp × Dev) :=
  match a / 0x1000 with
  | 0x40000 => writeSys d a v
  | 0x40003 => writeVst d a v
  | 0x40004 => writeIcu d a v
  | 0x40005 => writeEvq d init a v
  | 0x40006 => writeNwl d init origin a v
  | 0x40007 => writeBpm d init a v
  | 0x40008 => writeDge d init a v
  | 0x40009 => writeBal d init a v
  | 0x4000B => writePio d a v
  | 0x4000D => writeNoc d a v
  | 0x40010 | 0x40011 | 0x40012 | 0x40013 | 0x40014 | 0x40015 => writePbk d a v
  | 0x40020 =>
    if a < CNC_RACTL.addr ∨ CNC_RARESULT.addr < a then none
    else if init ≠ 0 then some (.err .target, d)
    else if a = CNC_RACTL.addr then some (raGo d init v) else none
  | 0x40031 => writeCwt d a v
  | _ => none

/-- What a stored word brings about: a switch newly armed takes the next request number (R333), a repair newly armed waits
for a frame end (R348), a bank that rests turns off (R419), loop-backs apply only UNDER_TEST (R377). -/
def writeAfter (old d : Dev) (a : Nat) : Dev :=
  if a = GSQ_SWCTL.addr ∧ !old.on GSQ_SWCTL.ARMED ∧ d.on GSQ_SWCTL.ARMED then
    d.wr GSQ_SWREQ.REQ (d.rd GSQ_SWREQ.REQ + 1)
  else if a = GSQ_REPCTL.addr ∧ !old.on GSQ_REPCTL.ARMED ∧ d.on GSQ_REPCTL.ARMED then
    d.setGal (fun g => { g with repReady := false })
  else match famIdx (ATC_BANK.addr 0) 4 16 a with
  | some n => if d.on (ATC_BANK.OOSPWR n) ∧ !d.bankOn n then { d with atrOff := setBit d.atrOff n } else d
  | none =>
    match famIdx (CNC_CTRL.addr 0) 0x1000 4 a with
    | some l => cncAfter d l
    | none => d

/-- A write of a register that is no twin register. -/
def openWrite (d : Dev) (init origin a : Nat) (v : Word) : Resp × Dev :=
  match specialWrite d init origin a v with
  | some r => r
  | none => if stwOnly a && init != 0 then (.err .target, d) else (.ok [], writeAfter d (plainWrite d a v) a)

/-- One write of a register word without the TWIN flag (R7, R14, R15, R16, R34, R435). -/
def regWrite (d : Dev) (init origin a : Nat) (v : Word) : Resp × Dev :=
  match d.regRefused a with
  | some c => (.err c, if c = .decode then decodeFail d init a else d)
  | none =>
    if nwlForeign init origin a then nwlBad d init (if a = NWL_FORCE.addr then fld v 5 0 else nwlLockOf a)
    else match twinBase a with
      | some x => if init = 0 then (.err .twin, twinFault d 4 x) else (.err .target, d)
      | none => openWrite d init origin a v

/-- One write of a register word by its TWIN flag; only the Steward's requests carry it (R435). -/
def regWriteAny (d : Dev) (init origin a : Nat) (v : Word) (twin : Bool) : Resp × Dev :=
  if twin && init == 0 then
    (match d.regRefused a with
      | some c => (.err c, d)
      | none => twinWrite d a v)
  else regWrite d init origin a v

/-- The event counters tied to the flags of a register, by the bit of the flag (R165): what each register table says its
counter counts is the event that sets the flag. -/
def tiedCounters (a : Nat) : List (Nat × Fld) :=
  match a / 0x1000 with
  | 0x40006 => if a = NWL_ERR.addr then [(3, NWL_CNT.ORPHREL)] else []
  | 0x40007 => if a = BPM_FAULT.addr then (List.range 11).map (fun k => (k, BPM_FAULTCNT.COUNT)) else []
  | 0x4000A => if a = PSV_STAT.addr then [(0, PSV_CNT.WARNS)] else []
  | 0x4000C => if a = ATC_ERR.addr then [(0, ATC_ECCCNT.CORR), (1, ATC_ECCCNT.UNC)] else []
  | 0x40030 => if a = TWN_ERR.addr then (List.range 6).map (fun k => (k, TWN_CNT.COUNT)) else []
  | 0x40031 => if a = CWT_FAULT.addr then [(31, CWT_FAULTCNT.COUNT)] else []
  | _ =>
    match famIdx (PBK_STAT.addr 0) 0x200 48 a with
    | some n => [(1, PBK_CNT2.OVERRUN n), (2, PBK_CNT0.PARITY n), (3, PBK_CNT0.FRAMING n), (4, PBK_CNT1.BREAK n),
                 (7, PBK_CNT3.FRMDROP n), (9, PBK_CNT5.ABFAIL n), (13, PBK_CNT4.COLL n), (14, PBK_CNT4.TXABORT n)]
    | none =>
      match famIdx (CNC_ERR.addr 0) 0x1000 4 a with
      | some l => [(2, CNC_FECUNC.UNCORR l)]
      | none => []

/-- Flags that hardware sets in the cycle of the write stay set, and the counters tied to them count that set (R8, R165). -/
def hwSet (d : Dev) (a : Nat) (sets : Word) : Dev :=
  match specOf a with
  | some r =>
    let m := sets &&& r.bitsWhere (fun f => f.acc == .w1c)
    if m = 0#32 then d
    else (tiedCounters a).foldl (fun d p => if m.getLsbD p.1 then d.bump p.2 1 else d) (d.put a (d.ld a ||| m))
  | none => d

/-! Commands. -/

/-- REGISTER_WRITE (R7): the write as it arrives at its block. -/
def execRegisterWrite (sender : Sender) (addr : Nat) (data : Word) (twin : Bool) (hwSets : Word) (s : State) :
    Host.Outcome State Fault Refusal :=
  rowWrite sender.init s (fun d =>
    let r := regWriteAny d sender.init sender.origin addr data twin
    (r.1, hwSet r.2 (canonAddr addr) hwSets))

/-- READ_CLEAR_READ (R9). -/
def execReadClearRead (sender : Sender) (addr : Nat) (incs : Word) (s : State) : Host.Outcome State Fault Refusal :=
  rowWrite sender.init s (fun d => regRead d sender.init sender.origin addr incs)

/-- VST_CMD_SLOT_WRITE (R114). -/
def execVstCmdSlotWrite (init slot word : Nat) (data : Word) (s : State) : Host.Outcome State Fault Refusal :=
  rowWrite init s (fun d => if slot < 4 ∧ word < 64 then slotWrite d slot word data else (.ok [], d))

/-- VST_DOORBELL (R113). -/
def execVstDoorbell (data : Word) (s : State) : Host.Outcome State Fault Refusal :=
  rowWrite 1 s (fun d => (.ok [], doorbellWrite d data))

/-- VST_DONE_WRITE (R115). -/
def execVstDoneWrite (data : Word) (s : State) : Host.Outcome State Fault Refusal :=
  rowWrite 1 s (fun d => (.ok [], doneWrite d data))

/-- NOC_RTCTL_COMMIT (R391). -/
def execNocRtctlCommit (data : Word) (s : State) : Host.Outcome State Fault Refusal :=
  fin s (if s.dev.niOpen 0 then rtCommit s.dev data else s.dev)

/-- NOC_SNAP (R403): the write carries SNAP = 1. -/
def execNocSnap (data : Word) (s : State) : Host.Outcome State Fault Refusal :=
  fin s (if s.dev.niOpen 0 then snapWrite s.dev (data ||| 1#32) else s.dev)

/-- NOC_TRACE_CLR (R405): the write carries CLR = 1. -/
def execNocTraceClr (data : Word) (s : State) : Host.Outcome State Fault Refusal :=
  fin s (if s.dev.niOpen 0 then traceCtl s.dev (data ||| 1#32) else s.dev)

/-- NOC_TG_GO (R406): the write carries GO = 1. -/
def execNocTgGo (data : Word) (s : State) : Host.Outcome State Fault Refusal :=
  fin s (if s.dev.niOpen 0 then tgWrite s.dev (data ||| 0x80000000#32) else s.dev)

/-- TG_RUN_COMPLETE (R406). -/
def execTgRunComplete (errs : Nat) (s : State) : Host.Outcome State Fault Refusal :=
  fin s (if s.dev.niOpen 15 then tgDone s.dev errs else s.dev)

/-- CORRIDOR_RESPONSE_SINK (R398, R407). -/
def execCorridorResponseSink (init lat tag : Nat) (s : State) : Host.Outcome State Fault Refusal :=
  fin s (if s.dev.coreOn then respSink s.dev init lat tag else s.dev)

end Sys2Proof.Machine
end

