-- ==== Sys2Proof/Machine/Corridor.lean ====
section
/-!
DEFINITION. Requests through the Corridor to every target of the address map (Table ARC.4, R24, R25, R331, R388, R392), and
the remote accesses that lanes issue for their peers (R372, R429 to R433).
-/

namespace Sys2Proof.Machine

/-- The target that holds an address (Tables ARC.4 and COR.1). -/
def targetOf (a : Nat) : Option Nat :=
  (mapRanges.find? (fun r => decide (r.1 ≤ a / 0x1000) && decide (a / 0x1000 ≤ r.2.1))).map (·.2.2)

/-- The access lies whole within one range of the address map (R24). -/
def oneRange (a len : Nat) : Bool :=
  mapRanges.any (fun r => decide (r.1 ≤ a / 0x1000) && decide ((a + len - 1) / 0x1000 ≤ r.2.1))

/-- The words of a program bank as bytes. -/
def bankBytes (p : PBank) (o n : Nat) : List Byte :=
  (List.range n).map (fun i => b8 ((tget (fun _ => 0#64) p.code ((o + i) / 8)).toNat / 256 ^ ((o + i) % 8)))

/-- One byte of a program bank replaced. -/
def bankByte (p : PBank) (o : Nat) (b : Byte) : PBank :=
  let w := (tget (fun _ => 0#64) p.code (o / 8)).toNat
  let k := 256 ^ (o % 8)
  { p with code := tset (fun _ => 0#64) p.code (o / 8) (BitVec.ofNat 64 (w % k + b.toNat * k + w / (256 * k) * (256 * k))) }

/-- Bytes written into a program bank. -/
def bankPut : List Byte → PBank → Nat → PBank
  | [], p, _ => p
  | b :: r, p, o => bankPut r (bankByte p o b) (o + 1)

/-- Bank b is active. -/
def Dev.bankActive (d : Dev) (b : Nat) : Bool := d.rd GSQ_BANK.ACTIVE == b && !d.on GSQ_BANK.NONE

/-- A program bank as a target: only the Steward writes, never the active bank nor the target of an armed switch (R331);
a bank that is OUT_OF_SERVICE is held in its block reset and answers only the Steward (R411; log entry 55); with the GAL domain off nothing is served (R109). -/
def progAccess (d : Dev) (init : Nat) (write : Bool) (off len : Nat) (data : List Byte) : Resp × Dev :=
  let b := off / 0x20000
  if !d.galOn then (.err .offline, d)
  else if write then
    if init ≠ 0 ∨ d.bankActive b ∨ (d.on GSQ_SWCTL.ARMED ∧ d.rd GSQ_SWCTL.TARGET = b) then (.err .target, d)
    else (.ok [], d.setGal (fun g => { g with
      banks := setNth PBank.empty g.banks b (bankPut (sliceB data 0 len) (nth PBank.empty g.banks b) (off % 0x20000)) }))
  else if d.svcOf (.prog b) = .outOfService ∧ init ≠ 0 then (.err .offline, d)
  else (.ok (bankBytes (nth PBank.empty d.gal.banks b) (off % 0x20000) len), d)

/-- Steward private memory as a target (R25, R392). -/
def privAccess (d : Dev) (init : Nat) (write : Bool) (off len : Nat) (data : List Byte) : Resp × Dev :=
  if init ≠ 0 then (.err .source, d)
  else if write then (.ok [], { d with priv := privPut d.priv off (sliceB data 0 len) })
  else (.ok (d.privBytes off len), d)

/-- A device region access: 32-bit and aligned, or refused (R14). -/
def deviceAccess (d : Dev) (init origin : Nat) (write : Bool) (a len : Nat) (data : List Byte) (twin : Bool) :
    Resp × Dev :=
  if len ≠ 4 ∨ a % 4 ≠ 0 then (.err .target, d)
  else if write then regWriteAny d init origin a (w32 (leNat (sliceB data 0 4))) twin
  else regRead d init origin a 0#32

/-- A request that has arrived at the target that holds its address. -/
def serveAt (d : Dev) (init origin : Nat) (write : Bool) (a len : Nat) (data : List Byte) (twin : Bool) : Resp × Dev :=
  if a < 0x400000 then atriumServe d init write a len (sliceB data 0 len)
  else if a < 0x20000000 then
    (if write then logbookWrite d init (a % 0x10000000) (sliceB data 0 len)
     else (logbookRead d (a % 0x10000000) len, d))
  else if a < 0x30000000 then privAccess d init write (a % 0x10000000) len data
  else if a < 0x31000000 then progAccess d init write (a % 0x10000000) len data
  else if a < 0x40000000 then planeAccess d write (a - 0x31000000) len data
  else deviceAccess d init origin write a len data twin

/-- A request decoded at its NI and answered by the target (R24, R387, R388): the entry that decoded it, where one did. A
route entry that leads an address to a target that does not hold it, or an access that runs past the end of its range,
reaches no register and no memory (log entry 44). -/
def corridorServe (d : Dev) (init : Nat) (write : Bool) (a len : Nat) (data : List Byte) (twin : Bool) (origin : Nat) :
    Option RtEntry × Resp × Dev :=
  let e := d.rtMatch init a
  match nocIssue d init write a len (twin && init == 0) origin with
  | (none, d) => (none, .err .decode, d)
  | (some t, d) =>
    (e, if targetOf a = some t ∧ oneRange a len then serveAt d init origin write a len data twin else (.err .target, d))

/-- One Corridor access that an engine makes within a command, counted at its NI (R402). -/
def corridorAccess (d : Dev) (init : Nat) (write : Bool) (a len : Nat) (data : List Byte) (twin : Bool) (origin : Nat) :
    Resp × Dev :=
  match corridorServe d init write a len data twin origin with
  | (none, r, d) => (r, d)
  | (some _, r, d) => (r, statAccess d init (movedBytes write len r))

/-- A request as one command: it is admitted, decoded, counted and answered (R388, R398, R402, R409); the response packet
waits in the reserved slot for its row CORRIDOR_RESPONSE_SINK. `origin` is the POS of the device that sent the remote request,
for a lane, and the number of the port, for the NI of port banks (R385). A request that is not admitted waits outside and
changes nothing. -/
def requestDecode (d : Dev) (init : Nat) (write : Bool) (a len : Nat) (data : List Byte) (twin : Bool) (origin : Nat) :
    Dev :=
  if !d.niOpen init || !d.admits init || len == 0 || decide (256 < len) then d
  else
    let tag := d.newTag init
    match corridorServe d.draw init write a len data twin origin with
    | (none, r, d) => { d with resp := r }
    | (some e, r, d) =>
      let q := reqPacket init origin write (twin && init == 0) false tag a len data e
      { countIssue d init (respPacket q (!write && (twinBase a).isSome) r) with resp := r }

/-- CORRIDOR_REQUEST_DECODE (R388). -/
def execCorridorRequestDecode (sender : Sender) (write : Bool) (addr len : Nat) (data : List Byte) (twin : Bool)
    (s : State) : Host.Outcome State Fault Refusal := fin s (requestDecode s.dev sender.init write addr len data twin sender.origin)

/-! Remote accesses at their target. -/

/-- The reply of a remote access goes back on the lane it came from (Table CNC.3). -/
def raReply (d : Dev) (l origin : Nat) (r : Resp) : Dev :=
  sendSb d l { type := 0x31, origin := d.pos, hops := 0, copy := false,
               payload := [origin, bit (!r.good)], data := r.bytes }

/-- A translated access: the leaf is checked, a translation that a walk has found fills the buffer, and the lane issues the
access under its own initiator ID (R431, R432, R444). -/
def raAccess (d : Dev) (l origin : Nat) (write : Bool) (va len : Nat) (data : List Byte) (e : TlbEnt) (fill : Bool) : Dev :=
  match leafCheck d e write with
  | (some f, d) => raReply (xlatFault d f origin va write) l origin (.err .target)
  | (none, d) =>
    let d := if fill then tlbFill d e else d
    let r := corridorAccess d (8 + l) write (4096 * e.page + va % 4096) len data false origin
    raReply r.2 l origin r.1

/-- The walker begins the oldest waiting walk with the base as it stands (R430, R444). -/
def walkStart (d : Dev) : Dev :=
  match d.walks with
  | q :: r => { d with walks := { q with base := d.ld (CWT_BASE.addr q.peer), stale := false } :: r }
  | [] => d

/-- SB_RA_REQ (R372, R430, R431, R433): checks without a table, then the buffer, then a walk in arrival order. -/
def raReqIn (d : Dev) (l origin : Nat) (write : Bool) (va len : Nat) (data : List Byte) : Dev :=
  if !d.heard l then d
  else match d.xlatEarly origin va len with
    | some f => raReply (xlatFault d f origin va write) l origin (.err .target)
    | none =>
      match tlbLookup d origin va with
      | (some e, d) => raAccess d l origin write va len data e false
      | (none, d) =>
        let d := d.bump CWT_TLBCNT.MISS 1
        { d with walks := d.walks ++ [{ lane := l, peer := origin, va := va, len := len, op := bit write, data := data,
                                        base := d.ld (CWT_BASE.addr origin), stale := false }] }

/-- CWT_TABLE_WALK (R430, R431, R444): the walk in progress completes. Its result fills the buffer unless the peer's base has
changed since the walk began, the access it waited for is made, and the next walk begins. -/
def tableWalk (d : Dev) : Dev :=
  match d.walks with
  | [] => d
  | q :: r =>
    let d := { d with walks := r }
    walkStart (match walkTable d q.base q.peer q.va with
      | (.error f, d) => raReply (xlatFault d f q.peer q.va (q.op == 1)) q.lane q.peer (.err .target)
      | (.ok e, d) => raAccess d q.lane q.peer (q.op == 1) q.va q.len q.data e (!q.stale))

/-- A remote access request: one for another device is relayed, one for this device is served (R372). -/
def raReqArrives (d : Dev) (l origin dst hops op va len : Nat) (data : List Byte) : Dev :=
  if dst = d.pos then raReqIn d l origin (op == 1) va len data
  else if !d.heard l then d
  else relaySb d l dst { type := 0x30, origin := origin, hops := hops, copy := false, payload := [dst, op, va, len],
                         data := if op = 1 then data else [] }

/-- SB_RA_REQ: operation code 0 reads, 1 writes; any other is no request (Table CNC.3, R372). -/
def execSbRaReq (lane : Nat) (route : Route) (op va len : Nat) (data : List Byte) (s : State) :
    Host.Outcome State Fault Refusal :=
  fin s (if op < 2 ∧ route.origin < 8 ∧ 1 ≤ len ∧ len ≤ 256 then
    raReqArrives s.dev lane route.origin route.dst route.hops op (va % 2 ^ 32) len (sliceB data 0 len) else s.dev)

/-- CWT_TABLE_WALK (R430). -/
def execCwtTableWalk (s : State) : Host.Outcome State Fault Refusal :=
  fin s (if s.dev.niOpen 13 then tableWalk s.dev else s.dev)

end Sys2Proof.Machine
end

