-- ==== Sys2Proof/Machine/HostLink.lean ====
section
/-!
DEFINITION. The Host Link: its transactions as the bytes between two edges of CS_N, and the HPT bridge behind the slice
(R80 to R99, R107 to R111, R560). `bytes` are the whole bytes the host sends after the opcode; `partial_` says that CS_N rose
in the middle of a further byte.
-/

namespace Sys2Proof.Machine

/-! The slice. -/

/-- The device with a changed slice. -/
def Dev.setHl (d : Dev) (f : HostLink → HostLink) : Dev := { d with hl := f d.hl }

/-- HL_CFG.CRCEN. -/
def Dev.crcEn (d : Dev) : Bool := d.hl.cfg.getLsbD 1

/-- A transaction is discarded with a cause (R86, R88, R96, R99, R110). -/
def hlDrop (d : Dev) (cause : Nat) : Dev :=
  (d.setHl (fun h => { h with drop := true, cause := cause })).bump HPT_CNT.DROPS 1

/-- The device drives nothing in this transaction. -/
def hlQuiet (d : Dev) : Dev := d.setHl (fun h => { h with out := [], driven := false })

/-- The device returns bytes, with their CRC byte where CRCEN = 1 (R95). -/
def hlReply (d : Dev) (bs : List Byte) : Dev :=
  let bs := if d.crcEn then bs ++ [b8 (crc8 bs)] else bs
  d.setHl (fun h => { h with out := bs, driven := true })

/-- STAT (Table HLI.2): RDY, RERR, BUSY of this transaction and the snapshots. -/
def Dev.hlStat (d : Dev) (rdy rerr busy : Bool) : Byte :=
  b8 (bit rdy * 128 + bit rerr * 64 + bit busy * 32 + d.hl.snapStat % 32)

/-- The CRC byte at position `n` of the host's bytes is right, or CRCEN = 0 (R95). -/
def Dev.crcOk (d : Dev) (op : Byte) (bytes : List Byte) (n : Nat) : Bool :=
  !d.crcEn || (match bytes[n]? with
    | some c => c.toNat == crc8 (op :: bytes.take n)
    | none => false)

/-- The host has sent all of a transaction's header of `n` bytes, and the CRC byte where CRCEN = 1. -/
def Dev.hlSent (d : Dev) (bytes : List Byte) (n : Nat) : Bool := decide (n + bit d.crcEn ≤ bytes.length)

/-- Data words of a read result as sent, most significant byte first (R81); an error result has `n` words of zeros. -/
def readBytes (r : Resp) (n : Nat) : List Byte :=
  match r with
  | .ok bs => (bytesWords bs).flatMap (fun w => beBytes 4 w.toNat)
  | .err _ => List.replicate (4 * n) 0#8

/-- CS_N_FALL (R80, R83, R49, R109). -/
def csFall (d : Dev) (sclkHigh : Bool) : Dev :=
  if d.mode = .resting then hlQuiet d
  else
    let sum := d.icuSum true
    let st := bit d.hl.drop * 16 + bit (d.on HPT_STAT.WERR) * 8 + bit (sum != 0) * 4 + d.hsum.toNat % 4 / 2 * 2
      + d.hsum.toNat % 2
    let d := d.setHl (fun h => { h with
      mode3 := sclkHigh, snapStat := st, snapSum := w32 sum, out := [], driven := false, fallRegs := d.regs })
    wake d

/-! The bridge. -/

/-- The W1C flags that hardware set since the last fall of CS_N, in the words of a WR at an address (R107). -/
def Dev.setSince (d : Dev) (a n : Nat) : List Word :=
  (List.range n).map (fun i =>
    let k := canonAddr (a + 4 * i)
    match specOf k with
    | some r => d.ld k &&& ~~~(tget regReset d.hl.fallRegs k) &&& r.bitsWhere (fun f => f.acc == .w1c)
    | none => 0#32)

/-- Words written by the bridge one by one, ascending; the first address that failed (R560, R87). A flag that hardware set
in the transaction of the WR stays set (R107). -/
def bridgeWords : List Word → List Word → Dev → Nat → Option Nat → Option Nat × Dev
  | [], _, d, _, e => (e, d)
  | w :: r, keep, d, a, e =>
    match corridorAccess d 1 true a 4 (wordBytes w) false 0 with
    | (.ok _, d) =>
      let k := canonAddr a
      bridgeWords r keep.tail (if nth 0#32 keep 0 = 0#32 then d else d.put k (d.ld k ||| nth 0#32 keep 0)) (a + 4) e
    | (.err _, d) => bridgeWords r keep.tail d (a + 4) (match e with | some x => some x | none => some a)

/-- BRIDGE_WRITE_ISSUE (R560): the oldest WR leaves the queue. A WR accepted after a read that waits is not issued before
that read (R89; log entry 52). -/
def bridgeWrite (d : Dev) : Dev :=
  match d.hl.wq with
  | [] => d
  | (a, ws) :: r =>
    if !d.niOpen 1 || (d.hl.rdWait.isSome && decide (d.hl.rdBefore ≤ d.hl.wfly.length)) then d
    else
      let keep := nth [] d.hl.wkeep 0
      let d := d.setHl (fun h => { h with wq := r, wkeep := h.wkeep.tail })
      let (e, d) :=
        if inDevice a then bridgeWords ws keep d a none
        else match corridorAccess d 1 true a (4 * ws.length) (ws.flatMap wordBytes) false 0 with
          | (.ok _, d) => (none, d)
          | (.err _, d) => (some a, d)
      d.setHl (fun h => { h with wfly := h.wfly ++ [e] })

/-- BRIDGE_WRITE_RESPONSE (R87): the oldest issued WR has all its responses. -/
def bridgeDone (d : Dev) : Dev :=
  match d.hl.wfly with
  | [] => d
  | e :: r =>
    let d := d.setHl (fun h => { h with wfly := r, rdBefore := h.rdBefore - 1 })
    match e with
    | none => d
    | some a => if d.on HPT_STAT.WERR then d else (d.put HPT_WERRADDR.addr (w32 a)).wr HPT_STAT.WERR 1

/-- Words read by the bridge one by one, ascending; any error is the outcome of the whole burst (R560, R91). -/
def bridgeReads : Nat → Dev → Nat → List Byte → Option ErrCause → Resp × Dev
  | 0, d, _, bs, none => (.ok bs, d)
  | 0, d, _, _, some c => (.err c, d)
  | n + 1, d, a, bs, e =>
    match corridorAccess d 1 false a 4 [] false 0 with
    | (.ok x, d) => bridgeReads n d (a + 4) (bs ++ x) e
    | (.err c, d) => bridgeReads n d (a + 4) bs (match e with | some x => some x | none => some c)

/-- The read is issued: its effects happen, SEQ increments, the former result is gone (R89, R92, R93). -/
def readIssue (d : Dev) (a n : Nat) : Dev :=
  let (r, d) := if inDevice a then bridgeReads n d a [] none else corridorAccess d 1 false a (4 * n) [] false 0
  (holdSlot d 1).setHl (fun h => { h with
    rdWait := none, rdLen := n, rdFly := some r, held := none, returned := false, seq := (h.seq + 1) % 256 })

/-- Every host write accepted before the waiting read has received its response (R89). -/
def Dev.writesDone (d : Dev) : Bool := d.hl.rdBefore == 0

/-- BRIDGE_READ_ISSUE (R89). -/
def bridgeRead (d : Dev) : Dev :=
  match d.hl.rdWait with
  | some (a, n) => if d.writesDone && d.niOpen 1 then readIssue d a n else d
  | none => d

/-- BRIDGE_READ_COMPLETE (R91, R407): the outcome is held, and HPT_RDTIME takes the completion time in Corridor cycles. The
response to a read that a Host Link reset discarded comes first and is discarded at the NI. -/
def readDone (d : Dev) (cycles : Nat) : Dev :=
  if d.hl.rdDrop ≠ 0 then freeSlot (d.setHl (fun h => { h with rdDrop := h.rdDrop - 1 })) 1
  else match d.hl.rdFly with
  | none => d
  | some r =>
    let d := freeSlot d 1
    let t := min 0xFFFF cycles
    let d := d.setHl (fun h => { h with rdFly := none, held := some r })
    (d.wr HPT_RDTIME.LAST t).wr HPT_RDTIME.MAX (max t (d.rd HPT_RDTIME.MAX))

/-! Transactions. -/

/-- What a WR breaks, as the lowest cause that applies (R86, R110). -/
def Dev.wrCause (d : Dev) (bytes : List Byte) (part : Bool) : Option Nat :=
  let n := bytes.length - bit d.crcEn
  let data := n - 4
  if d.mode = .landing then some 6
  else if d.crcEn && (bytes.isEmpty || !d.crcOk 0x02#8 bytes n) then some 1
  else if part || decide (n < 8) || decide (data % 4 ≠ 0) || decide (256 < data) then some 2
  else if beNat (bytes.take 4) % 4 ≠ 0 then some 3
  else if 4 ≤ d.hl.wq.length + d.hl.wfly.length then some 4
  else none

/-- Words of a byte string as sent, most significant byte first (R81). -/
def beWords : List Byte → List Word
  | a :: b :: c :: e :: r => w32 (beNat [a, b, c, e]) :: beWords r
  | _ => []

/-- HL_WR (R85, R86, R87). -/
def hlWr (d : Dev) (bytes : List Byte) (part : Bool) : Dev :=
  if d.mode = .resting then hlQuiet d
  else
    let d := hlQuiet d
    match d.wrCause bytes part with
    | some c => hlDrop d c
    | none =>
      let body := bytes.take (bytes.length - bit d.crcEn)
      let a := beNat (body.take 4)
      let ws := beWords (body.drop 4)
      d.setHl (fun h => { h with wq := h.wq ++ [(a, ws)], wkeep := h.wkeep ++ [d.setSince a ws.length] })

/-- What an RD breaks (R88, R110). -/
def Dev.rdCause (d : Dev) (bytes : List Byte) : Option Nat :=
  if d.mode = .landing then some 6
  else if !d.crcOk 0x0B#8 bytes 5 then some 1
  else if 63 < leAt bytes 4 1 then some 2
  else if beNat (bytes.take 4) % 4 ≠ 0 then some 3
  else none

/-- The response to an RD with RDY = 0: zero data bytes, counted as not ready (R88, R90, R91). -/
def rdNotReady (d : Dev) (rerr busy : Bool) (n : Nat) : Dev :=
  let d := d.bump HPT_CNT.NOTREADY 1
  hlReply d ([d.hlStat false rerr busy, b8 d.hl.seq] ++ List.replicate (4 * n) 0#8)

/-- An RD that the bridge accepts: issued at once unless earlier writes are outstanding; with `ready` the burst completes
by the last dummy cycle (R88, R89, R91). How many cycles that took is not given. With `cut` CS_N rises before the response:
the read is carried out and its result is held, and no response is sent (R88). A response that goes out while the read still
waits for earlier writes carries the SEQ of the last read issued, because its own SEQ is given at its issue (log entry 50). -/
def rdAccept (d : Dev) (a n : Nat) (ready cut : Bool) : Dev :=
  let d := d.setHl (fun h => { h with rdWait := some (a, n), rdBefore := h.wq.length + h.wfly.length })
  let d := bridgeRead d
  if ready && d.hl.rdFly.isSome && d.hl.rdDrop == 0 then
    let d := readDone d.draw ((Config.freeWord d.seed).toNat % 65536)
    match d.hl.held with
    | some r =>
      if cut then hlQuiet d
      else
      let d := d.setHl (fun h => { h with returned := true })
      hlReply d ([d.hlStat true (!r.good) false, b8 d.hl.seq] ++ readBytes r n)
    | none => d
  else if cut then hlQuiet d
  else rdNotReady d false false n

/-- HL_RD (R88 to R91, R110). A transaction cut short before the end of its header issues no read. An RD that breaks a rule
of R88 is dropped before it is refused as one too many: with an earlier read pending it still sets DROP and answers BUSY = 0
(log entry 50). With `cut` CS_N rises after the header and before the response. -/
def hlRd (d : Dev) (bytes : List Byte) (ready cut : Bool) : Dev :=
  if d.mode = .resting ∨ !d.hlSent bytes 5 then hlQuiet d
  else
    let n := leAt bytes 4 1 + 1
    match d.rdCause bytes with
    | some c => if cut then hlQuiet (hlDrop d c) else rdNotReady (hlDrop d c) (c == 6) false n
    | none =>
      if d.hl.rdWait.isSome || d.hl.rdFly.isSome then (if cut then hlQuiet d else rdNotReady d false true n)
      else rdAccept d (beNat (bytes.take 4)) n ready cut

/-- A transaction that needs no bridge: not served in RESTING, without effect when cut short, and with zero data bytes and
DROP when its CRC fails (R96, R108, R110). -/
def hlServe (d : Dev) (op : Byte) (bytes : List Byte) (n : Nat) (zero : List Byte) (f : Dev → Dev) : Dev :=
  if d.mode = .resting ∨ !d.hlSent bytes n then hlQuiet d
  else if d.crcOk op bytes n then f d
  else hlDrop (hlReply d (d.hlStat false false false :: zero)) 1

/-- The words of the result that RDLAST returns: of the last read issued, or of one that waits to be issued before any
other. -/
def HostLink.lastLen (h : HostLink) : Nat :=
  match h.held, h.rdFly, h.rdWait with
  | none, none, some w => w.2
  | _, _, _ => h.rdLen

/-- HL_RDLAST (R92). A read that is accepted and not yet issued counts as pending, so that RDLAST answers RERR = 0 while the
first read waits for earlier writes (log entry 50). -/
def hlRdlast (d : Dev) (bytes : List Byte) : Dev :=
  hlServe d 0x0C#8 bytes 0 (b8 d.hl.seq :: List.replicate (4 * d.hl.lastLen) 0#8) (fun d =>
    match d.hl.held with
    | some r =>
      let d := d.setHl (fun h => { h with returned := true })
      hlReply d ([d.hlStat true (!r.good) false, b8 d.hl.seq] ++ readBytes r d.hl.rdLen)
    | none =>
      if d.hl.rdWait.isSome || d.hl.rdFly.isSome then
        hlReply d ([d.hlStat false false false, b8 d.hl.seq] ++ List.replicate (4 * d.hl.lastLen) 0#8)
      else hlReply d [d.hlStat false true false, 0#8])

/-- HL_RDSUM (R83). -/
def hlRdsum (d : Dev) (bytes : List Byte) : Dev :=
  hlServe d 0x05#8 bytes 0 (List.replicate 4 0#8) (fun d =>
    hlReply d (d.hlStat true false false :: beBytes 4 d.hl.snapSum.toNat))

/-- HL_ECHO (R99): L and L bytes. -/
def hlEcho (d : Dev) (bytes : List Byte) : Dev :=
  let l := leAt bytes 0 1
  if d.mode = .resting ∨ bytes.isEmpty then hlQuiet d
  else if l = 0 ∨ 16 < l then hlDrop (hlQuiet d) 2
  else hlServe d 0x9E#8 bytes (1 + l) (List.replicate l 0#8) (fun d =>
    hlReply d (d.hlStat true false false :: (bytes.drop 1).take l))

/-- The value HL_CFG takes: DUMMY between 8 and 32 (HL_CFG). -/
def hlCfgWord (w : Word) : Word :=
  w32 (max 8 (min 32 (fld w 13 8)) * 256 + fld w 1 0)

/-- HL_CFGWR (R96, R97, R108). A partial byte after the last whole one is ignored. -/
def hlCfgwr (d : Dev) (bytes : List Byte) (_part : Bool) : Dev :=
  let d' := hlQuiet d
  if d.mode = .resting ∨ !d.hlSent bytes 5 then d'
  else if !d.crcOk 0x31#8 bytes 5 then hlDrop d' 1
  else
    let w := w32 (beNat ((bytes.drop 1).take 4))
    match leAt bytes 0 1 with
    | 0 => d'.setHl (fun h => { h with cfg := hlCfgWord w })
    | 1 => d'.setHl (fun h => { h with drop := h.drop && !w.getLsbD 0 })
    | _ => d'

/-- A slice register (HL_CFG, HL_STAT, HL_SEQ); any other IDX reads 0. -/
def Dev.sliceReg (d : Dev) (i : Nat) : Nat :=
  match i with
  | 0 => d.hl.cfg.toNat
  | 1 => d.hl.cause * 256 + bit d.hl.drop
  | 2 => d.hl.seq
  | _ => 0

/-- HL_CFGRD (R96, R108). -/
def hlCfgrd (d : Dev) (bytes : List Byte) (part : Bool) : Dev :=
  if part && !d.hlSent bytes 1 then hlQuiet d
  else hlServe d 0x35#8 bytes 1 (List.replicate 4 0#8) (fun d =>
    hlReply d (d.hlStat true false false :: beBytes 4 (d.sliceReg (leAt bytes 0 1))))

/-- A read that has been issued and that no response has returned with RDY = 1 (R94; log entry 52 for one not issued). -/
def HostLink.unread (h : HostLink) : Bool := h.rdFly.isSome || (h.held.isSome && !h.returned)

/-- A Host Link reset (R59, R94, R98, R111, R164): the slice, the read result, the host's locks and claims; accepted WRs are
still issued. -/
def hostLinkReset (d : Dev) : Dev :=
  let d := if d.hl.unread then d.bump HPT_CNT.RDLOST 1 else d
  let d := niDrop d 1
  let d := d.setHl (fun h => { HostLink.idle with
    rdDrop := h.rdDrop + bit h.rdFly.isSome, wq := h.wq, wfly := h.wfly, wkeep := h.wkeep, mode3 := h.mode3,
    fallRegs := h.fallRegs })
  clearHostClaims (releaseHolder d 2)

/-- HL_RESET (R98): `bytes` follow the first 0xFF. -/
def hlReset (d : Dev) (bytes : List Byte) : Dev :=
  if d.mode = .resting then hlQuiet d
  else
    let n := bytes.length - 1
    if !d.crcEn || bytes.all (· == 0xFF#8) || ((bytes.take n).all (· == 0xFF#8) && d.crcOk 0xFF#8 bytes n)
    then hostLinkReset d
    else hlDrop (hlQuiet d) 1

/-! Commands. -/

def execCsNFall (sclkHigh : Bool) (s : State) : Host.Outcome State Fault Refusal := fin s (csFall s.dev sclkHigh)

def execHlWr (bytes : List Byte) (partial_ : Bool) (s : State) : Host.Outcome State Fault Refusal :=
  fin s (hlWr s.dev bytes partial_)

def execHlRd (bytes : List Byte) (answer : RdEnd) (s : State) : Host.Outcome State Fault Refusal :=
  fin s (hlRd s.dev bytes answer.ready answer.cut)

def execHlRdlast (bytes : List Byte) (s : State) : Host.Outcome State Fault Refusal := fin s (hlRdlast s.dev bytes)

def execHlRdsum (bytes : List Byte) (s : State) : Host.Outcome State Fault Refusal := fin s (hlRdsum s.dev bytes)

def execHlEcho (bytes : List Byte) (s : State) : Host.Outcome State Fault Refusal := fin s (hlEcho s.dev bytes)

def execHlCfgwr (bytes : List Byte) (partial_ : Bool) (s : State) : Host.Outcome State Fault Refusal :=
  fin s (hlCfgwr s.dev bytes partial_)

def execHlCfgrd (bytes : List Byte) (partial_ : Bool) (s : State) : Host.Outcome State Fault Refusal :=
  fin s (hlCfgrd s.dev bytes partial_)

def execHlReset (bytes : List Byte) (s : State) : Host.Outcome State Fault Refusal := fin s (hlReset s.dev bytes)

/-- The opcodes of Table HLI.1. -/
def hlOpcodes : List Nat := [0x02, 0x0B, 0x0C, 0x05, 0x9E, 0x31, 0x35, 0xFF]

/-- HL_UNKNOWN_OPCODE (R99): an opcode of Table HLI.1 is none of these. -/
def hlUnknown (d : Dev) (op : Byte) : Dev :=
  if d.mode = .resting ∨ hlOpcodes.contains op.toNat then hlQuiet d else hlDrop (hlQuiet d) 5

def execHlUnknownOpcode (op : Byte) (s : State) : Host.Outcome State Fault Refusal := fin s (hlUnknown s.dev op)

def execBridgeWriteIssue (s : State) : Host.Outcome State Fault Refusal := fin s (bridgeWrite s.dev)

def execBridgeWriteResponse (s : State) : Host.Outcome State Fault Refusal :=
  fin s (if s.dev.coreOn then bridgeDone s.dev else s.dev)

def execBridgeReadIssue (s : State) : Host.Outcome State Fault Refusal := fin s (bridgeRead s.dev)

def execBridgeReadComplete (cycles : Nat) (s : State) : Host.Outcome State Fault Refusal :=
  fin s (if s.dev.coreOn then readDone s.dev cycles else s.dev)

end Sys2Proof.Machine
end

