-- ==== Sys2Proof/Machine/Inspection.lean ====
section
/-!
DEFINITION. The Inspection Port (R100 to R105, R112, R423) and Wailith's sampling of its count (R466).
-/

namespace Sys2Proof.Machine

/-- A transaction completes at the rise of INS_CS_N (R101, R104): IPT_COUNT, LASTCMD, and a pulse of source 87 while the
CORE domain is on. Whether INS_CS_N has fallen again when the next command runs, which IPT_STAT.ACTIVE shows, is its driver's: a free value. -/
def iptComplete (d : Dev) (op : Nat) (out : List Byte) (driven : Bool) : Dev :=
  let d := { (d.bump IPT_COUNT.COUNT 1).wr IPT_STAT.LASTCMD op with
    iptOut := out, iptDriven := driven, pins := { d.pins with insCs := (Config.freeWord d.seed).getLsbD 0 },
    seed := d.seed + 1 }
  if d.coreOn then d.pulse 87 else d

/-- The port works while the AON domain has power (R100). -/
def iptServe (d : Dev) (f : Dev → Dev) : Dev :=
  if d.aonOn then f d else { d with iptOut := [], iptDriven := false }

/-- Trip state of the AON mirror; every bit is 1 while VDD_CORE is absent (R105). -/
def Dev.iptTrip (d : Dev) : Nat := if d.coreOn && decide (0 < d.pins.vcore) then d.bal.aonTrip else 0xFFFF

/-- Byte 0 of the STATUS block: PREV and MODE, or 0x07 (Table HLI.7). -/
def Dev.iptMode (d : Dev) : Nat := if d.modeKnown then d.prev.code * 16 + d.mode.code else 7

/-- Byte 12 of the STATUS block: VHOLD in units of 0.1 V with an error of at most 0.2 V that is not given (Table HLI.7). -/
def Dev.iptVhold (d : Dev) : Nat := min 255 (d.pins.vhold / 100 + (Config.freeWord d.seed).toNat % 5 - 2)

/-- The STATUS block (Table HLI.7, R81, R105). -/
def Dev.iptBlock (d : Dev) : List Byte :=
  [b8 d.iptMode, 0#8] ++ beBytes 2 d.iptTrip ++ beBytes 4 (d.view SYS_LIMP.addr).toNat
    ++ beBytes 4 (d.view PSV_SAVESTAT.addr).toNat
    ++ [b8 d.iptVhold,
        b8 (bit d.pins.vaon + 2 * bit (decide (0 < d.pins.vio0)) + 4 * bit (decide (0 < d.pins.vcore)))]
    ++ beBytes 2 (d.rd IPT_COUNT.COUNT)

/-- Logbook bytes from an address on, wrapping at the top; zeros where the upper four address bits are not zero (R103, R104). -/
def Dev.iptBytes (d : Dev) (addr n : Nat) : List Byte :=
  if 0x100000 ≤ addr then List.replicate n 0#8 else (List.range n).map (fun i => d.logByte ((addr + i) % 0x100000))

/-- IPT_ID (R102). -/
def execIptId (s : State) : Host.Outcome State Fault Refusal :=
  fin s (iptServe s.dev (fun d =>
    iptComplete d 0x9F (beBytes 4 (d.view SYS_DEVID.addr).toNat ++ beBytes 4 (d.view SYS_REV.addr).toNat) true))

/-- IPT_STATUS (R105). -/
def execIptStatus (s : State) : Host.Outcome State Fault Refusal :=
  fin s (iptServe s.dev (fun d => iptComplete d.draw 0x05 d.iptBlock true))

/-- IPT_READ (R103, R104): `n` bytes are clocked out. -/
def execIptRead (addr n : Nat) (s : State) : Host.Outcome State Fault Refusal :=
  fin s (iptServe s.dev (fun d => iptComplete d 0x03 (d.iptBytes (addr % 0x1000000) n) true))

/-- IPT_OTHER_OPCODE (R102, R104): INS_SIO stays undriven. -/
def execIptOtherOpcode (op : Byte) (s : State) : Host.Outcome State Fault Refusal :=
  fin s (iptServe s.dev (fun d => iptComplete d op.toNat [] false))

/-- An event that Wailith posts through EVQ_POSTC (R169). -/
def wailithPost (d : Dev) (code : Nat) (crit : Bool) (d0 d1 : Word) : Dev :=
  let seq := d.rd EVQ_NEXTSEQ.SEQ
  (evqAppend d 0x80 code crit d0 d1).wr EVQ_POSTSEQ.SEQ seq

/-- IPT_COUNT_SAMPLE (R466, R102). -/
def iptSample (d : Dev) : Dev :=
  let n := d.rd IPT_COUNT.COUNT
  if d.mode ≠ .run ∨ n = d.wl.iptSeen then d
  else
    let inc := n - d.wl.iptSeen
    wailithPost { d with wl := { d.wl with iptSeen := n } } 0x02 false (w32 n) (w32 inc)

def execIptCountSample (s : State) : Host.Outcome State Fault Refusal := fin s (iptSample s.dev)

end Sys2Proof.Machine
end

