-- ==== Sys2Proof/Machine/Logging.lean ====
section
/-!
DEFINITION. Wailith as the writer of the Logbook: the records of selected events, the seals that fall due, and the commands
of their rows (R461 to R467, R474).
-/

namespace Sys2Proof.Machine

/-- The record of one selected event: a command event has its COMMAND or NOTE record, every other event an EVENT record
(R466). A command event whose Wailith was reset before it wrote the record has none. -/
def logEvent (d : Dev) (e : Ev) : Dev :=
  if e.block = 0x80 ∧ e.code = 0x01 then
    match d.wl.cmds.find? (fun c => c.seq == e.seq) with
    | some c =>
      logAppend { d with wl := { d.wl with cmds := d.wl.cmds.filter (fun c => c.seq != e.seq) } } c.kind e.seq true c.body
    | none => d
  else logAppend d 0x02 e.seq e.crit e.words

/-- Wailith takes the events at the head of the EVQ up to the first selected one, and writes its record (R466, R467). -/
def logNext (d : Dev) : Dev :=
  match d.evq.dropWhile (fun e => !d.selects e) with
  | [] => { d with evq := [] }
  | e :: r => logEvent { d with evq := r } e

/-- The records of every queued event, in EVQ order. -/
def logAllN : Nat → Dev → Dev
  | 0, d => d
  | n + 1, d => if d.evq.isEmpty then d else logAllN n (logNext d)

/-- The records of every queued event; the EVQ holds at most 256 (R168). -/
def logAll (d : Dev) : Dev := logAllN 256 d

/-- A record write has failed three times (R474): integrity fault LOG_WRITE with its CRIT event, LIMP with INTEG, and no
further record until the next start. -/
def logFailed (d : Dev) : Dev :=
  oneCycle (fun d =>
    let d := integCore { d with wl := { d.wl with logStop := true } } 0x80 0#32
    if d.mode = .run then limpEntry d 8 0x80 else d) d

/-- LOG_RECORD_WRITE (R461, R466, R467, R474): in RUN, the next record due; `failed` says that its writes failed. -/
def logRecord (d : Dev) (failed : Bool) : Dev :=
  if d.mode ≠ .run ∨ d.wl.logStop then d
  else if failed then (if d.evq.any d.selects then logFailed d else d)
  else logNext d

/-- The moment at which a seal falls due: 1 s after the oldest record not sealed, or 10 ms after a record that asks for one
(R465). -/
def Dev.sealDue (d : Dev) : Nat :=
  let a := 1000000000 + d.wl.logOldest.getD d.now
  match d.wl.logSoon with
  | some t => min a (10000000 + t)
  | none => a

/-- LOG_SEAL_WRITE (R465): in RUN, the seal due at 64 records or at the end of a timer. -/
def sealWrite (d : Dev) : Dev :=
  if d.mode ≠ .run ∨ !d.canSeal then d
  else logSeal (if 64 ≤ d.wl.logOpen then d else d.until d.sealDue)

/-- LOG_RECORD_WRITE (R461). -/
def execLogRecordWrite (failed : Bool) (s : State) : Host.Outcome State Fault Refusal := fin s (logRecord s.dev failed)

/-- LOG_SEAL_WRITE (R465). -/
def execLogSealWrite (s : State) : Host.Outcome State Fault Refusal := fin s (sealWrite s.dev)

end Sys2Proof.Machine
end

