-- ==== Sys2Proof/Machine/Vestibule.lean ====
section
/-!
DEFINITION. The Vestibule commands: taking a slot and checking its header (R116 to R120, R126, R143), and the commands that
act on modes, trips and the Logbook (Tables VST.4, VST.8, VST.9; R122 to R125, R134).
-/

namespace Sys2Proof.Machine

/-! Headers. -/

/-- The opcode stands in Table VST.4. -/
def vstKnown (op : Nat) : Bool :=
  [0x01, 0x02, 0x03, 0x04, 0x05, 0x10, 0x11, 0x12, 0x13, 0x14, 0x20, 0x21, 0x22, 0x23, 0x30, 0x31, 0x40, 0x41, 0x50, 0x51,
   0x52].contains op

/-- The command is served in LIMP (R51, R126). -/
def vstInLimp (op : Nat) : Bool := [0x01, 0x02, 0x03, 0x04, 0x21, 0x30].contains op

/-- The command is deferred (Table VST.5). -/
def vstDeferred (op : Nat) : Bool := [0x10, 0x11, 0x12, 0x13, 0x20, 0x22, 0x23].contains op

/-- LEN is one that Table VST.4 gives for the opcode; `n` is the entry count of the configuration sub-header (R120, R135). -/
def vstLenOk (op len n : Nat) : Bool :=
  if 248 < len then false
  else match op with
  | 0x01 => true
  | 0x02 | 0x04 | 0x14 | 0x21 | 0x51 | 0x52 => len == 0
  | 0x03 | 0x11 | 0x20 | 0x22 | 0x23 | 0x30 | 0x31 => len == 4
  | 0x05 => len == 8
  | 0x10 | 0x12 | 0x13 => len == 12
  | 0x40 => len == 8 + 8 * n
  | 0x41 => len == 8 + 4 * n
  | 0x50 => decide (4 ≤ len) && decide (len ≤ 64) && len % 4 == 0
  | _ => false

/-- The status of a header that breaks a rule, the first of R143's order. -/
def Dev.headerStatus (d : Dev) (slot : Nat) : Option Nat :=
  let op := d.cmdOp slot
  if !vstKnown op then some 2
  else if !vstLenOk op (d.cmdLen slot) (d.cmdAt slot 9 1) then some 3
  else if d.rd VST_FWSTAT.SERVER = 2 ∧ !vstInLimp op then some 5
  else if 2 ≤ d.cmdAt slot 1 1 ∨ d.cmdAt slot 6 2 ≠ 0 then some 4
  else none

/-- A deferred command of the slot is already under way. -/
def Dev.waiting (d : Dev) (slot : Nat) : Bool :=
  d.wl.swSlot == some slot || d.wl.repSlot == some slot || d.wl.svcSlot.any (fun e => e.2.contains slot)
    || d.wl.testSlot.any (fun e => e.2.1 == slot)

/-- LOAD_PARSE out (Table VST.13). -/
def parseOut (rules fields : Nat) (off : Option Nat) : List Byte :=
  leBytes 2 rules ++ leBytes 2 fields ++ leBytes 4 (off.getD 0xFFFFFFFF)

/-- VST_COMMAND_TAKE (R116, R118, R125): the slot rung first becomes BUSY; a header that breaks a rule is answered at once, LOAD_PARSE
with BAD_FIELD with the payload of Table VST.13 (R121). No slot is taken while a command that is not deferred stands BUSY, nor while DOZE entry is in progress. -/
def commandTake (d : Dev) : Dev :=
  if d.rd VST_FWSTAT.SERVER = 0 ∨ d.wl.dozeWait.isSome
      ∨ (List.range 4).any (fun n => d.slot n == 2 && !vstDeferred (d.cmdOp n)) then d
  else match d.vst.order with
  | [] => d
  | n :: r =>
    let d := ({ d with vst := { d.vst with order := r } }.setSlot n 2).wr VST_FWSTAT.TAKEN n
    match d.headerStatus n with
    | some st => respond d n st 0 (if st = 4 ∧ d.cmdOp n = 0x13 then parseOut 0 0 none else []) (vstDeferred (d.cmdOp n))
    | none => d

/-- The server carries out a command of an opcode that stands BUSY in a slot and is not under way; the BootROM LIMP service
answers MODE where Table VST.4 does not list LIMP. Any other slot is left as it is. -/
def serve (d : Dev) (slot op : Nat) (f : Dev → Dev) : Dev :=
  if 4 ≤ slot ∨ d.slot slot ≠ 2 ∨ d.cmdOp slot ≠ op ∨ d.rd VST_FWSTAT.SERVER = 0 ∨ d.waiting slot then d
  else if d.rd VST_FWSTAT.SERVER = 2 ∧ !vstInLimp op then respond d slot 5 0 [] (vstDeferred op)
  else f d

/-! General commands. -/

/-- NOP (Table VST.4). -/
def vstNop (d : Dev) (slot : Nat) : Dev := respond d slot 0 0 (d.payload slot) false

/-- GET_INFO (Table VST.4): eight SYS words. -/
def vstGetInfo (d : Dev) (slot : Nat) : Dev :=
  respond d slot 0 0 (([SYS_MODE.addr, SYS_STRAP.addr, SYS_VER_BOOT.addr, SYS_VER_WL.addr, SYS_VER_SC.addr, SYS_GEN.addr,
    SYS_SVCSUM.addr, SYS_LIMP.addr].map d.view).flatMap wordBytes) false

/-- The event, the record and the seal that go before a RESET, LIMP or DOZE (R124, R465, R467): the EVSEQ, and the device. -/
def logBefore (d : Dev) (slot : Nat) : Nat × Dev :=
  let r := postCommand d 0x03 (fun seq => d.cmdRecord slot 0 0 seq (d.payload slot))
  if d.rd VST_FWSTAT.SERVER = 2 then r else (r.1, logSeal (logAll r.2))

/-- RESET (R124). -/
def vstReset (d : Dev) (slot : Nat) : Dev :=
  if d.cmdAt slot 8 1 ≠ 0xA5 then respond d slot 4 0 [] false
  else devReset (logBefore d slot).2 .vst d.pins.straps

/-- LIMP (R125): OK, then LIMP with HOST_CMD and DETAIL = TAG; in LIMP the cause sets MORE. -/
def vstLimp (d : Dev) (slot : Nat) : Dev :=
  let tag := d.cmdTag slot
  let r := logBefore d slot
  limpEntry (respond r.2 slot 0 r.1 [] false) 0x0A tag

/-- The conditions of R47 on the device: no switch and no repair armed, no unit DRAINING. -/
def Dev.dozeOk (d : Dev) : Bool :=
  !d.on GSQ_SWCTL.ARMED && !d.on GSQ_REPCTL.ARMED && d.wl.swGroup.isNone && !d.svc.any (fun e => e.2 == .draining)

/-- Ports enabled for wake by the mask; a bank held in its block reset takes no value. -/
def wakeMask (d : Dev) (mask : Nat) : Dev :=
  (List.range 48).foldl (fun d n =>
    if d.svcOf (.bank (n / 8)) = .outOfService then d else d.wr (PBK_WAKE.EN n) (bit (mask.testBit n))) d

/-- DOZE (R47, R125): STATE where R47 forbids it; else the command is logged and sealed and answered OK, and then DOZE entry
begins, with the wake mask written and every channel tripped. -/
def vstDoze (d : Dev) (slot : Nat) : Dev :=
  if d.cmdAt slot 14 2 ≠ 0 then respond d slot 4 0 [] false
  else if !d.dozeOk then respond d slot 6 0 [] false
  else
    let mask := d.cmdAt slot 8 6
    let r := logBefore d slot
    let d := vcmdTrip (wakeMask (respond r.2 slot 0 r.1 [] false) mask) 0xFFFF
    { d with wl := { d.wl with dozeWait := some mask } }

/-! Service states. -/

/-- GET_SERVICE out (Table VST.8). -/
def Dev.serviceBytes (d : Dev) : List Byte :=
  let st := fun u => b8 (d.svcOf u).code
  (List.range 6).map (fun b => st (.bank b)) ++ (List.range 2).map (fun b => st (.prog b))
    ++ (List.range 4).map (fun l => st (.lane l)) ++ (List.range 16).map (fun n => st (.atb n))
    ++ (List.range 33).map (fun k => b8 ((List.range 4).foldl (fun m j => m + (d.svcOf (.col (4 * k + j))).code * 4 ^ j) 0))
    ++ [0#8, 0#8, 0#8]

/-- GET_SERVICE (Table VST.8). -/
def vstGetService (d : Dev) (slot : Nat) : Dev := respond d slot 0 0 d.serviceBytes false

/-! Trips. -/

/-- NMASK is the complement of MASK, and MASK is not zero (R134). -/
def Dev.maskOk (d : Dev) (slot : Nat) : Bool :=
  d.cmdAt slot 8 2 != 0 && d.cmdAt slot 8 2 + d.cmdAt slot 10 2 == 0xFFFF

/-- TRIP (R134). -/
def vstTrip (d : Dev) (slot : Nat) : Dev :=
  if !d.maskOk slot then respond d slot 4 0 [] false
  else complete (vcmdTrip d (d.cmdAt slot 8 2)) slot 0 [] false

/-- TRIP_ACK (R134, R483): the twin acknowledge; the channels released, and those asked for that are still tripped. `pulses`
holds the channels for which a pulse source arrives in the cycle of the acknowledge (R327). -/
def vstTripAck (d : Dev) (slot pulses : Nat) : Dev :=
  if !d.maskOk slot then respond d slot 4 0 [] false
  else
    let mask := d.cmdAt slot 8 2
    let old := d.rd BAL_STATE.TRIPPED
    let d := (ackWrite d (w32 mask) pulses).2
    let new := d.rd BAL_STATE.TRIPPED
    complete d slot 0 (leBytes 2 (maskFrom 16 (fun n => mask.testBit n && old.testBit n && !new.testBit n))
      ++ leBytes 2 (mask &&& new)) false

/-! The Logbook. -/

/-- LOG_MARK (Table VST.4, R466): its record is a NOTE with the payload as its body. -/
def vstLogMark (d : Dev) (slot : Nat) : Dev :=
  let body := bytesWords (d.payload slot)
  let r := postCommand d 0x04 (fun _ => body)
  respond r.2 slot 0 r.1 [] false

/-- LOG_SEAL (R465). -/
def vstLogSeal (d : Dev) (slot : Nat) : Dev := complete (logSeal d) slot 0 [] false

/-- LOG_STATUS (Table VST.9); before the first seal no rule gives the index of the last sealed record (free value, log
entry 22). -/
def vstLogStatus (d : Dev) (slot : Nat) : Dev :=
  let w := d.wl
  let off := if logEnd ≤ w.logOff then logBase else w.logOff
  let last := w.logSealed.getD (Config.freeWord d.seed).toNat
  let d := if w.logSealed.isNone then d.draw else d
  respond d slot 0 0 (leBytes 4 off ++ leBytes 4 w.logIndex ++ leBytes 4 last ++ leBytes 4 w.logOpen) false

/-- PARSE_STATUS (Table VST.13). -/
def vstParseStatus (d : Dev) (slot : Nat) : Dev :=
  respond d slot 0 0 (leBytes 4 d.wl.parsed ++ leBytes 4 d.wl.unmatched ++ leBytes 4 d.wl.refused
    ++ [b8 d.wl.lastPort, 0#8, 0#8, 0#8]) false

/-! Commands. -/

/-- VST_COMMAND_TAKE (R116). -/
def execVstCommandTake (s : State) : Host.Outcome State Fault Refusal := fin s (commandTake s.dev)

/-- VST_NOP (R123). -/
def execVstNop (slot : Nat) (s : State) : Host.Outcome State Fault Refusal :=
  fin s (serve s.dev slot 0x01 (vstNop · slot))

/-- VST_GET_INFO (R123). -/
def execVstGetInfo (slot : Nat) (s : State) : Host.Outcome State Fault Refusal :=
  fin s (serve s.dev slot 0x02 (vstGetInfo · slot))

/-- VST_RESET (R124). -/
def execVstReset (slot : Nat) (s : State) : Host.Outcome State Fault Refusal :=
  fin s (serve s.dev slot 0x03 (vstReset · slot))

/-- VST_LIMP (R125). -/
def execVstLimp (slot : Nat) (s : State) : Host.Outcome State Fault Refusal :=
  fin s (serve s.dev slot 0x04 (vstLimp · slot))

/-- VST_DOZE (R125). -/
def execVstDoze (slot : Nat) (s : State) : Host.Outcome State Fault Refusal :=
  fin s (serve s.dev slot 0x05 (vstDoze · slot))

/-- VST_GET_SERVICE (R123). -/
def execVstGetService (slot : Nat) (s : State) : Host.Outcome State Fault Refusal :=
  fin s (serve s.dev slot 0x21 (vstGetService · slot))

/-- VST_TRIP (R134). -/
def execVstTrip (slot : Nat) (s : State) : Host.Outcome State Fault Refusal :=
  fin s (serve s.dev slot 0x30 (vstTrip · slot))

/-- VST_TRIP_ACK (R134). -/
def execVstTripAck (cmd : AckCmd) (s : State) : Host.Outcome State Fault Refusal :=
  fin s (serve s.dev cmd.slot 0x31 (vstTripAck · cmd.slot cmd.pulses))

/-- VST_LOG_MARK (R123). -/
def execVstLogMark (slot : Nat) (s : State) : Host.Outcome State Fault Refusal :=
  fin s (serve s.dev slot 0x50 (vstLogMark · slot))

/-- VST_LOG_SEAL (R465). -/
def execVstLogSeal (slot : Nat) (s : State) : Host.Outcome State Fault Refusal :=
  fin s (serve s.dev slot 0x51 (vstLogSeal · slot))

/-- VST_LOG_STATUS (R123). -/
def execVstLogStatus (slot : Nat) (s : State) : Host.Outcome State Fault Refusal :=
  fin s (serve s.dev slot 0x52 (vstLogStatus · slot))

/-- VST_PARSE_STATUS (R123). -/
def execVstParseStatus (slot : Nat) (s : State) : Host.Outcome State Fault Refusal :=
  fin s (serve s.dev slot 0x14 (vstParseStatus · slot))

end Sys2Proof.Machine
end

