-- ==== Sys2Proof/Machine/VstImage.lean ====
section
/-!
DEFINITION. Gallery images, bank switches and the channel-to-bay map as Vestibule commands (R127, R128, R329 to R342), the
parse table and the frames that it turns into samples (R28, R129 to R131).
-/

namespace Sys2Proof.Machine

/-- Atrium bytes read by Wailith in accesses of at most 256 bytes; none where an access got an error response. -/
def stewardRead : Nat → Dev → Nat → Nat → Option (List Byte) × Dev
  | 0, d, _, _ => (some [], d)
  | k + 1, d, a, n =>
    if n = 0 then (some [], d)
    else match atriumAccess d 0 false a (min 256 n) [] with
      | (.err _, d) => (none, d)
      | (.ok bs, d) =>
        match stewardRead k d (a + 256) (n - 256) with
        | (some r, d) => (some (bs ++ r), d)
        | (none, d) => (none, d)

/-- The whole of a region of the Atrium as Wailith reads it. -/
def readRegion (d : Dev) (a n : Nat) : Option (List Byte) × Dev := stewardRead (n / 256 + 1) d a n

/-- The source region of a command as Wailith reads it: undefined where the host has overwritten it since the doorbell (R151;
free bytes, log entry 9). -/
def readSource (d : Dev) (slot a n : Nat) : Option (List Byte) × Dev :=
  match readRegion d a n with
  | (some bs, d) =>
    if d.vst.touched.testBit slot then
      (some ((List.range n).map (fun i => Config.freeByte (d.seed + i))), { d with seed := d.seed + n })
    else (some bs, d)
  | r => r

/-- A region is aligned and lies wholly within the Atrium. -/
def regionOk (a n align : Nat) : Bool := a % align == 0 && decide (a + n ≤ 0x400000)

/-! Images. -/

/-- Fields of an image (Table GPR.1). -/
def imgWords (bs : List Byte) : Nat := leAt bs 0x40 4
def imgDescs (bs : List Byte) : Nat := leAt bs 0x44 2

/-- A descriptor keeps the rules of Table GPR.3 that do not depend on the element size (R343). -/
def descOk (b : List Byte) : Bool :=
  let base := leAt b 0 4
  let stride := leAt b 4 2
  let chmax := leAt b 6 2
  decide (1 ≤ stride) && decide (stride ≤ 4096) && decide (1 ≤ chmax) && decide (chmax ≤ 16383)
    && decide (base + (chmax - 1) * stride + 4 ≤ 0x400000) && !(leAt b 8 1).testBit 6 && leAt b 9 1 == 0
    && leAt b 0x0A 2 / 2 ^ 12 % 8 == 0 && leAt b 0x0C 4 == 0

/-- The image keeps the format rules, refusal reason 1 (R330, R68); `len` is the length the command gives. -/
def imgFormatOk (bs : List Byte) (len : Nat) : Bool :=
  let n := imgWords bs
  let k := imgDescs bs
  let yentry := leAt bs 0x2A 2
  let flags := leAt bs 0x3C 2
  leAt bs 0 4 == 0x4B4E4731 && leAt bs 4 4 == len && len == 0x60 + 8 * n + 16 * k + 32
    && bs.drop (len - 32) == sha256 (bs.take (len - 32)) && (recBad (sliceB bs 8 32) 4).isNone
    && (sliceB bs 0x46 26).all (· == 0#8) && decide (flags < 2)
    && decide (leAt bs 0x28 2 < n)
    && (if yentry = 0xFFFF then leAt bs 0x34 4 == 0 && leAt bs 0x38 2 == 0 && leAt bs 0x3A 2 == 0 else decide (yentry < n))
    && (flags == 1 || leAt bs 0x3E 2 == 0) && decide (k ≤ 64)
    && (List.range k).all (fun i => descOk (sliceB bs (0x60 + 8 * n + 16 * i) 16))

/-- Effective budget of an image with the current LAT and ANYLAT (R337). -/
def Dev.imgBeff (d : Dev) (bs : List Byte) : Nat :=
  leAt bs 0x2C 4 + leAt bs 0x30 2 * d.acts GSQ_SEAMLAT.LAT + leAt bs 0x32 2 * d.acts GSQ_ANYLAT.LAT

/-- The lowest refusal reason of an image, 0 for none (R330). -/
def Dev.imgReason (d : Dev) (bs : List Byte) (len : Nat) : Nat :=
  if !imgFormatOk bs len then 1
  else if d.rd SYS_VER_SC.MAJ * 256 + d.rd SYS_VER_SC.MIN < leAt bs 0x20 1 * 256 + leAt bs 0x21 1 then 2
  else if 16384 < imgWords bs then 3
  else if d.rd GSQ_FPER.CYCLES < d.imgBeff bs then 4
  else 0

/-- LOAD_GALLERY out (Table VST.7, R121). -/
def Dev.imgOut (d : Dev) (bs : List Byte) (reason : Nat) : List Byte :=
  if reason = 1 then 1#8 :: List.replicate 15 0#8
  else [b8 reason, 0#8, 0#8, 0#8] ++ leBytes 4 (d.imgBeff bs) ++ sliceB (bs.drop (bs.length - 32)) 0 8

/-- The instruction words of an image; a word of zeros is not listed. -/
def imgCode (bs : List Byte) : Table (BitVec 64) :=
  ((List.range (imgWords bs)).map (fun i => (i, BitVec.ofNat 64 (leAt bs (0x60 + 8 * i) 8)))).filter (fun e => e.2 != 0#64)

/-- An accepted image is copied into a bank, its descriptor store and GSQ_BANKINFO; the bank becomes IN_SERVICE (R332). -/
def bankLoad (d : Dev) (b : Nat) (bs : List Byte) : Dev :=
  let w := fun o => w32 (leAt bs o 4)
  let pb : PBank := { code := imgCode bs, ndesc := imgDescs bs, digest := bs.drop (bs.length - 32) }
  let d := d.setGal (fun g => { g with banks := setNth PBank.empty g.banks b pb })
  let d := (d.put (GSQ_BI_ENTRY.addr b) (w 0x28)).put (GSQ_BI_B0.addr b) (w 0x2C)
  let d := (d.put (GSQ_BI_N.addr b) (w 0x30)).put (GSQ_BI_YB0.addr b) (w 0x34)
  let d := (d.put (GSQ_BI_YN.addr b) (w 0x38)).put (GSQ_BI_SAFE.addr b)
    (w32 (2 ^ 16 * leAt bs 0x3E 2 + leAt bs 0x3C 2 % 2))
  let d := (List.range 256).foldl (fun d i =>
    d.put (RSR_DESC.addr (256 * b + i)) (if i < 4 * imgDescs bs then w (0x60 + 8 * imgWords bs + 4 * i) else 0#32)) d
  (d.wr GSQ_BANK.LOADED (setBit (d.rd GSQ_BANK.LOADED) b)).setSvc (.prog b) .inService

/-- The bank is the target of an armed switch. -/
def Dev.bankArmed (d : Dev) (b : Nat) : Bool := d.on GSQ_SWCTL.ARMED && d.rd GSQ_SWCTL.TARGET == b

/-- LOAD_GALLERY (R127, R330 to R332, R143, R151). -/
def vstLoadGallery (d : Dev) (slot : Nat) : Dev :=
  let a := d.cmdAt slot 8 4
  let len := d.cmdAt slot 12 4
  let b := d.cmdAt slot 16 1
  if d.cmdAt slot 17 3 ≠ 0 ∨ 2 ≤ b then complete d slot 4 [] true
  else if !regionOk a len 8 then complete d slot 0x0A [] true
  else if d.bankActive b ∨ d.bankArmed b ∨ d.svcOf (.prog b) = .underTest then complete d slot 6 [] true
  else match readSource d slot a len with
    | (none, d) => complete d slot 0x0C [] true
    | (some bs, d) =>
      let r := d.imgReason bs len
      if r = 0 then complete (bankLoad d b bs) slot 0 (d.imgOut bs 0) true else complete d slot 9 (d.imgOut bs r) true

/-! Bank switches. -/

/-- The members of the group besides this device. -/
def Dev.otherMembers (d : Dev) : List Nat := (bitsOf 8 (d.rd CNC_GRP.MEMBERS)).filter (· != d.pos)

/-- SWITCH_BANK (R128, R333, R334, R336): armed at once on a device that is not joined; in a group the lead arms itself, asks
every other member, and answers when all have armed. -/
def vstSwitchBank (d : Dev) (slot : Nat) : Dev :=
  let b := d.cmdAt slot 8 1
  if d.cmdAt slot 9 3 ≠ 0 ∨ 2 ≤ b then complete d slot 4 [] true
  else if !d.loaded b || d.bankActive b || d.on GSQ_SWCTL.ARMED || d.wl.swGroup.isSome then complete d slot 6 [] true
  else if d.otherMembers.isEmpty then
    let d := armSwitch d b (d.rd GSQ_FCNTLO.FCNT) 1
    complete d slot 0 (leBytes 4 (d.rd GSQ_SWREQ.REQ)) true
  else if !d.on CNC_GRP.ISLEAD then complete d slot 6 [] true
  else
    let at_ := (d.rd GSQ_FCNTLO.FCNT + 64) % 2 ^ 32
    let digest := leNat (nth PBank.empty d.gal.banks b).digest
    let d := armSwitch d b at_ 0
    let d := floodSb d none (groupMsg d.pos 0 0 at_ [b, digest])
    { d with wl := { d.wl with swGroup := some (b, at_, d.otherMembers, []), swSlot := some slot } }

/-! The map. -/

/-- The channels of a map of 16,384 entries; an entry of 0xFFFF is not listed (R342). -/
def mapTable (bs : List Byte) : Table Nat :=
  ((List.range 16384).map (fun i => (i, leAt bs (2 * i) 2))).filter (fun e => e.2 != 0xFFFF)

/-- LOAD_MAP (R342, R151). A region that is misaligned or out of range answers ADDR and is not read (log entry 86). -/
def vstLoadMap (d : Dev) (slot : Nat) : Dev :=
  let a := d.cmdAt slot 8 4
  let len := d.cmdAt slot 12 4
  if d.cmdAt slot 16 4 ≠ 0 then complete d slot 4 [] true
  else if len ≠ 32768 ∨ !regionOk a len 8 then complete d slot 0x0A [] true
  else match readSource d slot a len with
    | (none, d) => complete d slot 0x0C [] true
    | (some bs, d) =>
      if (List.range 16384).any (fun i => let v := leAt bs (2 * i) 2; decide (0x3FFF ≤ v) && decide (v ≤ 0xFFFE)) then
        complete d slot 4 [] true
      else
        let d := (d.setGal (fun g => { g with map2 := some (mapTable bs) })).wr RSR_MAPCTL.PEND 1
        complete d slot 0 [] true

/-! The parse table. -/

/-- The first field of a parse table header that breaks a rule: its byte offset (R129, Table VST.14). -/
def parseHeadBad (bs : List Byte) (len : Nat) : Option Nat :=
  if leAt bs 0 4 ≠ 0x4B4E5031 then some 0
  else if leAt bs 4 4 ≠ len ∨ leAt bs 4 4 ≠ 16 + 16 * (leAt bs 8 2 + leAt bs 0x0A 2) then some 4
  else if 1024 < leAt bs 8 2 then some 8
  else if 16383 < leAt bs 0x0A 2 then some 0x0A
  else if leAt bs 0x0C 4 ≠ 0 then some 0x0C
  else none

/-- A frame rule keeps Table VST.15. -/
def ruleOk (r : List Byte) (nfield : Nat) : Bool :=
  let mlen := leAt r 4 1
  let nf := leAt r 0x0E 2
  decide (leAt r 0 1 ≤ 47) && decide (leAt r 1 1 < 4) && decide (leAt r 2 2 ≤ 4095) && decide (mlen ≤ 4) && leAt r 5 1 == 0
    && decide (1 ≤ leAt r 6 2) && decide (leAt r 6 2 ≤ 4096) && decide (leAt r 8 4 < 256 ^ mlen) && decide (nf ≤ 256)
    && (nf == 0 || decide (leAt r 0x0C 2 + nf ≤ nfield))

/-- A field entry keeps Table VST.16. -/
def fieldOk (f : List Byte) : Bool :=
  let esz := leAt f 9 1
  let e := 2 ^ esz
  let width := leAt f 7 1
  decide (esz < 3) && leAt f 0 4 % e == 0 && decide (leAt f 0 4 + e ≤ 0x400000) && decide (leAt f 4 2 ≤ 4095)
    && decide (leAt f 6 1 ≤ 7) && decide (1 ≤ width) && decide (width ≤ 32) && decide (leAt f 6 1 + width ≤ 32)
    && decide (leAt f 8 1 < 8) && decide (width ≤ 8 * e) && (sliceB f 0x0A 6).all (· == 0#8)

/-- What LOAD_PARSE reports of a table: rules and fields checked good, and the offset of the first offence (R129). -/
def parseCheck (bs : List Byte) (len : Nat) : Nat × Nat × Option Nat :=
  match parseHeadBad bs len with
  | some o => (0, 0, some o)
  | none =>
    let nr := leAt bs 8 2
    let nf := leAt bs 0x0A 2
    match (List.range nr).find? (fun i => !ruleOk (sliceB bs (16 + 16 * i) 16) nf) with
    | some i => (i, 0, some (16 + 16 * i))
    | none =>
      match (List.range nf).find? (fun i => !fieldOk (sliceB bs (16 + 16 * (nr + i)) 16)) with
      | some i => (nr, i, some (16 + 16 * (nr + i)))
      | none => (nr, nf, none)

/-- LOAD_PARSE (R129, R121). A table that is misaligned or out of range answers ADDR and is not read, so that no fault of its
content can govern under R143 (log entry 86). -/
def vstLoadParse (d : Dev) (slot : Nat) : Dev :=
  let a := d.cmdAt slot 8 4
  let len := d.cmdAt slot 12 4
  if d.cmdAt slot 16 4 ≠ 0 then complete d slot 4 (parseOut 0 0 none) true
  else if !regionOk a len 16 then complete d slot 0x0A [] true
  else match readRegion d a len with
    | (none, d) => complete d slot 0x0C [] true
    | (some bs, d) =>
      match parseCheck bs len with
      | (r, f, some o) => complete d slot 4 (parseOut r f (some o)) true
      | (r, f, none) =>
        complete { d with wl := { d.wl with parse := some (a, r, f) } } slot 0 (parseOut r f none) true

/-! Frames. -/

/-- A closed frame as Wailith reads it from its cells: header fields and data (R198). -/
structure TakenFrame where
  fstat : Nat
  time : Nat
  data : List Byte
  deriving DecidableEq, Repr

/-- The data bytes of the cells from an address on, following the links; the first cell has its data at byte 8. -/
def cellData : Nat → Dev → Nat → Nat → Option (List Byte) × Dev
  | 0, d, _, _ => (some [], d)
  | k + 1, d, a, skip =>
    match atriumAccess d 0 false a 32 [] with
    | (.err _, d) => (none, d)
    | (.ok bs, d) =>
      let own := (bs.take 28).drop skip
      let link := leAt bs 28 4
      if link = 0 then (some own, d)
      else match cellData k d link 0 with
        | (some r, d) => (some (own ++ r), d)
        | (none, d) => (none, d)

/-- The frame whose chain begins at a cell. -/
def takeFrame (d : Dev) (a : Nat) : Option TakenFrame × Dev :=
  match cellData 256 d a 0 with
  | (none, d) => (none, d)
  | (some bs, d) =>
    (some { fstat := leAt bs 2 2, time := leAt bs 4 4, data := sliceB (bs.drop 8) 0 (leAt bs 0 2) }, d)

/-- A rule meets a frame of a port (R130). -/
def ruleMeets (r : List Byte) (port : Nat) (f : TakenFrame) : Bool :=
  let moff := leAt r 2 2
  let mlen := leAt r 4 1
  leAt r 0 1 == port && decide (leAt r 6 2 ≤ f.data.length) && decide (moff + mlen ≤ f.data.length)
    && sliceB f.data moff mlen == sliceB r 8 mlen

/-- The lowest-numbered rule from number `i` on that meets the frame; the table is read in place (R129, R130). -/
def findRule : Nat → Dev → Nat → Nat → Nat → TakenFrame → Option (List Byte) × Dev
  | 0, d, _, _, _, _ => (none, d)
  | k + 1, d, base, i, port, f =>
    match atriumAccess d 0 false (base + 16 + 16 * i) 16 [] with
    | (.err _, d) => findRule k d base (i + 1) port f
    | (.ok r, d) => if ruleMeets r port f then (some r, d) else findRule k d base (i + 1) port f

/-- The frame fails the FLAGS of a rule (Table VST.15). -/
def ruleRefuses (r : List Byte) (f : TakenFrame) : Bool :=
  let flags := leAt r 1 1
  (flags.testBit 0 && !(f.fstat.testBit 3 && !f.fstat.testBit 4))
    || (flags.testBit 1 && (f.fstat.testBit 5 || f.fstat.testBit 6 || f.fstat.testBit 7))

/-- The value a field entry takes from a frame, extended to its element size; none where its bytes run past the frame
(R130, Table VST.16). -/
def fieldValue (e : List Byte) (f : TakenFrame) : Option Nat :=
  let boff := leAt e 4 2
  let bit_ := leAt e 6 1
  let width := leAt e 7 1
  let flags := leAt e 8 1
  let nb := (bit_ + width + 7) / 8
  let raw : Option Nat :=
    if flags.testBit 2 then some (f.time % 2 ^ width)
    else if f.data.length < boff + nb then none
    else
      let bs := sliceB f.data boff nb
      some ((if flags.testBit 1 then beNat bs else leNat bs) / 2 ^ bit_ % 2 ^ width)
  raw.map (fun v => if flags.testBit 0 then (signed width v % 2 ^ (8 * 2 ^ leAt e 9 1)).toNat else v)

/-- One field entry is processed: its value is written to DEST as one access (R28, R130). -/
def parseField (d : Dev) (a : Nat) (f : TakenFrame) : Dev :=
  match atriumAccess d 0 false a 16 [] with
  | (.err _, d) => d
  | (.ok e, d) =>
    match fieldValue e f with
    | none => d
    | some v =>
      let n := 2 ^ (leAt e 9 1 % 4)
      (atriumAccess d 0 true (leAt e 0 4) n (leBytes n v)).2

/-- A frame that Wailith has taken is parsed (R130, R131). -/
def parseFrame (d : Dev) (port : Nat) (f : TakenFrame) : Dev :=
  let sat := fun n => min (n + 1) 0xFFFFFFFF
  let unmatched := fun (d : Dev) => { d with wl := { d.wl with unmatched := sat d.wl.unmatched, lastPort := port } }
  match d.wl.parse with
  | none => unmatched d
  | some (base, nr, _) =>
    match findRule nr d base 0 port f with
    | (none, d) => unmatched d
    | (some r, d) =>
      if ruleRefuses r f then { d with wl := { d.wl with refused := sat d.wl.refused } }
      else
        let first := leAt r 0x0C 2
        let d := (List.range (leAt r 0x0E 2)).foldl (fun d i => parseField d (base + 16 + 16 * (nr + first + i)) f) d
        { d with wl := { d.wl with parsed := sat d.wl.parsed } }

/-- FRAME_PARSE (R130, R199): in RUN, Wailith pops the oldest closed frame of a port of the flows that was given to it, parses
it and frees its chain. A frame that cannot be read is freed and counted nowhere (log entry 46). -/
def frameParse (d : Dev) (port : Nat) : Dev :=
  let s := d.svcOf (.bank (port / 8))
  if 48 ≤ port ∨ d.rd VST_FWSTAT.SERVER ≠ 1 ∨ d.mode ≠ .run ∨ (s ≠ .inService ∧ s ≠ .draining) then d
  else match (d.port port).closedQ with
  | [] => d
  | w :: _ =>
    let a := fld w 31 5 * 32
    let mine := match d.poolOf a with
      | some p => d.ownerAt (bufKey p ((a - d.poolBase p) / bufSize p)) == 1
      | none => false
    if !mine then d
    else
      let r := takeFrame (frmqPop d port).2 a
      let d := match r.1 with
        | some f => parseFrame r.2 port f
        | none => r.2
      (bpmMove d (some 1) w none).2

/-! Commands. -/

/-- VST_LOAD_GALLERY (R127). -/
def execVstLoadGallery (slot : Nat) (s : State) : Host.Outcome State Fault Refusal :=
  fin s (serve s.dev slot 0x10 (vstLoadGallery · slot))

/-- VST_SWITCH_BANK (R128). -/
def execVstSwitchBank (slot : Nat) (s : State) : Host.Outcome State Fault Refusal :=
  fin s (serve s.dev slot 0x11 (vstSwitchBank · slot))

/-- VST_LOAD_MAP (R342). -/
def execVstLoadMap (slot : Nat) (s : State) : Host.Outcome State Fault Refusal :=
  fin s (serve s.dev slot 0x12 (vstLoadMap · slot))

/-- VST_LOAD_PARSE (R129). -/
def execVstLoadParse (slot : Nat) (s : State) : Host.Outcome State Fault Refusal :=
  fin s (serve s.dev slot 0x13 (vstLoadParse · slot))

/-- FRAME_PARSE (R130). -/
def execFrameParse (port : Nat) (s : State) : Host.Outcome State Fault Refusal := fin s (frameParse s.dev port)

end Sys2Proof.Machine
end

