-- ==== Sys2Proof/Machine/VstConfig.lean ====
section
/-!
DEFINITION. SET_CONFIG and GET_CONFIG (R135 to R142, Tables VST.10 to VST.12).
-/

namespace Sys2Proof.Machine

/-- Blocks accepted (Table VST.11). -/
def cfgBlockOk (b : Nat) : Bool :=
  [0x00, 0x04, 0x05, 0x07, 0x08, 0x09, 0x0A, 0x0B, 0x0C, 0x0D, 0x0E, 0x0F, 0x30, 0x31].contains b
    || (decide (0x10 ≤ b) && decide (b < 0x16)) || (decide (0x20 ≤ b) && decide (b < 0x24))

/-- Registers of service-state fields: GSQ_SWCTL, GSQ_REPCTL, GSQ_COLMAP and ATC_BANKn (R136); and BAL_ACK, through which the
host acts only by TRIP_ACK (R484; log entry 47). -/
def cfgClosed (a : Nat) : Bool :=
  a == GSQ_SWCTL.addr || a == GSQ_SWAT.addr || a == GSQ_REPCTL.addr || (famIdx (GSQ_COLMAP.addr 0) 4 32 a).isSome
    || (famIdx (ATC_BANK.addr 0) 4 16 a).isSome || a == BAL_ACK.addr

/-- A named field: its register's address and its place and specification. -/
structure CfgField where
  addr : Nat
  spec : FieldSpec
  deriving DecidableEq, Repr

/-- The field. -/
def CfgField.fld (c : CfgField) : Fld := ⟨c.addr, c.spec.hi, c.spec.lo⟩

/-- The field that a FIELD_ID names in a block, where SET_CONFIG accepts it (Table VST.10, R136). -/
def cfgField (block fid res : Nat) : Option CfgField :=
  if 0x8000 ≤ fid ∨ res ≠ 0 ∨ 0x200 ≤ fid / 32 then none
  else
    let a := 0x40000000 + 0x1000 * block + 4 * (fid / 32)
    match specOf a with
    | none => none
    | some r =>
      match r.fields.find? (fun f => f.lo == fid % 32) with
      | none => none
      | some f =>
        if (f.acc == .rw || f.acc == .rmw || f.acc == .tw) && !cfgClosed a
          && (block != 0 || (a == SYS_INTEG.addr && f.lo == 8)) then some { addr := a, spec := f } else none

/-- FIELD_ID of entry `i`, where an entry takes `n` bytes. -/
def Dev.cfgFid (d : Dev) (slot n i : Nat) : Nat := d.cmdAt slot (16 + n * i) 2

/-- The structural pass (R136): the fields named, or the index of the first offending entry. -/
def Dev.cfgStruct (d : Dev) (slot n : Nat) : Except Nat (List CfgField) :=
  let block := d.cmdAt slot 8 1
  let count := d.cmdAt slot 9 1
  if !cfgBlockOk block then .error 0
  else (List.range count).foldl (fun acc i =>
    match acc with
    | .error k => .error k
    | .ok fs =>
      let fid := d.cfgFid slot n i
      match cfgField block fid (d.cmdAt slot (18 + n * i) 2) with
      | none => .error i
      | some f => if (List.range i).any (fun j => d.cfgFid slot n j == fid) then .error i else .ok (fs ++ [f])) (.ok [])

/-- The sub-header breaks a rule other than BLOCK (R135): its reserved bytes, or N. -/
def Dev.cfgHeadBad (d : Dev) (slot most : Nat) : Bool :=
  d.cmdAt slot 10 6 != 0 || d.cmdAt slot 9 1 == 0 || decide (most < d.cmdAt slot 9 1)

/-- The payload of a structural failure (R121, R136). -/
def cfgFailOut (i : Nat) : List Byte := [0xFF#8, b8 i] ++ List.replicate 6 0#8

/-- A value held to a range. -/
def clampTo (lo hi v : Nat) : Nat := if v < lo then lo else if hi < v then hi else v

/-- The range of GSQ_FPER.CYCLES (R339), of the latencies, which Wailith alone computes, and of every other field
(R137). -/
def Dev.cfgLimit (d : Dev) (c : CfgField) (v : Nat) : Nat :=
  if c.addr = GSQ_FPER.addr then
    let low := (List.range 2).foldl (fun m b => if d.loaded b then max m (d.beff b) else m) 16000
    clampTo low 80000000 v
  else if c.addr = GSQ_SEAMLAT.addr ∨ c.addr = GSQ_ANYLAT.addr then d.rd c.fld
  else match c.spec.lim with
  | .any => min v (2 ^ (c.spec.hi + 1 - c.spec.lo) - 1)
  | .range lo hi => clampTo lo hi v
  | .offOr lo hi => if v = 0 then 0 else clampTo lo hi v
  | .codes cs => if cs.contains v then v else d.rd c.fld

/-- The range pass on one entry: the value to apply and whether it was clamped (R137). Bits that a register holds fixed are
part of the applied value (R425). An undefined code of an enumerated field keeps the current value, and R137 does not say
whether that counts as clamped: the model does not count it, leaves it out of the clamp report and lets the command end with
OK (log entry 87). -/
def Dev.cfgRange (d : Dev) (c : CfgField) (v : Nat) : Nat × Bool :=
  let w := d.cfgLimit c v
  let enum := match c.spec.lim with | .codes _ => true | _ => false
  (fld (twinForced c.addr (w32 (w * 2 ^ c.spec.lo))) c.spec.hi c.spec.lo, !enum && w != v)

/-- Why the write of an entry stopped SET_CONFIG. -/
inductive CfgFail where
  | twin | bus
  deriving DecidableEq, Repr

/-- The bits of a register that a write stores as given. -/
def RegSpec.storeMask (r : RegSpec) : Word := r.bitsWhere (fun f => f.acc == .rw || f.acc == .rmw)

/-- A TW field by the twin protocol, and its applied value read back (R139). The other TW fields of the register are read
first. -/
def cfgWriteTwin (d : Dev) (c : CfgField) (r : RegSpec) (v : Nat) : Option CfgFail × Dev :=
  let m := maskOf c.spec.hi c.spec.lo
  let others := r.twMask &&& ~~~m
  let rd := if others = 0#32 then (.ok (wordBytes 0#32), d) else regRead d 0 0 c.addr 0#32
  match rd with
  | (.err _, d) => (some .bus, d)
  | (.ok bs, d) =>
    let w := (w32 (leNat bs) &&& others) ||| w32 (v * 2 ^ c.spec.lo)
    match regWriteAny d 0 0 c.addr w true with
    | (.err _, d) => (some .bus, d)
    | (.ok _, d) =>
      match regWriteAny d 0 0 (c.addr + 0x800) (~~~w) true with
      | (.err _, d) => (some .bus, d)
      | (.ok _, d) =>
        match regRead d 0 0 c.addr 0#32 with
        | (.err _, d) => (some .twin, d)
        | (.ok bs, d) => (if fld (w32 (leNat bs)) c.spec.hi c.spec.lo = v then none else some .twin, d)

/-- An RW field: the register is written with its other stored fields unchanged. What Wailith wrote of a port bank, it holds
for the bank's return to service (Table SVC.1). -/
def cfgWritePlain (d : Dev) (c : CfgField) (r : RegSpec) (v : Nat) : Option CfgFail × Dev :=
  let m := maskOf c.spec.hi c.spec.lo
  match regWriteAny d 0 0 c.addr ((d.view c.addr &&& r.storeMask &&& ~~~m) ||| w32 (v * 2 ^ c.spec.lo)) false with
  | (.err _, d) => (some .bus, d)
  | (.ok _, d) =>
    (none, if (pbkBank c.addr).isSome then
      { d with wl := { d.wl with bankCfg := tset regReset d.wl.bankCfg c.addr (d.ld c.addr) } } else d)

/-- One entry is applied (R139). -/
def cfgWrite1 (d : Dev) (c : CfgField) (v : Nat) : Option CfgFail × Dev :=
  match specOf c.addr with
  | none => (some .bus, d)
  | some r => if c.spec.acc = .tw then cfgWriteTwin d c r v else cfgWritePlain d c r v

/-- The entries are applied in order; how many were, and what stopped the rest (R139). -/
def cfgApply : Dev → List (CfgField × Nat) → Nat → Nat × Option CfgFail × Dev
  | d, [], k => (k, none, d)
  | d, (c, v) :: r, k =>
    match cfgWrite1 d c v with
    | (some e, d) => (k, some e, d)
    | (none, d) => cfgApply d r (k + 1)

/-- Wailith lets lock 0 go; the orphan flag it met is cleared after the last write (R141). -/
def cfgUnlock (d : Dev) (orphan : Bool) : Dev := (nwlRelease (if orphan then nwlClear d 1 0 else d) 1 0).2

/-- The clamp report (Table VST.12): FIELD_ID, requested value and applied value of each clamped entry. -/
def cfgReport (es : List (Nat × Nat × Nat × Bool)) : List Byte :=
  (es.filter (fun e => e.2.2.2)).flatMap (fun e => leBytes 2 e.1 ++ [0#8, 0#8] ++ leBytes 4 e.2.1 ++ leBytes 4 e.2.2.1)

/-- The payload as its COMMAND record carries it: each VALUE replaced by the applied value (Table LOG.5). -/
def Dev.cfgRecord (d : Dev) (slot : Nat) (es : List (Nat × Nat × Nat × Bool)) : List Byte :=
  d.cmdBytes slot 8 8 ++ es.flatMap (fun e => leBytes 2 e.1 ++ [0#8, 0#8] ++ leBytes 4 e.2.2.1)

/-- The range pass, the writes and the response, with lock 0 held (R137 to R141). An orphan flag met at the acquire is cleared
after the last write, also where that write stops the command; STRICT_REJECT writes nothing and leaves it (log entry 87). -/
def cfgRun (d : Dev) (slot : Nat) (fs : List CfgField) (orphan : Bool) : Dev :=
  let es := (List.range fs.length).map (fun i =>
    let v := d.cmdAt slot (20 + 8 * i) 4
    match fs[i]? with
    | some c => let r := d.cfgRange c v; (d.cfgFid slot 8 i, v, r.1, r.2)
    | none => (0, v, v, false))
  let m := (es.filter (fun e => e.2.2.2)).length
  let out := fun n => [b8 m, b8 n] ++ List.replicate 6 0#8 ++ cfgReport es
  if m ≠ 0 ∧ (d.cmdAt slot 1 1).testBit 0 then respond (cfgUnlock d false) slot 7 0 (out 0) false
  else match cfgApply d (fs.zip (es.map (fun e => e.2.2.1))) 0 with
    | (k, some .twin, d) => respond (cfgUnlock d orphan) slot 0x0B 0 (out k) false
    | (_, some .bus, d) => respond (cfgUnlock d orphan) slot 0x0C 0 [] false
    | (k, none, d) =>
      let d := cfgUnlock d orphan
      respondLogged d slot (if m = 0 then 0 else 1) (out k) false (d.cfgRecord slot es)

/-- SET_CONFIG (R135 to R141). Fields of GSQ and RSR wait for the gap between two frames: until then the slot stays BUSY and
nothing changes. While another holder has lock 0 the command waits, and a further VST_SET_CONFIG tries again. -/
def vstSetConfig (d : Dev) (slot : Nat) : Dev :=
  if d.cfgHeadBad slot 20 then respond d slot 4 0 [] false
  else match d.cfgStruct slot 8 with
    | .error i => respond d slot 4 0 (cfgFailOut i) false
    | .ok fs =>
      let block := d.cmdAt slot 8 1
      if (block = 0x0E ∨ block = 0x0F) ∧ d.inFrame then d
      else
        let r := nwlAcquire d 1 0
        if r.1.getLsbD 31 then
          cfgRun { r.2 with wl := { r.2.wl with cfgSlot := none } } slot fs (r.1.getLsbD 30)
        else
          let since := match d.wl.cfgSlot with
            | some (n, t) => if n = slot then t else d.now
            | none => d.now
          { r.2 with wl := { r.2.wl with cfgSlot := some (slot, since) } }

/-- SET_CONFIG_LOCK_TIMEOUT (R141): another holder has had lock 0 for 100 µs from the start of the wait. -/
def cfgTimeout (d : Dev) (slot : Nat) : Dev :=
  match d.wl.cfgSlot with
  | some (n, since) =>
    if n = slot ∧ d.slot slot = 2 ∧ d.holder 0 ≠ 0 ∧ d.holder 0 ≠ 1 then
      let d := d.until (100000 + since)
      respond { d with wl := { d.wl with cfgSlot := none } } slot 8 0 [] false
    else d
  | none => d

/-- The values GET_CONFIG returns, read one after another (R142); none where a read got an error response. -/
def cfgReads : Dev → List CfgField → Option (List Nat) × Dev
  | d, [] => (some [], d)
  | d, c :: r =>
    match regRead d 0 0 c.addr 0#32 with
    | (.err _, d) => (none, d)
    | (.ok bs, d) =>
      match cfgReads d r with
      | (some vs, d) => (some (fld (w32 (leNat bs)) c.spec.hi c.spec.lo :: vs), d)
      | (none, d) => (none, d)

/-- GET_CONFIG (R142). -/
def vstGetConfig (d : Dev) (slot : Nat) : Dev :=
  if d.cfgHeadBad slot 30 then respond d slot 4 0 [] false
  else match d.cfgStruct slot 4 with
    | .error i => respond d slot 4 0 (cfgFailOut i) false
    | .ok fs =>
      match cfgReads d fs with
      | (none, d) => respond d slot 0x0C 0 [] false
      | (some vs, d) =>
        let es := (List.range vs.length).flatMap (fun i =>
          leBytes 2 (d.cfgFid slot 4 i) ++ [0#8, 0#8] ++ leBytes 4 (nth 0 vs i))
        respond d slot 0 0 ([0#8, b8 vs.length] ++ List.replicate 6 0#8 ++ es) false

/-! Commands. -/

/-- VST_SET_CONFIG (R136). -/
def execVstSetConfig (slot : Nat) (s : State) : Host.Outcome State Fault Refusal :=
  fin s (serve s.dev slot 0x40 (vstSetConfig · slot))

/-- SET_CONFIG_LOCK_TIMEOUT (R141). -/
def execSetConfigLockTimeout (slot : Nat) (s : State) : Host.Outcome State Fault Refusal := fin s (cfgTimeout s.dev slot)

/-- VST_GET_CONFIG (R142). -/
def execVstGetConfig (slot : Nat) (s : State) : Host.Outcome State Fault Refusal :=
  fin s (serve s.dev slot 0x41 (vstGetConfig · slot))

end Sys2Proof.Machine
end

