-- ==== Sys2Proof/Machine/Service.lean ====
section
/-!
DEFINITION. Live service: SET_SERVICE, drains, REPAIR_COLUMN and the self-tests (R55, R56, R132, R133, R348, R420, R421,
R544 to R557).
-/

namespace Sys2Proof.Machine

/-! Units. -/

/-- The unit that a type and an index name (Table VST.8). -/
def unitOf (ty idx : Nat) : Option UnitId :=
  match ty with
  | 0 => if idx < 6 then some (.bank idx) else none
  | 1 => if idx < 2 then some (.prog idx) else none
  | 2 => if idx < 132 then some (.col idx) else none
  | 3 => if idx < 4 then some (.lane idx) else none
  | 4 => if idx < 16 then some (.atb idx) else none
  | _ => none

/-- The unit a command slot names in its first two payload bytes. -/
def Dev.cmdUnit (d : Dev) (slot : Nat) : Option UnitId := unitOf (d.cmdAt slot 8 1) (d.cmdAt slot 9 1)

/-- A region of the Atrium lies in part in a bank (R412). -/
def inBank (bank a n : Nat) : Bool := (pagesOf a n).any (fun p => p % 16 == bank)

/-- The level-2 tables that a peer's level-1 table points to (R430). -/
def Dev.level2 (d : Dev) (base : Nat) : List Nat :=
  ((List.range 1024).map (fun i => leNat (d.atrBytes (base + 8 * i) 8))).filterMap
    (fun e => if e % 2 = 1 then some (2 ^ 13 * (e / 2 ^ 13)) else none)

/-- The bank holds data for which Wailith refuses to take it out of service (R421): an enabled pool region or ring, a
translation table of a peer that is enabled, the parse table in use, the image copies of the last DOZE entry. -/
def Dev.bankPinned (d : Dev) (b : Nat) : Bool :=
  (List.range 5).any (fun p => d.poolEn p &&
      (inBank b (d.poolBase p) (d.poolCount p * bufSize p) || inBank b (d.poolRing p) (d.poolCount p * 4)))
    || (List.range 8).any (fun p => d.on (CWT_BASE.EN p) &&
      (let base := 8192 * fld (d.ld (CWT_BASE.addr p)) 31 13
       inBank b base 8192 || (d.level2 base).any (fun t => inBank b t 8192)))
    || (match d.wl.parse with | some (a, nr, nf) => inBank b a (16 + 16 * (nr + nf)) | none => false)
    || inBank b d.wl.copyAt (copiesBytes d.wl.copies).length

/-- The transition that a request asks for is one of R56, Table SVC.1, R332, R362 and R421. -/
def Dev.svcPermits (d : Dev) (u : UnitId) (want : Svc) : Bool :=
  match d.svcOf u, want with
  | .inService, .outOfService =>
    match u with
    | .prog b => !d.bankActive b && !d.bankArmed b
    | .col _ => false
    | .atb n => !d.bankPinned n
    | _ => true
  | .outOfService, .inService =>
    match u with
    | .prog _ | .col _ => false
    | .lane l => (neighborOf d.topo d.pos l).isSome
    | _ => true
  | .outOfService, .underTest => true
  | .underTest, .outOfService => true
  | _, _ => false

/-! What reaching a state does. -/

/-- A program bank goes OUT_OF_SERVICE: its words are cleared and it is not loaded (Table SVC.1). -/
def progOut (d : Dev) (b : Nat) : Dev :=
  let d := d.setGal (fun g => { g with banks := setNth PBank.empty g.banks b { nth PBank.empty g.banks b with code := [] } })
  (d.wr GSQ_BANK.LOADED (clrBit (d.rd GSQ_BANK.LOADED) b)).setSvc (.prog b) .outOfService

/-- A lane goes OUT_OF_SERVICE on request: a lane that has a peer to talk to sends LEAVE, the lane is in its block reset, the
edge that it served is dead, its buffers are reclaimed and the group changes (R374, R375, R381, R259). -/
def laneOut (d : Dev) (l : Nat) : Dev :=
  let was := d.joined l
  let joining := decide (3 ≤ d.lstate l) && decide (d.lstate l ≤ 5)
  let leave : List SbMsg :=
    if 2 ≤ d.lstate l then [{ type := 0x04, origin := d.pos, hops := 0, copy := false, payload := [] }] else []
  let d := (laneBlk d l).setLane l { Lane.idle with dead := (d.lane l).dead || d.edgeServes l, txq := leave }
  let d := if joining then withdrawUpdate d else d
  let d := reclaimOwner (d.setSvc (.lane l) .outOfService) (8 + l)
  if was then regroup (sendLinkstate d) else d

/-- An Atrium bank goes OUT_OF_SERVICE: retention, or off (R419). -/
def atbOut (d : Dev) (n : Nat) : Dev :=
  let d := d.setSvc (.atb n) .outOfService
  if d.on (ATC_BANK.OOSPWR n) then { d with atrOff := setBit d.atrOff n } else d

/-- A unit reaches OUT_OF_SERVICE (Table SVC.1). -/
def unitOut (d : Dev) : UnitId → Dev
  | .bank b => bankOut d b
  | .prog b => progOut d b
  | .col c => d.setSvc (.col c) .outOfService
  | .lane l => laneOut d l
  | .atb n => atbOut d n

/-- A port bank returns: its ports start from their reset values and Wailith rewrites the configuration it holds
(Table SVC.1). -/
def bankIn (d : Dev) (b : Nat) : Dev :=
  (d.wl.bankCfg.filter (fun e => pbkBank e.1 == some b)).foldl (fun d e => (regWriteAny d 0 0 e.1 e.2 false).2)
    (d.setSvc (.bank b) .inService)

/-- The command of a slot waits for the unit's transition. -/
def svcWait (d : Dev) (u : UnitId) (slot : Nat) : Dev :=
  { d with wl := { d.wl with svcSlot := tset (fun _ => []) d.wl.svcSlot u.key [slot] } }

/-- A state of a unit as SET_SERVICE out. -/
def svcOut (n : Nat) : List Byte := [b8 n, 0#8, 0#8, 0#8]

/-- A permitted transition is started, or made at once (R132, R213, R419, Table SVC.1). -/
def svcStart (d : Dev) (u : UnitId) (want : Svc) (slot : Nat) (rxing : List Nat) : Dev :=
  let done := fun (d : Dev) => complete d slot 0 (svcOut (d.svcOf u).code) true
  match d.svcOf u, want with
  | .inService, _ =>
    let d := match u with
      | .bank b => bankForce d b rxing
      | _ => d
    svcWait (d.setSvc u .draining) u slot
  | .underTest, _ => done (unitOut d u)
  | _, .inService =>
    match u with
    | .bank b => done (bankIn d b)
    | .lane l => svcWait (laneStart (d.setSvc u .inService) l) u slot
    | _ => svcWait d u slot
  | _, _ =>
    match u with
    | .atb _ => svcWait d u slot
    | _ => done (d.setSvc u .underTest)

/-- A SET_SERVICE or SELFTEST of the unit is under way: a further command for it waits (R556). -/
def Dev.unitBusy (d : Dev) (u : UnitId) : Bool :=
  !(tget (fun _ => []) d.wl.svcSlot u.key).isEmpty || d.wl.testSlot.any (fun e => e.1 == u.key)

/-- The state that byte 2 of SET_SERVICE asks for; DRAINING and undefined codes name none (R132). -/
def svcAsked (c : Nat) : Option Svc :=
  match c with
  | 0 => some .inService
  | 2 => some .outOfService
  | 3 => some .underTest
  | _ => none

/-- SET_SERVICE (R56, R132, R332, R421, R544, R556); `rxing` names the ports that have a character in their shifter (R213). -/
def vstSetService (d : Dev) (slot : Nat) (rxing : List Nat) : Dev :=
  match d.cmdUnit slot, svcAsked (d.cmdAt slot 10 1) with
  | some u, some want =>
    if d.cmdAt slot 11 1 ≠ 0 then complete d slot 4 [] true
    else if d.unitBusy u then d
    else if !d.svcPermits u want then complete d slot 6 (svcOut (d.svcOf u).code) true
    else svcStart d u want slot rxing
  | _, _ => complete d slot 4 [] true

/-! Drains. -/

/-- What DRAINING waits for has ended (Table SVC.1): a bank's messages and characters in progress; a lane's remote access, and
then the frame end, so that a shift in progress is kept (R374, R383). -/
def Dev.drained (d : Dev) (u : UnitId) : Bool :=
  match u with
  | .bank b => (portsOf b).all (fun n => (d.port n).tx.isNone && !(d.port n).lastChar)
  | .lane l => !(d.lane l).raFly && !d.inFrame && d.gal.stall.isNone
  | _ => true

/-- DRAIN_COMPLETE (R56, R132, R544); in LANDING no command completes (R147). -/
def drainDone (d : Dev) (ty idx : Nat) : Dev :=
  match unitOf ty idx with
  | none => d
  | some u => if d.niOpen 0 ∧ d.svcOf u = .draining ∧ d.drained u then svcReport (unitOut d u) u else d

/-- DRAIN_TIMEOUT (R545): the bank is forced OUT_OF_SERVICE; each port that was still sending counts TXABORT. -/
def drainForce (d : Dev) (b : Nat) (sending : List Nat) : Dev :=
  if 6 ≤ b ∨ !d.niOpen 0 ∨ d.svcOf (.bank b) ≠ .draining then d
  else
    let cut := (portsOf b).filter (fun n => sending.contains n && (d.port n).tx.isSome)
    let d := cut.foldl (fun d n => d.bump (PBK_CNT4.TXABORT n) 1) (bankOut d b)
    svcReport d (.bank b)

/-! Column repair. -/

/-- State of spare k. -/
def Dev.spareOf (d : Dev) (k : Nat) : Svc := d.svcOf (.col (128 + k))

/-- A repair is armed by Wailith (R348). -/
def repairArm (d : Dev) (slot col spare : Nat) : Dev :=
  let d := ((d.wr GSQ_REPCTL.LCOL col).wr GSQ_REPCTL.SPARE spare).wr GSQ_REPCTL.ARMED 1
  { (d.setGal (fun g => { g with repReady := false })) with wl := { d.wl with repSlot := some slot } }

/-- REPAIR_COLUMN (R133, R348, R555): a second repair waits for the one that is armed. -/
def vstRepairColumn (d : Dev) (slot : Nat) : Dev :=
  let col := d.cmdAt slot 8 1
  let spare := d.cmdAt slot 9 1
  if d.cmdAt slot 10 2 ≠ 0 ∨ 128 ≤ col ∨ (4 ≤ spare ∧ spare ≠ 0xFF) then complete d slot 4 [] true
  else if d.on GSQ_REPCTL.ARMED then d
  else if spare = 0xFF then
    match (List.range 4).find? (fun k => d.spareOf k == .outOfService) with
    | some k => repairArm d slot col k
    | none => complete d slot 6 (svcOut 0xFF) true
  else if d.spareOf spare = .outOfService then repairArm d slot col spare
  else complete d slot 6 (svcOut (d.spareOf spare).code) true

/-! Self-tests. -/

/-- The test is listed for the unit (Table SVC.2). -/
def testListed (u : UnitId) (t : Nat) : Bool :=
  1 ≤ t && (match u with
    | .bank _ => decide (t ≤ 4)
    | .prog _ => decide (t ≤ 1)
    | .col _ => decide (t ≤ 2)
    | .lane _ => decide (t ≤ 5)
    | .atb _ => decide (t ≤ 2))

/-- Lane test 4 needs the opposite lane UNDER_TEST or OUT_OF_SERVICE (R549). -/
def Dev.testBlocked (d : Dev) (u : UnitId) (t : Nat) : Bool :=
  match u with
  | .lane l => t == 4 && (let s := d.svcOf (.lane ((l + 2) % 4)); s != .underTest && s != .outOfService)
  | _ => false

/-- The loop-back settings that a test uses; 0 for none (R547, Tables PFE.3, CNC.7, SVC.2). A message in progress completes on
the old path (R239). -/
def testLoops (d : Dev) (u : UnitId) (t : Nat) : Dev :=
  match u with
  | .bank b => (portsOf b).foldl (fun d n => lineDue (d.wr (PBK_LOOP.DEPTH n) t) n) d
  | .lane l =>
    let d := d.wr (CNC_CTRL.LOOP l) (if t = 5 then 2 else t)
    let d := d.wr (CNC_CTRL.FARLOOP l) 0
    d.wr (CNC_CTRL.PRBS l) (if t = 3 then 1 else if t = 5 then 2 else 0)
  | _ => d

/-- SELFTEST (R133, R547, R549): the test starts on a unit that is UNDER_TEST. -/
def vstSelftest (d : Dev) (slot : Nat) : Dev :=
  let t := d.cmdAt slot 10 1
  match d.cmdUnit slot with
  | none => complete d slot 4 [] true
  | some u =>
    if !testListed u t ∨ d.cmdAt slot 11 1 ≠ 0 then complete d slot 4 [] true
    else if d.unitBusy u then d
    else if d.svcOf u ≠ .underTest ∨ d.testBlocked u t then complete d slot 6 [] true
    else
      let d := testLoops d u t
      { d with wl := { d.wl with testSlot := tset (fun _ => (0, 0)) d.wl.testSlot u.key (slot, t) } }

/-- What a test leaves behind (Table SVC.2): a program bank and an Atrium bank are cleared; the PRBS tests count their errors
in CNC_PRBSCNT, and an error sets PRBSERR (R378). -/
def testAfter (d : Dev) (u : UnitId) (t detail : Nat) : Dev :=
  match u with
  | .prog b => d.setGal (fun g => { g with banks := setNth PBank.empty g.banks b { nth PBank.empty g.banks b with code := [] } })
  | .atb n => bankZero d n
  | .lane l =>
    if t = 3 ∨ t = 5 then
      let d := (d.wr (CNC_PRBSCNT.ERRS l) (min detail 0x7FFFFFFF)).wr (CNC_PRBSCNT.LOCK l) 0
      if detail = 0 then d else d.wr (CNC_ERR.PRBSERR l) 1
    else d
  | _ => d

/-- A test ends with a result and a detail word: its loop-backs are cleared and the command completes (R547). -/
def testEnd (d : Dev) (u : UnitId) (result detail : Nat) : Dev :=
  match d.wl.testSlot.find? (fun e => e.1 == u.key) with
  | none => d
  | some (_, slot, t) =>
    let d := testLoops (testAfter d u t detail) u 0
    let d := { d with wl := { d.wl with testSlot := tdrop (· == u.key) d.wl.testSlot } }
    complete d slot 0 (leBytes 4 result ++ leBytes 4 detail) true

/-- SELFTEST_COMPLETE (R547, R548): a column test ends in a gap between frames. -/
def testDone (d : Dev) (ty idx result detail : Nat) : Dev :=
  match unitOf ty idx with
  | none => d
  | some u =>
    if d.rd VST_FWSTAT.SERVER ≠ 1 ∨ d.mode ≠ .run then d
    else match u with
    | .col _ => if d.inFrame then d else testEnd d u result detail
    | _ => testEnd d u result detail

/-- SELFTEST_GAP_TIMEOUT (R548): no long enough gap within 1 s. With no active bank every gap qualifies. No rule gives the
detail word (free value, log entry 9). -/
def testGap (d : Dev) (c : Nat) : Dev :=
  if 132 ≤ c ∨ d.mode ≠ .run ∨ d.activeBank.isNone then d
  else testEnd d.draw (.col c) 0xFFFFFFFF (Config.freeWord d.seed).toNat

/-! Commands. -/

/-- VST_SET_SERVICE (R132). -/
def execVstSetService (cmd : ServiceCmd) (s : State) : Host.Outcome State Fault Refusal :=
  fin s (serve s.dev cmd.slot 0x20 (vstSetService · cmd.slot cmd.rxing))

/-- VST_REPAIR_COLUMN (R133). -/
def execVstRepairColumn (slot : Nat) (s : State) : Host.Outcome State Fault Refusal :=
  fin s (serve s.dev slot 0x22 (vstRepairColumn · slot))

/-- VST_SELFTEST (R547). -/
def execVstSelftest (slot : Nat) (s : State) : Host.Outcome State Fault Refusal :=
  fin s (serve s.dev slot 0x23 (vstSelftest · slot))

/-- DRAIN_COMPLETE (R56). -/
def execDrainComplete (ty idx : Nat) (s : State) : Host.Outcome State Fault Refusal := fin s (drainDone s.dev ty idx)

/-- DRAIN_TIMEOUT (R545). -/
def execDrainTimeout (bank : Nat) (sending : List Nat) (s : State) : Host.Outcome State Fault Refusal :=
  fin s (drainForce s.dev bank sending)

/-- SELFTEST_COMPLETE (R547). -/
def execSelftestComplete (ty idx result detail : Nat) (s : State) : Host.Outcome State Fault Refusal :=
  fin s (testDone s.dev ty idx result detail)

/-- SELFTEST_GAP_TIMEOUT (R548). -/
def execSelftestGapTimeout (col : Nat) (s : State) : Host.Outcome State Fault Refusal := fin s (testGap s.dev col)

end Sys2Proof.Machine
end

