-- ==== Sys2Proof/Machine/Jtag.lean ====
section
/-!
DEFINITION. The TAP and the boundary register (R551, R552). No instruction reaches anything but the TAP's own registers and
the boundary pins; the trip pins have observe-only cells.
-/

namespace Sys2Proof.Machine

/-- Codes of the TAP instruction in force: 0 BYPASS, 1 IDCODE, 2 SAMPLE/PRELOAD, 3 EXTEST, 4 EXTEST_PULSE, 5 EXTEST_TRAIN,
6 CLAMP, 7 HIGHZ. The codes are the model's own (log entry 48). -/
def tapSet (d : Dev) (ir : Nat) (dr tdo : List Bool) : Dev :=
  { d with pins := { d.pins with jtagIr := ir, jtagDr := dr, tdo := tdo } }

/-- IDCODE (R551). -/
def tapIdcode : Word := 0x24808B47#32

/-- Bits shifted through the one-bit bypass register, which starts at 0 (IEEE 1149.1). -/
def bypassOut (tdi : List Bool) : List Bool := (false :: tdi).take tdi.length

/-- EXTEST, EXTEST_PULSE, EXTEST_TRAIN, CLAMP and HIGHZ act (R552). -/
def Dev.tapActs (d : Dev) : Bool := d.mode == .boot && d.on SYS_STRAP.BOOTSEL

/-- The BYPASS instruction. -/
def tapBypass (d : Dev) (tdi : List Bool) : Dev := tapSet d 0 d.pins.jtagDr (bypassOut tdi)

/-- An EXTEST form: the boundary register takes the cells and the old contents come out; BYPASS where it does not act. -/
def tapExtest (d : Dev) (ir : Nat) (cells : List Bool) : Dev :=
  if d.tapActs then tapSet d ir cells d.pins.jtagDr else tapBypass d cells

/-- CLAMP or HIGHZ: the bypass register is selected; BYPASS where it does not act. -/
def tapHold (d : Dev) (ir : Nat) (tdi : List Bool) : Dev :=
  if d.tapActs then tapSet d ir d.pins.jtagDr (bypassOut tdi) else tapBypass d tdi

/-- SAMPLE/PRELOAD: captured levels come out, or the boundary register is loaded while its old contents come out. -/
def tapSample (d : Dev) (bits : List Bool) (load : Bool) : Dev :=
  tapSet d 2 bits (if load then d.pins.jtagDr else bits)

/-- JTAG_BYPASS (R551). -/
def execJtagBypass (tdi : List Bool) (s : State) : Host.Outcome State Fault Refusal := fin s (tapBypass s.dev tdi)

/-- JTAG_IDCODE (R551): least significant bit first. -/
def execJtagIdcode (s : State) : Host.Outcome State Fault Refusal :=
  fin s (tapSet s.dev 1 s.dev.pins.jtagDr ((List.range 32).map tapIdcode.getLsbD))

/-- JTAG_SAMPLE_PRELOAD (R552). -/
def execJtagSamplePreload (capture : List Bool) (load : Bool) (s : State) : Host.Outcome State Fault Refusal :=
  fin s (tapSample s.dev capture load)

/-- JTAG_EXTEST (R552). -/
def execJtagExtest (cells : List Bool) (s : State) : Host.Outcome State Fault Refusal := fin s (tapExtest s.dev 3 cells)

/-- JTAG_EXTEST_PULSE (R552). -/
def execJtagExtestPulse (cells : List Bool) (s : State) : Host.Outcome State Fault Refusal :=
  fin s (tapExtest s.dev 4 cells)

/-- JTAG_EXTEST_TRAIN (R552). -/
def execJtagExtestTrain (cells : List Bool) (s : State) : Host.Outcome State Fault Refusal :=
  fin s (tapExtest s.dev 5 cells)

/-- JTAG_CLAMP (R552). -/
def execJtagClamp (tdi : List Bool) (s : State) : Host.Outcome State Fault Refusal := fin s (tapHold s.dev 6 tdi)

/-- JTAG_HIGHZ (R552). -/
def execJtagHighz (tdi : List Bool) (s : State) : Host.Outcome State Fault Refusal := fin s (tapHold s.dev 7 tdi)

end Sys2Proof.Machine
end

