-- ==== Sys2Proof/Machine/Dispatch.lean ====
section
/-!
DEFINITION. The meaning of every command: one arm per constructor of Instr.
-/

namespace Sys2Proof.Machine

def exec (i : Instr) (s : State) : Host.Outcome State Fault Refusal :=
  match i with
  | .registerWrite sender addr data twin hwSets => Sys2Proof.Machine.execRegisterWrite sender addr data twin hwSets s
  | .readClearRead sender addr incs => Sys2Proof.Machine.execReadClearRead sender addr incs s
  | .twinValueWrite addr data => Sys2Proof.Machine.execTwinValueWrite addr data s
  | .twinComplementWrite addr data => Sys2Proof.Machine.execTwinComplementWrite addr data s
  | .twinWindowExpiry block => Sys2Proof.Machine.execTwinWindowExpiry block s
  | .twinScrubPass us => Sys2Proof.Machine.execTwinScrubPass us s
  | .integCountDecay => Sys2Proof.Machine.execIntegCountDecay s
  | .powerUpAon straps => Sys2Proof.Machine.execPowerUpAon straps s
  | .rstNReset straps limpCause => Sys2Proof.Machine.execRstNReset straps limpCause s
  | .sysRstreq init data => Sys2Proof.Machine.execSysRstreq init data s
  | .pllLock fail => Sys2Proof.Machine.execPllLock fail s
  | .bootctlGo init data => Sys2Proof.Machine.execBootctlGo init data s
  | .bootVholdReady => Sys2Proof.Machine.execBootVholdReady s
  | .bootDeadlineExpiry => Sys2Proof.Machine.execBootDeadlineExpiry s
  | .sysLimpClr data cause => Sys2Proof.Machine.execSysLimpClr data cause s
  | .limpEntry reason detail => Sys2Proof.Machine.execLimpEntry reason detail s
  | .dozeEntryComplete => Sys2Proof.Machine.execDozeEntryComplete s
  | .wakeEvent limpTag => Sys2Proof.Machine.execWakeEvent limpTag s
  | .wakeRestoreComplete => Sys2Proof.Machine.execWakeRestoreComplete s
  | .stewardReset cause => Sys2Proof.Machine.execStewardReset cause s
  | .drainComplete ty idx => Sys2Proof.Machine.execDrainComplete ty idx s
  | .drainTimeout bank sending => Sys2Proof.Machine.execDrainTimeout bank sending s
  | .csNFall sclkHigh => Sys2Proof.Machine.execCsNFall sclkHigh s
  | .hlWr bytes partial_ => Sys2Proof.Machine.execHlWr bytes partial_ s
  | .hlRd bytes answer => Sys2Proof.Machine.execHlRd bytes answer s
  | .hlRdlast bytes => Sys2Proof.Machine.execHlRdlast bytes s
  | .hlRdsum bytes => Sys2Proof.Machine.execHlRdsum bytes s
  | .hlEcho bytes => Sys2Proof.Machine.execHlEcho bytes s
  | .hlCfgwr bytes partial_ => Sys2Proof.Machine.execHlCfgwr bytes partial_ s
  | .hlCfgrd bytes partial_ => Sys2Proof.Machine.execHlCfgrd bytes partial_ s
  | .hlReset bytes => Sys2Proof.Machine.execHlReset bytes s
  | .hlUnknownOpcode op => Sys2Proof.Machine.execHlUnknownOpcode op s
  | .bridgeWriteIssue => Sys2Proof.Machine.execBridgeWriteIssue s
  | .bridgeWriteResponse => Sys2Proof.Machine.execBridgeWriteResponse s
  | .bridgeReadIssue => Sys2Proof.Machine.execBridgeReadIssue s
  | .bridgeReadComplete cycles => Sys2Proof.Machine.execBridgeReadComplete cycles s
  | .iptId => Sys2Proof.Machine.execIptId s
  | .iptStatus => Sys2Proof.Machine.execIptStatus s
  | .iptRead addr n => Sys2Proof.Machine.execIptRead addr n s
  | .iptOtherOpcode op => Sys2Proof.Machine.execIptOtherOpcode op s
  | .iptCountSample => Sys2Proof.Machine.execIptCountSample s
  | .vstCmdSlotWrite init slot word data => Sys2Proof.Machine.execVstCmdSlotWrite init slot word data s
  | .vstDoorbell data => Sys2Proof.Machine.execVstDoorbell data s
  | .vstDoneWrite data => Sys2Proof.Machine.execVstDoneWrite data s
  | .vstCommandTake => Sys2Proof.Machine.execVstCommandTake s
  | .setConfigLockTimeout slot => Sys2Proof.Machine.execSetConfigLockTimeout slot s
  | .frameParse port => Sys2Proof.Machine.execFrameParse port s
  | .icuClaim host pulse => Sys2Proof.Machine.execIcuClaim host pulse s
  | .icuEoi host src pulse => Sys2Proof.Machine.execIcuEoi host src pulse s
  | .icuPendWrite k data pulses => Sys2Proof.Machine.execIcuPendWrite k data pulses s
  | .icuCfgWrite k data => Sys2Proof.Machine.execIcuCfgWrite k data s
  | .evqPostc init data => Sys2Proof.Machine.execEvqPostc init data s
  | .evqPop init data => Sys2Proof.Machine.execEvqPop init data s
  | .nwlAcq sender n holderReset => Sys2Proof.Machine.execNwlAcq sender n holderReset s
  | .nwlRel sender n data holderReset => Sys2Proof.Machine.execNwlRel sender n data holderReset s
  | .nwlOrphanClear sender k data cycle => Sys2Proof.Machine.execNwlOrphanClear sender k data cycle s
  | .nwlForce init data => Sys2Proof.Machine.execNwlForce init data s
  | .characterReceive rx ch startMark parityBad stopLow => Sys2Proof.Machine.execCharacterReceive rx ch startMark parityBad stopLow s
  | .frameGive port => Sys2Proof.Machine.execFrameGive port s
  | .breakReceive rx => Sys2Proof.Machine.execBreakReceive rx s
  | .idleLine port => Sys2Proof.Machine.execIdleLine port s
  | .gapExpiry port => Sys2Proof.Machine.execGapExpiry port s
  | .lineDown port => Sys2Proof.Machine.execLineDown port s
  | .lineUp port => Sys2Proof.Machine.execLineUp port s
  | .cellSpill port => Sys2Proof.Machine.execCellSpill port s
  | .rawRingWrite port => Sys2Proof.Machine.execRawRingWrite port s
  | .pbkFrmqPop init port => Sys2Proof.Machine.execPbkFrmqPop init port s
  | .abdEnable port data => Sys2Proof.Machine.execAbdEnable port data s
  | .abdMeasure port edges m => Sys2Proof.Machine.execAbdMeasure port edges m s
  | .abdTimeout port => Sys2Proof.Machine.execAbdTimeout port s
  | .abdRearm port => Sys2Proof.Machine.execAbdRearm port s
  | .portWakeEdge ports => Sys2Proof.Machine.execPortWakeEdge ports s
  | .shifterClockSwitch port => Sys2Proof.Machine.execShifterClockSwitch port s
  | .pbkTxqWrite init port data => Sys2Proof.Machine.execPbkTxqWrite init port data s
  | .txMessageStart tx => Sys2Proof.Machine.execTxMessageStart tx s
  | .txGap port => Sys2Proof.Machine.execTxGap port s
  | .txMessageDone tx => Sys2Proof.Machine.execTxMessageDone tx s
  | .ctsTimeout port => Sys2Proof.Machine.execCtsTimeout port s
  | .collision port => Sys2Proof.Machine.execCollision port s
  | .retryBackoffEnd port => Sys2Proof.Machine.execRetryBackoffEnd port s
  | .bpmPoolEnable p data => Sys2Proof.Machine.execBpmPoolEnable p data s
  | .bpmPoolDisable p data => Sys2Proof.Machine.execBpmPoolDisable p data s
  | .poolInitComplete p => Sys2Proof.Machine.execPoolInitComplete p s
  | .bpmAlloc init p => Sys2Proof.Machine.execBpmAlloc init p s
  | .bpmAllocfit init c => Sys2Proof.Machine.execBpmAllocfit init c s
  | .bpmFree init data => Sys2Proof.Machine.execBpmFree init data s
  | .bpmGive init o data => Sys2Proof.Machine.execBpmGive init o data s
  | .bpmReclaim init data => Sys2Proof.Machine.execBpmReclaim init data s
  | .bpmRebuild init data => Sys2Proof.Machine.execBpmRebuild init data s
  | .rebuildComplete p => Sys2Proof.Machine.execRebuildComplete p s
  | .cacheRefill p => Sys2Proof.Machine.execCacheRefill p s
  | .cacheWriteback p => Sys2Proof.Machine.execCacheWriteback p s
  | .frameStart => Sys2Proof.Machine.execFrameStart s
  | .galPowerUpClear => Sys2Proof.Machine.execGalPowerUpClear s
  | .seamStallEnd seam => Sys2Proof.Machine.execSeamStallEnd seam s
  | .seamAbort seam => Sys2Proof.Machine.execSeamAbort seam s
  | .riserTransferComplete late => Sys2Proof.Machine.execRiserTransferComplete late s
  | .nwlResult => Sys2Proof.Machine.execNwlResult s
  | .galIllegal word => Sys2Proof.Machine.execGalIllegal word s
  | .budgetExceeded => Sys2Proof.Machine.execBudgetExceeded s
  | .planeWindowAccess write addr len data => Sys2Proof.Machine.execPlaneWindowAccess write addr len data s
  | .laneTrained lane taps => Sys2Proof.Machine.execLaneTrained lane taps s
  | .laneTrainFail lane => Sys2Proof.Machine.execLaneTrainFail lane s
  | .helloTimeout lane => Sys2Proof.Machine.execHelloTimeout lane s
  | .laneAlign lane fcnt => Sys2Proof.Machine.execLaneAlign lane fcnt s
  | .sbHello lane pos topo fabgen wlgen ranges ppm fper digest leadPos size settled => Sys2Proof.Machine.execSbHello lane pos topo fabgen wlgen ranges ppm fper digest leadPos size settled s
  | .sbLatch lane origin hops copy vec seq => Sys2Proof.Machine.execSbLatch lane origin hops copy vec seq s
  | .sbGany lane origin hops copy value fcnt ord => Sys2Proof.Machine.execSbGany lane origin hops copy value fcnt ord s
  | .sbBeacon lane origin hops fcnt leadPos => Sys2Proof.Machine.execSbBeacon lane origin hops fcnt leadPos s
  | .beaconMiss => Sys2Proof.Machine.execBeaconMiss s
  | .sbMarker lane cycle arrival => Sys2Proof.Machine.execSbMarker lane cycle arrival s
  | .sbLinkstate lane origin hops change links => Sys2Proof.Machine.execSbLinkstate lane origin hops change links s
  | .sbLeave lane => Sys2Proof.Machine.execSbLeave lane s
  | .sbGroupcmd lane origin hops kind at_ args => Sys2Proof.Machine.execSbGroupcmd lane origin hops kind at_ args s
  | .sbLockReq lane route lock op => Sys2Proof.Machine.execSbLockReq lane route lock op s
  | .sbLockRsp lane route result error => Sys2Proof.Machine.execSbLockRsp lane route result error s
  | .sbRaReq lane route op va len data => Sys2Proof.Machine.execSbRaReq lane route op va len data s
  | .sbRaRsp lane route error data => Sys2Proof.Machine.execSbRaRsp lane route error data s
  | .sbIdle lane => Sys2Proof.Machine.execSbIdle lane s
  | .uncorrectableCodeword lane gap => Sys2Proof.Machine.execUncorrectableCodeword lane gap s
  | .laneSignalLoss lane => Sys2Proof.Machine.execLaneSignalLoss lane s
  | .laneLockLoss lane => Sys2Proof.Machine.execLaneLockLoss lane s
  | .cncRaGo init data => Sys2Proof.Machine.execCncRaGo init data s
  | .raTimeout => Sys2Proof.Machine.execRaTimeout s
  | .corridorRequestDecode sender write addr len data twin => Sys2Proof.Machine.execCorridorRequestDecode sender write addr len data twin s
  | .corridorResponseSink init lat tag => Sys2Proof.Machine.execCorridorResponseSink init lat tag s
  | .nocRtctlCommit data => Sys2Proof.Machine.execNocRtctlCommit data s
  | .nocSnap data => Sys2Proof.Machine.execNocSnap data s
  | .nocTraceClr data => Sys2Proof.Machine.execNocTraceClr data s
  | .nocTgGo data => Sys2Proof.Machine.execNocTgGo data s
  | .tgRunComplete errs => Sys2Proof.Machine.execTgRunComplete errs s
  | .atriumAccess sender write addr len data => Sys2Proof.Machine.execAtriumAccess sender write addr len data s
  | .atriumEccWriteback word => Sys2Proof.Machine.execAtriumEccWriteback word s
  | .atriumPatrolRead bank => Sys2Proof.Machine.execAtriumPatrolRead bank s
  | .atriumBankInitComplete bank => Sys2Proof.Machine.execAtriumBankInitComplete bank s
  | .logbookMemoryWrite init addr data => Sys2Proof.Machine.execLogbookMemoryWrite init addr data s
  | .logbookMemoryRead init addr len => Sys2Proof.Machine.execLogbookMemoryRead init addr len s
  | .cwtTableWalk => Sys2Proof.Machine.execCwtTableWalk s
  | .cwtInval data => Sys2Proof.Machine.execCwtInval data s
  | .cwtBaseWrite p data => Sys2Proof.Machine.execCwtBaseWrite p data s
  | .dgeStart init c data => Sys2Proof.Machine.execDgeStart init c data s
  | .dgeListJobComplete c => Sys2Proof.Machine.execDgeListJobComplete c s
  | .dgeData init c data => Sys2Proof.Machine.execDgeData init c data s
  | .dgeLast init c data => Sys2Proof.Machine.execDgeLast init c data s
  | .dgeFinish init c data => Sys2Proof.Machine.execDgeFinish init c data s
  | .dgeAbort init c data => Sys2Proof.Machine.execDgeAbort init c data s
  | .dgeKeyLoad init data => Sys2Proof.Machine.execDgeKeyLoad init data s
  | .dgeKeyZero init data => Sys2Proof.Machine.execDgeKeyZero init data s
  | .dgeKatGo init data => Sys2Proof.Machine.execDgeKatGo init data s
  | .dgeKatComplete fail => Sys2Proof.Machine.execDgeKatComplete fail s
  | .logRecordWrite failed => Sys2Proof.Machine.execLogRecordWrite failed s
  | .logSealWrite => Sys2Proof.Machine.execLogSealWrite s
  | .lifeToggle n => Sys2Proof.Machine.execLifeToggle n s
  | .balAck data pulses => Sys2Proof.Machine.execBalAck data pulses s
  | .balVtrip init data => Sys2Proof.Machine.execBalVtrip init data s
  | .balSkick init data => Sys2Proof.Machine.execBalSkick init data s
  | .balHkick init data => Sys2Proof.Machine.execBalHkick init data s
  | .frameWatchdogExpiry => Sys2Proof.Machine.execFrameWatchdogExpiry s
  | .stewardWatchdogExpiry kick => Sys2Proof.Machine.execStewardWatchdogExpiry kick s
  | .hostWatchdogExpiry kick => Sys2Proof.Machine.execHostWatchdogExpiry kick s
  | .watchdogHalfTime host => Sys2Proof.Machine.execWatchdogHalfTime host s
  | .clockLoss => Sys2Proof.Machine.execClockLoss s
  | .clockReturn => Sys2Proof.Machine.execClockReturn s
  | .tripReadbackCheck levels => Sys2Proof.Machine.execTripReadbackCheck levels s
  | .lockstepMismatch => Sys2Proof.Machine.execLockstepMismatch s
  | .ioWarning mv => Sys2Proof.Machine.execIoWarning mv s
  | .landingTrigger mv nvmwr limpCause => Sys2Proof.Machine.execLandingTrigger mv nvmwr limpCause s
  | .landingSaveComplete vend => Sys2Proof.Machine.execLandingSaveComplete vend s
  | .restingExit straps => Sys2Proof.Machine.execRestingExit straps s
  | .aonShutdown => Sys2Proof.Machine.execAonShutdown s
  | .coreSupplyFault gal mv => Sys2Proof.Machine.execCoreSupplyFault gal mv s
  | .vholdLow => Sys2Proof.Machine.execVholdLow s
  | .chargerFault => Sys2Proof.Machine.execChargerFault s
  | .vholdUpdate mv => Sys2Proof.Machine.execVholdUpdate mv s
  | .pioSet x data => Sys2Proof.Machine.execPioSet x data s
  | .pioClr x data => Sys2Proof.Machine.execPioClr x data s
  | .pioTgl x data => Sys2Proof.Machine.execPioTgl x data s
  | .pioOutWrite x data => Sys2Proof.Machine.execPioOutWrite x data s
  | .pinInterruptEdge n level => Sys2Proof.Machine.execPinInterruptEdge n level s
  | .pinWake mask => Sys2Proof.Machine.execPinWake mask s
  | .selftestComplete ty idx result detail => Sys2Proof.Machine.execSelftestComplete ty idx result detail s
  | .selftestGapTimeout col => Sys2Proof.Machine.execSelftestGapTimeout col s
  | .jtagBypass tdi => Sys2Proof.Machine.execJtagBypass tdi s
  | .jtagIdcode => Sys2Proof.Machine.execJtagIdcode s
  | .jtagSamplePreload capture load => Sys2Proof.Machine.execJtagSamplePreload capture load s
  | .jtagExtest cells => Sys2Proof.Machine.execJtagExtest cells s
  | .jtagExtestPulse cells => Sys2Proof.Machine.execJtagExtestPulse cells s
  | .jtagExtestTrain cells => Sys2Proof.Machine.execJtagExtestTrain cells s
  | .jtagClamp tdi => Sys2Proof.Machine.execJtagClamp tdi s
  | .jtagHighz tdi => Sys2Proof.Machine.execJtagHighz tdi s
  | .ioRecovery mv => Sys2Proof.Machine.execIoRecovery mv s
  | .joinStepTimeout lane => Sys2Proof.Machine.execJoinStepTimeout lane s
  | .sbUndefinedType lane type => Sys2Proof.Machine.execSbUndefinedType lane type s
  | .vstNop slot => Sys2Proof.Machine.execVstNop slot s
  | .vstGetInfo slot => Sys2Proof.Machine.execVstGetInfo slot s
  | .vstReset slot => Sys2Proof.Machine.execVstReset slot s
  | .vstLimp slot => Sys2Proof.Machine.execVstLimp slot s
  | .vstDoze slot => Sys2Proof.Machine.execVstDoze slot s
  | .vstLoadGallery slot => Sys2Proof.Machine.execVstLoadGallery slot s
  | .vstSwitchBank slot => Sys2Proof.Machine.execVstSwitchBank slot s
  | .vstLoadMap slot => Sys2Proof.Machine.execVstLoadMap slot s
  | .vstLoadParse slot => Sys2Proof.Machine.execVstLoadParse slot s
  | .vstParseStatus slot => Sys2Proof.Machine.execVstParseStatus slot s
  | .vstSetService cmd => Sys2Proof.Machine.execVstSetService cmd s
  | .vstGetService slot => Sys2Proof.Machine.execVstGetService slot s
  | .vstRepairColumn slot => Sys2Proof.Machine.execVstRepairColumn slot s
  | .vstSelftest slot => Sys2Proof.Machine.execVstSelftest slot s
  | .vstTrip slot => Sys2Proof.Machine.execVstTrip slot s
  | .vstTripAck cmd => Sys2Proof.Machine.execVstTripAck cmd s
  | .vstSetConfig slot => Sys2Proof.Machine.execVstSetConfig slot s
  | .vstGetConfig slot => Sys2Proof.Machine.execVstGetConfig slot s
  | .vstLogMark slot => Sys2Proof.Machine.execVstLogMark slot s
  | .vstLogSeal slot => Sys2Proof.Machine.execVstLogSeal slot s
  | .vstLogStatus slot => Sys2Proof.Machine.execVstLogStatus slot s
  | .galNop x d a b => Sys2Proof.Machine.execGalNop x d a b s
  | .galJmp x d a b => Sys2Proof.Machine.execGalJmp x d a b s
  | .galBr x d a b => Sys2Proof.Machine.execGalBr x d a b s
  | .galCall x d a b => Sys2Proof.Machine.execGalCall x d a b s
  | .galRet x d a b => Sys2Proof.Machine.execGalRet x d a b s
  | .galLoop x d a b => Sys2Proof.Machine.execGalLoop x d a b s
  | .galFend x d a b => Sys2Proof.Machine.execGalFend x d a b s
  | .galYield x d a b => Sys2Proof.Machine.execGalYield x d a b s
  | .galSli x d a b => Sys2Proof.Machine.execGalSli x d a b s
  | .galSadd x d a b => Sys2Proof.Machine.execGalSadd x d a b s
  | .galSsub x d a b => Sys2Proof.Machine.execGalSsub x d a b s
  | .galSand x d a b => Sys2Proof.Machine.execGalSand x d a b s
  | .galSor x d a b => Sys2Proof.Machine.execGalSor x d a b s
  | .galSxor x d a b => Sys2Proof.Machine.execGalSxor x d a b s
  | .galSshl x d a b => Sys2Proof.Machine.execGalSshl x d a b s
  | .galSshr x d a b => Sys2Proof.Machine.execGalSshr x d a b s
  | .galSsra x d a b => Sys2Proof.Machine.execGalSsra x d a b s
  | .galScmp x d a b => Sys2Proof.Machine.execGalScmp x d a b s
  | .galSrdl x d a b => Sys2Proof.Machine.execGalSrdl x d a b s
  | .galLogic x d a b => Sys2Proof.Machine.execGalLogic x d a b s
  | .galPusha x d a b => Sys2Proof.Machine.execGalPusha x d a b s
  | .galElsea x d a b => Sys2Proof.Machine.execGalElsea x d a b s
  | .galPopa x d a b => Sys2Proof.Machine.execGalPopa x d a b s
  | .galSeta x d a b => Sys2Proof.Machine.execGalSeta x d a b s
  | .galClrf x d a b => Sys2Proof.Machine.execGalClrf x d a b s
  | .galMovf x d a b => Sys2Proof.Machine.execGalMovf x d a b s
  | .galAdd x d a b => Sys2Proof.Machine.execGalAdd x d a b s
  | .galSub x d a b => Sys2Proof.Machine.execGalSub x d a b s
  | .galAdds x d a b => Sys2Proof.Machine.execGalAdds x d a b s
  | .galSubs x d a b => Sys2Proof.Machine.execGalSubs x d a b s
  | .galCmp x d a b => Sys2Proof.Machine.execGalCmp x d a b s
  | .galCmps x d a b => Sys2Proof.Machine.execGalCmps x d a b s
  | .galMin x d a b => Sys2Proof.Machine.execGalMin x d a b s
  | .galMax x d a b => Sys2Proof.Machine.execGalMax x d a b s
  | .galAbs x d a b => Sys2Proof.Machine.execGalAbs x d a b s
  | .galNeg x d a b => Sys2Proof.Machine.execGalNeg x d a b s
  | .galSel x d a b => Sys2Proof.Machine.execGalSel x d a b s
  | .galBcast x d a b => Sys2Proof.Machine.execGalBcast x d a b s
  | .galAclr x d a b => Sys2Proof.Machine.execGalAclr x d a b s
  | .galMac x d a b => Sys2Proof.Machine.execGalMac x d a b s
  | .galMul x d a b => Sys2Proof.Machine.execGalMul x d a b s
  | .galAccf x d a b => Sys2Proof.Machine.execGalAccf x d a b s
  | .galAccrd x d a b => Sys2Proof.Machine.execGalAccrd x d a b s
  | .galAccrds x d a b => Sys2Proof.Machine.execGalAccrds x d a b s
  | .galShift x d a b seam => Sys2Proof.Machine.execGalShift x d a b seam s
  | .galAny x d a b => Sys2Proof.Machine.execGalAny x d a b s
  | .galCount x d a b => Sys2Proof.Machine.execGalCount x d a b s
  | .galRin x d a b => Sys2Proof.Machine.execGalRin x d a b s
  | .galRout x d a b => Sys2Proof.Machine.execGalRout x d a b s
  | .galTrip x d a b => Sys2Proof.Machine.execGalTrip x d a b s
  | .galPio x d a b => Sys2Proof.Machine.execGalPio x d a b s
  | .galPioin x d a b => Sys2Proof.Machine.execGalPioin x d a b s
  | .galNwl x d a b => Sys2Proof.Machine.execGalNwl x d a b s

end Sys2Proof.Machine
end

