-- ==== Sys2Proof/Machine/Tick.lean ====
section
/-!
DEFINITION. What the block does while no command waits: one Corridor cycle passes, and each lane sends the block whose turn it
is, its HELLO and its test pattern (R358 to R363, R378, log entry 1).
-/

namespace Sys2Proof.Machine

/-- A lane has its transmitter: it trains no more, it has a LEAVE to send, or it is looped back (R363, R374, R377). -/
def Dev.laneSends (d : Dev) (l : Nat) : Bool :=
  decide (2 ≤ d.lstate l) || !(d.lane l).txq.isEmpty || d.nearLoop l

/-- A lane in one Corridor cycle. At the start of a block it sends one (R358 to R360); with CNC_CTRL.FARLOOP what it sends is
the stream that it receives, and with a test pattern the generator's (R377, R378). Over a near-end loop-back the block comes
back to the lane (Table CNC.7). -/
def laneCycle (d : Dev) (l : Nat) : Dev :=
  let d := prbsTick (helloTick d l) l
  let b := blockAt d.now
  if b = blockAt (d.now - 1) ∨ !d.laneSends l ∨ d.on (CNC_CTRL.FARLOOP l) ∨ d.prbsOn l then d
  else
    let x := (d.lane l).slot b
    d.setLane l (if d.nearLoop l then { x with back := x.sent } else x)

/-- One Corridor cycle with nothing to do: time goes on, and while the SRD domain is on the lanes send. In RESTING no clock
runs and nothing happens (R21, R22). -/
def idleCycle (d : Dev) : Dev :=
  if d.coreOn then
    let d := { d with now := d.now + 1 }
    if d.srdOn then (List.range 4).foldl laneCycle d else d
  else d

end Sys2Proof.Machine
end

