-- ==== Sys2Proof/Machine/Step.lean ====
section
/-!
DEFINITION. One step of the block: the command at the front of the queue, or an idle cycle.
-/

namespace Sys2Proof.Machine

/-- One step: the front command runs on the rest of the queue; an empty queue lets one cycle pass (log entry 1). -/
def step (s : State) : Host.Outcome State Fault Refusal :=
  match s.pending with
  | [] => .next { s with dev := idleCycle s.dev }
  | c :: r => exec c { s with pending := r }

/-- The state with the command that a table word spells at the front of its queue, and unchanged where it spells none. -/
def State.withFetchWord (s : State) (nbits w : Nat) : State :=
  match decodeTableWord nbits w with
  | some c => { s with pending := c :: s.pending }
  | none => s

end Sys2Proof.Machine
end

