-- ==== Sys2Proof/Laws/State.lean ====
section
/-!
SUPPORT. What the updates of the device leave alone: one lemma per field and update, true by rfl, so that no proof unfolds
a record update.
-/

namespace Sys2Proof.Machine

variable (d : Dev)

@[simp] theorem Dev.put_now (a : Nat) (v : Word) : (d.put a v).now = d.now := rfl
@[simp] theorem Dev.put_epoch (a : Nat) (v : Word) : (d.put a v).epoch = d.epoch := rfl
@[simp] theorem Dev.put_seed (a : Nat) (v : Word) : (d.put a v).seed = d.seed := rfl
@[simp] theorem Dev.put_mode (a : Nat) (v : Word) : (d.put a v).mode = d.mode := rfl
@[simp] theorem Dev.put_prev (a : Nat) (v : Word) : (d.put a v).prev = d.prev := rfl
@[simp] theorem Dev.put_modeKnown (a : Nat) (v : Word) : (d.put a v).modeKnown = d.modeKnown := rfl
@[simp] theorem Dev.put_svc (a : Nat) (v : Word) : (d.put a v).svc = d.svc := rfl
@[simp] theorem Dev.put_twin (a : Nat) (v : Word) : (d.put a v).twin = d.twin := rfl
@[simp] theorem Dev.put_evq (a : Nat) (v : Word) : (d.put a v).evq = d.evq := rfl
@[simp] theorem Dev.put_evGap (a : Nat) (v : Word) : (d.put a v).evGap = d.evGap := rfl
@[simp] theorem Dev.put_faults (a : Nat) (v : Word) : (d.put a v).faults = d.faults := rfl
@[simp] theorem Dev.put_holders (a : Nat) (v : Word) : (d.put a v).holders = d.holders := rfl
@[simp] theorem Dev.put_hl (a : Nat) (v : Word) : (d.put a v).hl = d.hl := rfl
@[simp] theorem Dev.put_iptOut (a : Nat) (v : Word) : (d.put a v).iptOut = d.iptOut := rfl
@[simp] theorem Dev.put_iptDriven (a : Nat) (v : Word) : (d.put a v).iptDriven = d.iptDriven := rfl
@[simp] theorem Dev.put_vst (a : Nat) (v : Word) : (d.put a v).vst = d.vst := rfl
@[simp] theorem Dev.put_wl (a : Nat) (v : Word) : (d.put a v).wl = d.wl := rfl
@[simp] theorem Dev.put_ports (a : Nat) (v : Word) : (d.put a v).ports = d.ports := rfl
@[simp] theorem Dev.put_bpm (a : Nat) (v : Word) : (d.put a v).bpm = d.bpm := rfl
@[simp] theorem Dev.put_gal (a : Nat) (v : Word) : (d.put a v).gal = d.gal := rfl
@[simp] theorem Dev.put_lanes (a : Nat) (v : Word) : (d.put a v).lanes = d.lanes := rfl
@[simp] theorem Dev.put_grp (a : Nat) (v : Word) : (d.put a v).grp = d.grp := rfl
@[simp] theorem Dev.put_noc (a : Nat) (v : Word) : (d.put a v).noc = d.noc := rfl
@[simp] theorem Dev.put_atr (a : Nat) (v : Word) : (d.put a v).atr = d.atr := rfl
@[simp] theorem Dev.put_atrUndef (a : Nat) (v : Word) : (d.put a v).atrUndef = d.atrUndef := rfl
@[simp] theorem Dev.put_atrKnown (a : Nat) (v : Word) : (d.put a v).atrKnown = d.atrKnown := rfl
@[simp] theorem Dev.put_atrOff (a : Nat) (v : Word) : (d.put a v).atrOff = d.atrOff := rfl
@[simp] theorem Dev.put_atrErr (a : Nat) (v : Word) : (d.put a v).atrErr = d.atrErr := rfl
@[simp] theorem Dev.put_atrFix (a : Nat) (v : Word) : (d.put a v).atrFix = d.atrFix := rfl
@[simp] theorem Dev.put_patrol (a : Nat) (v : Word) : (d.put a v).patrol = d.patrol := rfl
@[simp] theorem Dev.put_priv (a : Nat) (v : Word) : (d.put a v).priv = d.priv := rfl
@[simp] theorem Dev.put_log (a : Nat) (v : Word) : (d.put a v).log = d.log := rfl
@[simp] theorem Dev.put_logErr (a : Nat) (v : Word) : (d.put a v).logErr = d.logErr := rfl
@[simp] theorem Dev.put_tlb (a : Nat) (v : Word) : (d.put a v).tlb = d.tlb := rfl
@[simp] theorem Dev.put_walks (a : Nat) (v : Word) : (d.put a v).walks = d.walks := rfl
@[simp] theorem Dev.put_dge (a : Nat) (v : Word) : (d.put a v).dge = d.dge := rfl
@[simp] theorem Dev.put_bal (a : Nat) (v : Word) : (d.put a v).bal = d.bal := rfl
@[simp] theorem Dev.put_pins (a : Nat) (v : Word) : (d.put a v).pins = d.pins := rfl
@[simp] theorem Dev.put_resp (a : Nat) (v : Word) : (d.put a v).resp = d.resp := rfl

@[simp] theorem Dev.wr_now (f : Fld) (v : Nat) : (d.wr f v).now = d.now := rfl
@[simp] theorem Dev.wr_epoch (f : Fld) (v : Nat) : (d.wr f v).epoch = d.epoch := rfl
@[simp] theorem Dev.wr_seed (f : Fld) (v : Nat) : (d.wr f v).seed = d.seed := rfl
@[simp] theorem Dev.wr_mode (f : Fld) (v : Nat) : (d.wr f v).mode = d.mode := rfl
@[simp] theorem Dev.wr_prev (f : Fld) (v : Nat) : (d.wr f v).prev = d.prev := rfl
@[simp] theorem Dev.wr_modeKnown (f : Fld) (v : Nat) : (d.wr f v).modeKnown = d.modeKnown := rfl
@[simp] theorem Dev.wr_svc (f : Fld) (v : Nat) : (d.wr f v).svc = d.svc := rfl
@[simp] theorem Dev.wr_twin (f : Fld) (v : Nat) : (d.wr f v).twin = d.twin := rfl
@[simp] theorem Dev.wr_evq (f : Fld) (v : Nat) : (d.wr f v).evq = d.evq := rfl
@[simp] theorem Dev.wr_evGap (f : Fld) (v : Nat) : (d.wr f v).evGap = d.evGap := rfl
@[simp] theorem Dev.wr_faults (f : Fld) (v : Nat) : (d.wr f v).faults = d.faults := rfl
@[simp] theorem Dev.wr_holders (f : Fld) (v : Nat) : (d.wr f v).holders = d.holders := rfl
@[simp] theorem Dev.wr_hl (f : Fld) (v : Nat) : (d.wr f v).hl = d.hl := rfl
@[simp] theorem Dev.wr_iptOut (f : Fld) (v : Nat) : (d.wr f v).iptOut = d.iptOut := rfl
@[simp] theorem Dev.wr_iptDriven (f : Fld) (v : Nat) : (d.wr f v).iptDriven = d.iptDriven := rfl
@[simp] theorem Dev.wr_vst (f : Fld) (v : Nat) : (d.wr f v).vst = d.vst := rfl
@[simp] theorem Dev.wr_wl (f : Fld) (v : Nat) : (d.wr f v).wl = d.wl := rfl
@[simp] theorem Dev.wr_ports (f : Fld) (v : Nat) : (d.wr f v).ports = d.ports := rfl
@[simp] theorem Dev.wr_bpm (f : Fld) (v : Nat) : (d.wr f v).bpm = d.bpm := rfl
@[simp] theorem Dev.wr_gal (f : Fld) (v : Nat) : (d.wr f v).gal = d.gal := rfl
@[simp] theorem Dev.wr_lanes (f : Fld) (v : Nat) : (d.wr f v).lanes = d.lanes := rfl
@[simp] theorem Dev.wr_grp (f : Fld) (v : Nat) : (d.wr f v).grp = d.grp := rfl
@[simp] theorem Dev.wr_noc (f : Fld) (v : Nat) : (d.wr f v).noc = d.noc := rfl
@[simp] theorem Dev.wr_atr (f : Fld) (v : Nat) : (d.wr f v).atr = d.atr := rfl
@[simp] theorem Dev.wr_atrUndef (f : Fld) (v : Nat) : (d.wr f v).atrUndef = d.atrUndef := rfl
@[simp] theorem Dev.wr_atrKnown (f : Fld) (v : Nat) : (d.wr f v).atrKnown = d.atrKnown := rfl
@[simp] theorem Dev.wr_atrOff (f : Fld) (v : Nat) : (d.wr f v).atrOff = d.atrOff := rfl
@[simp] theorem Dev.wr_atrErr (f : Fld) (v : Nat) : (d.wr f v).atrErr = d.atrErr := rfl
@[simp] theorem Dev.wr_atrFix (f : Fld) (v : Nat) : (d.wr f v).atrFix = d.atrFix := rfl
@[simp] theorem Dev.wr_patrol (f : Fld) (v : Nat) : (d.wr f v).patrol = d.patrol := rfl
@[simp] theorem Dev.wr_priv (f : Fld) (v : Nat) : (d.wr f v).priv = d.priv := rfl
@[simp] theorem Dev.wr_log (f : Fld) (v : Nat) : (d.wr f v).log = d.log := rfl
@[simp] theorem Dev.wr_logErr (f : Fld) (v : Nat) : (d.wr f v).logErr = d.logErr := rfl
@[simp] theorem Dev.wr_tlb (f : Fld) (v : Nat) : (d.wr f v).tlb = d.tlb := rfl
@[simp] theorem Dev.wr_walks (f : Fld) (v : Nat) : (d.wr f v).walks = d.walks := rfl
@[simp] theorem Dev.wr_dge (f : Fld) (v : Nat) : (d.wr f v).dge = d.dge := rfl
@[simp] theorem Dev.wr_bal (f : Fld) (v : Nat) : (d.wr f v).bal = d.bal := rfl
@[simp] theorem Dev.wr_pins (f : Fld) (v : Nat) : (d.wr f v).pins = d.pins := rfl
@[simp] theorem Dev.wr_resp (f : Fld) (v : Nat) : (d.wr f v).resp = d.resp := rfl

@[simp] theorem Dev.bump_now (f : Fld) (n : Nat) : (d.bump f n).now = d.now := rfl
@[simp] theorem Dev.bump_epoch (f : Fld) (n : Nat) : (d.bump f n).epoch = d.epoch := rfl
@[simp] theorem Dev.bump_seed (f : Fld) (n : Nat) : (d.bump f n).seed = d.seed := rfl
@[simp] theorem Dev.bump_mode (f : Fld) (n : Nat) : (d.bump f n).mode = d.mode := rfl
@[simp] theorem Dev.bump_prev (f : Fld) (n : Nat) : (d.bump f n).prev = d.prev := rfl
@[simp] theorem Dev.bump_modeKnown (f : Fld) (n : Nat) : (d.bump f n).modeKnown = d.modeKnown := rfl
@[simp] theorem Dev.bump_svc (f : Fld) (n : Nat) : (d.bump f n).svc = d.svc := rfl
@[simp] theorem Dev.bump_twin (f : Fld) (n : Nat) : (d.bump f n).twin = d.twin := rfl
@[simp] theorem Dev.bump_evq (f : Fld) (n : Nat) : (d.bump f n).evq = d.evq := rfl
@[simp] theorem Dev.bump_evGap (f : Fld) (n : Nat) : (d.bump f n).evGap = d.evGap := rfl
@[simp] theorem Dev.bump_faults (f : Fld) (n : Nat) : (d.bump f n).faults = d.faults := rfl
@[simp] theorem Dev.bump_holders (f : Fld) (n : Nat) : (d.bump f n).holders = d.holders := rfl
@[simp] theorem Dev.bump_hl (f : Fld) (n : Nat) : (d.bump f n).hl = d.hl := rfl
@[simp] theorem Dev.bump_iptOut (f : Fld) (n : Nat) : (d.bump f n).iptOut = d.iptOut := rfl
@[simp] theorem Dev.bump_iptDriven (f : Fld) (n : Nat) : (d.bump f n).iptDriven = d.iptDriven := rfl
@[simp] theorem Dev.bump_vst (f : Fld) (n : Nat) : (d.bump f n).vst = d.vst := rfl
@[simp] theorem Dev.bump_wl (f : Fld) (n : Nat) : (d.bump f n).wl = d.wl := rfl
@[simp] theorem Dev.bump_ports (f : Fld) (n : Nat) : (d.bump f n).ports = d.ports := rfl
@[simp] theorem Dev.bump_bpm (f : Fld) (n : Nat) : (d.bump f n).bpm = d.bpm := rfl
@[simp] theorem Dev.bump_gal (f : Fld) (n : Nat) : (d.bump f n).gal = d.gal := rfl
@[simp] theorem Dev.bump_lanes (f : Fld) (n : Nat) : (d.bump f n).lanes = d.lanes := rfl
@[simp] theorem Dev.bump_grp (f : Fld) (n : Nat) : (d.bump f n).grp = d.grp := rfl
@[simp] theorem Dev.bump_noc (f : Fld) (n : Nat) : (d.bump f n).noc = d.noc := rfl
@[simp] theorem Dev.bump_atr (f : Fld) (n : Nat) : (d.bump f n).atr = d.atr := rfl
@[simp] theorem Dev.bump_atrUndef (f : Fld) (n : Nat) : (d.bump f n).atrUndef = d.atrUndef := rfl
@[simp] theorem Dev.bump_atrKnown (f : Fld) (n : Nat) : (d.bump f n).atrKnown = d.atrKnown := rfl
@[simp] theorem Dev.bump_atrOff (f : Fld) (n : Nat) : (d.bump f n).atrOff = d.atrOff := rfl
@[simp] theorem Dev.bump_atrErr (f : Fld) (n : Nat) : (d.bump f n).atrErr = d.atrErr := rfl
@[simp] theorem Dev.bump_atrFix (f : Fld) (n : Nat) : (d.bump f n).atrFix = d.atrFix := rfl
@[simp] theorem Dev.bump_patrol (f : Fld) (n : Nat) : (d.bump f n).patrol = d.patrol := rfl
@[simp] theorem Dev.bump_priv (f : Fld) (n : Nat) : (d.bump f n).priv = d.priv := rfl
@[simp] theorem Dev.bump_log (f : Fld) (n : Nat) : (d.bump f n).log = d.log := rfl
@[simp] theorem Dev.bump_logErr (f : Fld) (n : Nat) : (d.bump f n).logErr = d.logErr := rfl
@[simp] theorem Dev.bump_tlb (f : Fld) (n : Nat) : (d.bump f n).tlb = d.tlb := rfl
@[simp] theorem Dev.bump_walks (f : Fld) (n : Nat) : (d.bump f n).walks = d.walks := rfl
@[simp] theorem Dev.bump_dge (f : Fld) (n : Nat) : (d.bump f n).dge = d.dge := rfl
@[simp] theorem Dev.bump_bal (f : Fld) (n : Nat) : (d.bump f n).bal = d.bal := rfl
@[simp] theorem Dev.bump_pins (f : Fld) (n : Nat) : (d.bump f n).pins = d.pins := rfl
@[simp] theorem Dev.bump_resp (f : Fld) (n : Nat) : (d.bump f n).resp = d.resp := rfl

@[simp] theorem Dev.setSvc_now (u : UnitId) (x : Svc) : (d.setSvc u x).now = d.now := rfl
@[simp] theorem Dev.setSvc_epoch (u : UnitId) (x : Svc) : (d.setSvc u x).epoch = d.epoch := rfl
@[simp] theorem Dev.setSvc_seed (u : UnitId) (x : Svc) : (d.setSvc u x).seed = d.seed := rfl
@[simp] theorem Dev.setSvc_mode (u : UnitId) (x : Svc) : (d.setSvc u x).mode = d.mode := rfl
@[simp] theorem Dev.setSvc_prev (u : UnitId) (x : Svc) : (d.setSvc u x).prev = d.prev := rfl
@[simp] theorem Dev.setSvc_modeKnown (u : UnitId) (x : Svc) : (d.setSvc u x).modeKnown = d.modeKnown := rfl
@[simp] theorem Dev.setSvc_regs (u : UnitId) (x : Svc) : (d.setSvc u x).regs = d.regs := rfl
@[simp] theorem Dev.setSvc_twin (u : UnitId) (x : Svc) : (d.setSvc u x).twin = d.twin := rfl
@[simp] theorem Dev.setSvc_evq (u : UnitId) (x : Svc) : (d.setSvc u x).evq = d.evq := rfl
@[simp] theorem Dev.setSvc_evGap (u : UnitId) (x : Svc) : (d.setSvc u x).evGap = d.evGap := rfl
@[simp] theorem Dev.setSvc_faults (u : UnitId) (x : Svc) : (d.setSvc u x).faults = d.faults := rfl
@[simp] theorem Dev.setSvc_holders (u : UnitId) (x : Svc) : (d.setSvc u x).holders = d.holders := rfl
@[simp] theorem Dev.setSvc_hl (u : UnitId) (x : Svc) : (d.setSvc u x).hl = d.hl := rfl
@[simp] theorem Dev.setSvc_iptOut (u : UnitId) (x : Svc) : (d.setSvc u x).iptOut = d.iptOut := rfl
@[simp] theorem Dev.setSvc_iptDriven (u : UnitId) (x : Svc) : (d.setSvc u x).iptDriven = d.iptDriven := rfl
@[simp] theorem Dev.setSvc_vst (u : UnitId) (x : Svc) : (d.setSvc u x).vst = d.vst := rfl
@[simp] theorem Dev.setSvc_wl (u : UnitId) (x : Svc) : (d.setSvc u x).wl = d.wl := rfl
@[simp] theorem Dev.setSvc_ports (u : UnitId) (x : Svc) : (d.setSvc u x).ports = d.ports := rfl
@[simp] theorem Dev.setSvc_bpm (u : UnitId) (x : Svc) : (d.setSvc u x).bpm = d.bpm := rfl
@[simp] theorem Dev.setSvc_gal (u : UnitId) (x : Svc) : (d.setSvc u x).gal = d.gal := rfl
@[simp] theorem Dev.setSvc_lanes (u : UnitId) (x : Svc) : (d.setSvc u x).lanes = d.lanes := rfl
@[simp] theorem Dev.setSvc_grp (u : UnitId) (x : Svc) : (d.setSvc u x).grp = d.grp := rfl
@[simp] theorem Dev.setSvc_noc (u : UnitId) (x : Svc) : (d.setSvc u x).noc = d.noc := rfl
@[simp] theorem Dev.setSvc_atr (u : UnitId) (x : Svc) : (d.setSvc u x).atr = d.atr := rfl
@[simp] theorem Dev.setSvc_atrUndef (u : UnitId) (x : Svc) : (d.setSvc u x).atrUndef = d.atrUndef := rfl
@[simp] theorem Dev.setSvc_atrKnown (u : UnitId) (x : Svc) : (d.setSvc u x).atrKnown = d.atrKnown := rfl
@[simp] theorem Dev.setSvc_atrOff (u : UnitId) (x : Svc) : (d.setSvc u x).atrOff = d.atrOff := rfl
@[simp] theorem Dev.setSvc_atrErr (u : UnitId) (x : Svc) : (d.setSvc u x).atrErr = d.atrErr := rfl
@[simp] theorem Dev.setSvc_atrFix (u : UnitId) (x : Svc) : (d.setSvc u x).atrFix = d.atrFix := rfl
@[simp] theorem Dev.setSvc_patrol (u : UnitId) (x : Svc) : (d.setSvc u x).patrol = d.patrol := rfl
@[simp] theorem Dev.setSvc_priv (u : UnitId) (x : Svc) : (d.setSvc u x).priv = d.priv := rfl
@[simp] theorem Dev.setSvc_log (u : UnitId) (x : Svc) : (d.setSvc u x).log = d.log := rfl
@[simp] theorem Dev.setSvc_logErr (u : UnitId) (x : Svc) : (d.setSvc u x).logErr = d.logErr := rfl
@[simp] theorem Dev.setSvc_tlb (u : UnitId) (x : Svc) : (d.setSvc u x).tlb = d.tlb := rfl
@[simp] theorem Dev.setSvc_walks (u : UnitId) (x : Svc) : (d.setSvc u x).walks = d.walks := rfl
@[simp] theorem Dev.setSvc_dge (u : UnitId) (x : Svc) : (d.setSvc u x).dge = d.dge := rfl
@[simp] theorem Dev.setSvc_bal (u : UnitId) (x : Svc) : (d.setSvc u x).bal = d.bal := rfl
@[simp] theorem Dev.setSvc_pins (u : UnitId) (x : Svc) : (d.setSvc u x).pins = d.pins := rfl
@[simp] theorem Dev.setSvc_resp (u : UnitId) (x : Svc) : (d.setSvc u x).resp = d.resp := rfl

@[simp] theorem Dev.setPort_now (n : Nat) (x : Port) : (d.setPort n x).now = d.now := rfl
@[simp] theorem Dev.setPort_epoch (n : Nat) (x : Port) : (d.setPort n x).epoch = d.epoch := rfl
@[simp] theorem Dev.setPort_seed (n : Nat) (x : Port) : (d.setPort n x).seed = d.seed := rfl
@[simp] theorem Dev.setPort_mode (n : Nat) (x : Port) : (d.setPort n x).mode = d.mode := rfl
@[simp] theorem Dev.setPort_prev (n : Nat) (x : Port) : (d.setPort n x).prev = d.prev := rfl
@[simp] theorem Dev.setPort_modeKnown (n : Nat) (x : Port) : (d.setPort n x).modeKnown = d.modeKnown := rfl
@[simp] theorem Dev.setPort_regs (n : Nat) (x : Port) : (d.setPort n x).regs = d.regs := rfl
@[simp] theorem Dev.setPort_svc (n : Nat) (x : Port) : (d.setPort n x).svc = d.svc := rfl
@[simp] theorem Dev.setPort_twin (n : Nat) (x : Port) : (d.setPort n x).twin = d.twin := rfl
@[simp] theorem Dev.setPort_evq (n : Nat) (x : Port) : (d.setPort n x).evq = d.evq := rfl
@[simp] theorem Dev.setPort_evGap (n : Nat) (x : Port) : (d.setPort n x).evGap = d.evGap := rfl
@[simp] theorem Dev.setPort_faults (n : Nat) (x : Port) : (d.setPort n x).faults = d.faults := rfl
@[simp] theorem Dev.setPort_holders (n : Nat) (x : Port) : (d.setPort n x).holders = d.holders := rfl
@[simp] theorem Dev.setPort_hl (n : Nat) (x : Port) : (d.setPort n x).hl = d.hl := rfl
@[simp] theorem Dev.setPort_iptOut (n : Nat) (x : Port) : (d.setPort n x).iptOut = d.iptOut := rfl
@[simp] theorem Dev.setPort_iptDriven (n : Nat) (x : Port) : (d.setPort n x).iptDriven = d.iptDriven := rfl
@[simp] theorem Dev.setPort_vst (n : Nat) (x : Port) : (d.setPort n x).vst = d.vst := rfl
@[simp] theorem Dev.setPort_wl (n : Nat) (x : Port) : (d.setPort n x).wl = d.wl := rfl
@[simp] theorem Dev.setPort_bpm (n : Nat) (x : Port) : (d.setPort n x).bpm = d.bpm := rfl
@[simp] theorem Dev.setPort_gal (n : Nat) (x : Port) : (d.setPort n x).gal = d.gal := rfl
@[simp] theorem Dev.setPort_lanes (n : Nat) (x : Port) : (d.setPort n x).lanes = d.lanes := rfl
@[simp] theorem Dev.setPort_grp (n : Nat) (x : Port) : (d.setPort n x).grp = d.grp := rfl
@[simp] theorem Dev.setPort_noc (n : Nat) (x : Port) : (d.setPort n x).noc = d.noc := rfl
@[simp] theorem Dev.setPort_atr (n : Nat) (x : Port) : (d.setPort n x).atr = d.atr := rfl
@[simp] theorem Dev.setPort_atrUndef (n : Nat) (x : Port) : (d.setPort n x).atrUndef = d.atrUndef := rfl
@[simp] theorem Dev.setPort_atrKnown (n : Nat) (x : Port) : (d.setPort n x).atrKnown = d.atrKnown := rfl
@[simp] theorem Dev.setPort_atrOff (n : Nat) (x : Port) : (d.setPort n x).atrOff = d.atrOff := rfl
@[simp] theorem Dev.setPort_atrErr (n : Nat) (x : Port) : (d.setPort n x).atrErr = d.atrErr := rfl
@[simp] theorem Dev.setPort_atrFix (n : Nat) (x : Port) : (d.setPort n x).atrFix = d.atrFix := rfl
@[simp] theorem Dev.setPort_patrol (n : Nat) (x : Port) : (d.setPort n x).patrol = d.patrol := rfl
@[simp] theorem Dev.setPort_priv (n : Nat) (x : Port) : (d.setPort n x).priv = d.priv := rfl
@[simp] theorem Dev.setPort_log (n : Nat) (x : Port) : (d.setPort n x).log = d.log := rfl
@[simp] theorem Dev.setPort_logErr (n : Nat) (x : Port) : (d.setPort n x).logErr = d.logErr := rfl
@[simp] theorem Dev.setPort_tlb (n : Nat) (x : Port) : (d.setPort n x).tlb = d.tlb := rfl
@[simp] theorem Dev.setPort_walks (n : Nat) (x : Port) : (d.setPort n x).walks = d.walks := rfl
@[simp] theorem Dev.setPort_dge (n : Nat) (x : Port) : (d.setPort n x).dge = d.dge := rfl
@[simp] theorem Dev.setPort_bal (n : Nat) (x : Port) : (d.setPort n x).bal = d.bal := rfl
@[simp] theorem Dev.setPort_pins (n : Nat) (x : Port) : (d.setPort n x).pins = d.pins := rfl
@[simp] theorem Dev.setPort_resp (n : Nat) (x : Port) : (d.setPort n x).resp = d.resp := rfl

@[simp] theorem Dev.setLane_now (l : Nat) (x : Lane) : (d.setLane l x).now = d.now := rfl
@[simp] theorem Dev.setLane_epoch (l : Nat) (x : Lane) : (d.setLane l x).epoch = d.epoch := rfl
@[simp] theorem Dev.setLane_seed (l : Nat) (x : Lane) : (d.setLane l x).seed = d.seed := rfl
@[simp] theorem Dev.setLane_mode (l : Nat) (x : Lane) : (d.setLane l x).mode = d.mode := rfl
@[simp] theorem Dev.setLane_prev (l : Nat) (x : Lane) : (d.setLane l x).prev = d.prev := rfl
@[simp] theorem Dev.setLane_modeKnown (l : Nat) (x : Lane) : (d.setLane l x).modeKnown = d.modeKnown := rfl
@[simp] theorem Dev.setLane_regs (l : Nat) (x : Lane) : (d.setLane l x).regs = d.regs := rfl
@[simp] theorem Dev.setLane_svc (l : Nat) (x : Lane) : (d.setLane l x).svc = d.svc := rfl
@[simp] theorem Dev.setLane_twin (l : Nat) (x : Lane) : (d.setLane l x).twin = d.twin := rfl
@[simp] theorem Dev.setLane_evq (l : Nat) (x : Lane) : (d.setLane l x).evq = d.evq := rfl
@[simp] theorem Dev.setLane_evGap (l : Nat) (x : Lane) : (d.setLane l x).evGap = d.evGap := rfl
@[simp] theorem Dev.setLane_faults (l : Nat) (x : Lane) : (d.setLane l x).faults = d.faults := rfl
@[simp] theorem Dev.setLane_holders (l : Nat) (x : Lane) : (d.setLane l x).holders = d.holders := rfl
@[simp] theorem Dev.setLane_hl (l : Nat) (x : Lane) : (d.setLane l x).hl = d.hl := rfl
@[simp] theorem Dev.setLane_iptOut (l : Nat) (x : Lane) : (d.setLane l x).iptOut = d.iptOut := rfl
@[simp] theorem Dev.setLane_iptDriven (l : Nat) (x : Lane) : (d.setLane l x).iptDriven = d.iptDriven := rfl
@[simp] theorem Dev.setLane_vst (l : Nat) (x : Lane) : (d.setLane l x).vst = d.vst := rfl
@[simp] theorem Dev.setLane_wl (l : Nat) (x : Lane) : (d.setLane l x).wl = d.wl := rfl
@[simp] theorem Dev.setLane_ports (l : Nat) (x : Lane) : (d.setLane l x).ports = d.ports := rfl
@[simp] theorem Dev.setLane_bpm (l : Nat) (x : Lane) : (d.setLane l x).bpm = d.bpm := rfl
@[simp] theorem Dev.setLane_gal (l : Nat) (x : Lane) : (d.setLane l x).gal = d.gal := rfl
@[simp] theorem Dev.setLane_grp (l : Nat) (x : Lane) : (d.setLane l x).grp = d.grp := rfl
@[simp] theorem Dev.setLane_noc (l : Nat) (x : Lane) : (d.setLane l x).noc = d.noc := rfl
@[simp] theorem Dev.setLane_atr (l : Nat) (x : Lane) : (d.setLane l x).atr = d.atr := rfl
@[simp] theorem Dev.setLane_atrUndef (l : Nat) (x : Lane) : (d.setLane l x).atrUndef = d.atrUndef := rfl
@[simp] theorem Dev.setLane_atrKnown (l : Nat) (x : Lane) : (d.setLane l x).atrKnown = d.atrKnown := rfl
@[simp] theorem Dev.setLane_atrOff (l : Nat) (x : Lane) : (d.setLane l x).atrOff = d.atrOff := rfl
@[simp] theorem Dev.setLane_atrErr (l : Nat) (x : Lane) : (d.setLane l x).atrErr = d.atrErr := rfl
@[simp] theorem Dev.setLane_atrFix (l : Nat) (x : Lane) : (d.setLane l x).atrFix = d.atrFix := rfl
@[simp] theorem Dev.setLane_patrol (l : Nat) (x : Lane) : (d.setLane l x).patrol = d.patrol := rfl
@[simp] theorem Dev.setLane_priv (l : Nat) (x : Lane) : (d.setLane l x).priv = d.priv := rfl
@[simp] theorem Dev.setLane_log (l : Nat) (x : Lane) : (d.setLane l x).log = d.log := rfl
@[simp] theorem Dev.setLane_logErr (l : Nat) (x : Lane) : (d.setLane l x).logErr = d.logErr := rfl
@[simp] theorem Dev.setLane_tlb (l : Nat) (x : Lane) : (d.setLane l x).tlb = d.tlb := rfl
@[simp] theorem Dev.setLane_walks (l : Nat) (x : Lane) : (d.setLane l x).walks = d.walks := rfl
@[simp] theorem Dev.setLane_dge (l : Nat) (x : Lane) : (d.setLane l x).dge = d.dge := rfl
@[simp] theorem Dev.setLane_bal (l : Nat) (x : Lane) : (d.setLane l x).bal = d.bal := rfl
@[simp] theorem Dev.setLane_pins (l : Nat) (x : Lane) : (d.setLane l x).pins = d.pins := rfl
@[simp] theorem Dev.setLane_resp (l : Nat) (x : Lane) : (d.setLane l x).resp = d.resp := rfl

@[simp] theorem Dev.setGal_now (f : Gal → Gal) : (d.setGal f).now = d.now := rfl
@[simp] theorem Dev.setGal_epoch (f : Gal → Gal) : (d.setGal f).epoch = d.epoch := rfl
@[simp] theorem Dev.setGal_seed (f : Gal → Gal) : (d.setGal f).seed = d.seed := rfl
@[simp] theorem Dev.setGal_mode (f : Gal → Gal) : (d.setGal f).mode = d.mode := rfl
@[simp] theorem Dev.setGal_prev (f : Gal → Gal) : (d.setGal f).prev = d.prev := rfl
@[simp] theorem Dev.setGal_modeKnown (f : Gal → Gal) : (d.setGal f).modeKnown = d.modeKnown := rfl
@[simp] theorem Dev.setGal_regs (f : Gal → Gal) : (d.setGal f).regs = d.regs := rfl
@[simp] theorem Dev.setGal_svc (f : Gal → Gal) : (d.setGal f).svc = d.svc := rfl
@[simp] theorem Dev.setGal_twin (f : Gal → Gal) : (d.setGal f).twin = d.twin := rfl
@[simp] theorem Dev.setGal_evq (f : Gal → Gal) : (d.setGal f).evq = d.evq := rfl
@[simp] theorem Dev.setGal_evGap (f : Gal → Gal) : (d.setGal f).evGap = d.evGap := rfl
@[simp] theorem Dev.setGal_faults (f : Gal → Gal) : (d.setGal f).faults = d.faults := rfl
@[simp] theorem Dev.setGal_holders (f : Gal → Gal) : (d.setGal f).holders = d.holders := rfl
@[simp] theorem Dev.setGal_hl (f : Gal → Gal) : (d.setGal f).hl = d.hl := rfl
@[simp] theorem Dev.setGal_iptOut (f : Gal → Gal) : (d.setGal f).iptOut = d.iptOut := rfl
@[simp] theorem Dev.setGal_iptDriven (f : Gal → Gal) : (d.setGal f).iptDriven = d.iptDriven := rfl
@[simp] theorem Dev.setGal_vst (f : Gal → Gal) : (d.setGal f).vst = d.vst := rfl
@[simp] theorem Dev.setGal_wl (f : Gal → Gal) : (d.setGal f).wl = d.wl := rfl
@[simp] theorem Dev.setGal_ports (f : Gal → Gal) : (d.setGal f).ports = d.ports := rfl
@[simp] theorem Dev.setGal_bpm (f : Gal → Gal) : (d.setGal f).bpm = d.bpm := rfl
@[simp] theorem Dev.setGal_lanes (f : Gal → Gal) : (d.setGal f).lanes = d.lanes := rfl
@[simp] theorem Dev.setGal_grp (f : Gal → Gal) : (d.setGal f).grp = d.grp := rfl
@[simp] theorem Dev.setGal_noc (f : Gal → Gal) : (d.setGal f).noc = d.noc := rfl
@[simp] theorem Dev.setGal_atr (f : Gal → Gal) : (d.setGal f).atr = d.atr := rfl
@[simp] theorem Dev.setGal_atrUndef (f : Gal → Gal) : (d.setGal f).atrUndef = d.atrUndef := rfl
@[simp] theorem Dev.setGal_atrKnown (f : Gal → Gal) : (d.setGal f).atrKnown = d.atrKnown := rfl
@[simp] theorem Dev.setGal_atrOff (f : Gal → Gal) : (d.setGal f).atrOff = d.atrOff := rfl
@[simp] theorem Dev.setGal_atrErr (f : Gal → Gal) : (d.setGal f).atrErr = d.atrErr := rfl
@[simp] theorem Dev.setGal_atrFix (f : Gal → Gal) : (d.setGal f).atrFix = d.atrFix := rfl
@[simp] theorem Dev.setGal_patrol (f : Gal → Gal) : (d.setGal f).patrol = d.patrol := rfl
@[simp] theorem Dev.setGal_priv (f : Gal → Gal) : (d.setGal f).priv = d.priv := rfl
@[simp] theorem Dev.setGal_log (f : Gal → Gal) : (d.setGal f).log = d.log := rfl
@[simp] theorem Dev.setGal_logErr (f : Gal → Gal) : (d.setGal f).logErr = d.logErr := rfl
@[simp] theorem Dev.setGal_tlb (f : Gal → Gal) : (d.setGal f).tlb = d.tlb := rfl
@[simp] theorem Dev.setGal_walks (f : Gal → Gal) : (d.setGal f).walks = d.walks := rfl
@[simp] theorem Dev.setGal_dge (f : Gal → Gal) : (d.setGal f).dge = d.dge := rfl
@[simp] theorem Dev.setGal_bal (f : Gal → Gal) : (d.setGal f).bal = d.bal := rfl
@[simp] theorem Dev.setGal_pins (f : Gal → Gal) : (d.setGal f).pins = d.pins := rfl
@[simp] theorem Dev.setGal_resp (f : Gal → Gal) : (d.setGal f).resp = d.resp := rfl

@[simp] theorem Dev.setSlot_now (n x : Nat) : (d.setSlot n x).now = d.now := rfl
@[simp] theorem Dev.setSlot_epoch (n x : Nat) : (d.setSlot n x).epoch = d.epoch := rfl
@[simp] theorem Dev.setSlot_seed (n x : Nat) : (d.setSlot n x).seed = d.seed := rfl
@[simp] theorem Dev.setSlot_mode (n x : Nat) : (d.setSlot n x).mode = d.mode := rfl
@[simp] theorem Dev.setSlot_prev (n x : Nat) : (d.setSlot n x).prev = d.prev := rfl
@[simp] theorem Dev.setSlot_modeKnown (n x : Nat) : (d.setSlot n x).modeKnown = d.modeKnown := rfl
@[simp] theorem Dev.setSlot_regs (n x : Nat) : (d.setSlot n x).regs = d.regs := rfl
@[simp] theorem Dev.setSlot_svc (n x : Nat) : (d.setSlot n x).svc = d.svc := rfl
@[simp] theorem Dev.setSlot_twin (n x : Nat) : (d.setSlot n x).twin = d.twin := rfl
@[simp] theorem Dev.setSlot_evq (n x : Nat) : (d.setSlot n x).evq = d.evq := rfl
@[simp] theorem Dev.setSlot_evGap (n x : Nat) : (d.setSlot n x).evGap = d.evGap := rfl
@[simp] theorem Dev.setSlot_faults (n x : Nat) : (d.setSlot n x).faults = d.faults := rfl
@[simp] theorem Dev.setSlot_holders (n x : Nat) : (d.setSlot n x).holders = d.holders := rfl
@[simp] theorem Dev.setSlot_hl (n x : Nat) : (d.setSlot n x).hl = d.hl := rfl
@[simp] theorem Dev.setSlot_iptOut (n x : Nat) : (d.setSlot n x).iptOut = d.iptOut := rfl
@[simp] theorem Dev.setSlot_iptDriven (n x : Nat) : (d.setSlot n x).iptDriven = d.iptDriven := rfl
@[simp] theorem Dev.setSlot_wl (n x : Nat) : (d.setSlot n x).wl = d.wl := rfl
@[simp] theorem Dev.setSlot_ports (n x : Nat) : (d.setSlot n x).ports = d.ports := rfl
@[simp] theorem Dev.setSlot_bpm (n x : Nat) : (d.setSlot n x).bpm = d.bpm := rfl
@[simp] theorem Dev.setSlot_gal (n x : Nat) : (d.setSlot n x).gal = d.gal := rfl
@[simp] theorem Dev.setSlot_lanes (n x : Nat) : (d.setSlot n x).lanes = d.lanes := rfl
@[simp] theorem Dev.setSlot_grp (n x : Nat) : (d.setSlot n x).grp = d.grp := rfl
@[simp] theorem Dev.setSlot_noc (n x : Nat) : (d.setSlot n x).noc = d.noc := rfl
@[simp] theorem Dev.setSlot_atr (n x : Nat) : (d.setSlot n x).atr = d.atr := rfl
@[simp] theorem Dev.setSlot_atrUndef (n x : Nat) : (d.setSlot n x).atrUndef = d.atrUndef := rfl
@[simp] theorem Dev.setSlot_atrKnown (n x : Nat) : (d.setSlot n x).atrKnown = d.atrKnown := rfl
@[simp] theorem Dev.setSlot_atrOff (n x : Nat) : (d.setSlot n x).atrOff = d.atrOff := rfl
@[simp] theorem Dev.setSlot_atrErr (n x : Nat) : (d.setSlot n x).atrErr = d.atrErr := rfl
@[simp] theorem Dev.setSlot_atrFix (n x : Nat) : (d.setSlot n x).atrFix = d.atrFix := rfl
@[simp] theorem Dev.setSlot_patrol (n x : Nat) : (d.setSlot n x).patrol = d.patrol := rfl
@[simp] theorem Dev.setSlot_priv (n x : Nat) : (d.setSlot n x).priv = d.priv := rfl
@[simp] theorem Dev.setSlot_log (n x : Nat) : (d.setSlot n x).log = d.log := rfl
@[simp] theorem Dev.setSlot_logErr (n x : Nat) : (d.setSlot n x).logErr = d.logErr := rfl
@[simp] theorem Dev.setSlot_tlb (n x : Nat) : (d.setSlot n x).tlb = d.tlb := rfl
@[simp] theorem Dev.setSlot_walks (n x : Nat) : (d.setSlot n x).walks = d.walks := rfl
@[simp] theorem Dev.setSlot_dge (n x : Nat) : (d.setSlot n x).dge = d.dge := rfl
@[simp] theorem Dev.setSlot_bal (n x : Nat) : (d.setSlot n x).bal = d.bal := rfl
@[simp] theorem Dev.setSlot_pins (n x : Nat) : (d.setSlot n x).pins = d.pins := rfl
@[simp] theorem Dev.setSlot_resp (n x : Nat) : (d.setSlot n x).resp = d.resp := rfl

@[simp] theorem Dev.setPool_now (p : Nat) (x : Pool) : (d.setPool p x).now = d.now := rfl
@[simp] theorem Dev.setPool_epoch (p : Nat) (x : Pool) : (d.setPool p x).epoch = d.epoch := rfl
@[simp] theorem Dev.setPool_seed (p : Nat) (x : Pool) : (d.setPool p x).seed = d.seed := rfl
@[simp] theorem Dev.setPool_mode (p : Nat) (x : Pool) : (d.setPool p x).mode = d.mode := rfl
@[simp] theorem Dev.setPool_prev (p : Nat) (x : Pool) : (d.setPool p x).prev = d.prev := rfl
@[simp] theorem Dev.setPool_modeKnown (p : Nat) (x : Pool) : (d.setPool p x).modeKnown = d.modeKnown := rfl
@[simp] theorem Dev.setPool_regs (p : Nat) (x : Pool) : (d.setPool p x).regs = d.regs := rfl
@[simp] theorem Dev.setPool_svc (p : Nat) (x : Pool) : (d.setPool p x).svc = d.svc := rfl
@[simp] theorem Dev.setPool_twin (p : Nat) (x : Pool) : (d.setPool p x).twin = d.twin := rfl
@[simp] theorem Dev.setPool_evq (p : Nat) (x : Pool) : (d.setPool p x).evq = d.evq := rfl
@[simp] theorem Dev.setPool_evGap (p : Nat) (x : Pool) : (d.setPool p x).evGap = d.evGap := rfl
@[simp] theorem Dev.setPool_faults (p : Nat) (x : Pool) : (d.setPool p x).faults = d.faults := rfl
@[simp] theorem Dev.setPool_holders (p : Nat) (x : Pool) : (d.setPool p x).holders = d.holders := rfl
@[simp] theorem Dev.setPool_hl (p : Nat) (x : Pool) : (d.setPool p x).hl = d.hl := rfl
@[simp] theorem Dev.setPool_iptOut (p : Nat) (x : Pool) : (d.setPool p x).iptOut = d.iptOut := rfl
@[simp] theorem Dev.setPool_iptDriven (p : Nat) (x : Pool) : (d.setPool p x).iptDriven = d.iptDriven := rfl
@[simp] theorem Dev.setPool_vst (p : Nat) (x : Pool) : (d.setPool p x).vst = d.vst := rfl
@[simp] theorem Dev.setPool_wl (p : Nat) (x : Pool) : (d.setPool p x).wl = d.wl := rfl
@[simp] theorem Dev.setPool_ports (p : Nat) (x : Pool) : (d.setPool p x).ports = d.ports := rfl
@[simp] theorem Dev.setPool_gal (p : Nat) (x : Pool) : (d.setPool p x).gal = d.gal := rfl
@[simp] theorem Dev.setPool_lanes (p : Nat) (x : Pool) : (d.setPool p x).lanes = d.lanes := rfl
@[simp] theorem Dev.setPool_grp (p : Nat) (x : Pool) : (d.setPool p x).grp = d.grp := rfl
@[simp] theorem Dev.setPool_noc (p : Nat) (x : Pool) : (d.setPool p x).noc = d.noc := rfl
@[simp] theorem Dev.setPool_atr (p : Nat) (x : Pool) : (d.setPool p x).atr = d.atr := rfl
@[simp] theorem Dev.setPool_atrUndef (p : Nat) (x : Pool) : (d.setPool p x).atrUndef = d.atrUndef := rfl
@[simp] theorem Dev.setPool_atrKnown (p : Nat) (x : Pool) : (d.setPool p x).atrKnown = d.atrKnown := rfl
@[simp] theorem Dev.setPool_atrOff (p : Nat) (x : Pool) : (d.setPool p x).atrOff = d.atrOff := rfl
@[simp] theorem Dev.setPool_atrErr (p : Nat) (x : Pool) : (d.setPool p x).atrErr = d.atrErr := rfl
@[simp] theorem Dev.setPool_atrFix (p : Nat) (x : Pool) : (d.setPool p x).atrFix = d.atrFix := rfl
@[simp] theorem Dev.setPool_patrol (p : Nat) (x : Pool) : (d.setPool p x).patrol = d.patrol := rfl
@[simp] theorem Dev.setPool_priv (p : Nat) (x : Pool) : (d.setPool p x).priv = d.priv := rfl
@[simp] theorem Dev.setPool_log (p : Nat) (x : Pool) : (d.setPool p x).log = d.log := rfl
@[simp] theorem Dev.setPool_logErr (p : Nat) (x : Pool) : (d.setPool p x).logErr = d.logErr := rfl
@[simp] theorem Dev.setPool_tlb (p : Nat) (x : Pool) : (d.setPool p x).tlb = d.tlb := rfl
@[simp] theorem Dev.setPool_walks (p : Nat) (x : Pool) : (d.setPool p x).walks = d.walks := rfl
@[simp] theorem Dev.setPool_dge (p : Nat) (x : Pool) : (d.setPool p x).dge = d.dge := rfl
@[simp] theorem Dev.setPool_bal (p : Nat) (x : Pool) : (d.setPool p x).bal = d.bal := rfl
@[simp] theorem Dev.setPool_pins (p : Nat) (x : Pool) : (d.setPool p x).pins = d.pins := rfl
@[simp] theorem Dev.setPool_resp (p : Nat) (x : Pool) : (d.setPool p x).resp = d.resp := rfl

@[simp] theorem Dev.setOwner_now (k o : Nat) : (d.setOwner k o).now = d.now := rfl
@[simp] theorem Dev.setOwner_epoch (k o : Nat) : (d.setOwner k o).epoch = d.epoch := rfl
@[simp] theorem Dev.setOwner_seed (k o : Nat) : (d.setOwner k o).seed = d.seed := rfl
@[simp] theorem Dev.setOwner_mode (k o : Nat) : (d.setOwner k o).mode = d.mode := rfl
@[simp] theorem Dev.setOwner_prev (k o : Nat) : (d.setOwner k o).prev = d.prev := rfl
@[simp] theorem Dev.setOwner_modeKnown (k o : Nat) : (d.setOwner k o).modeKnown = d.modeKnown := rfl
@[simp] theorem Dev.setOwner_regs (k o : Nat) : (d.setOwner k o).regs = d.regs := rfl
@[simp] theorem Dev.setOwner_svc (k o : Nat) : (d.setOwner k o).svc = d.svc := rfl
@[simp] theorem Dev.setOwner_twin (k o : Nat) : (d.setOwner k o).twin = d.twin := rfl
@[simp] theorem Dev.setOwner_evq (k o : Nat) : (d.setOwner k o).evq = d.evq := rfl
@[simp] theorem Dev.setOwner_evGap (k o : Nat) : (d.setOwner k o).evGap = d.evGap := rfl
@[simp] theorem Dev.setOwner_faults (k o : Nat) : (d.setOwner k o).faults = d.faults := rfl
@[simp] theorem Dev.setOwner_holders (k o : Nat) : (d.setOwner k o).holders = d.holders := rfl
@[simp] theorem Dev.setOwner_hl (k o : Nat) : (d.setOwner k o).hl = d.hl := rfl
@[simp] theorem Dev.setOwner_iptOut (k o : Nat) : (d.setOwner k o).iptOut = d.iptOut := rfl
@[simp] theorem Dev.setOwner_iptDriven (k o : Nat) : (d.setOwner k o).iptDriven = d.iptDriven := rfl
@[simp] theorem Dev.setOwner_vst (k o : Nat) : (d.setOwner k o).vst = d.vst := rfl
@[simp] theorem Dev.setOwner_wl (k o : Nat) : (d.setOwner k o).wl = d.wl := rfl
@[simp] theorem Dev.setOwner_ports (k o : Nat) : (d.setOwner k o).ports = d.ports := rfl
@[simp] theorem Dev.setOwner_gal (k o : Nat) : (d.setOwner k o).gal = d.gal := rfl
@[simp] theorem Dev.setOwner_lanes (k o : Nat) : (d.setOwner k o).lanes = d.lanes := rfl
@[simp] theorem Dev.setOwner_grp (k o : Nat) : (d.setOwner k o).grp = d.grp := rfl
@[simp] theorem Dev.setOwner_noc (k o : Nat) : (d.setOwner k o).noc = d.noc := rfl
@[simp] theorem Dev.setOwner_atr (k o : Nat) : (d.setOwner k o).atr = d.atr := rfl
@[simp] theorem Dev.setOwner_atrUndef (k o : Nat) : (d.setOwner k o).atrUndef = d.atrUndef := rfl
@[simp] theorem Dev.setOwner_atrKnown (k o : Nat) : (d.setOwner k o).atrKnown = d.atrKnown := rfl
@[simp] theorem Dev.setOwner_atrOff (k o : Nat) : (d.setOwner k o).atrOff = d.atrOff := rfl
@[simp] theorem Dev.setOwner_atrErr (k o : Nat) : (d.setOwner k o).atrErr = d.atrErr := rfl
@[simp] theorem Dev.setOwner_atrFix (k o : Nat) : (d.setOwner k o).atrFix = d.atrFix := rfl
@[simp] theorem Dev.setOwner_patrol (k o : Nat) : (d.setOwner k o).patrol = d.patrol := rfl
@[simp] theorem Dev.setOwner_priv (k o : Nat) : (d.setOwner k o).priv = d.priv := rfl
@[simp] theorem Dev.setOwner_log (k o : Nat) : (d.setOwner k o).log = d.log := rfl
@[simp] theorem Dev.setOwner_logErr (k o : Nat) : (d.setOwner k o).logErr = d.logErr := rfl
@[simp] theorem Dev.setOwner_tlb (k o : Nat) : (d.setOwner k o).tlb = d.tlb := rfl
@[simp] theorem Dev.setOwner_walks (k o : Nat) : (d.setOwner k o).walks = d.walks := rfl
@[simp] theorem Dev.setOwner_dge (k o : Nat) : (d.setOwner k o).dge = d.dge := rfl
@[simp] theorem Dev.setOwner_bal (k o : Nat) : (d.setOwner k o).bal = d.bal := rfl
@[simp] theorem Dev.setOwner_pins (k o : Nat) : (d.setOwner k o).pins = d.pins := rfl
@[simp] theorem Dev.setOwner_resp (k o : Nat) : (d.setOwner k o).resp = d.resp := rfl

@[simp] theorem Dev.setHolder_now (n h : Nat) : (d.setHolder n h).now = d.now := rfl
@[simp] theorem Dev.setHolder_epoch (n h : Nat) : (d.setHolder n h).epoch = d.epoch := rfl
@[simp] theorem Dev.setHolder_seed (n h : Nat) : (d.setHolder n h).seed = d.seed := rfl
@[simp] theorem Dev.setHolder_mode (n h : Nat) : (d.setHolder n h).mode = d.mode := rfl
@[simp] theorem Dev.setHolder_prev (n h : Nat) : (d.setHolder n h).prev = d.prev := rfl
@[simp] theorem Dev.setHolder_modeKnown (n h : Nat) : (d.setHolder n h).modeKnown = d.modeKnown := rfl
@[simp] theorem Dev.setHolder_regs (n h : Nat) : (d.setHolder n h).regs = d.regs := rfl
@[simp] theorem Dev.setHolder_svc (n h : Nat) : (d.setHolder n h).svc = d.svc := rfl
@[simp] theorem Dev.setHolder_twin (n h : Nat) : (d.setHolder n h).twin = d.twin := rfl
@[simp] theorem Dev.setHolder_evq (n h : Nat) : (d.setHolder n h).evq = d.evq := rfl
@[simp] theorem Dev.setHolder_evGap (n h : Nat) : (d.setHolder n h).evGap = d.evGap := rfl
@[simp] theorem Dev.setHolder_faults (n h : Nat) : (d.setHolder n h).faults = d.faults := rfl
@[simp] theorem Dev.setHolder_hl (n h : Nat) : (d.setHolder n h).hl = d.hl := rfl
@[simp] theorem Dev.setHolder_iptOut (n h : Nat) : (d.setHolder n h).iptOut = d.iptOut := rfl
@[simp] theorem Dev.setHolder_iptDriven (n h : Nat) : (d.setHolder n h).iptDriven = d.iptDriven := rfl
@[simp] theorem Dev.setHolder_vst (n h : Nat) : (d.setHolder n h).vst = d.vst := rfl
@[simp] theorem Dev.setHolder_wl (n h : Nat) : (d.setHolder n h).wl = d.wl := rfl
@[simp] theorem Dev.setHolder_ports (n h : Nat) : (d.setHolder n h).ports = d.ports := rfl
@[simp] theorem Dev.setHolder_bpm (n h : Nat) : (d.setHolder n h).bpm = d.bpm := rfl
@[simp] theorem Dev.setHolder_gal (n h : Nat) : (d.setHolder n h).gal = d.gal := rfl
@[simp] theorem Dev.setHolder_lanes (n h : Nat) : (d.setHolder n h).lanes = d.lanes := rfl
@[simp] theorem Dev.setHolder_grp (n h : Nat) : (d.setHolder n h).grp = d.grp := rfl
@[simp] theorem Dev.setHolder_noc (n h : Nat) : (d.setHolder n h).noc = d.noc := rfl
@[simp] theorem Dev.setHolder_atr (n h : Nat) : (d.setHolder n h).atr = d.atr := rfl
@[simp] theorem Dev.setHolder_atrUndef (n h : Nat) : (d.setHolder n h).atrUndef = d.atrUndef := rfl
@[simp] theorem Dev.setHolder_atrKnown (n h : Nat) : (d.setHolder n h).atrKnown = d.atrKnown := rfl
@[simp] theorem Dev.setHolder_atrOff (n h : Nat) : (d.setHolder n h).atrOff = d.atrOff := rfl
@[simp] theorem Dev.setHolder_atrErr (n h : Nat) : (d.setHolder n h).atrErr = d.atrErr := rfl
@[simp] theorem Dev.setHolder_atrFix (n h : Nat) : (d.setHolder n h).atrFix = d.atrFix := rfl
@[simp] theorem Dev.setHolder_patrol (n h : Nat) : (d.setHolder n h).patrol = d.patrol := rfl
@[simp] theorem Dev.setHolder_priv (n h : Nat) : (d.setHolder n h).priv = d.priv := rfl
@[simp] theorem Dev.setHolder_log (n h : Nat) : (d.setHolder n h).log = d.log := rfl
@[simp] theorem Dev.setHolder_logErr (n h : Nat) : (d.setHolder n h).logErr = d.logErr := rfl
@[simp] theorem Dev.setHolder_tlb (n h : Nat) : (d.setHolder n h).tlb = d.tlb := rfl
@[simp] theorem Dev.setHolder_walks (n h : Nat) : (d.setHolder n h).walks = d.walks := rfl
@[simp] theorem Dev.setHolder_dge (n h : Nat) : (d.setHolder n h).dge = d.dge := rfl
@[simp] theorem Dev.setHolder_bal (n h : Nat) : (d.setHolder n h).bal = d.bal := rfl
@[simp] theorem Dev.setHolder_pins (n h : Nat) : (d.setHolder n h).pins = d.pins := rfl
@[simp] theorem Dev.setHolder_resp (n h : Nat) : (d.setHolder n h).resp = d.resp := rfl

@[simp] theorem Dev.draw_now : (d.draw).now = d.now := rfl
@[simp] theorem Dev.draw_epoch : (d.draw).epoch = d.epoch := rfl
@[simp] theorem Dev.draw_mode : (d.draw).mode = d.mode := rfl
@[simp] theorem Dev.draw_prev : (d.draw).prev = d.prev := rfl
@[simp] theorem Dev.draw_modeKnown : (d.draw).modeKnown = d.modeKnown := rfl
@[simp] theorem Dev.draw_regs : (d.draw).regs = d.regs := rfl
@[simp] theorem Dev.draw_svc : (d.draw).svc = d.svc := rfl
@[simp] theorem Dev.draw_twin : (d.draw).twin = d.twin := rfl
@[simp] theorem Dev.draw_evq : (d.draw).evq = d.evq := rfl
@[simp] theorem Dev.draw_evGap : (d.draw).evGap = d.evGap := rfl
@[simp] theorem Dev.draw_faults : (d.draw).faults = d.faults := rfl
@[simp] theorem Dev.draw_holders : (d.draw).holders = d.holders := rfl
@[simp] theorem Dev.draw_hl : (d.draw).hl = d.hl := rfl
@[simp] theorem Dev.draw_iptOut : (d.draw).iptOut = d.iptOut := rfl
@[simp] theorem Dev.draw_iptDriven : (d.draw).iptDriven = d.iptDriven := rfl
@[simp] theorem Dev.draw_vst : (d.draw).vst = d.vst := rfl
@[simp] theorem Dev.draw_wl : (d.draw).wl = d.wl := rfl
@[simp] theorem Dev.draw_ports : (d.draw).ports = d.ports := rfl
@[simp] theorem Dev.draw_bpm : (d.draw).bpm = d.bpm := rfl
@[simp] theorem Dev.draw_gal : (d.draw).gal = d.gal := rfl
@[simp] theorem Dev.draw_lanes : (d.draw).lanes = d.lanes := rfl
@[simp] theorem Dev.draw_grp : (d.draw).grp = d.grp := rfl
@[simp] theorem Dev.draw_noc : (d.draw).noc = d.noc := rfl
@[simp] theorem Dev.draw_atr : (d.draw).atr = d.atr := rfl
@[simp] theorem Dev.draw_atrUndef : (d.draw).atrUndef = d.atrUndef := rfl
@[simp] theorem Dev.draw_atrKnown : (d.draw).atrKnown = d.atrKnown := rfl
@[simp] theorem Dev.draw_atrOff : (d.draw).atrOff = d.atrOff := rfl
@[simp] theorem Dev.draw_atrErr : (d.draw).atrErr = d.atrErr := rfl
@[simp] theorem Dev.draw_atrFix : (d.draw).atrFix = d.atrFix := rfl
@[simp] theorem Dev.draw_patrol : (d.draw).patrol = d.patrol := rfl
@[simp] theorem Dev.draw_priv : (d.draw).priv = d.priv := rfl
@[simp] theorem Dev.draw_log : (d.draw).log = d.log := rfl
@[simp] theorem Dev.draw_logErr : (d.draw).logErr = d.logErr := rfl
@[simp] theorem Dev.draw_tlb : (d.draw).tlb = d.tlb := rfl
@[simp] theorem Dev.draw_walks : (d.draw).walks = d.walks := rfl
@[simp] theorem Dev.draw_dge : (d.draw).dge = d.dge := rfl
@[simp] theorem Dev.draw_bal : (d.draw).bal = d.bal := rfl
@[simp] theorem Dev.draw_pins : (d.draw).pins = d.pins := rfl
@[simp] theorem Dev.draw_resp : (d.draw).resp = d.resp := rfl

@[simp] theorem Dev.until_epoch (t : Nat) : (d.until t).epoch = d.epoch := rfl
@[simp] theorem Dev.until_seed (t : Nat) : (d.until t).seed = d.seed := rfl
@[simp] theorem Dev.until_mode (t : Nat) : (d.until t).mode = d.mode := rfl
@[simp] theorem Dev.until_prev (t : Nat) : (d.until t).prev = d.prev := rfl
@[simp] theorem Dev.until_modeKnown (t : Nat) : (d.until t).modeKnown = d.modeKnown := rfl
@[simp] theorem Dev.until_regs (t : Nat) : (d.until t).regs = d.regs := rfl
@[simp] theorem Dev.until_svc (t : Nat) : (d.until t).svc = d.svc := rfl
@[simp] theorem Dev.until_twin (t : Nat) : (d.until t).twin = d.twin := rfl
@[simp] theorem Dev.until_evq (t : Nat) : (d.until t).evq = d.evq := rfl
@[simp] theorem Dev.until_evGap (t : Nat) : (d.until t).evGap = d.evGap := rfl
@[simp] theorem Dev.until_faults (t : Nat) : (d.until t).faults = d.faults := rfl
@[simp] theorem Dev.until_holders (t : Nat) : (d.until t).holders = d.holders := rfl
@[simp] theorem Dev.until_hl (t : Nat) : (d.until t).hl = d.hl := rfl
@[simp] theorem Dev.until_iptOut (t : Nat) : (d.until t).iptOut = d.iptOut := rfl
@[simp] theorem Dev.until_iptDriven (t : Nat) : (d.until t).iptDriven = d.iptDriven := rfl
@[simp] theorem Dev.until_vst (t : Nat) : (d.until t).vst = d.vst := rfl
@[simp] theorem Dev.until_wl (t : Nat) : (d.until t).wl = d.wl := rfl
@[simp] theorem Dev.until_ports (t : Nat) : (d.until t).ports = d.ports := rfl
@[simp] theorem Dev.until_bpm (t : Nat) : (d.until t).bpm = d.bpm := rfl
@[simp] theorem Dev.until_gal (t : Nat) : (d.until t).gal = d.gal := rfl
@[simp] theorem Dev.until_lanes (t : Nat) : (d.until t).lanes = d.lanes := rfl
@[simp] theorem Dev.until_grp (t : Nat) : (d.until t).grp = d.grp := rfl
@[simp] theorem Dev.until_noc (t : Nat) : (d.until t).noc = d.noc := rfl
@[simp] theorem Dev.until_atr (t : Nat) : (d.until t).atr = d.atr := rfl
@[simp] theorem Dev.until_atrUndef (t : Nat) : (d.until t).atrUndef = d.atrUndef := rfl
@[simp] theorem Dev.until_atrKnown (t : Nat) : (d.until t).atrKnown = d.atrKnown := rfl
@[simp] theorem Dev.until_atrOff (t : Nat) : (d.until t).atrOff = d.atrOff := rfl
@[simp] theorem Dev.until_atrErr (t : Nat) : (d.until t).atrErr = d.atrErr := rfl
@[simp] theorem Dev.until_atrFix (t : Nat) : (d.until t).atrFix = d.atrFix := rfl
@[simp] theorem Dev.until_patrol (t : Nat) : (d.until t).patrol = d.patrol := rfl
@[simp] theorem Dev.until_priv (t : Nat) : (d.until t).priv = d.priv := rfl
@[simp] theorem Dev.until_log (t : Nat) : (d.until t).log = d.log := rfl
@[simp] theorem Dev.until_logErr (t : Nat) : (d.until t).logErr = d.logErr := rfl
@[simp] theorem Dev.until_tlb (t : Nat) : (d.until t).tlb = d.tlb := rfl
@[simp] theorem Dev.until_walks (t : Nat) : (d.until t).walks = d.walks := rfl
@[simp] theorem Dev.until_dge (t : Nat) : (d.until t).dge = d.dge := rfl
@[simp] theorem Dev.until_bal (t : Nat) : (d.until t).bal = d.bal := rfl
@[simp] theorem Dev.until_pins (t : Nat) : (d.until t).pins = d.pins := rfl
@[simp] theorem Dev.until_resp (t : Nat) : (d.until t).resp = d.resp := rfl

@[simp] theorem Dev.resetRegs_now (p : Nat → Bool) : (d.resetRegs p).now = d.now := rfl
@[simp] theorem Dev.resetRegs_epoch (p : Nat → Bool) : (d.resetRegs p).epoch = d.epoch := rfl
@[simp] theorem Dev.resetRegs_seed (p : Nat → Bool) : (d.resetRegs p).seed = d.seed := rfl
@[simp] theorem Dev.resetRegs_mode (p : Nat → Bool) : (d.resetRegs p).mode = d.mode := rfl
@[simp] theorem Dev.resetRegs_prev (p : Nat → Bool) : (d.resetRegs p).prev = d.prev := rfl
@[simp] theorem Dev.resetRegs_modeKnown (p : Nat → Bool) : (d.resetRegs p).modeKnown = d.modeKnown := rfl
@[simp] theorem Dev.resetRegs_svc (p : Nat → Bool) : (d.resetRegs p).svc = d.svc := rfl
@[simp] theorem Dev.resetRegs_twin (p : Nat → Bool) : (d.resetRegs p).twin = d.twin := rfl
@[simp] theorem Dev.resetRegs_evq (p : Nat → Bool) : (d.resetRegs p).evq = d.evq := rfl
@[simp] theorem Dev.resetRegs_evGap (p : Nat → Bool) : (d.resetRegs p).evGap = d.evGap := rfl
@[simp] theorem Dev.resetRegs_faults (p : Nat → Bool) : (d.resetRegs p).faults = d.faults := rfl
@[simp] theorem Dev.resetRegs_holders (p : Nat → Bool) : (d.resetRegs p).holders = d.holders := rfl
@[simp] theorem Dev.resetRegs_hl (p : Nat → Bool) : (d.resetRegs p).hl = d.hl := rfl
@[simp] theorem Dev.resetRegs_iptOut (p : Nat → Bool) : (d.resetRegs p).iptOut = d.iptOut := rfl
@[simp] theorem Dev.resetRegs_iptDriven (p : Nat → Bool) : (d.resetRegs p).iptDriven = d.iptDriven := rfl
@[simp] theorem Dev.resetRegs_vst (p : Nat → Bool) : (d.resetRegs p).vst = d.vst := rfl
@[simp] theorem Dev.resetRegs_wl (p : Nat → Bool) : (d.resetRegs p).wl = d.wl := rfl
@[simp] theorem Dev.resetRegs_ports (p : Nat → Bool) : (d.resetRegs p).ports = d.ports := rfl
@[simp] theorem Dev.resetRegs_bpm (p : Nat → Bool) : (d.resetRegs p).bpm = d.bpm := rfl
@[simp] theorem Dev.resetRegs_gal (p : Nat → Bool) : (d.resetRegs p).gal = d.gal := rfl
@[simp] theorem Dev.resetRegs_lanes (p : Nat → Bool) : (d.resetRegs p).lanes = d.lanes := rfl
@[simp] theorem Dev.resetRegs_grp (p : Nat → Bool) : (d.resetRegs p).grp = d.grp := rfl
@[simp] theorem Dev.resetRegs_noc (p : Nat → Bool) : (d.resetRegs p).noc = d.noc := rfl
@[simp] theorem Dev.resetRegs_atr (p : Nat → Bool) : (d.resetRegs p).atr = d.atr := rfl
@[simp] theorem Dev.resetRegs_atrUndef (p : Nat → Bool) : (d.resetRegs p).atrUndef = d.atrUndef := rfl
@[simp] theorem Dev.resetRegs_atrKnown (p : Nat → Bool) : (d.resetRegs p).atrKnown = d.atrKnown := rfl
@[simp] theorem Dev.resetRegs_atrOff (p : Nat → Bool) : (d.resetRegs p).atrOff = d.atrOff := rfl
@[simp] theorem Dev.resetRegs_atrErr (p : Nat → Bool) : (d.resetRegs p).atrErr = d.atrErr := rfl
@[simp] theorem Dev.resetRegs_atrFix (p : Nat → Bool) : (d.resetRegs p).atrFix = d.atrFix := rfl
@[simp] theorem Dev.resetRegs_patrol (p : Nat → Bool) : (d.resetRegs p).patrol = d.patrol := rfl
@[simp] theorem Dev.resetRegs_priv (p : Nat → Bool) : (d.resetRegs p).priv = d.priv := rfl
@[simp] theorem Dev.resetRegs_log (p : Nat → Bool) : (d.resetRegs p).log = d.log := rfl
@[simp] theorem Dev.resetRegs_logErr (p : Nat → Bool) : (d.resetRegs p).logErr = d.logErr := rfl
@[simp] theorem Dev.resetRegs_tlb (p : Nat → Bool) : (d.resetRegs p).tlb = d.tlb := rfl
@[simp] theorem Dev.resetRegs_walks (p : Nat → Bool) : (d.resetRegs p).walks = d.walks := rfl
@[simp] theorem Dev.resetRegs_dge (p : Nat → Bool) : (d.resetRegs p).dge = d.dge := rfl
@[simp] theorem Dev.resetRegs_bal (p : Nat → Bool) : (d.resetRegs p).bal = d.bal := rfl
@[simp] theorem Dev.resetRegs_pins (p : Nat → Bool) : (d.resetRegs p).pins = d.pins := rfl
@[simp] theorem Dev.resetRegs_resp (p : Nat → Bool) : (d.resetRegs p).resp = d.resp := rfl

@[simp] theorem Dev.setHl_now (f : HostLink → HostLink) : (d.setHl f).now = d.now := rfl
@[simp] theorem Dev.setHl_epoch (f : HostLink → HostLink) : (d.setHl f).epoch = d.epoch := rfl
@[simp] theorem Dev.setHl_seed (f : HostLink → HostLink) : (d.setHl f).seed = d.seed := rfl
@[simp] theorem Dev.setHl_mode (f : HostLink → HostLink) : (d.setHl f).mode = d.mode := rfl
@[simp] theorem Dev.setHl_prev (f : HostLink → HostLink) : (d.setHl f).prev = d.prev := rfl
@[simp] theorem Dev.setHl_modeKnown (f : HostLink → HostLink) : (d.setHl f).modeKnown = d.modeKnown := rfl
@[simp] theorem Dev.setHl_regs (f : HostLink → HostLink) : (d.setHl f).regs = d.regs := rfl
@[simp] theorem Dev.setHl_svc (f : HostLink → HostLink) : (d.setHl f).svc = d.svc := rfl
@[simp] theorem Dev.setHl_twin (f : HostLink → HostLink) : (d.setHl f).twin = d.twin := rfl
@[simp] theorem Dev.setHl_evq (f : HostLink → HostLink) : (d.setHl f).evq = d.evq := rfl
@[simp] theorem Dev.setHl_evGap (f : HostLink → HostLink) : (d.setHl f).evGap = d.evGap := rfl
@[simp] theorem Dev.setHl_faults (f : HostLink → HostLink) : (d.setHl f).faults = d.faults := rfl
@[simp] theorem Dev.setHl_holders (f : HostLink → HostLink) : (d.setHl f).holders = d.holders := rfl
@[simp] theorem Dev.setHl_iptOut (f : HostLink → HostLink) : (d.setHl f).iptOut = d.iptOut := rfl
@[simp] theorem Dev.setHl_iptDriven (f : HostLink → HostLink) : (d.setHl f).iptDriven = d.iptDriven := rfl
@[simp] theorem Dev.setHl_vst (f : HostLink → HostLink) : (d.setHl f).vst = d.vst := rfl
@[simp] theorem Dev.setHl_wl (f : HostLink → HostLink) : (d.setHl f).wl = d.wl := rfl
@[simp] theorem Dev.setHl_ports (f : HostLink → HostLink) : (d.setHl f).ports = d.ports := rfl
@[simp] theorem Dev.setHl_bpm (f : HostLink → HostLink) : (d.setHl f).bpm = d.bpm := rfl
@[simp] theorem Dev.setHl_gal (f : HostLink → HostLink) : (d.setHl f).gal = d.gal := rfl
@[simp] theorem Dev.setHl_lanes (f : HostLink → HostLink) : (d.setHl f).lanes = d.lanes := rfl
@[simp] theorem Dev.setHl_grp (f : HostLink → HostLink) : (d.setHl f).grp = d.grp := rfl
@[simp] theorem Dev.setHl_noc (f : HostLink → HostLink) : (d.setHl f).noc = d.noc := rfl
@[simp] theorem Dev.setHl_atr (f : HostLink → HostLink) : (d.setHl f).atr = d.atr := rfl
@[simp] theorem Dev.setHl_atrUndef (f : HostLink → HostLink) : (d.setHl f).atrUndef = d.atrUndef := rfl
@[simp] theorem Dev.setHl_atrKnown (f : HostLink → HostLink) : (d.setHl f).atrKnown = d.atrKnown := rfl
@[simp] theorem Dev.setHl_atrOff (f : HostLink → HostLink) : (d.setHl f).atrOff = d.atrOff := rfl
@[simp] theorem Dev.setHl_atrErr (f : HostLink → HostLink) : (d.setHl f).atrErr = d.atrErr := rfl
@[simp] theorem Dev.setHl_atrFix (f : HostLink → HostLink) : (d.setHl f).atrFix = d.atrFix := rfl
@[simp] theorem Dev.setHl_patrol (f : HostLink → HostLink) : (d.setHl f).patrol = d.patrol := rfl
@[simp] theorem Dev.setHl_priv (f : HostLink → HostLink) : (d.setHl f).priv = d.priv := rfl
@[simp] theorem Dev.setHl_log (f : HostLink → HostLink) : (d.setHl f).log = d.log := rfl
@[simp] theorem Dev.setHl_logErr (f : HostLink → HostLink) : (d.setHl f).logErr = d.logErr := rfl
@[simp] theorem Dev.setHl_tlb (f : HostLink → HostLink) : (d.setHl f).tlb = d.tlb := rfl
@[simp] theorem Dev.setHl_walks (f : HostLink → HostLink) : (d.setHl f).walks = d.walks := rfl
@[simp] theorem Dev.setHl_dge (f : HostLink → HostLink) : (d.setHl f).dge = d.dge := rfl
@[simp] theorem Dev.setHl_bal (f : HostLink → HostLink) : (d.setHl f).bal = d.bal := rfl
@[simp] theorem Dev.setHl_pins (f : HostLink → HostLink) : (d.setHl f).pins = d.pins := rfl
@[simp] theorem Dev.setHl_resp (f : HostLink → HostLink) : (d.setHl f).resp = d.resp := rfl
@[simp] theorem Dev.setHl_hl (f : HostLink → HostLink) : (d.setHl f).hl = f d.hl := rfl

@[simp] theorem Dev.setNi_now (ni : Nat) (s : NiStat) : (d.setNi ni s).now = d.now := rfl
@[simp] theorem Dev.setNi_epoch (ni : Nat) (s : NiStat) : (d.setNi ni s).epoch = d.epoch := rfl
@[simp] theorem Dev.setNi_seed (ni : Nat) (s : NiStat) : (d.setNi ni s).seed = d.seed := rfl
@[simp] theorem Dev.setNi_mode (ni : Nat) (s : NiStat) : (d.setNi ni s).mode = d.mode := rfl
@[simp] theorem Dev.setNi_prev (ni : Nat) (s : NiStat) : (d.setNi ni s).prev = d.prev := rfl
@[simp] theorem Dev.setNi_modeKnown (ni : Nat) (s : NiStat) : (d.setNi ni s).modeKnown = d.modeKnown := rfl
@[simp] theorem Dev.setNi_regs (ni : Nat) (s : NiStat) : (d.setNi ni s).regs = d.regs := rfl
@[simp] theorem Dev.setNi_svc (ni : Nat) (s : NiStat) : (d.setNi ni s).svc = d.svc := rfl
@[simp] theorem Dev.setNi_twin (ni : Nat) (s : NiStat) : (d.setNi ni s).twin = d.twin := rfl
@[simp] theorem Dev.setNi_evq (ni : Nat) (s : NiStat) : (d.setNi ni s).evq = d.evq := rfl
@[simp] theorem Dev.setNi_evGap (ni : Nat) (s : NiStat) : (d.setNi ni s).evGap = d.evGap := rfl
@[simp] theorem Dev.setNi_faults (ni : Nat) (s : NiStat) : (d.setNi ni s).faults = d.faults := rfl
@[simp] theorem Dev.setNi_holders (ni : Nat) (s : NiStat) : (d.setNi ni s).holders = d.holders := rfl
@[simp] theorem Dev.setNi_hl (ni : Nat) (s : NiStat) : (d.setNi ni s).hl = d.hl := rfl
@[simp] theorem Dev.setNi_iptOut (ni : Nat) (s : NiStat) : (d.setNi ni s).iptOut = d.iptOut := rfl
@[simp] theorem Dev.setNi_iptDriven (ni : Nat) (s : NiStat) : (d.setNi ni s).iptDriven = d.iptDriven := rfl
@[simp] theorem Dev.setNi_vst (ni : Nat) (s : NiStat) : (d.setNi ni s).vst = d.vst := rfl
@[simp] theorem Dev.setNi_wl (ni : Nat) (s : NiStat) : (d.setNi ni s).wl = d.wl := rfl
@[simp] theorem Dev.setNi_ports (ni : Nat) (s : NiStat) : (d.setNi ni s).ports = d.ports := rfl
@[simp] theorem Dev.setNi_bpm (ni : Nat) (s : NiStat) : (d.setNi ni s).bpm = d.bpm := rfl
@[simp] theorem Dev.setNi_gal (ni : Nat) (s : NiStat) : (d.setNi ni s).gal = d.gal := rfl
@[simp] theorem Dev.setNi_lanes (ni : Nat) (s : NiStat) : (d.setNi ni s).lanes = d.lanes := rfl
@[simp] theorem Dev.setNi_grp (ni : Nat) (s : NiStat) : (d.setNi ni s).grp = d.grp := rfl
@[simp] theorem Dev.setNi_atr (ni : Nat) (s : NiStat) : (d.setNi ni s).atr = d.atr := rfl
@[simp] theorem Dev.setNi_atrUndef (ni : Nat) (s : NiStat) : (d.setNi ni s).atrUndef = d.atrUndef := rfl
@[simp] theorem Dev.setNi_atrKnown (ni : Nat) (s : NiStat) : (d.setNi ni s).atrKnown = d.atrKnown := rfl
@[simp] theorem Dev.setNi_atrOff (ni : Nat) (s : NiStat) : (d.setNi ni s).atrOff = d.atrOff := rfl
@[simp] theorem Dev.setNi_atrErr (ni : Nat) (s : NiStat) : (d.setNi ni s).atrErr = d.atrErr := rfl
@[simp] theorem Dev.setNi_atrFix (ni : Nat) (s : NiStat) : (d.setNi ni s).atrFix = d.atrFix := rfl
@[simp] theorem Dev.setNi_patrol (ni : Nat) (s : NiStat) : (d.setNi ni s).patrol = d.patrol := rfl
@[simp] theorem Dev.setNi_priv (ni : Nat) (s : NiStat) : (d.setNi ni s).priv = d.priv := rfl
@[simp] theorem Dev.setNi_log (ni : Nat) (s : NiStat) : (d.setNi ni s).log = d.log := rfl
@[simp] theorem Dev.setNi_logErr (ni : Nat) (s : NiStat) : (d.setNi ni s).logErr = d.logErr := rfl
@[simp] theorem Dev.setNi_tlb (ni : Nat) (s : NiStat) : (d.setNi ni s).tlb = d.tlb := rfl
@[simp] theorem Dev.setNi_walks (ni : Nat) (s : NiStat) : (d.setNi ni s).walks = d.walks := rfl
@[simp] theorem Dev.setNi_dge (ni : Nat) (s : NiStat) : (d.setNi ni s).dge = d.dge := rfl
@[simp] theorem Dev.setNi_bal (ni : Nat) (s : NiStat) : (d.setNi ni s).bal = d.bal := rfl
@[simp] theorem Dev.setNi_pins (ni : Nat) (s : NiStat) : (d.setNi ni s).pins = d.pins := rfl
@[simp] theorem Dev.setNi_resp (ni : Nat) (s : NiStat) : (d.setNi ni s).resp = d.resp := rfl

end Sys2Proof.Machine
end

