-- ==== Sys2Proof/Laws/Table.lean ====
section
/-!
SUPPORT. Laws of the sparse tables: what a read gives after a write or a removal, and that both keep the canonical form; and
what registers and their fields read after a write.
-/

namespace Sys2Proof.Machine

variable {α : Type}

/-! Reads after insertions. -/

theorem find_tins_same (k : Nat) (v : α) : ∀ t : Table α, (∀ e ∈ t, e.1 ≠ k) →
    (tins k v t).find? (fun e => e.1 == k) = some (k, v)
  | [], _ => by simp [tins]
  | e :: r, h => by
    have h1 : e.1 ≠ k := h e (by simp)
    have h2 := find_tins_same k v r (fun x hx => h x (by simp [hx]))
    unfold tins
    split
    · simp
    · simp [h1, h2]

theorem find_tins_ne (k j : Nat) (v : α) (hj : j ≠ k) : ∀ t : Table α,
    (tins k v t).find? (fun e => e.1 == j) = t.find? (fun e => e.1 == j)
  | [] => by simp [tins, Ne.symm hj]
  | e :: r => by
    have h2 := find_tins_ne k j v hj r
    unfold tins
    split
    · simp [List.find?_cons, Ne.symm hj]
    · simp [List.find?_cons, h2]

theorem find_filter_ne (k j : Nat) (hj : j ≠ k) : ∀ t : Table α,
    (t.filter (fun e => e.1 != k)).find? (fun e => e.1 == j) = t.find? (fun e => e.1 == j)
  | [] => rfl
  | e :: r => by
    have h2 := find_filter_ne k j hj r
    by_cases h : e.1 = k
    · simp [h, Ne.symm hj, h2]
    · simp [List.find?_cons, h, h2]

theorem find_filter_same (k : Nat) (t : Table α) : (t.filter (fun e => e.1 != k)).find? (fun e => e.1 == k) = none := by
  simp [List.find?_eq_none]

variable [DecidableEq α]

/-- A read gives the value last written at its key. -/
@[simp] theorem tget_tset_same (dflt : Nat → α) (t : Table α) (k : Nat) (v : α) :
    tget dflt (tset dflt t k v) k = v := by
  by_cases hv : v = dflt k
  · simp only [tset, tget, hv, if_true, find_filter_same]
  · simp only [tset, tget, hv, if_false]
    rw [find_tins_same _ _ _ (by intro e he; simpa using (List.mem_filter.1 he).2)]

/-- A write at another key changes nothing a read shows. -/
theorem tget_tset_ne (dflt : Nat → α) (t : Table α) (k j : Nat) (v : α) (h : j ≠ k) :
    tget dflt (tset dflt t k v) j = tget dflt t j := by
  by_cases hv : v = dflt k
  · simp only [tset, tget, hv, if_true, find_filter_ne _ _ h]
  · simp only [tset, tget, hv, if_false, find_tins_ne _ _ _ h, find_filter_ne _ _ h]

omit [DecidableEq α] in
/-- Removed keys read as their default, all others as before. -/
theorem tget_tdrop (dflt : Nat → α) (p : Nat → Bool) (k : Nat) : ∀ t : Table α,
    tget dflt (tdrop p t) k = if p k then dflt k else tget dflt t k
  | [] => by simp [tdrop, tget]
  | e :: r => by
    have ih := tget_tdrop dflt p k r
    unfold tdrop tget at *
    by_cases he : e.1 = k
    · subst he
      by_cases hp : p e.1 = true
      · simp only [hp, List.filter_cons, Bool.not_true, Bool.false_eq_true, if_false, if_true] at ih ⊢; exact ih
      · simp [hp]
    · by_cases hp : p e.1 = true
      · simp [hp, he]; simpa using ih
      · simp [hp, he]; simpa using ih

/-! The canonical form. -/

theorem keysRise_cons (a : Nat) (l : List Nat) :
    keysRise (a :: l) = true ↔ (∀ b ∈ l, a < b) ∧ keysRise l = true := by
  induction l generalizing a with
  | nil => simp [keysRise]
  | cons b r ih =>
    simp only [keysRise, Bool.and_eq_true, decide_eq_true_eq]
    constructor
    · rintro ⟨h1, h2⟩
      refine ⟨?_, h2⟩
      intro c hc
      rcases List.mem_cons.1 hc with rfl | hc
      · exact h1
      · exact lt_trans h1 ((ih b).1 h2 |>.1 c hc)
    · rintro ⟨h1, h2⟩; exact ⟨h1 b (by simp), h2⟩

omit [DecidableEq α] in
theorem keysRise_filter (p : Nat × α → Bool) (t : Table α) (h : keysRise (t.map Prod.fst) = true) :
    keysRise ((t.filter p).map Prod.fst) = true := by
  induction t with
  | nil => simp [keysRise]
  | cons e r ih =>
    have h' := (keysRise_cons _ _).1 h
    by_cases hp : p e = true
    · simp only [List.filter_cons, hp, if_true, List.map_cons]
      refine (keysRise_cons _ _).2 ⟨?_, ih h'.2⟩
      intro b hb
      obtain ⟨x, hx, rfl⟩ := List.mem_map.1 hb
      exact h'.1 _ (List.mem_map.2 ⟨x, (List.mem_filter.1 hx).1, rfl⟩)
    · simp only [List.filter_cons, hp, Bool.false_eq_true, if_false]; exact ih h'.2

omit [DecidableEq α] in
theorem mem_tins (k : Nat) (v : α) (e : Nat × α) : ∀ t : Table α, e ∈ tins k v t → e = (k, v) ∨ e ∈ t
  | [], h => by simp [tins] at h; exact .inl h
  | x :: r, h => by
    unfold tins at h
    split at h
    · simpa using h
    · rcases List.mem_cons.1 h with rfl | h
      · simp
      · rcases mem_tins k v e r h with h | h <;> simp [h]

omit [DecidableEq α] in
theorem keysRise_tins (k : Nat) (v : α) : ∀ t : Table α, keysRise (t.map Prod.fst) = true → (∀ e ∈ t, e.1 ≠ k) →
    keysRise ((tins k v t).map Prod.fst) = true
  | [], _, _ => by simp [tins, keysRise]
  | e :: r, h, hk => by
    have h' := (keysRise_cons _ _).1 h
    unfold tins
    split
    · next hlt =>
      refine (keysRise_cons _ _).2 ⟨?_, h⟩
      intro b hb
      rcases List.mem_cons.1 hb with rfl | hb
      · exact hlt
      · exact lt_trans hlt (h'.1 b hb)
    · next hlt =>
      have hne : e.1 ≠ k := hk e (by simp)
      refine (keysRise_cons _ _).2 ⟨?_, keysRise_tins k v r h'.2 (fun x hx => hk x (by simp [hx]))⟩
      intro b hb
      obtain ⟨x, hx, rfl⟩ := List.mem_map.1 hb
      rcases mem_tins k v x r hx with rfl | hx
      · simp; omega
      · exact h'.1 _ (List.mem_map.2 ⟨x, hx, rfl⟩)

/-- A write keeps the canonical form. -/
theorem twf_tset (dflt : Nat → α) (t : Table α) (k : Nat) (v : α) (h : twf dflt t = true) :
    twf dflt (tset dflt t k v) = true := by
  unfold twf at *
  simp only [Bool.and_eq_true, List.all_eq_true, decide_eq_true_eq] at *
  unfold tset
  simp only []
  split
  · exact ⟨keysRise_filter _ _ h.1, fun e he => h.2 e (List.mem_filter.1 he).1⟩
  · next hv =>
    refine ⟨keysRise_tins _ _ _ (keysRise_filter _ _ h.1) (by intro e he; simpa using (List.mem_filter.1 he).2), ?_⟩
    intro e he
    rcases mem_tins _ _ _ _ he with rfl | he
    · exact hv
    · exact h.2 e (List.mem_filter.1 he).1

/-- Taking entries out keeps the canonical form. -/
theorem twf_filter (dflt : Nat → α) (p : Nat × α → Bool) (t : Table α) (h : twf dflt t = true) :
    twf dflt (t.filter p) = true := by
  unfold twf at *
  simp only [Bool.and_eq_true, List.all_eq_true, decide_eq_true_eq] at *
  exact ⟨keysRise_filter _ _ h.1, fun e he => h.2 e (List.mem_filter.1 he).1⟩

/-- Taking keys out keeps the canonical form. -/
theorem twf_tdrop (dflt : Nat → α) (p : Nat → Bool) (t : Table α) (h : twf dflt t = true) :
    twf dflt (tdrop p t) = true := twf_filter dflt _ t h

/-! Byte memories. -/

/-- Atrium writes keep the canonical form. -/
theorem twf_atrPut : ∀ (bs : List Byte) (t : List Host.Cell) (a : Nat), twf atrDflt t = true →
    twf atrDflt (atrPut t a bs) = true
  | [], _, _, h => h
  | b :: r, t, a, h => twf_atrPut r _ (a + 1) (twf_tset _ t a b h)

/-- Private-memory writes keep the canonical form. -/
theorem twf_privPut : ∀ (bs : List Byte) (t : List Host.Cell) (a : Nat), twf privDflt t = true →
    twf privDflt (privPut t a bs) = true
  | [], _, _, h => h
  | b :: r, t, a, h => twf_privPut r _ (a + 1) (twf_tset _ t a b h)

/-- Logbook writes keep the canonical form. -/
theorem twf_logPut : ∀ (bs : List Byte) (t : List Host.Cell) (a : Nat), twf logDflt t = true →
    twf logDflt (logPut t a bs) = true
  | [], _, _, h => h
  | b :: r, t, a, h => by
    unfold logPut
    refine twf_logPut r _ (a + 1) ?_
    split
    · exact h
    · exact twf_tset _ t a b h

/-- No Logbook write reaches the chain header (R459). -/
theorem logPut_header : ∀ (bs : List Byte) (t : List Host.Cell) (a k : Nat), k < 64 →
    tget logDflt (logPut t a bs) k = tget logDflt t k
  | [], _, _, _, _ => rfl
  | b :: r, t, a, k, hk => by
    unfold logPut
    rw [logPut_header r _ (a + 1) k hk]
    split
    · rfl
    · next h =>
      refine tget_tset_ne _ _ _ _ _ ?_
      rintro rfl
      simp [logFixed, hk] at h

/-- A byte outside the written range of the Atrium reads as before. -/
theorem tget_atrPut_ne : ∀ (bs : List Byte) (t : List Host.Cell) (a k : Nat), (k < a ∨ a + bs.length ≤ k) →
    tget atrDflt (atrPut t a bs) k = tget atrDflt t k
  | [], _, _, _, _ => rfl
  | b :: r, t, a, k, h => by
    simp only [List.length_cons] at h
    unfold atrPut
    rw [tget_atrPut_ne r _ (a + 1) k (by omega)]
    exact tget_tset_ne _ _ _ _ _ (by omega)

/-- A byte within the written range of the Atrium reads as written. -/
theorem tget_atrPut_in : ∀ (bs : List Byte) (t : List Host.Cell) (a i : Nat) (h : i < bs.length),
    tget atrDflt (atrPut t a bs) (a + i) = bs[i]
  | b :: r, t, a, 0, _ => by
    unfold atrPut
    rw [tget_atrPut_ne r _ (a + 1) (a + 0) (by omega)]
    simp
  | b :: r, t, a, i + 1, h => by
    unfold atrPut
    have := tget_atrPut_in r (tset atrDflt t a b) (a + 1) i (by simpa using h)
    rw [show a + (i + 1) = a + 1 + i by omega, this]
    simp

/-! Registers. -/

/-- A register reads as last stored. -/
@[simp] theorem Dev.put_ld (d : Dev) (a : Nat) (v : Word) : (d.put a v).ld a = v := by simp [Dev.put, Dev.ld]

/-- A store leaves every other register alone. -/
theorem Dev.put_ld_ne (d : Dev) (a b : Nat) (v : Word) (h : b ≠ a) : (d.put a v).ld b = d.ld b := by
  simp only [Dev.put, Dev.ld]; exact tget_tset_ne _ _ _ _ _ h

/-- A field in another register reads as before. -/
theorem Dev.put_rd_ne (d : Dev) (a : Nat) (v : Word) (f : Fld) (h : f.addr ≠ a) : (d.put a v).rd f = d.rd f := by
  simp only [Dev.rd]; rw [Dev.put_ld_ne _ _ _ _ h]

/-- A field in another register reads as before. -/
theorem Dev.wr_rd_ne (d : Dev) (g f : Fld) (v : Nat) (h : f.addr ≠ g.addr) : (d.wr g v).rd f = d.rd f :=
  Dev.put_rd_ne _ _ _ _ h

/-- A register without the field reads as before. -/
theorem Dev.wr_ld_ne (d : Dev) (g : Fld) (v a : Nat) (h : a ≠ g.addr) : (d.wr g v).ld a = d.ld a :=
  Dev.put_ld_ne _ _ _ _ h

theorem w32_toNat (n : Nat) : (w32 n).toNat = n % 2 ^ 32 := by simp [w32]

/-- The number that `setFld` stores fits the word. -/
theorem setFld_val (w : Word) (hi lo v : Nat) (hlo : lo ≤ hi) (hhi : hi < 32) :
    w.toNat % 2 ^ lo + 2 ^ lo * (v % 2 ^ (hi + 1 - lo)) + 2 ^ (hi + 1) * (w.toNat / 2 ^ (hi + 1)) < 2 ^ 32 := by
  have hw := w.isLt
  have e1 : (2 : Nat) ^ (hi + 1) = 2 ^ lo * 2 ^ (hi + 1 - lo) := by rw [← pow_add]; congr 1; omega
  have e2 : (2 : Nat) ^ 32 = 2 ^ (hi + 1) * 2 ^ (31 - hi) := by rw [← pow_add]; congr 1; omega
  have a1 : w.toNat % 2 ^ lo < 2 ^ lo := Nat.mod_lt _ (by positivity)
  have a2 : v % 2 ^ (hi + 1 - lo) + 1 ≤ 2 ^ (hi + 1 - lo) := Nat.mod_lt _ (by positivity)
  have a3 : w.toNat / 2 ^ (hi + 1) + 1 ≤ 2 ^ (31 - hi) := by
    apply Nat.succ_le_of_lt; apply Nat.div_lt_of_lt_mul; rw [← e2]; exact hw
  have m2 := Nat.mul_le_mul_left (2 ^ lo) a2
  have m3 := Nat.mul_le_mul_left (2 ^ (hi + 1)) a3
  rw [← e2] at m3
  rw [← e1] at m2
  rw [Nat.mul_add] at m2 m3
  omega

/-- A field reads as last set, within its width. -/
theorem fld_setFld (w : Word) (hi lo v : Nat) (hlo : lo ≤ hi) (hhi : hi < 32) :
    fld (setFld w hi lo v) hi lo = v % 2 ^ (hi + 1 - lo) := by
  unfold fld setFld
  rw [w32_toNat, Nat.mod_eq_of_lt (setFld_val w hi lo v hlo hhi)]
  have e1 : (2 : Nat) ^ (hi + 1) = 2 ^ lo * 2 ^ (hi + 1 - lo) := by rw [← pow_add]; congr 1; omega
  have a1 : w.toNat % 2 ^ lo < 2 ^ lo := Nat.mod_lt _ (by positivity)
  rw [e1, mul_assoc, add_assoc, ← Nat.mul_add, Nat.add_mul_div_left _ _ (by positivity),
    Nat.div_eq_of_lt a1, Nat.zero_add, Nat.add_mul_mod_self_left, Nat.mod_mod]

/-- A field set reads as set, within its width. -/
theorem Dev.wr_rd (d : Dev) (f : Fld) (v : Nat) (hlo : f.lo ≤ f.hi) (hhi : f.hi < 32) :
    (d.wr f v).rd f = v % 2 ^ (f.hi + 1 - f.lo) := by
  simp only [Dev.wr, Dev.rd, Dev.put_ld]; exact fld_setFld _ _ _ _ hlo hhi

/-- A field below another in the same register reads as before. -/
theorem fld_setFld_below (w : Word) (hi lo v h l : Nat) (hlo : lo ≤ hi) (hhi : hi < 32) (hb : h < lo) (hl : l ≤ h) :
    fld (setFld w hi lo v) h l = fld w h l := by
  unfold fld setFld
  rw [w32_toNat, Nat.mod_eq_of_lt (setFld_val w hi lo v hlo hhi)]
  have e0 : (2 : Nat) ^ lo = 2 ^ l * 2 ^ (lo - l) := by rw [← pow_add]; congr 1; omega
  have e1 : (2 : Nat) ^ (hi + 1) = 2 ^ lo * 2 ^ (hi + 1 - lo) := by rw [← pow_add]; congr 1; omega
  have e2 : (2 : Nat) ^ (lo - l) = 2 ^ (h + 1 - l) * 2 ^ (lo - (h + 1)) := by rw [← pow_add]; congr 1; omega
  have g : ∀ y m, (y + 2 ^ lo * m) / 2 ^ l % 2 ^ (h + 1 - l) = y / 2 ^ l % 2 ^ (h + 1 - l) := by
    intro y m
    rw [e0, mul_assoc, Nat.add_mul_div_left _ _ (by positivity), e2, mul_assoc, Nat.add_mul_mod_self_left]
  have step : ∀ x k, (x % 2 ^ lo + 2 ^ lo * k) / 2 ^ l % 2 ^ (h + 1 - l) = x / 2 ^ l % 2 ^ (h + 1 - l) := by
    intro x k
    have hx : x % 2 ^ lo + 2 ^ lo * k + 2 ^ lo * (x / 2 ^ lo) = x + 2 ^ lo * k := by
      have := Nat.mod_add_div x (2 ^ lo); omega
    rw [← g (x % 2 ^ lo + 2 ^ lo * k) (x / 2 ^ lo), hx, g]
  rw [e1, mul_assoc, add_assoc, ← Nat.mul_add, step]

/-- A field above another in the same register reads as before. -/
theorem fld_setFld_above (w : Word) (hi lo v h l : Nat) (hlo : lo ≤ hi) (hhi : hi < 32) (ha : hi < l) :
    fld (setFld w hi lo v) h l = fld w h l := by
  unfold fld setFld
  rw [w32_toNat, Nat.mod_eq_of_lt (setFld_val w hi lo v hlo hhi)]
  have e1 : (2 : Nat) ^ (hi + 1) = 2 ^ lo * 2 ^ (hi + 1 - lo) := by rw [← pow_add]; congr 1; omega
  have e3 : (2 : Nat) ^ l = 2 ^ (hi + 1) * 2 ^ (l - (hi + 1)) := by rw [← pow_add]; congr 1; omega
  have a1 : w.toNat % 2 ^ lo + 1 ≤ 2 ^ lo := Nat.mod_lt _ (by positivity)
  have a2 : v % 2 ^ (hi + 1 - lo) + 1 ≤ 2 ^ (hi + 1 - lo) := Nat.mod_lt _ (by positivity)
  have m2 := Nat.mul_le_mul_left (2 ^ lo) a2
  rw [← e1, Nat.mul_add] at m2
  have a4 : w.toNat % 2 ^ lo + 2 ^ lo * (v % 2 ^ (hi + 1 - lo)) < 2 ^ (hi + 1) := by omega
  rw [e3, ← Nat.div_div_eq_div_mul, ← Nat.div_div_eq_div_mul, Nat.add_mul_div_left _ _ (by positivity),
    Nat.div_eq_of_lt a4, Nat.zero_add]

/-! Lists read and written by place. -/

/-- A place outside the empty list reads the default. -/
@[simp] theorem nth_nil {α : Type} (d : α) (k : Nat) : nth d [] k = d := rfl

/-- The first place. -/
@[simp] theorem nth_zero {α : Type} (d a : α) (l : List α) : nth d (a :: l) 0 = a := rfl

/-- A later place. -/
@[simp] theorem nth_succ {α : Type} (d a : α) (l : List α) (k : Nat) : nth d (a :: l) (k + 1) = nth d l k := by
  simp [nth]

/-- What was written is read. -/
@[simp] theorem nth_setNth {α : Type} (d v : α) : ∀ (l : List α) (k : Nat), nth d (setNth d l k v) k = v
  | [], 0 => rfl
  | [], k + 1 => by rw [setNth, nth_succ]; exact nth_setNth d v [] k
  | _ :: _, 0 => rfl
  | _ :: r, k + 1 => by rw [setNth, nth_succ]; exact nth_setNth d v r k

/-- Every other place reads as before. -/
theorem nth_setNth_ne {α : Type} (d v : α) :
    ∀ (l : List α) (k m : Nat), m ≠ k → nth d (setNth d l k v) m = nth d l m
  | [], 0, 0, h => absurd rfl h
  | [], 0, m + 1, _ => by rw [setNth, nth_succ]; rfl
  | [], k + 1, 0, _ => rfl
  | [], k + 1, m + 1, h => by
    rw [setNth, nth_succ, nth_setNth_ne d v [] k m (by omega)]; rfl
  | _ :: _, 0, 0, h => absurd rfl h
  | _ :: _, 0, m + 1, _ => by rw [setNth, nth_succ, nth_succ]
  | _ :: _, k + 1, 0, _ => rfl
  | _ :: r, k + 1, m + 1, h => by
    rw [setNth, nth_succ, nth_succ, nth_setNth_ne d v r k m (by omega)]

/-- Writing in range keeps the length. -/
theorem setNth_length {α : Type} (d v : α) :
    ∀ (l : List α) (k : Nat), k < l.length → (setNth d l k v).length = l.length
  | [], _, h => absurd h (by simp)
  | _ :: _, 0, _ => rfl
  | _ :: r, k + 1, h => by
    rw [setNth, List.length_cons, List.length_cons, setNth_length d v r k (by simpa using h)]

end Sys2Proof.Machine
end

