-- ==== Sys2Proof/WellFormed.lean ====
section
/-!
DEFINITION. Which commands are formed as the manual's interfaces can form them: numbers of slots, lanes, ports, pools, locks,
initiators and units within their ranges (Tables ARC.2, VST.8, MEM and the Register references of spec/). The meanings are
total all the same: a number outside its range names nothing, and such a command changes nothing it does not name.
-/

namespace Sys2Proof

/-- How many units a type of Table VST.8 has. -/
def unitCount (ty : Nat) : Nat :=
  match ty with
  | 0 => 6
  | 1 => 2
  | 2 => 132
  | 3 => 4
  | 4 => 16
  | _ => 0

/-- The operands of a command lie in their ranges. -/
def Instr.wf : Instr → Bool
  | .registerWrite ⟨init, origin⟩ _ _ _ _ => decide (init < 16) && decide (origin < 8)
  | .readClearRead ⟨init, origin⟩ _ _ => decide (init < 16) && decide (origin < 8)
  | .twinValueWrite _ _ => true
  | .twinComplementWrite _ _ => true
  | .twinWindowExpiry _ => true
  | .twinScrubPass _ => true
  | .integCountDecay => true
  | .powerUpAon _ => true
  | .rstNReset _ _ => true
  | .sysRstreq init _ => decide (init < 16)
  | .pllLock _ => true
  | .bootctlGo init _ => decide (init < 16)
  | .bootVholdReady => true
  | .bootDeadlineExpiry => true
  | .sysLimpClr _ _ => true
  | .limpEntry _ _ => true
  | .dozeEntryComplete => true
  | .wakeEvent _ => true
  | .wakeRestoreComplete => true
  | .stewardReset _ => true
  | .drainComplete ty idx => decide (idx < unitCount ty)
  | .drainTimeout bank _ => decide (bank < 6)
  | .csNFall _ => true
  | .hlWr _ _ => true
  | .hlRd _ _ => true
  | .hlRdlast _ => true
  | .hlRdsum _ => true
  | .hlEcho _ => true
  | .hlCfgwr _ _ => true
  | .hlCfgrd _ _ => true
  | .hlReset _ => true
  | .hlUnknownOpcode _ => true
  | .bridgeWriteIssue => true
  | .bridgeWriteResponse => true
  | .bridgeReadIssue => true
  | .bridgeReadComplete _ => true
  | .iptId => true
  | .iptStatus => true
  | .iptRead _ _ => true
  | .iptOtherOpcode _ => true
  | .iptCountSample => true
  | .vstCmdSlotWrite init slot word _ => decide (init < 16) && decide (slot < 4) && decide (word < 64)
  | .vstDoorbell _ => true
  | .vstDoneWrite _ => true
  | .vstCommandTake => true
  | .setConfigLockTimeout slot => decide (slot < 4)
  | .frameParse port => decide (port < 48)
  | .icuClaim _ _ => true
  | .icuEoi _ src _ => decide (src < 256)
  | .icuPendWrite k _ _ => decide (k < 6)
  | .icuCfgWrite k _ => decide (k < 48)
  | .evqPostc init _ => decide (init < 16)
  | .evqPop init _ => decide (init < 16)
  | .nwlAcq ⟨init, origin⟩ n _ => decide (init < 16) && decide (origin < 8) && decide (n < 64)
  | .nwlRel ⟨init, origin⟩ n _ _ => decide (init < 16) && decide (origin < 8) && decide (n < 64)
  | .nwlOrphanClear ⟨init, origin⟩ k _ _ => decide (init < 16) && decide (origin < 8) && decide (k < 2)
  | .nwlForce init _ => decide (init < 16)
  | .characterReceive ⟨port, _⟩ _ _ _ _ => decide (port < 48)
  | .frameGive port => decide (port < 48)
  | .breakReceive ⟨port, _⟩ => decide (port < 48)
  | .idleLine port => decide (port < 48)
  | .gapExpiry port => decide (port < 48)
  | .lineDown port => decide (port < 48)
  | .lineUp port => decide (port < 48)
  | .cellSpill port => decide (port < 48)
  | .rawRingWrite port => decide (port < 48)
  | .pbkFrmqPop init port => decide (init < 16) && decide (port < 48)
  | .abdEnable port _ => decide (port < 48)
  | .abdMeasure port _ _ => decide (port < 48)
  | .abdTimeout port => decide (port < 48)
  | .abdRearm port => decide (port < 48)
  | .portWakeEdge ports => ports.all fun p => decide (p < 48)
  | .shifterClockSwitch port => decide (port < 48)
  | .pbkTxqWrite init port _ => decide (init < 16) && decide (port < 48)
  | .txMessageStart ⟨port, _⟩ => decide (port < 48)
  | .txGap port => decide (port < 48)
  | .txMessageDone ⟨port, _⟩ => decide (port < 48)
  | .ctsTimeout port => decide (port < 48)
  | .collision port => decide (port < 48)
  | .retryBackoffEnd port => decide (port < 48)
  | .bpmPoolEnable p _ => decide (p < 5)
  | .bpmPoolDisable p _ => decide (p < 5)
  | .poolInitComplete p => decide (p < 5)
  | .bpmAlloc init p => decide (init < 16) && decide (p < 5)
  | .bpmAllocfit init c => decide (init < 16) && decide (c < 64)
  | .bpmFree init _ => decide (init < 16)
  | .bpmGive init o _ => decide (init < 16) && decide (o < 64)
  | .bpmReclaim init _ => decide (init < 16)
  | .bpmRebuild init _ => decide (init < 16)
  | .rebuildComplete p => decide (p < 5)
  | .cacheRefill p => decide (p < 5)
  | .cacheWriteback p => decide (p < 5)
  | .frameStart => true
  | .galPowerUpClear => true
  | .seamStallEnd _ => true
  | .seamAbort _ => true
  | .riserTransferComplete _ => true
  | .nwlResult => true
  | .galIllegal _ => true
  | .budgetExceeded => true
  | .planeWindowAccess _ _ len _ => decide (1 ≤ len)
  | .laneTrained lane _ => decide (lane < 4)
  | .laneTrainFail lane => decide (lane < 4)
  | .helloTimeout lane => decide (lane < 4)
  | .laneAlign lane _ => decide (lane < 4)
  | .sbHello lane pos _ _ _ _ _ _ _ leadPos _ _ => decide (lane < 4) && decide (pos < 8) && decide (leadPos < 8)
  | .sbLatch lane origin _ _ vec _ => decide (lane < 4) && decide (origin < 8) && decide (vec < 256)
  | .sbGany lane origin _ _ _ _ _ => decide (lane < 4) && decide (origin < 8)
  | .sbBeacon lane origin _ _ leadPos => decide (lane < 4) && decide (origin < 8) && decide (leadPos < 8)
  | .beaconMiss => true
  | .sbMarker lane _ _ => decide (lane < 4)
  | .sbLinkstate lane origin _ _ _ => decide (lane < 4) && decide (origin < 8)
  | .sbLeave lane => decide (lane < 4)
  | .sbGroupcmd lane origin _ _ _ _ => decide (lane < 4) && decide (origin < 8)
  | .sbLockReq lane ⟨origin, dst, _⟩ lock _ => decide (lane < 4) && decide (origin < 8) && decide (dst < 8) && decide (lock < 64)
  | .sbLockRsp lane ⟨origin, dst, _⟩ _ _ => decide (lane < 4) && decide (origin < 8) && decide (dst < 8)
  | .sbRaReq lane ⟨origin, dst, _⟩ _ _ len _ => decide (lane < 4) && decide (origin < 8) && decide (dst < 8) && decide (1 ≤ len) && decide (len ≤ 256)
  | .sbRaRsp lane ⟨origin, dst, _⟩ _ _ => decide (lane < 4) && decide (origin < 8) && decide (dst < 8)
  | .sbIdle lane => decide (lane < 4)
  | .uncorrectableCodeword lane _ => decide (lane < 4)
  | .laneSignalLoss lane => decide (lane < 4)
  | .laneLockLoss lane => decide (lane < 4)
  | .cncRaGo init _ => decide (init < 16)
  | .raTimeout => true
  | .corridorRequestDecode ⟨init, origin⟩ _ _ len _ _ => decide (init < 16) && decide (origin < 8) && decide (1 ≤ len) && decide (len ≤ 256)
  | .corridorResponseSink init _ _ => decide (init < 16)
  | .nocRtctlCommit _ => true
  | .nocSnap _ => true
  | .nocTraceClr _ => true
  | .nocTgGo _ => true
  | .tgRunComplete _ => true
  | .atriumAccess ⟨init, _⟩ _ _ len _ => decide (init < 16) && decide (1 ≤ len) && decide (len ≤ 256)
  | .atriumEccWriteback _ => true
  | .atriumPatrolRead bank => decide (bank < 16)
  | .atriumBankInitComplete bank => decide (bank < 16)
  | .logbookMemoryWrite init _ data => decide (init < 16) && decide (1 ≤ data.length) && decide (data.length ≤ 256)
  | .logbookMemoryRead init _ len => decide (init < 16) && decide (1 ≤ len) && decide (len ≤ 256)
  | .cwtTableWalk => true
  | .cwtInval _ => true
  | .cwtBaseWrite p _ => decide (p < 9)
  | .dgeStart init c _ => decide (init < 16) && decide (c < 2)
  | .dgeListJobComplete c => decide (c < 2)
  | .dgeData init c _ => decide (init < 16) && decide (c < 2)
  | .dgeLast init c _ => decide (init < 16) && decide (c < 2)
  | .dgeFinish init c _ => decide (init < 16) && decide (c < 2)
  | .dgeAbort init c _ => decide (init < 16) && decide (c < 2)
  | .dgeKeyLoad init _ => decide (init < 16)
  | .dgeKeyZero init _ => decide (init < 16)
  | .dgeKatGo init _ => decide (init < 16)
  | .dgeKatComplete _ => true
  | .logRecordWrite _ => true
  | .logSealWrite => true
  | .lifeToggle n => decide (n < 16)
  | .balAck _ _ => true
  | .balVtrip init _ => decide (init < 16)
  | .balSkick init _ => decide (init < 16)
  | .balHkick init _ => decide (init < 16)
  | .frameWatchdogExpiry => true
  | .stewardWatchdogExpiry _ => true
  | .hostWatchdogExpiry _ => true
  | .watchdogHalfTime _ => true
  | .clockLoss => true
  | .clockReturn => true
  | .tripReadbackCheck _ => true
  | .lockstepMismatch => true
  | .ioWarning _ => true
  | .landingTrigger _ _ _ => true
  | .landingSaveComplete _ => true
  | .restingExit _ => true
  | .aonShutdown => true
  | .coreSupplyFault _ _ => true
  | .vholdLow => true
  | .chargerFault => true
  | .vholdUpdate _ => true
  | .pioSet x _ => decide (x < 4)
  | .pioClr x _ => decide (x < 4)
  | .pioTgl x _ => decide (x < 4)
  | .pioOutWrite x _ => decide (x < 4)
  | .pinInterruptEdge n _ => decide (n < 16)
  | .pinWake mask => decide (mask < 65536)
  | .selftestComplete ty idx _ _ => decide (idx < unitCount ty)
  | .selftestGapTimeout col => decide (col < 132)
  | .jtagBypass _ => true
  | .jtagIdcode => true
  | .jtagSamplePreload _ _ => true
  | .jtagExtest _ => true
  | .jtagExtestPulse _ => true
  | .jtagExtestTrain _ => true
  | .jtagClamp _ => true
  | .jtagHighz _ => true
  | .ioRecovery _ => true
  | .joinStepTimeout lane => decide (lane < 4)
  | .sbUndefinedType lane _ => decide (lane < 4)
  | .vstNop slot => decide (slot < 4)
  | .vstGetInfo slot => decide (slot < 4)
  | .vstReset slot => decide (slot < 4)
  | .vstLimp slot => decide (slot < 4)
  | .vstDoze slot => decide (slot < 4)
  | .vstLoadGallery slot => decide (slot < 4)
  | .vstSwitchBank slot => decide (slot < 4)
  | .vstLoadMap slot => decide (slot < 4)
  | .vstLoadParse slot => decide (slot < 4)
  | .vstParseStatus slot => decide (slot < 4)
  | .vstSetService ⟨slot, _⟩ => decide (slot < 4)
  | .vstGetService slot => decide (slot < 4)
  | .vstRepairColumn slot => decide (slot < 4)
  | .vstSelftest slot => decide (slot < 4)
  | .vstTrip slot => decide (slot < 4)
  | .vstTripAck ⟨slot, _⟩ => decide (slot < 4)
  | .vstSetConfig slot => decide (slot < 4)
  | .vstGetConfig slot => decide (slot < 4)
  | .vstLogMark slot => decide (slot < 4)
  | .vstLogSeal slot => decide (slot < 4)
  | .vstLogStatus slot => decide (slot < 4)
  | .galNop _ _ _ _ => true
  | .galJmp _ _ _ _ => true
  | .galBr _ _ _ _ => true
  | .galCall _ _ _ _ => true
  | .galRet _ _ _ _ => true
  | .galLoop _ _ _ _ => true
  | .galFend _ _ _ _ => true
  | .galYield _ _ _ _ => true
  | .galSli _ _ _ _ => true
  | .galSadd _ _ _ _ => true
  | .galSsub _ _ _ _ => true
  | .galSand _ _ _ _ => true
  | .galSor _ _ _ _ => true
  | .galSxor _ _ _ _ => true
  | .galSshl _ _ _ _ => true
  | .galSshr _ _ _ _ => true
  | .galSsra _ _ _ _ => true
  | .galScmp _ _ _ _ => true
  | .galSrdl _ _ _ _ => true
  | .galLogic _ _ _ _ => true
  | .galPusha _ _ _ _ => true
  | .galElsea _ _ _ _ => true
  | .galPopa _ _ _ _ => true
  | .galSeta _ _ _ _ => true
  | .galClrf _ _ _ _ => true
  | .galMovf _ _ _ _ => true
  | .galAdd _ _ _ _ => true
  | .galSub _ _ _ _ => true
  | .galAdds _ _ _ _ => true
  | .galSubs _ _ _ _ => true
  | .galCmp _ _ _ _ => true
  | .galCmps _ _ _ _ => true
  | .galMin _ _ _ _ => true
  | .galMax _ _ _ _ => true
  | .galAbs _ _ _ _ => true
  | .galNeg _ _ _ _ => true
  | .galSel _ _ _ _ => true
  | .galBcast _ _ _ _ => true
  | .galAclr _ _ _ _ => true
  | .galMac _ _ _ _ => true
  | .galMul _ _ _ _ => true
  | .galAccf _ _ _ _ => true
  | .galAccrd _ _ _ _ => true
  | .galAccrds _ _ _ _ => true
  | .galShift _ _ _ _ _ => true
  | .galAny _ _ _ _ => true
  | .galCount _ _ _ _ => true
  | .galRin _ _ _ _ => true
  | .galRout _ _ _ _ => true
  | .galTrip _ _ _ _ => true
  | .galPio _ _ _ _ => true
  | .galPioin _ _ _ _ => true
  | .galNwl _ _ _ _ => true

end Sys2Proof
end

