-- ==== Sys2Proof/Safety.lean ====
section
/-!
DEFINITION. The terms in which claims about the block speak: the canonical form of its memories, a quiet device, the pins of
tripped channels, the chain header, and a command that completes.
-/

namespace Sys2Proof.Machine

/-- The byte memories of the device are in their canonical form: addresses strictly rising, no entry equal to what an
unlisted address reads as. -/
def Memory.wf (d : Dev) : Bool := twf atrDflt d.atr && twf privDflt d.priv && twf logDflt d.log

/-- The command answers a next state with the given property. -/
def Completes (c : Instr) (s : State) (p : State → Prop) : Prop := ∃ t, exec c s = .next t ∧ p t

/-- No integrity fault waits, the EVQ has room for an event of any kind (R168), and the halves of the registers that the
Balustrade uses agree (R437). -/
def Dev.quiet (d : Dev) : Prop :=
  d.faults = [] ∧ d.evq.length < 200 ∧ (∀ n, n < 16 → d.twinOk (BAL_SRC.addr n) = true) ∧ d.twinOk CNC_GCFG.addr = true

/-- A further integrity fault stays below the limit that leads to LIMP (R53), and the halves of SYS_INTEG agree. -/
def Dev.calm (d : Dev) : Prop :=
  d.quiet ∧ d.twinOk SYS_INTEG.addr = true ∧ d.rd SYS_INTEG.COUNT < 200 ∧
    d.rd SYS_INTEG.COUNT + 1 < d.acts SYS_INTEG.LIMIT

/-- Every byte of the Atrium, of the Logbook and of Steward private memory reads as before. -/
def Dev.sameBytes (d e : Dev) : Prop :=
  (∀ a, e.atrByte a = d.atrByte a) ∧ (∀ a, e.logByte a = d.logByte a) ∧ ∀ a, tget privDflt e.priv a = tget privDflt d.priv a

/-- Every register outside a list of addresses reads as before. -/
def Dev.sameRegs (xs : List Nat) (d e : Dev) : Prop := ∀ a, a ∉ xs → e.ld a = d.ld a

/-- Both pins of a TRIPPED channel are low (R475). -/
def Dev.pinsSafe (d : Dev) : Prop :=
  ∀ n, n < 16 → (d.rd BAL_STATE.TRIPPED).testBit n = true → d.bal.outA.testBit n = false ∧ d.bal.outB.testBit n = false

/-- The registers that a change of channel states may write (R482). -/
def tripRegs : List Nat :=
  [BAL_STATE.addr, BAL_CNT.addr, ICU_PEND.addr 2, EVQ_NEXTSEQ.addr] ++ (List.range 16).map BAL_TCAUSE.addr

/-- What the host sends after an opcode, with its CRC byte where CRCEN = 1 (R95). -/
def Dev.hostSends (d : Dev) (op : Byte) (body : List Byte) : List Byte :=
  if d.hl.cfg.getLsbD 1 then body ++ [b8 (crc8 (op :: body))] else body

/-- What the device answers, with its CRC byte where CRCEN = 1 (R95). -/
def Dev.hostGets (d : Dev) (bs : List Byte) : List Byte :=
  if d.hl.cfg.getLsbD 1 then bs ++ [b8 (crc8 bs)] else bs

/-- A command that changed nothing but the Host Link slice. -/
def State.onlyHl (s t : State) : Prop := t = { s with dev := { s.dev with hl := t.dev.hl } }

/-- The first `n` bytes of a response slot. -/
def Dev.rspBytes (d : Dev) (slot n : Nat) : List Byte :=
  ((List.range ((n + 3) / 4)).flatMap (fun i => wordBytes (d.ld (VST_RSP.addr (64 * slot + i))))).take n

/-- The command of a slot of `d` has its response in `e`: the slot is DONE, and header and payload stand in the response
slot (Table VST.1, Table VST.3). -/
def Dev.answered (d e : Dev) (slot status evseq : Nat) (pl : List Byte) : Prop :=
  e.slot slot = 3 ∧ e.rspBytes slot (8 + pl.length) = d.rspHeader slot status pl.length evseq ++ pl

/-- The registers that a response may write. -/
def rspRegs (slot : Nat) : List Nat :=
  [VST_CNT.addr, VST_SVCTIME.addr] ++ (List.range 64).map (fun i => VST_RSP.addr (64 * slot + i))

/-- The registers that a logged command's event writes (R122). -/
def evRegs : List Nat := [EVQ_NEXTSEQ.addr, EVQ_POSTSEQ.addr]

/-- Wailith serves: the slot is BUSY with a command of the opcode that is not under way (R116, R118). -/
def Dev.serves (d : Dev) (slot op : Nat) : Prop :=
  slot < 4 ∧ d.slot slot = 2 ∧ d.cmdOp slot = op ∧ d.rd VST_FWSTAT.SERVER = 1 ∧ d.waiting slot = false

/-- A logged command has posted its one event (R122). -/
def Dev.oneCommandEvent (d e : Dev) : Prop :=
  ∃ v, e.evq = d.evq ++ [v] ∧ v.seq = d.rd EVQ_NEXTSEQ.SEQ ∧ v.block = 0x80 ∧ v.code = 0x01 ∧ v.crit = false

/-- The chain header reads as it was written at final test (R459). -/
def Dev.headerKept (d : Dev) : Prop := ∀ a, a < 64 → d.logByte a = nth 0#8 chainHeader a

/-- What a DEV reset leaves (R59, R60, R476): BOOT at step 0x1, every lock free with no orphan flag, every channel TRIPPED
with cause RESET and both pins low, the Logbook as it was. -/
def Dev.restarted (d e : Dev) : Prop :=
  e.mode = .boot ∧ e.rd SYS_BOOTSTAT.STEP = 1 ∧ e.epoch = d.now ∧ (∀ n, e.holder n = 0) ∧
    (∀ n, n < 64 → e.orphan n = false) ∧ e.rd BAL_STATE.TRIPPED = 0xFFFF ∧
    (∀ n, n < 16 → e.rd (BAL_TCAUSE.RESET n) = 1) ∧ e.bal.outA = 0 ∧ e.bal.outB = 0 ∧ ∀ a, e.logByte a = d.logByte a

/-- No integrity fault is left over from an earlier command but one that falls in the next cycle: EVQ_CRIT for the refused
event of an EVQ_CRIT fault (R489, R168; log entry 11). -/
def State.settled (s : State) : Prop := ∀ f ∈ s.dev.faults, f = (evqCrit, 0#32)

/-! The Gallery. -/

/-- In RUN a frame runs, an instruction of k cycles ends within the budget limit, and nothing in flight falls due before it
ends (R298, R299, R338). -/
def Dev.runs (d : Dev) (k : Nat) : Prop :=
  d.faults = [] ∧ d.mode = .run ∧ d.canIssue = true ∧ (∀ x ∈ d.gal.xfers, d.bcnt + k ≤ x.due) ∧
    (∀ x ∈ d.gal.nwl, d.bcnt + k ≤ x.due) ∧ d.gal.pc < 16384 ∧ d.bcnt + k ≤ d.gal.limit ∧ d.gal.limit < 2 ^ 27

/-- Array time went on by k cycles, and of the registers only those listed changed. -/
def State.spent (s t : State) (k : Nat) (xs : List Nat) : Prop :=
  t.dev.bcnt = s.dev.bcnt + k ∧ t.dev.now = max s.dev.now (s.dev.gal.frameAt + (s.dev.bcnt + k) * 5 / 4) ∧
    t.dev.mode = s.dev.mode ∧ Dev.sameRegs (GSQ_BCNT_NOW.addr :: xs) s.dev t.dev

/-- Nothing changed but time, registers and the Gallery. -/
def State.galOnly (s t : State) : Prop :=
  t = { s with dev := { s.dev with now := t.dev.now, regs := t.dev.regs, gal := t.dev.gal } }

/-- An instruction of k cycles that changes no register but GSQ_BCNT_NOW, with the Gallery it leaves. -/
def Goes (c : Instr) (s : State) (k : Nat) (g : Gal) : Prop :=
  Completes c s (fun t => s.galOnly t ∧ s.spent t k [] ∧ t.dev.gal = g)

/-- The Gallery after an instruction that does not branch: the next address, with the loops that end here counted (R303). -/
def Gal.advance (g : Gal) : Gal :=
  { g with pc := (loopEnd g.pc g.loops).1 % 16384, loops := (loopEnd g.pc g.loops).2 }

/-- The Gallery after a trap: the sequencer has stopped (R283). -/
def Gal.stopped (g : Gal) (armed : Bool) : Gal :=
  { g with running := false, fend := false, trapped := true, stall := none, repReady := armed }

/-- The registers that a trap writes. -/
def trapRegs : List Nat := GSQ_TRAP.addr :: tripRegs

/-- A trap of an instruction of k cycles that leaves Gallery `g` (R283, R340): cause and address are recorded, and a safety
image trips the channels of its SAFEMASK that admit the Gallery. -/
def State.traps (s t : State) (k code : Nat) (g : Gal) : Prop :=
  s.spent t k trapRegs ∧ t.dev.gal = g.stopped (s.dev.on GSQ_REPCTL.ARMED) ∧ t.dev.rd GSQ_TRAP.CAUSE = code ∧
    t.dev.rd GSQ_TRAP.ADDR = s.dev.gal.pc ∧ s.dev.sameBytes t.dev ∧
    (∀ b, s.dev.activeBank = some b → s.dev.on (GSQ_BI_SAFE.SAFETY b) = true →
      t.dev.rd BAL_STATE.TRIPPED =
        s.dev.rd BAL_STATE.TRIPPED ||| (s.dev.rd (GSQ_BI_SAFE.SAFEMASK b) &&& s.dev.srcMask BAL_SRC.GTRIP)) ∧
    ((∀ b, s.dev.activeBank = some b → s.dev.on (GSQ_BI_SAFE.SAFETY b) = false) →
      s.galOnly t ∧ s.spent t k [GSQ_TRAP.addr])

/-- The first cycle of an instruction finds that it traps with a code, and nothing else happens (R298). -/
def Stops (c : Instr) (s : State) (code : Nat) : Prop := Completes c s (fun t => s.traps t 1 code s.dev.gal)

/-- A number of w bits as a signed or an unsigned number. -/
def fieldInt (sg : Bool) (w n : Nat) : Int := if sg && decide (2 ^ (w - 1) ≤ n) then (n : Int) - 2 ^ w else n

/-- The accumulator of one bay. -/
def Gal.accAt (g : Gal) (k : Nat) : Int := fieldInt true 48 (bayVal g.accs k)

/-- An instruction of `n` cycles wrote the field at plane i of width w in the active bays, and C and T there: `f` gives
value, C and T of a bay, none where the flag stays. Every other plane and every inactive bay stays (R271). -/
def State.writesField (s t : State) (n i w : Nat) (f : Nat → Nat × Option Bool × Option Bool) : Prop :=
  s.galOnly t ∧ s.spent t n [] ∧
    t.dev.gal = { s.dev.gal.advance with mem := t.dev.gal.mem, c := t.dev.gal.c, t := t.dev.gal.t } ∧
    (∀ j, j < i ∨ i + w ≤ j → t.dev.gal.plane j = s.dev.gal.plane j) ∧
    ∀ k, k < 16384 →
      let on := s.dev.gal.a.getLsbD k
      bayVal (t.dev.gal.field i w) k = (if on then (f k).1 else bayVal (s.dev.gal.field i w) k) ∧
      t.dev.gal.c.getLsbD k = (if on then ((f k).2.1).getD (s.dev.gal.c.getLsbD k) else s.dev.gal.c.getLsbD k) ∧
      t.dev.gal.t.getLsbD k = (if on then ((f k).2.2).getD (s.dev.gal.t.getLsbD k) else s.dev.gal.t.getLsbD k)

/-- An exact sum of an accumulator that leaves its 48 bits (R274). -/
def accOver (e : Int) : Prop := e < -2 ^ 47 ∨ 2 ^ 47 ≤ e

/-- What the accumulator keeps of an exact sum under an overflow mode (Table GAL.2). -/
def accKept (ovmode : Nat) (e : Int) : Int :=
  if ovmode = 0 then Int.bmod e (2 ^ 48) else max (-2 ^ 47) (min (2 ^ 47 - 1) e)

/-- An instruction of `n` cycles added `add` to `start` in the accumulator of every active bay (R274, R290): O is set where
the exact sum leaves 48 bits, and under OVMODE TRAP such a bay ends the frame with ACC_OVF. -/
def State.accumulates (s t : State) (n : Nat) (start add : Nat → Int) : Prop :=
  let mode := s.dev.acts GSQ_CFG.OVMODE
  (∀ k, k < 16384 →
    let e := start k + add k
    (s.dev.gal.a.getLsbD k = true →
      t.dev.gal.accAt k = accKept mode e ∧ (t.dev.gal.o.getLsbD k = true ↔ s.dev.gal.o.getLsbD k = true ∨ accOver e)) ∧
    (s.dev.gal.a.getLsbD k = false →
      t.dev.gal.accAt k = s.dev.gal.accAt k ∧ t.dev.gal.o.getLsbD k = s.dev.gal.o.getLsbD k)) ∧
  let stop := mode = 2 ∧ ∃ k, k < 16384 ∧ s.dev.gal.a.getLsbD k = true ∧ accOver (start k + add k)
  let g := { s.dev.gal with acc := t.dev.gal.acc, o := t.dev.gal.o }
  (¬stop → s.galOnly t ∧ s.spent t n [] ∧ t.dev.gal = g.advance) ∧ (stop → s.traps t n 1 g)

/-- The bay from which a shift by n steps in direction dr (0 N, 1 E, 2 S, 3 W) fills bay k, inside the device or around the
opposite edge (R276). -/
def shiftSource (dr n k : Nat) (wrap : Bool) : Option Nat :=
  let r := k / 128
  let c := k % 128
  match dr with
  | 0 => if wrap || decide (r + n < 128) then some (128 * ((r + n) % 128) + c) else none
  | 1 => if wrap || decide (n ≤ c) then some (128 * r + (c + 128 - n) % 128) else none
  | 2 => if wrap || decide (n ≤ r) then some (128 * ((r + 128 - n) % 128) + c) else none
  | _ => if wrap || decide (c + n < 128) then some (128 * r + (c + n) % 128) else none

/-- The bit that a seam gives bit j of the field in bay k, which the shift leaves without a source: its bit-columns and
bit-rows by ascending column and row number, plane by plane (R277). -/
def seamInto (dr n j k : Nat) (seam : List (BitVec 128)) : Bool :=
  let r := k / 128
  let c := k % 128
  match dr with
  | 0 => (nth 0#128 seam (j * n + (r + n - 128))).getLsbD c
  | 1 => (nth 0#128 seam (j * n + c)).getLsbD r
  | 2 => (nth 0#128 seam (j * n + r)).getLsbD c
  | _ => (nth 0#128 seam (j * n + (c + n - 128))).getLsbD r

/-- A byte of bay memory by its offset in the plane window (R26, R347). -/
def Gal.windowByte (g : Gal) (o : Nat) : Byte := (g.plane (o / 2048) >>> (8 * (o % 2048))).setWidth 8

/-- The opcodes that the tables of the instruction set define (Tables GIS.3 to GIS.8). -/
def galOpcodes : List Nat :=
  [0x01, 0x02, 0x03, 0x04, 0x05, 0x06, 0x07, 0x08, 0x10, 0x11, 0x12, 0x13, 0x14, 0x15, 0x16, 0x17, 0x18, 0x19, 0x1A] ++
  [0x20, 0x21, 0x22, 0x23, 0x24, 0x25, 0x30, 0x31, 0x32, 0x33, 0x34, 0x35, 0x36, 0x37, 0x38, 0x39, 0x3A, 0x3B, 0x3C] ++
  [0x40, 0x41, 0x42, 0x43, 0x44, 0x45, 0x50, 0x51, 0x52, 0x60, 0x61, 0x62, 0x63, 0x64, 0x65]

/-! The Concourse. -/

/-- The deferred commands of lanes and units stand in slots that exist (Table VST.1). -/
def Dev.slotsOk (d : Dev) : Prop := ∀ e ∈ d.wl.svcSlot, ∀ n ∈ e.2, n < 4

/-- A lane holds no buffer (R259). -/
def Dev.laneOwnsNothing (d : Dev) (l : Nat) : Prop := ∀ e ∈ d.bpm.owner, d.ownerAt e.1 ≠ 8 + l

/-- A lane went down with a cause (R373, R375, R56); its edge is dead where it served one. -/
def Dev.wentDown (d e : Dev) (l cause : Nat) : Prop :=
  e.lstate l = 0 ∧ e.rd (CNC_LSTAT.DOWNCAUSE l) = cause ∧ e.rd (CNC_ERR.DOWN l) = 1 ∧
    e.svcOf (.lane l) = .outOfService ∧ (e.lane l).dead = ((d.lane l).dead || decide (6 ≤ d.lstate l)) ∧
    (∀ m, m < 4 → m ≠ l → e.lstate m = d.lstate m) ∧ d.sameBytes e ∧ e.mode = d.mode

/-- A lane is quarantined (R363, R375); other lanes keep their states. -/
def Dev.isolated (d e : Dev) (l : Nat) : Prop :=
  e.lstate l = 7 ∧ e.rd (CNC_ERR.QUAR l) = 1 ∧ (e.lane l).dead = true ∧ e.srcBit ICU_PEND.addr 60 = true ∧
    e.svcOf (.lane l) = d.svcOf (.lane l) ∧ (∀ m, m < 4 → m ≠ l → e.lstate m = d.lstate m) ∧ d.sameBytes e

/-- A message was queued on the JOINED lanes but one, in the copies listed. -/
def Dev.relayed (d e : Dev) (skip : Option Nat) (ms : List SbMsg) : Prop :=
  ∀ k, k < 4 → (e.lane k).txq = (d.lane k).txq ++ if d.joined k && skip != some k then ms else []

end Sys2Proof.Machine
end

