-- ==== Sys2Proof/Laws/Ops.lean ====
section
/-!
SUPPORT. What the shared operations can do, said once each: taking faults, ending a command, appending an event, raising a
fault, pulsing a source, tripping channels, releasing locks, serving the memories, Wailith's reads of the
Atrium.
-/

namespace Sys2Proof.Machine

/-! Taking faults, ending a command. -/

/-- What is left after the faults of a cycle falls in the next cycle (R168). -/
theorem settleN_faults : ∀ (n : Nat) (d : Dev), ∀ f ∈ (settleN n d).faults, f.1 = evqCritNext
  | 0, d => by
    intro f hf
    simpa using (List.mem_filter.1 hf).2
  | n + 1, d => by
    unfold settleN
    split
    · next h =>
      intro f hf
      simpa using List.find?_eq_none.1 h f hf
    · exact settleN_faults n _

/-- A command leaves no integrity fault behind but one that falls in the next cycle (R489, R168). -/
theorem settle_faults (d : Dev) : ∀ f ∈ (settle d).faults, f = (evqCrit, 0#32) := by
  unfold settle
  split
  · next h => simp [h]
  · intro f hf
    obtain ⟨_, _, rfl⟩ := List.mem_map.1 hf
    rfl

/-- Without a fault there is nothing to take. -/
theorem settle_none (d : Dev) (h : d.faults = []) : settle d = d := by simp [settle, h]

/-- A command that raises no fault answers its device. -/
theorem fin_none (s : State) (d : Dev) (h : d.faults = []) : fin s d = .next { s with dev := d } := by
  unfold fin; rw [settle_none d h]

/-- A command that ends in `fin` answers a next state with its queue untouched and no fault of its cycle left. -/
theorem fin_next (s : State) (d : Dev) : ∃ t, fin s d = .next t ∧ t.pending = s.pending ∧ t.settled :=
  ⟨_, rfl, rfl, settle_faults d⟩

/-- In a cycle in which nothing posts an event, what happens is what `f` does on an empty EVQ, with the EVQ as it was. -/
theorem inCycle_none (f : Dev → Dev) (d : Dev) (h : (f { d with evq := [], evGap := false }).evq = []) :
    inCycle f d = { f { d with evq := [], evGap := false } with evq := d.evq, evGap := d.evGap } := by
  simp [inCycle, h]

/-- A row's write where the NI admits it. -/
theorem rowWrite_open (init : Nat) (s : State) (f : Dev → Resp × Dev) (h : s.dev.niOpen init = true) :
    rowWrite init s f = fin s { (f s.dev).2 with resp := (f s.dev).1 } := by simp [rowWrite, h]

/-- A row's write where the NI admits nothing: OFFLINE, and nothing else (R409). -/
theorem rowWrite_closed (init : Nat) (s : State) (f : Dev → Resp × Dev) (h : s.dev.niOpen init = false) :
    rowWrite init s f = fin s { s.dev with resp := .err .offline } := by simp [rowWrite, h]

/-- A Newel or EVQ row that serves. -/
theorem nwlServe_open (s : State) (i n b : Nat) (f : Dev → Resp × Dev) (h : s.dev.niOpen i = true) (hn : n < b) :
    nwlServe s i n b f = fin s { (f s.dev).2 with resp := (f s.dev).1 } := by simp [nwlServe, h, hn]

/-- A Newel or EVQ row whose NI admits nothing (R409). -/
theorem nwlServe_closed (s : State) (i n b : Nat) (f : Dev → Resp × Dev) (h : s.dev.niOpen i = false) :
    nwlServe s i n b f = fin s { s.dev with resp := .err .offline } := by simp [nwlServe, h]

/-! Events. -/

/-- The event is queued where the EVQ has room for its kind (R168). -/
theorem evqAppend_room (d : Dev) (b c : Nat) (k : Bool) (x y : Word) (h : d.evq.length < 240) :
    evqAppend d b c k x y =
      { d.wr EVQ_NEXTSEQ.SEQ (d.rd EVQ_NEXTSEQ.SEQ + 1) with
        evq := d.evq ++ [{ seq := d.rd EVQ_NEXTSEQ.SEQ, block := b, code := c, gap := d.evGap, crit := k,
                           time := d.timeUs % 2 ^ 30, d0 := x, d1 := y }],
        evGap := false } := by
  simp only [evqAppend, h, true_or, if_true]
  rfl

/-- An event with room raises no fault. -/
theorem evqAppend_faults (d : Dev) (b c : Nat) (k : Bool) (x y : Word) (h : d.evq.length < 240) :
    (evqAppend d b c k x y).faults = d.faults := by
  rw [evqAppend_room d b c k x y h]
  simp only [Dev.wr_faults]

/-- An event with room adds one entry. -/
theorem evqAppend_length (d : Dev) (b c : Nat) (k : Bool) (x y : Word) (h : d.evq.length < 240) :
    (evqAppend d b c k x y).evq.length = d.evq.length + 1 := by
  rw [evqAppend_room d b c k x y h]
  exact List.length_append

/-- An event that is queued touches no register but EVQ_NEXTSEQ. -/
theorem evqAppend_ld (d : Dev) (b c : Nat) (k : Bool) (x y : Word) (h : d.evq.length < 240) (a : Nat)
    (ha : a ≠ EVQ_NEXTSEQ.addr) : (evqAppend d b c k x y).ld a = d.ld a := by
  rw [evqAppend_room d b c k x y h]
  unfold Dev.ld
  dsimp only
  exact Dev.wr_ld_ne d EVQ_NEXTSEQ.SEQ _ a ha

/-- What the EVQ arbiter never touches. -/
theorem evqAppend_frame (d : Dev) (b c : Nat) (k : Bool) (x y : Word) :
    (evqAppend d b c k x y).mode = d.mode ∧ (evqAppend d b c k x y).svc = d.svc ∧
    (evqAppend d b c k x y).atr = d.atr ∧ (evqAppend d b c k x y).log = d.log ∧ (evqAppend d b c k x y).priv = d.priv ∧
    (evqAppend d b c k x y).bal = d.bal ∧ (evqAppend d b c k x y).gal = d.gal ∧
    (evqAppend d b c k x y).holders = d.holders := by
  unfold evqAppend
  dsimp only
  split_ifs <;> simp

/-- A register other than the two of the EVQ reads as before. -/
theorem evqAppend_ld_ne (d : Dev) (b c : Nat) (k : Bool) (x y : Word) (a : Nat) (h1 : a ≠ EVQ_NEXTSEQ.addr)
    (h2 : a ≠ EVQ_LOST.addr) : (evqAppend d b c k x y).ld a = d.ld a := by
  have e1 : ∀ (d : Dev) v, tget regReset (d.wr EVQ_NEXTSEQ.SEQ v).regs a = tget regReset d.regs a :=
    fun d v => Dev.wr_ld_ne d EVQ_NEXTSEQ.SEQ v a h1
  have e2 : ∀ (d : Dev) v, tget regReset (d.bump EVQ_LOST.COUNT v).regs a = tget regReset d.regs a :=
    fun d v => Dev.wr_ld_ne d EVQ_LOST.COUNT _ a h2
  have e3 : ∀ (d : Dev) v, tget regReset (d.wr EVQ_LOST.CRITLOST v).regs a = tget regReset d.regs a :=
    fun d v => Dev.wr_ld_ne d EVQ_LOST.CRITLOST v a h2
  unfold evqAppend Dev.ld
  dsimp only
  split_ifs <;> simp only [e1, e2, e3]

/-! Faults and pulses. -/

@[simp] theorem raiseFault_faults (d : Dev) (c : Nat) : (raiseFault d c).faults = d.faults ++ [(c, 0#32)] := rfl
@[simp] theorem raiseFault_ld (d : Dev) (c a : Nat) : (raiseFault d c).ld a = d.ld a := rfl

/-- A pulse touches nothing but the register that holds its pending bit (R154). -/
theorem pulse_ld (d : Dev) (n a : Nat) (h : a ≠ ICU_PEND.addr (n / 32)) : (d.pulse n).ld a = d.ld a := by
  unfold Dev.pulse
  split
  · rfl
  · exact Dev.put_ld_ne _ _ _ _ h

/-- A pulse touches nothing outside the registers. -/
theorem pulse_frame (d : Dev) (n : Nat) :
    (d.pulse n).faults = d.faults ∧ (d.pulse n).evq = d.evq ∧ (d.pulse n).mode = d.mode ∧ (d.pulse n).svc = d.svc ∧
    (d.pulse n).atr = d.atr ∧ (d.pulse n).log = d.log ∧ (d.pulse n).priv = d.priv ∧ (d.pulse n).bal = d.bal ∧
    (d.pulse n).gal = d.gal ∧ (d.pulse n).evGap = d.evGap := by
  unfold Dev.pulse
  split <;> exact ⟨rfl, rfl, rfl, rfl, rfl, rfl, rfl, rfl, rfl, rfl⟩

/-! Registers of a twin pair. -/

/-- The value half keeps its bits outside the TW fields and takes the new value inside them. -/
theorem putTwin_ld (d : Dev) (a : Nat) (v : Word) (r : RegSpec) (h : specOf a = some r) :
    (d.putTwin a v).ld a = (d.ld a &&& ~~~r.twMask) ||| (v &&& r.twMask) := by
  unfold Dev.putTwin
  simp only [h]
  rw [Dev.put_ld_ne _ _ _ _ (by omega), Dev.put_ld]

/-- The complement half holds the complement of the new value on the TW bits. -/
theorem putTwin_complement (d : Dev) (a : Nat) (v : Word) (r : RegSpec) (h : specOf a = some r) :
    (d.putTwin a v).ld (a + 0x800) = ~~~v &&& r.twMask := by
  unfold Dev.putTwin
  simp only [h, Dev.put_ld]

/-- A twin write leaves every other register alone. -/
theorem putTwin_ld_ne (d : Dev) (a b : Nat) (v : Word) (h1 : b ≠ a) (h2 : b ≠ a + 0x800) :
    (d.putTwin a v).ld b = d.ld b := by
  unfold Dev.putTwin
  split
  · rw [Dev.put_ld_ne _ _ _ _ h2, Dev.put_ld_ne _ _ _ _ h1]
  · rfl

/-- A pair that has taken effect agrees (R437). -/
theorem putTwin_ok (d : Dev) (a : Nat) (v : Word) : (d.putTwin a v).twinOk a = true := by
  unfold Dev.twinOk
  split
  · next r h =>
    rw [putTwin_ld d a v r h, putTwin_complement d a v r h]
    simp only [decide_eq_true_eq]
    ext i h
    simp only [BitVec.getElem_and, BitVec.getElem_or, BitVec.getElem_not]
    cases r.twMask[i] <;> simp
  · rfl

/-- Halves that agree are used without a fault. -/
theorem useTwin_ok (d : Dev) (a : Nat) (h : d.twinOk a = true) : useTwin d a = d := by simp [useTwin, h]

/-! Memories. -/

/-- A Logbook write changes no byte of the header (R459). -/
theorem logWrite_header (d : Dev) (a : Nat) (bs : List Byte) (k : Nat) (h : k < 64) :
    (d.logWrite a bs).logByte k = d.logByte k := logPut_header bs d.log a k h

/-- A Logbook write keeps the canonical form. -/
theorem logWrite_wf (d : Dev) (a : Nat) (bs : List Byte) (h : Memory.wf d = true) : Memory.wf (d.logWrite a bs) = true := by
  unfold Memory.wf Dev.logWrite at *
  simp only [Bool.and_eq_true] at *
  exact ⟨h.1, twf_logPut _ _ _ h.2⟩

/-- The memories after reset are in their canonical form. -/
theorem reset_wf : Memory.wf State.reset.dev = true := by decide

/-- A fold whose steps keep a projection keeps it. -/
theorem foldl_keep {β γ : Type} (g : Dev → β) (f : Dev → γ → Dev) (h : ∀ d x, g (f d x) = g d) :
    ∀ (l : List γ) (d : Dev), g (l.foldl f d) = g d
  | [], _ => rfl
  | x :: r, d => (foldl_keep g f h r (f d x)).trans (h d x)

/-- ECC bookkeeping of reads touches no byte. -/
theorem eccReads_mem (d : Dev) (ws : List Nat) :
    (eccReads d ws).atr = d.atr ∧ (eccReads d ws).log = d.log ∧ (eccReads d ws).priv = d.priv := by
  unfold eccReads
  refine ⟨foldl_keep Dev.atr _ ?_ ws d, foldl_keep Dev.log _ ?_ ws d, foldl_keep Dev.priv _ ?_ ws d⟩ <;>
  · intro d w
    split
    · rfl
    · rfl
    · simp only []
      split <;> rfl

/-- A twin fault touches no byte of a memory. -/
theorem twinFault_mem (d : Dev) (c a : Nat) :
    (twinFault d c a).atr = d.atr ∧ (twinFault d c a).log = d.log ∧ (twinFault d c a).priv = d.priv := by
  have p := fun d => pulse_frame d 78
  unfold twinFault
  simp only []
  split
  · exact ⟨(p _).2.2.2.2.1, (p _).2.2.2.2.2.1, (p _).2.2.2.2.2.2.1⟩
  · exact ⟨(p _).2.2.2.2.1, (p _).2.2.2.2.2.1, (p _).2.2.2.2.2.2.1⟩

/-- Using the windows touches no byte of a memory. -/
theorem useWindows_mem (d : Dev) (i : Nat) :
    (useWindows d i).atr = d.atr ∧ (useWindows d i).log = d.log ∧ (useWindows d i).priv = d.priv := by
  unfold useWindows
  split
  · exact ⟨rfl, rfl, rfl⟩
  · exact ⟨foldl_keep Dev.atr _ (fun d a => (twinFault_mem d 5 a).1) _ d,
      foldl_keep Dev.log _ (fun d a => (twinFault_mem d 5 a).2.1) _ d,
      foldl_keep Dev.priv _ (fun d a => (twinFault_mem d 5 a).2.2) _ d⟩

/-- ECC bookkeeping and the use of the windows leave it alone whether the content of the Atrium is known. -/
theorem eccReads_atrUndef (d : Dev) (ws : List Nat) : (eccReads d ws).atrUndef = d.atrUndef := by
  unfold eccReads
  refine foldl_keep Dev.atrUndef _ ?_ ws d
  intro d w
  split
  · rfl
  · rfl
  · simp only []
    split <;> rfl

theorem useWindows_atrUndef (d : Dev) (i : Nat) : (useWindows d i).atrUndef = d.atrUndef := by
  unfold useWindows
  split
  · rfl
  · refine foldl_keep Dev.atrUndef _ ?_ _ d
    intro d a
    unfold twinFault Dev.pulse
    simp only []
    split_ifs <;> rfl

/-- Once the Atrium has been cleared, meeting a word changes nothing (R417). -/
theorem meetWords_known (d : Dev) (ws : List Nat) (h : d.atrUndef = false) : meetWords d ws = d := by simp [meetWords, h]

/-- The host's write of a source region marks slots only (R151). -/
theorem hostTouch_mem (d : Dev) (i a len : Nat) :
    (hostTouch d i a len).atr = d.atr ∧ (hostTouch d i a len).log = d.log ∧ (hostTouch d i a len).priv = d.priv := by
  unfold hostTouch
  simp only []
  split
  · exact ⟨rfl, rfl, rfl⟩
  · split
    · exact ⟨rfl, rfl, rfl⟩
    · exact ⟨rfl, rfl, rfl⟩

/-- An access of the cleared Atrium writes its own bytes or none (R412, R414). -/
theorem atriumServe_atr (d : Dev) (i : Nat) (w : Bool) (a len : Nat) (bs : List Byte) (hu : d.atrUndef = false) :
    (atriumServe d i w a len bs).2.atr = d.atr ∨
    (w = true ∧ (atriumServe d i w a len bs).2.atr = atrPut d.atr a (bs.take len)) := by
  have hm := (useWindows_mem d i).1
  have hk : ∀ ws, meetWords (useWindows d i) ws = useWindows d i :=
    fun ws => meetWords_known _ ws ((useWindows_atrUndef d i).trans hu)
  unfold atriumServe
  simp only [hk]
  split
  · exact .inl hm
  · split
    · left
      unfold windowReject
      simp only []
      split <;> simp [hm]
    · split
      · exact .inl hm
      · split
        · split
          · left; rw [(eccReads_mem _ _).1, hm]
          · right
            refine ⟨‹_›, ?_⟩
            simp only []
            rw [(hostTouch_mem _ _ _ _).1]
            simp only []
            rw [(eccReads_mem _ _).1, hm]
        · split <;> (left; rw [(eccReads_mem _ _).1, hm])

/-- A byte outside the access reads as before. -/
theorem atriumServe_other (d : Dev) (i : Nat) (w : Bool) (a len : Nat) (bs : List Byte) (k : Nat)
    (hu : d.atrUndef = false) (h : k < a ∨ a + len ≤ k) : (atriumServe d i w a len bs).2.atrByte k = d.atrByte k := by
  unfold Dev.atrByte
  rcases atriumServe_atr d i w a len bs hu with e | ⟨_, e⟩
  · rw [e]
  · rw [e]
    refine tget_atrPut_ne _ _ _ _ ?_
    have := List.length_take_le len bs
    omega

/-- A read of the cleared Atrium stores nothing. -/
theorem atriumServe_read (d : Dev) (i a len : Nat) (bs : List Byte) (hu : d.atrUndef = false) :
    (atriumServe d i false a len bs).2.atr = d.atr := by
  rcases atriumServe_atr d i false a len bs hu with e | ⟨h, _⟩
  · exact e
  · exact absurd h (by decide)

/-- Meeting words of unknown content keeps the canonical form. -/
theorem meetWords_wf (d : Dev) (ws : List Nat) (h : twf atrDflt d.atr = true) : twf atrDflt (meetWords d ws).atr = true := by
  have step : ∀ (ws : List Nat) (d : Dev), twf atrDflt d.atr = true → twf atrDflt (ws.foldl meetWord d).atr = true := by
    intro ws
    induction ws with
    | nil => exact fun _ h => h
    | cons w r ih =>
      intro d h
      refine ih (meetWord d w) ?_
      unfold meetWord
      split
      · exact h
      · exact twf_atrPut _ _ _ h
  unfold meetWords
  split
  · exact step ws d h
  · exact h

/-- An access of the Atrium keeps the canonical form of the memories. -/
theorem atriumServe_wf (d : Dev) (i : Nat) (w : Bool) (a len : Nat) (bs : List Byte) (h : twf atrDflt d.atr = true) :
    twf atrDflt (atriumServe d i w a len bs).2.atr = true := by
  have hm : twf atrDflt (useWindows d i).atr = true := by rw [(useWindows_mem d i).1]; exact h
  have hk := fun ws => meetWords_wf (useWindows d i) ws hm
  unfold atriumServe
  simp only []
  split
  · exact hm
  · split
    · unfold windowReject
      simp only []
      split <;> simp [hm]
    · split
      · exact hm
      · split
        · split
          · rw [(eccReads_mem _ _).1]; exact hk _
          · simp only []
            rw [(hostTouch_mem _ _ _ _).1]
            simp only []
            rw [(eccReads_mem _ _).1]
            exact twf_atrPut _ _ _ (hk _)
        · split <;> (rw [(eccReads_mem _ _).1]; exact hk _)

/-- Zeroing a bank keeps the canonical form. -/
theorem bankZero_wf (d : Dev) (n : Nat) (h : Memory.wf d = true) : Memory.wf (bankZero d n) = true := by
  unfold Memory.wf bankZero at *
  simp only [Bool.and_eq_true] at *
  exact ⟨⟨twf_tdrop _ _ _ h.1.1, h.1.2⟩, h.2⟩

/-! Reads of Wailith in the Atrium. -/

/-- With every probe off, the probes do nothing (R404). -/
theorem probes_off (d : Dev) (q : ProbeReq) (h : ∀ k, k < 4 → d.on (NOC_PRBCTL.EN k) = false) : probes d q = d := by
  have h0 : ∀ k, k < 4 → d.probeHit k q = false := fun k hk => by simp [Dev.probeHit, h k hk]
  have : List.range 4 = [0, 1, 2, 3] := by decide
  simp [probes, this, h0 0 (by omega), h0 1 (by omega), h0 2 (by omega), h0 3 (by omega)]

/-- A request that an entry decodes whole reaches the target of the entry; with every probe off nothing else happens (R388). -/
theorem nocIssue_decoded (d : Dev) (i : Nat) (w : Bool) (a len : Nat) (t : Bool) (o : Nat) (e : RtEntry)
    (h : ∀ k, k < 4 → d.on (NOC_PRBCTL.EN k) = false) (he : d.rtMatch i a = some e) (hl : (a + len - 1) / 0x1000 ≤ e.lim) :
    nocIssue d i w a len t o = (some (fld e.ctl 27 24), d) := by
  simp [nocIssue, he, hl, probes_off d _ h]

/-- Without a word in error, reads find none (R417). -/
theorem eccReads_clean (d : Dev) (ws : List Nat) (h : d.atrErr = []) : eccReads d ws = d := by
  have : ∀ w, d.eccOf w = 0 := fun w => by simp [Dev.eccOf, h, tget]
  unfold eccReads
  induction ws with
  | nil => rfl
  | cons w r ih => simp only [List.foldl, this w]; exact ih

/-- The Steward reads the cleared Atrium without a word in error: the bytes that stand there, and nothing changes. -/
theorem atriumServe_stewardRead (d : Dev) (a len : Nat) (bs : List Byte) (hu : d.atrUndef = false) (he : d.atrErr = [])
    (hl : a + len ≤ 0x400000) (hb : d.banksServe 0 a len = true) :
    atriumServe d 0 false a len bs = (.ok (d.atrBytes a len), d) := by
  have h2 : ∀ w, (d.eccOf w == 2) = false := fun w => by simp [Dev.eccOf, he, tget]
  simp [atriumServe, useWindows, Dev.windowsPermit, hb, meetWords_known d _ hu, eccReads_clean d _ he, h2]
  omega

/-- Bytes of the Atrium, cut in two. -/
theorem atrBytes_append (d : Dev) (a m n : Nat) : d.atrBytes a m ++ d.atrBytes (a + m) n = d.atrBytes a (m + n) := by
  simp [Dev.atrBytes, List.range_add, Nat.add_assoc]

/-- What lets Wailith read the Atrium: its content is known and without errors, every bank serves, no probe looks on, and one
entry of the route table leads there. -/
def Dev.stewardReads (d : Dev) : Prop :=
  d.atrUndef = false ∧ d.atrErr = [] ∧ (∀ k, k < 4 → d.on (NOC_PRBCTL.EN k) = false) ∧
  (∀ n, n < 16 → d.bankServes 0 n = true) ∧
  ∃ e : RtEntry, fld e.ctl 27 24 = 5 ∧ 0x3FF ≤ e.lim ∧ ∀ b, b < 0x400000 → d.rtMatch 0 b = some e

/-- An access of Wailith then reads the bytes that stand there (R412) and counts at its NI (R402). -/
theorem atriumAccess_stewardReads (d : Dev) (a m : Nat) (h : d.stewardReads) (h0 : 0 < m) (ha : a + m ≤ 0x400000) :
    atriumAccess d 0 false a m [] = (.ok (d.atrBytes a m), statAccess d 0 m) := by
  obtain ⟨hu, he, hp, hb, e, ht, hl, hr⟩ := h
  have hi := nocIssue_decoded d 0 false a m false 0 e hp (hr a (by omega)) (by omega)
  have hb : d.banksServe 0 a m = true := by
    simp only [Dev.banksServe, List.all_eq_true]
    exact fun p _ => hb (p % 16) (by omega)
  have hs := atriumServe_stewardRead d a m [] hu he ha hb
  simp [atriumAccess, atriumAccessFor, hi, ht, hs, movedBytes, Resp.bytes, Dev.atrBytes]

/-- Wailith reads a region in steps of 256 bytes: the bytes that stand in the Atrium, and only the statistics of the Corridor
and the draws of free values change. -/
theorem stewardRead_reads : ∀ (k : Nat) (d : Dev) (a n : Nat), n ≤ 256 * k → a + n ≤ 0x400000 → d.stewardReads →
    let r := stewardRead k d a n
    r = (some (d.atrBytes a n), { d with noc := r.2.noc, seed := r.2.seed }) := by
  intro k
  induction k with
  | zero =>
    intro d a n hn _ _
    have : n = 0 := by omega
    subst this
    rfl
  | succ k ih =>
    intro d a n hn ha h
    by_cases h0 : n = 0
    · subst h0; simp [stewardRead, Dev.atrBytes]
    · have hs := atriumAccess_stewardReads d a (min 256 n) h (by omega) (by omega)
      by_cases h1 : n ≤ 256
      · have hz : ∀ x b, stewardRead k x b 0 = (some [], x) := by cases k <;> simp [stewardRead]
        have hm : min 256 n = n := by omega
        have h2 : n - 256 = 0 := by omega
        rw [hm] at hs
        simp only [stewardRead, h0, if_false, hs, hm, h2, hz, List.append_nil]
        rfl
      · have ht := ih (statAccess d 0 (min 256 n)) (a + 256) (n - 256) (by omega) (by omega) h
        have hm : min 256 n = 256 := by omega
        rw [hm] at hs ht
        simp only [stewardRead, h0, if_false, hm, hs]
        generalize stewardRead k (statAccess d 0 256) (a + 256) (n - 256) = r at ht
        rw [ht]
        have := atrBytes_append d a 256 (n - 256)
        rw [show 256 + (n - 256) = n by omega] at this
        rw [← this]
        rfl


end Sys2Proof.Machine
end

