-- ==== Sys2Proof/Certificates/Slice0/Obligations.lean ====
section
/-!
DEFINITION. The statements for the provers. Each docstring says what the statement says; OBLIGATIONS.json names the rules.
-/

open Sys2Proof

open Sys2Proof.Machine

/-! The machine as a whole. -/

/-- A step with a command at the front of the queue is exec of that command on the queue's rest. -/
def Obligations.StepRunsFrontCommand : Prop :=
  ∀ (c : Instr) (r : List Instr) (s : State), s.pending = c :: r → step s = exec c { s with pending := r }

/-- Every command answers a next state, and none of them touches the queue of waiting commands.
That no command stops is the model's choice (log entry 2). -/
def Obligations.EveryCommandAnswersNext : Prop :=
  ∀ (c : Instr) (s : State), ∃ t, exec c s = .next t ∧ t.pending = s.pending

/-- Whatever the state, a step that answers a next state leaves no integrity fault of its own cycle untaken: what is left
falls in the next cycle, as the refused event of an EVQ_CRIT fault does, where nothing else was left before.
How faults are taken is the model's reading (log entries 11, 26). -/
def Obligations.EveryStepTakesItsFaults : Prop :=
  ∀ (s t : State), s.settled → step s = .next t → t.settled

/-- The state after reset has no fault left over, its memories are in their canonical form, the chain header stands, and
every channel is TRIPPED with both pins low.
The chain header is read as a property of the memory (log entries 6, 49). -/
def Obligations.ResetMeetsInvariants : Prop :=
  State.reset.settled ∧ Memory.wf State.reset.dev = true ∧ State.reset.dev.headerKept ∧ State.reset.dev.pinsSafe ∧
    State.reset.dev.rd BAL_STATE.TRIPPED = 0xFFFF ∧ State.reset.pending = []

/-- What reset leaves, as the manual gives it: BOOT, straps of the pins, every lock free, every event taken, banks, columns
and lanes in the service states of R57. -/
def Obligations.ResetLeavesManualValues : Prop :=
  State.reset.dev.mode = .boot ∧ State.reset.dev.evq = [] ∧ (∀ n, State.reset.dev.holder n = 0) ∧
    (∀ n, State.reset.dev.orphan n = false) ∧ (∀ n, n < 16 → State.reset.dev.svcOf (.atb n) = .inService) ∧
    (∀ c, c < 128 → State.reset.dev.svcOf (.col c) = .inService) ∧
    (∀ b, b < 6 → State.reset.dev.svcOf (.bank b) = .outOfService) ∧
    (∀ l, l < 4 → State.reset.dev.svcOf (.lane l) = .outOfService) ∧
    (∀ n, n < 4 → State.reset.dev.slot n = 0) ∧ State.reset.dev.ld SYS_DEVID.addr = 0x4B4E4808#32 ∧
    State.reset.dev.rd SYS_RSTCAUSE.POR = 1 ∧ State.reset.dev.hl.cfg = 0x800#32

/-- Every 64-bit word is the encoding of the Gallery command it decodes to, so no bit of it is dropped; a Gallery command
other than the illegal word, with no seam bits attached, decodes back from its encoding; and a table word of 64 bits
spells the command that its bits decode to. -/
def Obligations.GalleryWordsRoundTrip : Prop :=
  (∀ w : BitVec 64, galEncode (galDecode w) = some w) ∧
  ∀ (i : Instr) (w : BitVec 64), galEncode i = some w → (∀ v, i ≠ .galIllegal v) →
    (∀ x d a b seam, i = .galShift x d a b seam → seam = none) →
    galDecode w = i ∧ decodeTableWord 64 w.toNat = some i

/-- Words written out from Tables GIS.1 and GIS.3 to GIS.7 decode to the instructions they stand for; an OP that no table
lists is ILLEGAL. -/
def Obligations.GalleryWordsDecodeRight : Prop :=
  galDecode 0x0100000000000000#64 = .galNop 0#8 0#16 0#16 0#16 ∧
  galDecode 0x1000000100001234#64 = .galSli 0#8 1#16 0#16 0x1234#16 ∧
  galDecode 0x3107002000100008#64 = .galAdd 7#8 0x20#16 0x10#16 8#16 ∧
  galDecode 0x6581000500000003#64 = .galNwl 0x81#8 5#16 0#16 3#16 ∧
  galDecode 0x6000000100020003#64 = .galRin 0#8 1#16 2#16 3#16 ∧
  galDecode 0x0000000000000000#64 = .galIllegal 0#64 ∧
  galDecode 0x6600000000000000#64 = .galIllegal 0x6600000000000000#64

/-! Registers and twin words. -/

/-- REGISTER_WRITE of a W1C register: a 1 clears its flag, a 0 leaves it, and a flag that hardware sets in the same cycle
stays set; nothing else changes. SYS_RSTCAUSE stands for the W1C registers, and ATC_ERR for those with an event
counter tied to a flag: the counter counts the set of the same cycle. -/
def Obligations.RegisterWriteClearsFlags : Prop :=
  ∀ (init origin : Nat) (data sets : Word) (s : State), s.dev.faults = [] → s.dev.niOpen init = true →
    Completes (.registerWrite ⟨init, origin⟩ ATC_ERR.addr data false 1#32) s (fun t =>
      t.dev.resp = .ok [] ∧ t.dev.rd ATC_ERR.CORR = 1 ∧
      t.dev.rd ATC_ECCCNT.CORR = min 0xFFFF (s.dev.rd ATC_ECCCNT.CORR + 1) ∧
      t.dev.rd ATC_ECCCNT.UNC = s.dev.rd ATC_ECCCNT.UNC ∧
      Dev.sameRegs [ATC_ERR.addr, ATC_ECCCNT.addr] s.dev t.dev ∧ s.dev.sameBytes t.dev) ∧
    Completes (.registerWrite ⟨init, origin⟩ SYS_RSTCAUSE.addr data false sets) s (fun t =>
      t.dev.resp = .ok [] ∧
      t.dev.ld SYS_RSTCAUSE.addr = (s.dev.ld SYS_RSTCAUSE.addr &&& ~~~(data &&& 0x7D#32)) ||| (sets &&& 0x7D#32) ∧
      Dev.sameRegs [SYS_RSTCAUSE.addr] s.dev t.dev ∧ s.dev.sameBytes t.dev ∧ t.dev.mode = s.dev.mode)

/-- Register accesses without effect: one that is not naturally aligned gets an error response, and a write to a register
whose fields are all RO completes without error; the device is the one before but for the response of the access. -/
def Obligations.RegisterAccessesWithoutEffect : Prop :=
  ∀ (init origin a : Nat) (data sets : Word) (twin : Bool) (s : State), s.dev.faults = [] → s.dev.niOpen init = true →
    (a % 4 ≠ 0 →
      exec (.registerWrite ⟨init, origin⟩ a data twin 0#32) s = .next { s with dev := { s.dev with resp := .err .target } } ∧
      exec (.readClearRead ⟨init, origin⟩ a 0#32) s = .next { s with dev := { s.dev with resp := .err .target } }) ∧
    (a ∈ [SYS_DEVID.addr, SYS_REV.addr, SYS_MODE.addr, SYS_STRAP.addr, SYS_VER_BOOT.addr, SYS_VER_WL.addr,
          SYS_SVCSUM.addr, EVQ_STAT.addr, BAL_STATE.addr] →
      exec (.registerWrite ⟨init, origin⟩ a data false sets) s = .next { s with dev := { s.dev with resp := .ok [] } })

/-- READ_CLEAR_READ of the event-loss counter: the read returns the stored value, clears the counter and keeps the losses of
the same cycle; the CRITLOST flag beside it is no RC field and stays. -/
def Obligations.ReadClearCounterRestarts : Prop :=
  ∀ (init origin : Nat) (incs : Word) (s : State), s.dev.faults = [] → s.dev.niOpen init = true →
    Completes (.readClearRead ⟨init, origin⟩ EVQ_LOST.addr incs) s (fun t =>
      t.dev.resp = .ok (wordBytes (s.dev.view EVQ_LOST.addr)) ∧
      t.dev.rd EVQ_LOST.COUNT = fld incs 15 0 ∧ t.dev.rd EVQ_LOST.CRITLOST = s.dev.rd EVQ_LOST.CRITLOST ∧
      Dev.sameRegs [EVQ_LOST.addr] s.dev t.dev ∧ s.dev.sameBytes t.dev)

/-- The twin protocol on SYS_INTEG: a value write only becomes the pending write of its block; a complement write that
agrees with it, at most 64 cycles later, applies it to both halves and leaves no pending write. A window that ends
without its complement discards the pending write at t + 65 with fault INCOMPLETE: the applied value stays, TWN_ERR
shows cause 2, and the fault's code is the last integrity cause; this is stated below the limit of SYS_INTEG, where
the fault leads to no LIMP.
The moments of the window are the model's reading (log entry 69). -/
def Obligations.TwinPairTakesEffectOrExpires : Prop :=
  ∀ (data comp : Word) (s : State), s.dev.faults = [] → s.dev.niOpen 0 = true →
    (s.dev.pendOf 0 = none →
      Completes (.twinValueWrite SYS_INTEG.addr data) s (fun t =>
        t.dev.twin = s.dev.twin ++ [{ addr := SYS_INTEG.addr, data := data, at_ := s.dev.now }] ∧
        t.dev.resp = .ok [] ∧ Dev.sameRegs [] s.dev t.dev ∧ s.dev.sameBytes t.dev)) ∧
    (∀ p, s.dev.pendOf 0 = some p → p.addr = SYS_INTEG.addr → s.dev.now ≤ p.at_ + 64 →
      comp &&& 0xFF00#32 = ~~~p.data &&& 0xFF00#32 →
      Completes (.twinComplementWrite (SYS_INTEG.addr + 0x800) comp) s (fun t =>
        t.dev.rd SYS_INTEG.LIMIT = fld p.data 15 8 ∧ t.dev.rd SYS_INTEG.COUNT = s.dev.rd SYS_INTEG.COUNT ∧
        t.dev.twinOk SYS_INTEG.addr = true ∧ t.dev.pendOf 0 = none ∧ t.dev.resp = .ok [] ∧
        Dev.sameRegs [SYS_INTEG.addr, SYS_INTEG.addr + 0x800] s.dev t.dev ∧ s.dev.sameBytes t.dev)) ∧
    (∀ p, s.dev.calm → s.dev.pendOf 0 = some p → p.addr = SYS_INTEG.addr →
      Completes (.twinWindowExpiry 0) s (fun t =>
        t.dev.pendOf 0 = none ∧ t.dev.now = max s.dev.now (p.at_ + 65) ∧
        t.dev.rd SYS_INTEG.LIMIT = s.dev.rd SYS_INTEG.LIMIT ∧
        (t.dev.rd TWN_ERR.CAUSE).testBit 1 = true ∧ t.dev.rd BAL_INTCAUSE.LAST = 0x12 ∧
        t.dev.rd SYS_INTEG.COUNT = s.dev.rd SYS_INTEG.COUNT + 1 ∧ s.dev.sameBytes t.dev))

/-- A scrub pass that meets only agreeing pairs counts itself and shows its length; a decay takes one from a count above
zero. Nothing else changes. -/
def Obligations.ScrubPassAndDecayCount : Prop :=
  ∀ (us : Nat) (s : State), s.dev.faults = [] → s.dev.coreOn = true →
    (s.dev.mode ≠ .landing → s.dev.badTwins = [] →
      Completes (.twinScrubPass us) s (fun t =>
        t.dev.rd TWN_STAT.PASSES = min 0xFFFF (s.dev.rd TWN_STAT.PASSES + 1) ∧ t.dev.rd TWN_STAT.LASTPASS = min us 0xFFFF ∧
        Dev.sameRegs [TWN_STAT.addr] s.dev t.dev ∧ s.dev.sameBytes t.dev)) ∧
    (Completes .integCountDecay s (fun t =>
      t.dev.rd SYS_INTEG.COUNT = s.dev.rd SYS_INTEG.COUNT - 1 ∧ t.dev.rd SYS_INTEG.LIMIT = s.dev.rd SYS_INTEG.LIMIT ∧
      Dev.sameRegs [SYS_INTEG.addr] s.dev t.dev ∧ s.dev.sameBytes t.dev))

/-! Resets, boot, modes. -/

/-- The sources of a full or DEV reset restart the device in BOOT: power-up of VDD_AON, RST_N outside LANDING and RESTING,
SYS_RSTREQ with its key, and in RESTING with the AON domain powered RST_N or the exit from RESTING. Each sets its own
flag of SYS_RSTCAUSE; SYS_LIMP is cleared by the power-up and kept by the others, with a LIMP cause that falls in the
cycle of RST_N recorded in it. RST_N in LANDING is ignored: only SYS_RSTCAUSE.PIN_IGN is set. A write of SYS_RSTREQ
without its key and DEV has no effect, and one in LANDING or RESTING gets an error response.
The other flags of SYS_RSTCAUSE and the cause of that error are the model's reading (log entries 27, 54). -/
def Obligations.ResetSourcesRestartInBoot : Prop :=
  ∀ (straps init : Nat) (cause : Option (Nat × Nat)) (data : Word) (s : State),
    Completes (.powerUpAon straps) s (fun t =>
      s.dev.restarted t.dev ∧ t.dev.ld SYS_STRAP.addr = strapWord straps ∧ t.dev.rd SYS_RSTCAUSE.POR = 1 ∧
      t.dev.ld SYS_LIMP.addr = 0#32) ∧
    (s.dev.mode ≠ .landing → s.dev.mode ≠ .resting →
      Completes (.rstNReset straps cause) s (fun t =>
        s.dev.restarted t.dev ∧ t.dev.ld SYS_STRAP.addr = strapWord straps ∧ t.dev.rd SYS_RSTCAUSE.PIN = 1 ∧
        (cause = none → t.dev.ld SYS_LIMP.addr = s.dev.ld SYS_LIMP.addr) ∧
        ∀ r e, cause = some (r, e) →
          (s.dev.mode = .limp ∨ s.dev.rd SYS_LIMP.REASON ≠ 0 → t.dev.rd SYS_LIMP.MORE = 1 ∧
            t.dev.rd SYS_LIMP.REASON = s.dev.rd SYS_LIMP.REASON) ∧
          (s.dev.mode ≠ .limp → s.dev.rd SYS_LIMP.REASON = 0 → t.dev.rd SYS_LIMP.REASON = r % 2 ^ 8 ∧
            t.dev.rd SYS_LIMP.DETAIL = e % 2 ^ 22))) ∧
    (s.dev.mode = .resting → s.dev.aonOn = true →
      Completes (.rstNReset straps cause) s (fun t =>
        s.dev.restarted t.dev ∧ t.dev.ld SYS_STRAP.addr = strapWord straps ∧ t.dev.rd SYS_RSTCAUSE.RESTING = 1)) ∧
    (s.dev.mode ≠ .landing → s.dev.mode ≠ .resting → fld data 31 24 = 0xA5 → data.getLsbD 0 = true →
      Completes (.sysRstreq init data) s (fun t =>
        s.dev.restarted t.dev ∧ t.dev.rd SYS_RSTCAUSE.HOSTREQ = 1 ∧ t.dev.ld SYS_LIMP.addr = s.dev.ld SYS_LIMP.addr)) ∧
    (s.dev.mode = .resting → s.dev.aonOn = true →
      Completes (.restingExit straps) s (fun t =>
        s.dev.restarted t.dev ∧ t.dev.ld SYS_STRAP.addr = strapWord straps ∧ t.dev.rd SYS_RSTCAUSE.RESTING = 1 ∧
        t.dev.ld SYS_LIMP.addr = s.dev.ld SYS_LIMP.addr)) ∧
    (s.dev.faults = [] → s.dev.mode = .landing →
      Completes (.rstNReset straps cause) s (fun t =>
        t.dev.mode = .landing ∧ t.dev.rd SYS_RSTCAUSE.PIN_IGN = 1 ∧ Dev.sameRegs [SYS_RSTCAUSE.addr] s.dev t.dev ∧
        s.dev.sameBytes t.dev)) ∧
    (s.dev.faults = [] → s.dev.mode ≠ .landing → s.dev.mode ≠ .resting →
      ¬(fld data 31 24 = 0xA5 ∧ data.getLsbD 0 = true) →
      exec (.sysRstreq init data) s = .next { s with dev := { s.dev with resp := .ok [] } }) ∧
    (s.dev.faults = [] → s.dev.mode = .landing ∨ s.dev.mode = .resting → ∃ c,
      exec (.sysRstreq init data) s = .next { s with dev := { s.dev with resp := .err c } })

/-- The boot sequence: PLL lock with passing tests takes the device through steps 0x1 to 0x5 with the Atrium zero, the EVQ
empty and every lock free; a write of GO in step 0x5 checks the bundle and ends with GO = 0 either at step 0x8, with the
version words of the bundle's records and the Wailith image in private memory, or in LIMP with one of the reasons of an
image; VHOLD ready in step 0x8 leads to RUN with SYS_LIMP cleared and Wailith as the server.
Readings of the boot steps: log entry 67. -/
def Obligations.BootSequenceReachesRun : Prop :=
  ∀ (init : Nat) (data : Word) (s : State), s.dev.quiet → s.dev.mode = .boot →
    (s.dev.rd SYS_BOOTSTAT.STEP ≤ 1 →
      Completes (.pllLock none) s (fun t =>
        t.dev.mode = .boot ∧ t.dev.rd SYS_BOOTSTAT.STEP = 5 ∧ (∀ a, t.dev.atrByte a = 0#8) ∧ t.dev.evq = [] ∧
        (∀ n, t.dev.holder n = 0) ∧ t.dev.rd DGE_KAT.PASS = 1 ∧ t.dev.rd SYS_BOOTSTAT.SAVED = bit s.dev.saveValid ∧
        ∀ a, t.dev.logByte a = s.dev.logByte a)) ∧
    (s.dev.rd SYS_BOOTSTAT.STEP = 5 → s.dev.rd SYS_LIMP.REASON = 0 → data.getLsbD 0 = true → s.dev.niOpen init = true →
      Completes (.bootctlGo init data) s (fun t =>
        t.dev.rd SYS_BOOTCTL.GO = 0 ∧
        ((t.dev.mode = .boot ∧ t.dev.rd SYS_BOOTSTAT.STEP = 8 ∧
            ∃ w sc, bundleCheck s.dev = .ok (w, sc) ∧ t.dev.ld SYS_VER_WL.addr = recVersion w ∧
              t.dev.ld SYS_VER_SC.addr = recVersion sc ∧ t.dev.image = w) ∨
          (t.dev.mode = .limp ∧ 1 ≤ t.dev.rd SYS_LIMP.REASON ∧ t.dev.rd SYS_LIMP.REASON ≤ 5)))) ∧
    (s.dev.rd SYS_BOOTSTAT.STEP = 8 → s.dev.vready = true →
      Completes .bootVholdReady s (fun t =>
        t.dev.mode = .run ∧ t.dev.ld SYS_LIMP.addr = 0#32 ∧ t.dev.rd VST_FWSTAT.SERVER = 1 ∧
        (s.dev.wl.logStop = false → t.dev.wl.logIndex = (s.dev.wl.logIndex + 1) % 2 ^ 32) ∧
        ∀ a, a < 64 → t.dev.logByte a = s.dev.logByte a))

/-- Entry to LIMP from BOOT, RUN or DOZE records the first cause in REASON and DETAIL, hands the Vestibule to the BootROM
service, and stops the sequencer with its outputs zero; a BOOT deadline without VHOLD enters it with CAP_LOW, after
the BOOT record and the clear of SYS_LIMP; in LIMP a further cause sets MORE and leaves REASON. -/
def Obligations.LimpEntryRecordsCause : Prop :=
  ∀ (reason detail : Nat) (s : State), s.dev.quiet →
    (s.dev.mode = .boot ∨ s.dev.mode = .run ∨ s.dev.mode = .doze → s.dev.rd SYS_LIMP.REASON = 0 →
      Completes (.limpEntry reason detail) s (fun t =>
        t.dev.mode = .limp ∧ t.dev.prev = s.dev.mode ∧ t.dev.rd SYS_LIMP.REASON = reason % 2 ^ 8 ∧
        t.dev.rd SYS_LIMP.DETAIL = detail % 2 ^ 22 ∧ t.dev.rd VST_FWSTAT.SERVER = 2 ∧ t.dev.gal.running = false ∧
        ∀ x, x < 4 → t.dev.rd (PIO_GOUT.GOUT x) = 0)) ∧
    (s.dev.mode = .limp →
      Completes (.limpEntry reason detail) s (fun t =>
        t.dev.mode = .limp ∧ t.dev.rd SYS_LIMP.MORE = 1 ∧ t.dev.rd SYS_LIMP.REASON = s.dev.rd SYS_LIMP.REASON ∧
        Dev.sameRegs [SYS_LIMP.addr] s.dev t.dev ∧ s.dev.sameBytes t.dev)) ∧
    (s.dev.mode = .boot → s.dev.rd SYS_BOOTSTAT.STEP = 8 → s.dev.vready = false →
      Completes .bootDeadlineExpiry s (fun t =>
        t.dev.mode = .limp ∧ t.dev.rd SYS_LIMP.REASON = 7 ∧ t.dev.rd SYS_LIMP.DETAIL = s.dev.rd PSV_VHOLD.VNOW ∧
        (s.dev.wl.logStop = false → t.dev.wl.logIndex = (s.dev.wl.logIndex + 1) % 2 ^ 32)))

/-- A write of SYS_LIMP with CLR clears REASON, DETAIL and MORE together, and a 1 in MORE alone clears MORE; nothing else
changes. A LIMP cause recorded in the cycle of the write is kept: in LIMP it stands in MORE, and from BOOT, RUN and
DOZE the device enters LIMP with it in the REASON that CLR has cleared. -/
def Obligations.LimpClearKeepsNewCause : Prop :=
  ∀ (data : Word) (r e : Nat) (s : State), s.dev.faults = [] → s.dev.niOpen 0 = true →
    Completes (.sysLimpClr data none) s (fun t =>
      (data.getLsbD 9 = true → t.dev.ld SYS_LIMP.addr = 0#32) ∧
      (data.getLsbD 9 = false → t.dev.rd SYS_LIMP.REASON = s.dev.rd SYS_LIMP.REASON ∧
        t.dev.rd SYS_LIMP.DETAIL = s.dev.rd SYS_LIMP.DETAIL ∧
        t.dev.rd SYS_LIMP.MORE = if data.getLsbD 8 then 0 else s.dev.rd SYS_LIMP.MORE) ∧
      Dev.sameRegs [SYS_LIMP.addr] s.dev t.dev ∧ s.dev.sameBytes t.dev ∧ t.dev.mode = s.dev.mode) ∧
    (s.dev.mode = .limp → Completes (.sysLimpClr data (some (r, e))) s (fun t => t.dev.rd SYS_LIMP.MORE = 1)) ∧
    (s.dev.mode = .boot ∨ s.dev.mode = .run ∨ s.dev.mode = .doze → data.getLsbD 9 = true →
      Completes (.sysLimpClr data (some (r, e))) s (fun t =>
        t.dev.mode = .limp ∧ t.dev.rd SYS_LIMP.REASON = r % 2 ^ 8 ∧ t.dev.rd SYS_LIMP.DETAIL = e % 2 ^ 22))

/-- DOZE: entry that was under way completes, once no frame runs, in DOZE with no server, no loaded bank and the locks of
the Gallery sequencer and of the Riser released as orphaned, and the copies of the loaded images stand in the Atrium;
a wake event is held; the restore brings the active image back from Wailith's copy and leads to RUN. Stated for lanes
that are down, so that no group changes with it.
Where the copies stand is open (log entry 62), and readings of what DOZE keeps are in log entry 68. -/
def Obligations.DozeEntryAndWake : Prop :=
  ∀ (s : State), s.dev.quiet →
    (∀ m, s.dev.mode = .run → s.dev.wl.dozeWait = some m → s.dev.inFrame = false → (∀ l, l < 4 → s.dev.lstate l = 0) →
      Completes .dozeEntryComplete s (fun t =>
        t.dev.mode = .doze ∧ t.dev.prev = .run ∧ t.dev.rd VST_FWSTAT.SERVER = 0 ∧ t.dev.rd GSQ_BANK.LOADED = 0 ∧
        (∀ n, n < 64 → s.dev.holder n = 3 ∨ s.dev.holder n = 4 → t.dev.holder n = 0 ∧ t.dev.orphan n = true) ∧
        t.dev.wl.dozeWait = none ∧ t.dev.gal.mem = [] ∧ t.dev.gal.latches = s.dev.gal.latches ∧
        t.dev.wl.copies = [0, 1].map (fun b => if s.dev.loaded b then s.dev.gal.banks[b]? else none) ∧
        t.dev.atr = atrPut s.dev.atr t.dev.wl.copyAt (copiesBytes t.dev.wl.copies) ∧ t.dev.svc = s.dev.svc ∧
        ∀ a, t.dev.logByte a = s.dev.logByte a)) ∧
    (s.dev.mode = .doze →
      exec (.wakeEvent none) s = .next { s with dev := { s.dev with wl := { s.dev.wl with wakeHeld := true } } }) ∧
    (∀ b, s.dev.mode = .doze → s.dev.wl.wakeHeld = true → s.dev.wl.laneIn = [false, false, false, false] →
      s.dev.on GSQ_BANK.NONE = false → nth none s.dev.wl.copies (s.dev.rd GSQ_BANK.ACTIVE) = some b →
      Completes .wakeRestoreComplete s (fun t =>
        t.dev.mode = .run ∧ t.dev.prev = .doze ∧ t.dev.rd VST_FWSTAT.SERVER = 1 ∧
        nth PBank.empty t.dev.gal.banks (s.dev.rd GSQ_BANK.ACTIVE) = b ∧
        t.dev.rd GSQ_BANK.LOADED = 2 ^ s.dev.rd GSQ_BANK.ACTIVE ∧ t.dev.wl.wakeHeld = false ∧ s.dev.sameBytes t.dev))

/-- A Steward reset counts itself with its cause and releases every lock of holder 0x1 as orphaned.
Where no Wailith restarts is the model's reading (log entry 28). -/
def Obligations.StewardResetOrphansLocks : Prop :=
  ∀ (cause : Nat) (s : State), s.dev.quiet → s.dev.mode ≠ .landing → s.dev.mode ≠ .resting →
    Completes (.stewardReset cause) s (fun t =>
      t.dev.rd SYS_STWRST.CAUSE = cause % 4 ∧ t.dev.rd SYS_STWRST.COUNT = min 0xFFFF (s.dev.rd SYS_STWRST.COUNT + 1) ∧
      ∀ n, n < 64 → s.dev.holder n = 1 → t.dev.holder n = 0 ∧ t.dev.orphan n = true)

/-! The power supervisor. -/

/-- The monitors: the I/O warning sets below 3.10 V, clears above 3.15 V and holds between; recovery in LANDING sets
RECOVERED; VHOLD readings and their minimum; the charger's fault at its check; VLOW with one CRIT event. Each touches
only its own registers and no byte of memory. -/
def Obligations.SupplyMonitorsShow : Prop :=
  ∀ (mv : Nat) (s : State), s.dev.quiet → s.dev.coreOn = true →
    Completes (.ioWarning mv) s (fun t =>
      t.dev.pins.vio0 = mv ∧
      t.dev.rd PSV_STAT.IOWARN = (if mv < 3100 then 1 else if 3150 < mv then 0 else s.dev.rd PSV_STAT.IOWARN) ∧
      (mv < 3100 → s.dev.rd PSV_STAT.IOWARN = 0 → t.dev.rd PSV_CNT.WARNS = min 0xFFFF (s.dev.rd PSV_CNT.WARNS + 1)) ∧
      Dev.sameRegs [PSV_STAT.addr, PSV_CNT.addr] s.dev t.dev ∧ s.dev.sameBytes t.dev) ∧
    (s.dev.mode = .landing → 3200 ≤ mv →
      Completes (.ioRecovery mv) s (fun t =>
        t.dev.rd PSV_SAVESTAT.STATUS = s.dev.rd PSV_SAVESTAT.STATUS ||| 2 ^ 24 ∧ t.dev.pins.vio0 = mv ∧
        Dev.sameRegs [PSV_SAVESTAT.addr] s.dev t.dev ∧ s.dev.sameBytes t.dev)) ∧
    (s.dev.mode ≠ .landing →
      Completes (.vholdUpdate mv) s (fun t =>
        t.dev.pins.vhold = mv ∧ t.dev.rd PSV_VHOLD.VNOW = min 255 (mv / 100) ∧
        t.dev.rd PSV_VHOLD.VMIN = min (min 255 (mv / 100)) (s.dev.rd PSV_VHOLD.VMIN) ∧
        t.dev.rd PSV_STAT.CHGON = (if mv < 15000 then 1 else 0) ∧
        Dev.sameRegs [PSV_VHOLD.addr, PSV_STAT.addr] s.dev t.dev ∧ s.dev.sameBytes t.dev)) ∧
    (s.dev.on PSV_STAT.CHGON = true →
      Completes .chargerFault s (fun t =>
        t.dev.pins.vfix = s.dev.pins.vhold ∧
        t.dev.rd PSV_STAT.CHGFLT = (if s.dev.pins.vhold < s.dev.pins.vfix + 500 then 1 else s.dev.rd PSV_STAT.CHGFLT) ∧
        Dev.sameRegs [PSV_STAT.addr] s.dev t.dev ∧ s.dev.sameBytes t.dev)) ∧
    (s.dev.mode = .run →
      Completes .vholdLow s (fun t =>
        t.dev.rd PSV_STAT.VLOW = 1 ∧ t.dev.evq.length = s.dev.evq.length + 1 ∧
        Dev.sameRegs [PSV_STAT.addr, EVQ_NEXTSEQ.addr] s.dev t.dev ∧ s.dev.sameBytes t.dev))

/-- A core or array supply outside 0.71 V to 0.79 V sets its flag and raises integrity fault SUPPLY, which counts and is the
last cause. Stated below the limit of SYS_INTEG, where the fault leads to no LIMP. -/
def Obligations.CoreSupplyFaultRaisesIntegrity : Prop :=
  ∀ (gal : Bool) (mv : Nat) (s : State), s.dev.calm → s.dev.mode ≠ .landing → s.dev.mode ≠ .resting →
    (gal = true → s.dev.galOn = true) → mv < 710 ∨ 790 < mv →
    Completes (.coreSupplyFault gal mv) s (fun t =>
      t.dev.rd (if gal then PSV_STAT.GALFLT else PSV_STAT.COREFLT) = 1 ∧ t.dev.rd BAL_INTCAUSE.LAST = 0x70 ∧
      t.dev.rd SYS_INTEG.COUNT = s.dev.rd SYS_INTEG.COUNT + 1 ∧ t.dev.mode = s.dev.mode ∧ s.dev.sameBytes t.dev)

/-- LANDING, RESTING and the end of the AON supply: a trigger trips every channel, erases key slots 1 to 7, stops the
drivers and records how the save stands (2 from BOOT, where nothing is saved; 4 while the save runs, with its MAGIC
written), and the Logbook record that Wailith was writing stays cut; the end of the save writes its final status and
leads to RESTING; the shutdown of RESTING loses the mode. Readings of the save: log entry 66. -/
def Obligations.LandingSavesAndRests : Prop :=
  ∀ (mv vend : Nat) (nvmwr : Option Nat) (cause : Option (Nat × Nat)) (s : State), s.dev.quiet →
    (s.dev.mode ≠ .landing → s.dev.mode ≠ .resting →
      Completes (.landingTrigger mv nvmwr cause) s (fun t =>
        t.dev.mode = .landing ∧ t.dev.prev = s.dev.mode ∧ t.dev.rd BAL_STATE.TRIPPED = 0xFFFF ∧
        t.dev.dge.keys = List.replicate 7 none ∧ t.dev.twin = [] ∧ t.dev.pins.undriven = true ∧
        t.dev.rd PSV_SAVESTAT.STATUS / 2 ^ 28 = (if s.dev.mode = .boot then 2 else 4) ∧
        (s.dev.mode ≠ .boot → t.dev.saveMagic = true) ∧
        (nvmwr = none ∨ s.dev.mode ≠ .run → ∀ a, a < 0xF0000 → t.dev.logByte a = s.dev.logByte a) ∧
        ∀ k, nvmwr = some k → ∀ a, a < 0xF0000 → t.dev.logByte a = (logCut s.dev k).logByte a)) ∧
    (s.dev.mode = .landing →
      Completes (.landingSaveComplete vend) s (fun t =>
        t.dev.mode = .resting ∧ t.dev.prev = .landing ∧ t.dev.pins.vhold = 100 * vend ∧
        t.dev.rd PSV_SAVESTAT.STATUS =
          (if s.dev.rd PSV_SAVESTAT.STATUS / 2 ^ 28 = 4 ∧ 50 ≤ vend
            then 2 ^ 28 + s.dev.rd PSV_SAVESTAT.STATUS % 2 ^ 28 + 2 ^ 8 * (vend % 256)
            else s.dev.rd PSV_SAVESTAT.STATUS) ∧
        ∀ a, a < 0xF0000 → t.dev.logByte a = s.dev.logByte a)) ∧
    (s.dev.mode = .resting →
      Completes .aonShutdown s (fun t =>
        t.dev.modeKnown = false ∧ t.dev.pins.vaon = false ∧ t.dev.aonOn = false ∧ Dev.sameRegs [] s.dev t.dev))

/-! Pins, the TAP, the Inspection Port, the Logbook. -/

/-- PIO_SETx, PIO_CLRx and PIO_TGLx set, clear or invert the matching bits of PIO_OUTx and leave the bits whose data bit
is 0; a direct write replaces the whole register. Nothing else changes. -/
def Obligations.PioOutputsFollowWrites : Prop :=
  ∀ (x k : Nat) (data : Word) (s : State), s.dev.faults = [] → s.dev.niOpen 0 = true → x < 4 → k < 16 →
    Completes (.pioSet x data) s (fun t =>
      (t.dev.rd (PIO_OUT.OUT x)).testBit k = ((s.dev.rd (PIO_OUT.OUT x)).testBit k || data.getLsbD k) ∧
      Dev.sameRegs [PIO_OUT.addr x] s.dev t.dev ∧ s.dev.sameBytes t.dev) ∧
    Completes (.pioClr x data) s (fun t =>
      (t.dev.rd (PIO_OUT.OUT x)).testBit k = ((s.dev.rd (PIO_OUT.OUT x)).testBit k && !data.getLsbD k) ∧
      Dev.sameRegs [PIO_OUT.addr x] s.dev t.dev ∧ s.dev.sameBytes t.dev) ∧
    Completes (.pioTgl x data) s (fun t =>
      (t.dev.rd (PIO_OUT.OUT x)).testBit k = ((s.dev.rd (PIO_OUT.OUT x)).testBit k ^^ data.getLsbD k) ∧
      Dev.sameRegs [PIO_OUT.addr x] s.dev t.dev ∧ s.dev.sameBytes t.dev) ∧
    Completes (.pioOutWrite x data) s (fun t =>
      (t.dev.rd (PIO_OUT.OUT x)).testBit k = data.getLsbD k ∧
      Dev.sameRegs [PIO_OUT.addr x] s.dev t.dev ∧ s.dev.sameBytes t.dev)

/-- A filtered level of a pin-interrupt line shows in PIO_PINTLVL, and pulses its source exactly at an edge of the kind that
MODE names; wake inputs that pulse in DOZE set their bits in PIO_WAKESRC and hold one wake event.
That an edge also sets the pad of its pin is the model's reading (log entry 78). -/
def Obligations.PinLinesPulseAndWake : Prop :=
  ∀ (n mask : Nat) (level : Bool) (s : State), s.dev.faults = [] → s.dev.coreOn = true → n < 16 →
    Completes (.pinInterruptEdge n level) s (fun t =>
      (t.dev.rd PIO_PINTLVL.LEVEL).testBit n = level ∧
      (∀ k, k < 16 → k ≠ n → (t.dev.rd PIO_PINTLVL.LEVEL).testBit k = (s.dev.rd PIO_PINTLVL.LEVEL).testBit k) ∧
      t.dev.srcBit ICU_PEND.addr (88 + n) = (s.dev.srcBit ICU_PEND.addr (88 + n) ||
        (let old := (s.dev.rd PIO_PINTLVL.LEVEL).testBit n
         let m := s.dev.acts (PIO_PINTCFG.MODE n)
         (!old && level && (m == 1 || m == 3)) || (old && !level && (m == 2 || m == 3)))) ∧
      Dev.sameRegs [PIO_PINTLVL.addr, ICU_PEND.addr ((88 + n) / 32)] s.dev t.dev ∧ s.dev.sameBytes t.dev) ∧
    (s.dev.mode = .doze → s.dev.wakeLines mask ≠ 0 →
      Completes (.pinWake mask) s (fun t =>
        t.dev.rd PIO_WAKESRC.LINE = s.dev.rd PIO_WAKESRC.LINE ||| s.dev.wakeLines mask ∧ t.dev.wl.wakeHeld = true ∧
        t.dev.mode = .doze ∧ Dev.sameRegs [PIO_WAKESRC.addr] s.dev t.dev ∧ s.dev.sameBytes t.dev))

/-- The TAP: every instruction answers the bits its register shifts out and touches nothing but the TAP's own registers.
EXTEST, EXTEST_PULSE, EXTEST_TRAIN, CLAMP and HIGHZ act only in BOOT with BOOTSEL = 1 and act as BYPASS otherwise. The
codes of the instruction register are the model's own (log entry 48). -/
def Obligations.TapInstructionsShift : Prop :=
  ∀ (tdi cells : List Bool) (load : Bool) (s : State), s.dev.faults = [] →
    let tap := fun (ir : Nat) (dr tdo : List Bool) =>
      (.next { s with dev := { s.dev with pins := { s.dev.pins with jtagIr := ir, jtagDr := dr, tdo := tdo } } } :
        Host.Outcome State Fault Refusal)
    let dr := s.dev.pins.jtagDr
    let acts := s.dev.mode = .boot ∧ s.dev.rd SYS_STRAP.BOOTSEL = 1
    exec (.jtagBypass tdi) s = tap 0 dr ((false :: tdi).take tdi.length) ∧
    exec .jtagIdcode s = tap 1 dr ((List.range 32).map (0x24808B47#32 : Word).getLsbD) ∧
    exec (.jtagSamplePreload cells load) s = tap 2 cells (if load then dr else cells) ∧
    (acts →
      exec (.jtagExtest cells) s = tap 3 cells dr ∧ exec (.jtagExtestPulse cells) s = tap 4 cells dr ∧
      exec (.jtagExtestTrain cells) s = tap 5 cells dr ∧
      exec (.jtagClamp tdi) s = tap 6 dr ((false :: tdi).take tdi.length) ∧
      exec (.jtagHighz tdi) s = tap 7 dr ((false :: tdi).take tdi.length)) ∧
    (¬ acts →
      exec (.jtagExtest tdi) s = exec (.jtagBypass tdi) s ∧ exec (.jtagExtestPulse tdi) s = exec (.jtagBypass tdi) s ∧
      exec (.jtagExtestTrain tdi) s = exec (.jtagBypass tdi) s ∧ exec (.jtagClamp tdi) s = exec (.jtagBypass tdi) s ∧
      exec (.jtagHighz tdi) s = exec (.jtagBypass tdi) s)

/-- The Inspection Port is read-only: each completed transaction answers its bytes, counts itself and shows its opcode,
and changes no register but IPT_COUNT, IPT_STAT and the pending bit of source 87, no byte of memory, no mode, no lock,
no event and no pin but INS_CS_N, whose level IPT_STAT.ACTIVE shows; source 87 pulses where the CORE domain is on. A
READ answers Logbook bytes, and zeros where the upper four address bits are not zero.
Byte order and the error of VHOLD in the STATUS block: log entry 53. -/
def Obligations.InspectionPortIsReadOnly : Prop :=
  ∀ (addr n : Nat) (op : Byte) (s : State), s.dev.faults = [] → s.dev.aonOn = true →
    let only := fun (opc : Nat) (t : State) =>
      t.dev.rd IPT_COUNT.COUNT = min 0xFFFFFFFF (s.dev.rd IPT_COUNT.COUNT + 1) ∧ t.dev.rd IPT_STAT.LASTCMD = opc ∧
      (s.dev.coreOn = true → t.dev.srcBit ICU_PEND.addr 87 = true) ∧
      Dev.sameRegs [IPT_COUNT.addr, IPT_STAT.addr, ICU_PEND.addr 2] s.dev t.dev ∧ s.dev.sameBytes t.dev ∧
      t.dev.mode = s.dev.mode ∧ t.dev.svc = s.dev.svc ∧ t.dev.holders = s.dev.holders ∧ t.dev.evq = s.dev.evq ∧
      t.dev.bal = s.dev.bal ∧ t.dev.gal = s.dev.gal ∧ t.dev.pins = { s.dev.pins with insCs := t.dev.pins.insCs } ∧
      t.dev.hl = s.dev.hl ∧ (t.dev.view IPT_STAT.addr).getLsbD 0 = t.dev.pins.insCs
    Completes .iptId s (fun t => only 0x9F t ∧ t.dev.iptDriven = true ∧
      t.dev.iptOut = beBytes 4 (s.dev.view SYS_DEVID.addr).toNat ++ beBytes 4 (s.dev.view SYS_REV.addr).toNat) ∧
    Completes .iptStatus s (fun t => only 0x05 t ∧ t.dev.iptDriven = true ∧ t.dev.iptOut.length = 16 ∧
      sliceB t.dev.iptOut 4 4 = beBytes 4 (s.dev.view SYS_LIMP.addr).toNat) ∧
    Completes (.iptRead addr n) s (fun t => only 0x03 t ∧ t.dev.iptDriven = true ∧
      t.dev.iptOut = (List.range n).map (fun i =>
        if addr % 0x1000000 < 0x100000 then s.dev.logByte ((addr % 0x1000000 + i) % 0x100000) else 0#8)) ∧
    Completes (.iptOtherOpcode op) s (fun t => only op.toNat t ∧ t.dev.iptDriven = false ∧ t.dev.iptOut = [])

/-- Wailith's sample of IPT_COUNT posts one event for new transactions; the record due next is written for the first
selected event of the EVQ, the ones before it are passed over, the record advances INDEX and HEADPTR; a record that
could not be written leads to LIMP with INTEG and LOG_WRITE, and no further one is written; a seal closes every record
not yet sealed. No write touches the chain header or the Atrium.
That the header stands is the model's reading (log entry 49), and so is what its bookkeeping keeps (log entry 22). -/
def Obligations.LogRecordsAndSeals : Prop :=
  ∀ (s : State), s.dev.quiet → s.dev.mode = .run →
    (s.dev.rd IPT_COUNT.COUNT ≠ s.dev.wl.iptSeen →
      Completes .iptCountSample s (fun t =>
        t.dev.wl.iptSeen = s.dev.rd IPT_COUNT.COUNT ∧
        (∃ e, t.dev.evq = s.dev.evq ++ [e] ∧ e.block = 0x80 ∧ e.code = 0x02 ∧ e.crit = false ∧
          e.d0 = w32 (s.dev.rd IPT_COUNT.COUNT)) ∧
        t.dev.rd EVQ_POSTSEQ.SEQ = s.dev.rd EVQ_NEXTSEQ.SEQ ∧
        Dev.sameRegs [EVQ_NEXTSEQ.addr, EVQ_POSTSEQ.addr] s.dev t.dev ∧ s.dev.sameBytes t.dev)) ∧
    (∀ e r pre, s.dev.wl.logStop = false → s.dev.evq = pre ++ e :: r → (∀ x ∈ pre, s.dev.selects x = false) →
      s.dev.selects e = true → e.block ≠ 0x80 →
      Completes (.logRecordWrite false) s (fun t =>
        t.dev.evq = r ∧ t.dev.wl.logIndex = (s.dev.wl.logIndex + 1) % 2 ^ 32 ∧
        t.dev.wl.logOpen = s.dev.wl.logOpen + 1 ∧
        leNat (t.dev.logBytes 0x40 4) = (if s.dev.wl.logOff + 64 ≤ logEnd then s.dev.wl.logOff else logBase) ∧
        (∀ a, a < 64 → t.dev.logByte a = s.dev.logByte a) ∧ (∀ a, t.dev.atrByte a = s.dev.atrByte a) ∧
        Dev.sameRegs [] s.dev t.dev)) ∧
    (s.dev.wl.logStop = false → s.dev.evq.any s.dev.selects = true → s.dev.rd SYS_LIMP.REASON = 0 →
      Completes (.logRecordWrite true) s (fun t =>
        t.dev.mode = .limp ∧ t.dev.rd SYS_LIMP.REASON = 8 ∧ t.dev.rd SYS_LIMP.DETAIL = 0x80 ∧ t.dev.wl.logStop = true ∧
        ∀ a, t.dev.logByte a = s.dev.logByte a)) ∧
    (s.dev.canSeal = true →
      Completes .logSealWrite s (fun t =>
        t.dev.wl.logOpen = 0 ∧ t.dev.wl.logSoon = none ∧ t.dev.wl.logIndex = (s.dev.wl.logIndex + 1) % 2 ^ 32 ∧
        t.dev.wl.logSealed = some ((2 ^ 32 + s.dev.wl.logIndex - 1) % 2 ^ 32) ∧
        t.dev.wl.logSealNo = (s.dev.wl.logSealNo + 1) % 2 ^ 32 ∧
        (∀ a, a < 64 → t.dev.logByte a = s.dev.logByte a) ∧ (∀ a, t.dev.atrByte a = s.dev.atrByte a) ∧
        Dev.sameRegs [] s.dev t.dev))

/-! Interrupts, events, locks. -/

/-- A claim returns the delivered source of highest priority for its target, and of several of that priority the
lowest-numbered one, as PRIO × 256 + source; it marks the source active and clears a pulse source's pending bit unless a
pulse arrives with it. With nothing delivered it returns 0xFF and has no effect. -/
def Obligations.ClaimReturnsHighestPriority : Prop :=
  ∀ (host pulse : Bool) (s : State), s.dev.faults = [] → s.dev.niOpen (bit host) = true →
    ((∀ m, m < 112 → s.dev.delivered host m = false) →
      exec (.icuClaim host pulse) s = .next { s with dev := { s.dev with resp := .ok (wordBytes 0xFF#32) } }) ∧
    (∀ n, n < 112 → s.dev.delivered host n = true →
      (∀ m, m < 112 → s.dev.delivered host m = true →
        s.dev.srcPrio m < s.dev.srcPrio n ∨ (s.dev.srcPrio m = s.dev.srcPrio n ∧ n ≤ m)) →
      Completes (.icuClaim host pulse) s (fun t =>
        t.dev.resp = .ok (wordBytes (w32 (s.dev.srcPrio n * 256 + n))) ∧ t.dev.srcAct n = true ∧
        (s.dev.srcPulse n = true → t.dev.srcBit ICU_PEND.addr n = pulse) ∧
        Dev.sameRegs [ICU_ACT.addr (n / 32), ICU_PEND.addr (n / 32)] s.dev t.dev ∧ s.dev.sameBytes t.dev))

/-- A completion clears the active bit of the source it names; one that names a source not active for the target has no
effect but ICU_ERR.EOI of that target. A pulse in the cycle of the completion leaves a pulse source pending. -/
def Obligations.EoiCompletesActiveSource : Prop :=
  ∀ (host pulse : Bool) (n : Nat) (s : State), s.dev.faults = [] → s.dev.niOpen (bit host) = true →
    (n < 112 → s.dev.srcAct n = true → s.dev.srcHost n = host →
      Completes (.icuEoi host n pulse) s (fun t =>
        t.dev.srcAct n = false ∧
        (pulse = true → s.dev.srcPulse n = true → srcReserved n = false → t.dev.srcPend n = true) ∧
        Dev.sameRegs [ICU_ACT.addr (n / 32), ICU_PEND.addr (n / 32)] s.dev t.dev ∧ s.dev.sameBytes t.dev)) ∧
    (¬ (n < 112 ∧ s.dev.srcAct n = true ∧ s.dev.srcHost n = host) →
      Completes (.icuEoi host n false) s (fun t =>
        t.dev.rd (if host then ICU_ERR.EOI_H else ICU_ERR.EOI_S) = 1 ∧
        Dev.sameRegs [ICU_ERR.addr] s.dev t.dev ∧ s.dev.sameBytes t.dev))

/-- A write of ICU_PENDk stores what it carries for the pulse sources of the word and keeps the pulses of its cycle; bits of
level and reserved sources read 0. A write of ICU_CFGk gives each source its priority and target, and a source that moves
to the other target is no longer active. -/
def Obligations.PendAndCfgWrites : Prop :=
  ∀ (k j : Nat) (data pulses : Word) (s : State), s.dev.faults = [] → s.dev.niOpen 0 = true →
    (k < 6 → j < 32 →
      Completes (.icuPendWrite k data pulses) s (fun t =>
        t.dev.srcBit ICU_PEND.addr (32 * k + j) =
          ((data.getLsbD j || pulses.getLsbD j) && s.dev.srcPulse (32 * k + j) && !srcReserved (32 * k + j)) ∧
        Dev.sameRegs [ICU_PEND.addr k] s.dev t.dev ∧ s.dev.sameBytes t.dev)) ∧
    (k < 28 → j < 4 → srcReserved (4 * k + j) = false →
      Completes (.icuCfgWrite k data) s (fun t =>
        t.dev.srcPrio (4 * k + j) = fld data (8 * j + 3) (8 * j) ∧
        t.dev.srcHost (4 * k + j) = data.getLsbD (8 * j + 4) ∧
        t.dev.srcAct (4 * k + j) =
          (s.dev.srcAct (4 * k + j) && (s.dev.srcHost (4 * k + j) == data.getLsbD (8 * j + 4))) ∧
        Dev.sameRegs [ICU_CFG.addr k, ICU_ACT.addr (k / 8)] s.dev t.dev ∧ s.dev.sameBytes t.dev))

/-- Only the Steward posts events and removes entries: a post of the Steward queues one event of block 0x80 with its next
sequence number and shows that number in EVQ_POSTSEQ; a pop removes the head; a write of any other initiator gets an
error response and has no effect. The NI of the initiator admits the request. -/
def Obligations.EvqPostAndPopByStewardOnly : Prop :=
  ∀ (init : Nat) (data : Word) (s : State), s.dev.quiet → s.dev.niOpen 0 = true →
    Completes (.evqPostc 0 data) s (fun t =>
      (∃ e, t.dev.evq = s.dev.evq ++ [e] ∧ e.seq = s.dev.rd EVQ_NEXTSEQ.SEQ ∧ e.block = 0x80 ∧ e.code = fld data 7 0 ∧
        e.crit = data.getLsbD 8 ∧ e.d0 = s.dev.ld (EVQ_POSTD.addr 0) ∧ e.d1 = s.dev.ld (EVQ_POSTD.addr 1)) ∧
      t.dev.rd EVQ_POSTSEQ.SEQ = s.dev.rd EVQ_NEXTSEQ.SEQ ∧
      t.dev.rd EVQ_NEXTSEQ.SEQ = (s.dev.rd EVQ_NEXTSEQ.SEQ + 1) % 2 ^ 16 ∧ t.dev.resp = .ok [] ∧
      Dev.sameRegs [EVQ_NEXTSEQ.addr, EVQ_POSTSEQ.addr] s.dev t.dev ∧ s.dev.sameBytes t.dev) ∧
    Completes (.evqPop 0 data) s (fun t =>
      t.dev.evq = (if data.getLsbD 0 then s.dev.evq.tail else s.dev.evq) ∧ t.dev.resp = .ok [] ∧
      Dev.sameRegs [] s.dev t.dev ∧ s.dev.sameBytes t.dev) ∧
    (init ≠ 0 →
      exec (.evqPostc init data) s = .next { s with dev := { s.dev with resp := .err .target } } ∧
      exec (.evqPop init data) s = .next { s with dev := { s.dev with resp := .err .target } })

/-- An attempt to acquire a lock: a free lock goes to the requester with GRANTED; a lock the requester holds answers
GRANTED and ALREADY; a lock of another holder answers that holder's ID without GRANTED and does not change. Every
result carries the ORPHAN flag, and no other lock changes. An attempt that is due in the cycle in which its holder is
reset gets an error response and has no effect. -/
def Obligations.NewelAcquireGrantsFreeLock : Prop :=
  ∀ (init origin n h : Nat) (s : State), s.dev.faults = [] → s.dev.niOpen init = true → n < 64 →
    nwlHolder init origin = some h →
    exec (.nwlAcq ⟨init, origin⟩ n true) s = .next { s with dev := { s.dev with resp := .err .target } } ∧
    Completes (.nwlAcq ⟨init, origin⟩ n false) s (fun t =>
      (∃ w : Word, t.dev.resp = .ok (wordBytes w) ∧ w.getLsbD 30 = s.dev.orphan n ∧
        w.getLsbD 31 = (s.dev.holder n == 0 || s.dev.holder n == h) ∧ w.getLsbD 29 = (s.dev.holder n == h) ∧
        fld w 3 0 = (if s.dev.holder n = 0 then h else s.dev.holder n % 16)) ∧
      t.dev.holder n = (if s.dev.holder n = 0 then h else s.dev.holder n) ∧
      (∀ m, m ≠ n → t.dev.holder m = s.dev.holder m) ∧ Dev.sameRegs [NWL_CNT.addr] s.dev t.dev ∧ s.dev.sameBytes t.dev)

/-- A release by the holder frees the lock and leaves its ORPHAN flag; a release by another or of a free lock gets an
error response, sets FOREIGN or NOTHELD with the lock and the requester captured, and changes no lock. A 1 written to
NWL_ORPHANk clears a flag only for the holder of that lock, and a flag that hardware sets in the same cycle reads 1. A
release or a clearing that is due in the cycle in which its holder is reset gets an error response and has no effect.
The Steward may force the release of a held lock: it becomes free with ORPHAN = 1, ORPH is set, and one CRIT event
with CODE 0x30 + the former holder ID carries its mask; a free lock is left alone without an event, and any other
initiator that has a holder ID gets an error response. -/
def Obligations.NewelReleaseForceAndOrphanClear : Prop :=
  ∀ (init origin n k j h : Nat) (data sets : Word) (s : State), s.dev.faults = [] → s.dev.niOpen init = true →
    nwlHolder init origin = some h →
    (n < 64 → exec (.nwlRel ⟨init, origin⟩ n data true) s = .next { s with dev := { s.dev with resp := .err .target } }) ∧
    (k < 2 →
      exec (.nwlOrphanClear ⟨init, origin⟩ k data ⟨sets, true⟩) s =
        .next { s with dev := { s.dev with resp := .err .target } }) ∧
    (n < 64 → data.getLsbD 0 = false →
      exec (.nwlRel ⟨init, origin⟩ n data false) s = .next { s with dev := { s.dev with resp := .ok [] } }) ∧
    (n < 64 → data.getLsbD 0 = true →
      Completes (.nwlRel ⟨init, origin⟩ n data false) s (fun t =>
        (s.dev.holder n = h → t.dev.holder n = 0 ∧ t.dev.resp = .ok [] ∧ Dev.sameRegs [] s.dev t.dev) ∧
        (s.dev.holder n ≠ h → t.dev.holder n = s.dev.holder n ∧ t.dev.resp = .err .target ∧
          t.dev.rd (if s.dev.holder n = 0 then NWL_ERR.NOTHELD else NWL_ERR.FOREIGN) = 1 ∧
          t.dev.rd NWL_ERRINFO.LOCK = n ∧ t.dev.rd NWL_ERRINFO.REQ = h ∧ t.dev.rd NWL_ERRINFO.SRCID = 0) ∧
        (∀ m, m ≠ n → t.dev.holder m = s.dev.holder m) ∧ (∀ m, m < 64 → t.dev.orphan m = s.dev.orphan m) ∧
        s.dev.sameBytes t.dev)) ∧
    (k < 2 → j < 32 →
      Completes (.nwlOrphanClear ⟨init, origin⟩ k data ⟨sets, false⟩) s (fun t =>
        t.dev.orphan (32 * k + j) =
          ((s.dev.orphan (32 * k + j) && !(data.getLsbD j && s.dev.holder (32 * k + j) == h)) || sets.getLsbD j) ∧
        t.dev.holders = s.dev.holders ∧ t.dev.resp = .ok [] ∧
        (sets = 0#32 → Dev.sameRegs [NWL_ORPHAN.addr k] s.dev t.dev) ∧
        Dev.sameRegs [NWL_ORPHAN.addr k, NWL_CNT.addr] s.dev t.dev ∧ s.dev.sameBytes t.dev)) ∧
    (let n := fld data 5 0
     (s.dev.holder n ≠ 0 → s.dev.quiet →
      Completes (.nwlForce 0 data) s (fun t =>
        t.dev.holder n = 0 ∧ t.dev.orphan n = true ∧ t.dev.rd NWL_ERR.ORPH = 1 ∧ t.dev.resp = .ok [] ∧
        (∃ e, t.dev.evq = s.dev.evq ++ [e] ∧ e.block = 0x06 ∧ e.code = 0x30 + s.dev.holder n ∧ e.crit = true ∧
          e.d0 = w32 (2 ^ n) ∧ e.d1 = w32 (2 ^ n / 2 ^ 32)) ∧
        (∀ m, m ≠ n → t.dev.holder m = s.dev.holder m) ∧ s.dev.sameBytes t.dev)) ∧
     (s.dev.holder n = 0 → exec (.nwlForce 0 data) s = .next { s with dev := { s.dev with resp := .ok [] } }) ∧
     (init ≠ 0 → exec (.nwlForce init data) s = .next { s with dev := { s.dev with resp := .err .target } }))

/-! The Balustrade. -/

/-- A BAL_VTRIP write of the Steward trips the channels it names: VCMD is set in their causes, the newly tripped channels'
pins are low, and one CRIT event carries their mask. BAL_ACK releases a TRIPPED channel it names only where every
condition of the release holds, with TRIPnA high, TRIPnB low and its causes cleared; the others stay as they were.
Writes of other initiators and an acknowledge in LIMP get an error response. LIFE_TOGGLE inverts the outputs of a
HEALTHY channel, and a TRIPPED channel's pins stay; the next toggle is due one half period later. -/
def Obligations.ChannelsTripReleaseAndToggle : Prop :=
  ∀ (init n pulses : Nat) (data : Word) (s : State), s.dev.quiet → s.dev.niOpen 0 = true → n < 16 →
    let old := s.dev.rd BAL_STATE.TRIPPED
    Completes (.balVtrip 0 data) s (fun t =>
      t.dev.rd BAL_STATE.TRIPPED = old ||| fld data 15 0 ∧
      (data.getLsbD n = true → t.dev.rd (BAL_TCAUSE.VCMD n) = 1) ∧
      (data.getLsbD n = false → t.dev.ld (BAL_TCAUSE.addr n) = s.dev.ld (BAL_TCAUSE.addr n) ∧
        t.dev.bal.outA.testBit n = s.dev.bal.outA.testBit n ∧ t.dev.bal.outB.testBit n = s.dev.bal.outB.testBit n) ∧
      (data.getLsbD n = true → old.testBit n = false →
        t.dev.bal.outA.testBit n = false ∧ t.dev.bal.outB.testBit n = false ∧ t.dev.srcBit ICU_PEND.addr 80 = true ∧
        ∃ e, t.dev.evq = s.dev.evq ++ [e] ∧ e.block = 0x09 ∧ e.crit = true ∧ e.d0.getLsbD n = true) ∧
      t.dev.resp = .ok [] ∧ Dev.sameRegs tripRegs s.dev t.dev ∧ s.dev.sameBytes t.dev ∧ t.dev.mode = s.dev.mode) ∧
    (init ≠ 0 → exec (.balVtrip init data) s = .next { s with dev := { s.dev with resp := .err .target } }) ∧
    (s.dev.mode ≠ .limp → s.dev.pendOf 9 = none →
      Completes (.balAck data pulses) s (fun t =>
        ((data.getLsbD n && s.dev.releasable pulses n) = true →
          (t.dev.rd BAL_STATE.TRIPPED).testBit n = false ∧ t.dev.bal.outA.testBit n = true ∧
          t.dev.bal.outB.testBit n = false ∧ t.dev.ld (BAL_TCAUSE.addr n) = 0#32 ∧ t.dev.srcBit ICU_PEND.addr 80 = true ∧
          ∃ e, t.dev.evq = s.dev.evq ++ [e] ∧ e.block = 0x09 ∧ e.crit = true ∧ e.d0.getLsbD n = true) ∧
        ((data.getLsbD n && s.dev.releasable pulses n) = false →
          (t.dev.rd BAL_STATE.TRIPPED).testBit n = old.testBit n ∧
          t.dev.ld (BAL_TCAUSE.addr n) = s.dev.ld (BAL_TCAUSE.addr n) ∧
          t.dev.bal.outA.testBit n = s.dev.bal.outA.testBit n ∧ t.dev.bal.outB.testBit n = s.dev.bal.outB.testBit n) ∧
        t.dev.resp = .ok [] ∧ Dev.sameRegs (BAL_ACK.addr :: (BAL_ACK.addr + 0x800) :: tripRegs) s.dev t.dev ∧
        s.dev.sameBytes t.dev ∧ t.dev.mode = s.dev.mode)) ∧
    (s.dev.mode = .limp →
      exec (.balAck data pulses) s = .next { s with dev := { s.dev with resp := .err .target } }) ∧
    (s.dev.bal.clkLost = false → s.dev.chanTwinOk n = true →
      Completes (.lifeToggle n) s (fun t =>
        t.dev.bal.outA.testBit n = (s.dev.bal.outA.testBit n ^^ !old.testBit n) ∧
        (old.testBit n = false → t.dev.bal.outB.testBit n = s.dev.bal.outA.testBit n) ∧
        (old.testBit n = true → t.dev.bal = { s.dev.bal with lifeDue := t.dev.bal.lifeDue }) ∧
        t.dev.now = max s.dev.now (nth 0 s.dev.bal.lifeDue n) ∧
        nth 0 t.dev.bal.lifeDue n = t.dev.now + 1000 * s.dev.acts (BAL_LIFE.HALFP n) ∧
        (∀ m, m ≠ n → t.dev.bal.outA.testBit m = s.dev.bal.outA.testBit m ∧
          t.dev.bal.outB.testBit m = s.dev.bal.outB.testBit m) ∧
        Dev.sameRegs [] s.dev t.dev ∧ s.dev.sameBytes t.dev ∧ t.dev.evq = s.dev.evq))

/-- The watchdogs in RUN. A valid kick of the admitted initiator moves the expected key, clears the active source and
restarts the count; a wrong key sets SKEY or HKEY and leaves the expected key of the host watchdog; another initiator
gets an error response. The frame watchdog's source becomes active at its count, an expiry activates its source (the
Steward's with a Steward reset of cause 1, the host's with a kick that also moves the key), and at half time source 81
pulses once with its warning bit. The channels that enable an expired watchdog are TRIPPED. -/
def Obligations.WatchdogsKickWarnAndExpire : Prop :=
  ∀ (init n : Nat) (data : Word) (kick host : Bool) (s : State), s.dev.quiet → s.dev.mode = .run → n < 16 →
    let key := fun (next : Nat) => if next = 0 then 0x5A5A#32 else 0xA5A5#32
    (data = key (s.dev.rd BAL_WDSTAT.SNEXT) →
      Completes (.balSkick 0 data) s (fun t =>
        t.dev.rd BAL_WDSTAT.SNEXT = 1 - s.dev.rd BAL_WDSTAT.SNEXT ∧ t.dev.rd BAL_WDSTAT.SWDACT = 0 ∧
        t.dev.rd BAL_WDSTAT.HNEXT = s.dev.rd BAL_WDSTAT.HNEXT ∧ t.dev.bal.swdLast = s.dev.now ∧ t.dev.resp = .ok [] ∧
        Dev.sameRegs [BAL_WDSTAT.addr] s.dev t.dev ∧ s.dev.sameBytes t.dev)) ∧
    (data ≠ key (s.dev.rd BAL_WDSTAT.SNEXT) →
      Completes (.balSkick 0 data) s (fun t =>
        t.dev.rd BAL_EVT.SKEY = 1 ∧ t.dev.rd BAL_WDSTAT.SWDACT = 1 ∧ t.dev.rd SYS_STWRST.CAUSE = 1)) ∧
    (init ≠ 0 → exec (.balSkick init data) s = .next { s with dev := { s.dev with resp := .err .target } }) ∧
    (data = key (s.dev.rd BAL_WDSTAT.HNEXT) →
      Completes (.balHkick 1 data) s (fun t =>
        t.dev.rd BAL_WDSTAT.HNEXT = 1 - s.dev.rd BAL_WDSTAT.HNEXT ∧ t.dev.rd BAL_WDSTAT.HWDACT = 0 ∧
        t.dev.rd BAL_WDSTAT.SNEXT = s.dev.rd BAL_WDSTAT.SNEXT ∧ t.dev.bal.hwdLast = s.dev.now ∧ t.dev.resp = .ok [] ∧
        Dev.sameRegs [BAL_WDSTAT.addr] s.dev t.dev ∧ s.dev.sameBytes t.dev)) ∧
    (data ≠ key (s.dev.rd BAL_WDSTAT.HNEXT) → s.dev.twinOk BAL_HWD.addr = true →
      Completes (.balHkick 1 data) s (fun t =>
        t.dev.rd BAL_EVT.HKEY = 1 ∧ t.dev.rd BAL_WDSTAT.HNEXT = s.dev.rd BAL_WDSTAT.HNEXT ∧
        (s.dev.acts BAL_HWD.TO ≠ 0 → t.dev.rd BAL_WDSTAT.HWDACT = 1) ∧
        Dev.sameRegs (BAL_EVT.addr :: BAL_WDSTAT.addr :: tripRegs) s.dev t.dev ∧ s.dev.sameBytes t.dev)) ∧
    (init ≠ 1 → exec (.balHkick init data) s = .next { s with dev := { s.dev with resp := .err .target } }) ∧
    (s.dev.twinOk BAL_FWD.addr = true → s.dev.acts BAL_FWD.MISS ≤ s.dev.rd BAL_WDSTAT.FMISS →
      Completes .frameWatchdogExpiry s (fun t =>
        t.dev.rd BAL_WDSTAT.FWDACT = 1 ∧
        (s.dev.rd (BAL_SRC.FWD n) = 1 → (t.dev.rd BAL_STATE.TRIPPED).testBit n = true ∧ t.dev.rd (BAL_TCAUSE.FWD n) = 1) ∧
        Dev.sameRegs (BAL_WDSTAT.addr :: tripRegs) s.dev t.dev ∧ s.dev.sameBytes t.dev)) ∧
    (s.dev.twinOk BAL_SWD.addr = true →
      Completes (.stewardWatchdogExpiry kick) s (fun t =>
        t.dev.rd BAL_WDSTAT.SWDACT = 1 ∧ t.dev.rd SYS_STWRST.CAUSE = 1 ∧ t.dev.rd BAL_WDSTAT.SNEXT = 0 ∧
        (s.dev.rd (BAL_SRC.SWD n) = 1 → (t.dev.rd BAL_STATE.TRIPPED).testBit n = true ∧ t.dev.rd (BAL_TCAUSE.SWD n) = 1))) ∧
    (s.dev.twinOk BAL_HWD.addr = true → s.dev.acts BAL_HWD.TO ≠ 0 →
      Completes (.hostWatchdogExpiry kick) s (fun t =>
        t.dev.rd BAL_WDSTAT.HWDACT = 1 ∧
        t.dev.rd BAL_WDSTAT.HNEXT = (if kick then 1 - s.dev.rd BAL_WDSTAT.HNEXT else s.dev.rd BAL_WDSTAT.HNEXT) ∧
        (s.dev.rd (BAL_SRC.HWD n) = 1 → (t.dev.rd BAL_STATE.TRIPPED).testBit n = true ∧ t.dev.rd (BAL_TCAUSE.HWD n) = 1) ∧
        Dev.sameRegs (BAL_WDSTAT.addr :: tripRegs) s.dev t.dev ∧ s.dev.sameBytes t.dev)) ∧
    ((host = true → s.dev.acts BAL_HWD.TO ≠ 0) → s.dev.twinOk (if host then BAL_HWD.addr else BAL_SWD.addr) = true →
      (if host then s.dev.bal.hwdHalf else s.dev.bal.swdHalf) = false →
      Completes (.watchdogHalfTime host) s (fun t =>
        t.dev.rd (if host then BAL_EVT.HWARN else BAL_EVT.SWARN) = 1 ∧ t.dev.srcBit ICU_PEND.addr 81 = true ∧
        (if host then t.dev.bal.hwdHalf else t.dev.bal.swdHalf) = true ∧
        exec (.watchdogHalfTime host) t = .next t ∧
        Dev.sameRegs [BAL_EVT.addr, ICU_PEND.addr 2] s.dev t.dev ∧ s.dev.sameBytes t.dev))

/-- Clock loss trips every channel with cause CLOCK; the return raises integrity fault CLOCK and leaves the channels
TRIPPED. A read-back of the driven levels shows them and trips nothing; a TRIPPED pin that reads high raises READBACK and
trips its channel with OWN. A lockstep mismatch resets the Steward with cause 2, releases its locks and raises LOCKSTEP.
The fault counts are stated below the limit of SYS_INTEG, where no LIMP follows.
One fault for each failing channel is the model's reading (log entry 32). -/
def Obligations.ClockReadbackAndLockstepFaults : Prop :=
  ∀ (n : Nat) (levels : Word) (s : State), s.dev.quiet → s.dev.coreOn = true → n < 16 →
    Completes .clockLoss s (fun t =>
      t.dev.rd BAL_STATE.TRIPPED = 0xFFFF ∧ t.dev.rd (BAL_TCAUSE.CLOCK n) = 1 ∧ t.dev.bal.clkLost = true ∧
      (s.dev.pinsSafe → t.dev.pinsSafe) ∧ Dev.sameRegs tripRegs s.dev t.dev ∧ s.dev.sameBytes t.dev) ∧
    (s.dev.calm → s.dev.bal.clkLost = true → s.dev.rd BAL_STATE.TRIPPED = 0xFFFF →
      Completes .clockReturn s (fun t =>
        t.dev.bal.clkLost = false ∧ t.dev.rd BAL_STATE.TRIPPED = 0xFFFF ∧ t.dev.rd BAL_INTCAUSE.LAST = 0x61 ∧
        t.dev.rd SYS_INTEG.COUNT = s.dev.rd SYS_INTEG.COUNT + 1 ∧ t.dev.mode = s.dev.mode ∧ s.dev.sameBytes t.dev)) ∧
    ((∀ j, j < 32 → levels.getLsbD j = s.dev.driven j) → s.dev.pinsSafe →
      Completes (.tripReadbackCheck levels) s (fun t =>
        t.dev.ld BAL_RDBK.addr = levels ∧ t.dev.bal.rdbkBad = 0 ∧ Dev.sameRegs [BAL_RDBK.addr] s.dev t.dev ∧
        s.dev.sameBytes t.dev ∧ t.dev.evq = s.dev.evq)) ∧
    (∀ c, s.dev.calm → n = c / 2 → c < 32 → (∀ j, j < 32 → levels.getLsbD j = (decide (j = c) || s.dev.driven j)) →
      s.dev.pinsSafe → (s.dev.rd BAL_STATE.TRIPPED).testBit n = true →
      Completes (.tripReadbackCheck levels) s (fun t =>
        t.dev.ld BAL_RDBK.addr = levels ∧ t.dev.rd BAL_INTCAUSE.LAST = 0x60 ∧ t.dev.rd (BAL_TCAUSE.OWN n) = 1 ∧
        t.dev.rd SYS_INTEG.COUNT = s.dev.rd SYS_INTEG.COUNT + 1 ∧ s.dev.sameBytes t.dev)) ∧
    (s.dev.calm → s.dev.mode = .limp →
      Completes .lockstepMismatch s (fun t =>
        t.dev.rd SYS_STWRST.CAUSE = 2 ∧ t.dev.rd BAL_INTCAUSE.LAST = 0x20 ∧ t.dev.rd BAL_WDSTAT.SWDACT = 1 ∧
        t.dev.rd SYS_INTEG.COUNT = s.dev.rd SYS_INTEG.COUNT + 1 ∧
        ∀ m, m < 64 → s.dev.holder m = 1 → t.dev.holder m = 0 ∧ t.dev.orphan m = true))

/-! The Host Link. -/

/-- CRC-8 has the check value of the manual. The fall of CS_N takes the SPI mode and latches the snapshots, and outside
DOZE changes nothing but the slice. RDSUM, ECHO and CFGRD answer their bytes with RDY = 1; CFGWR writes HL_CFG, with
DUMMY kept between 8 and 32, or clears DROP; one whose CRC fails sets DROP with cause CRC and writes nothing; an
unknown opcode sets DROP with cause UNKNOWN and drives nothing. A partial byte after the last whole one changes none
of this.
Readings of bad and short transactions: log entry 50. -/
def Obligations.HostLinkSliceTransactions : Prop :=
  crc8 [0x31#8, 0x32#8, 0x33#8, 0x34#8, 0x35#8, 0x36#8, 0x37#8, 0x38#8, 0x39#8] = 0xF4 ∧
  ∀ (sclk part : Bool) (idx : Nat) (w : Word) (msg : List Byte) (op crc : Byte) (s : State), s.dev.faults = [] →
    s.dev.mode ≠ .resting →
    let stat := s.dev.hlStat true false false
    (s.dev.mode ≠ .doze → s.dev.wl.dozeWait = none →
      Completes (.csNFall sclk) s (fun t =>
        t.dev.hl.mode3 = sclk ∧ t.dev.hl.snapSum = w32 (s.dev.icuSum true) ∧
        t.dev.hl.snapStat.testBit 4 = s.dev.hl.drop ∧ t.dev.hl.snapStat.testBit 3 = s.dev.on HPT_STAT.WERR ∧
        t.dev.hl.snapStat.testBit 2 = (s.dev.icuSum true != 0) ∧
        t.dev.hl.snapStat.testBit 1 = decide (s.dev.mode = .limp) ∧
        t.dev.hl.snapStat.testBit 0 = decide (s.dev.mode = .boot ∧ s.dev.rd SYS_BOOTSTAT.STEP = 5) ∧
        t.dev.hl.driven = false ∧ s.onlyHl t)) ∧
    (s.dev.mode = .doze → Completes (.csNFall sclk) s (fun t => t.dev.wl.wakeHeld = true ∧ t.dev.mode = .doze)) ∧
    Completes (.hlRdsum (s.dev.hostSends 0x05#8 [])) s (fun t =>
      t.dev.hl.out = s.dev.hostGets (stat :: beBytes 4 s.dev.hl.snapSum.toNat) ∧ t.dev.hl.driven = true ∧ s.onlyHl t) ∧
    (1 ≤ msg.length → msg.length ≤ 16 →
      Completes (.hlEcho (s.dev.hostSends 0x9E#8 (b8 msg.length :: msg))) s (fun t =>
        t.dev.hl.out = s.dev.hostGets (stat :: msg) ∧ t.dev.hl.driven = true ∧ s.onlyHl t)) ∧
    (idx < 256 →
      Completes (.hlCfgrd (s.dev.hostSends 0x35#8 [b8 idx]) part) s (fun t =>
        t.dev.hl.out = s.dev.hostGets (stat :: beBytes 4 (match idx with
          | 0 => s.dev.hl.cfg.toNat | 1 => s.dev.hl.cause * 256 + bit s.dev.hl.drop | 2 => s.dev.hl.seq | _ => 0)) ∧
        t.dev.hl.driven = true ∧ s.onlyHl t)) ∧
    Completes (.hlCfgwr (s.dev.hostSends 0x31#8 (0#8 :: beBytes 4 w.toNat)) part) s (fun t =>
      fld t.dev.hl.cfg 1 0 = fld w 1 0 ∧
      fld t.dev.hl.cfg 13 8 = (if fld w 13 8 < 8 then 8 else if 32 < fld w 13 8 then 32 else fld w 13 8) ∧
      t.dev.hl.out = [] ∧ t.dev.hl.driven = false ∧ t.dev.hl.drop = s.dev.hl.drop ∧ s.onlyHl t) ∧
    Completes (.hlCfgwr (s.dev.hostSends 0x31#8 (1#8 :: beBytes 4 w.toNat)) part) s (fun t =>
      t.dev.hl.drop = (s.dev.hl.drop && !w.getLsbD 0) ∧ t.dev.hl.cfg = s.dev.hl.cfg ∧ s.onlyHl t) ∧
    (s.dev.hl.cfg.getLsbD 1 = true → crc ≠ b8 (crc8 (0x31#8 :: 0#8 :: beBytes 4 w.toNat)) →
      Completes (.hlCfgwr (0#8 :: beBytes 4 w.toNat ++ [crc]) part) s (fun t =>
        t.dev.hl.drop = true ∧ t.dev.hl.cause = 1 ∧ t.dev.hl.cfg = s.dev.hl.cfg ∧
        Dev.sameRegs [HPT_CNT.addr] s.dev t.dev ∧ s.dev.sameBytes t.dev)) ∧
    (op.toNat ∉ [0x02, 0x0B, 0x0C, 0x05, 0x9E, 0x31, 0x35, 0xFF] →
      Completes (.hlUnknownOpcode op) s (fun t =>
        t.dev.hl.drop = true ∧ t.dev.hl.cause = 5 ∧ t.dev.hl.driven = false ∧ t.dev.hl.out = [] ∧
        t.dev.rd HPT_CNT.DROPS = min 255 (s.dev.rd HPT_CNT.DROPS + 1) ∧
        Dev.sameRegs [HPT_CNT.addr] s.dev t.dev ∧ s.dev.sameBytes t.dev))

/-- A Host Link reset restores the slice, discards the read result (counted in RDLOST when the read was issued and no
response has returned it), keeps the accepted writes, and releases the locks of the Host Link with their orphan flags;
the response to a read still in flight is to be discarded. With CRCEN = 1 a run of 0xFF bytes needs no CRC, or it ends
in the CRC byte of the bytes before it; any other last byte sets DROP with cause CRC and resets nothing.
Readings: log entries 50 and 52. -/
def Obligations.HostLinkResetKeepsWrites : Prop :=
  ∀ (bytes : List Byte) (k : Nat) (c : Byte) (s : State), s.dev.quiet → s.dev.mode ≠ .resting →
    let ones := fun (n : Nat) => List.replicate n 0xFF#8
    (s.dev.hl.cfg.getLsbD 1 = true → bytes = ones k ∨ bytes = ones k ++ [b8 (crc8 (ones (k + 1)))]) →
    Completes (.hlReset bytes) s (fun t =>
      t.dev.hl.cfg = 0x800#32 ∧ t.dev.hl.drop = false ∧ t.dev.hl.cause = 0 ∧ t.dev.hl.seq = 0 ∧
      t.dev.hl.held = none ∧ t.dev.hl.rdWait = none ∧ t.dev.hl.rdFly = none ∧ t.dev.hl.wq = s.dev.hl.wq ∧
      t.dev.hl.wfly = s.dev.hl.wfly ∧ t.dev.hl.rdDrop = s.dev.hl.rdDrop + bit s.dev.hl.rdFly.isSome ∧
      (∀ n, n < 64 → s.dev.holder n = 2 → t.dev.holder n = 0 ∧ t.dev.orphan n = true) ∧
      (∀ n, n < 64 → s.dev.holder n ≠ 2 → t.dev.holder n = s.dev.holder n ∧ t.dev.orphan n = s.dev.orphan n) ∧
      t.dev.rd HPT_CNT.RDLOST =
        (if s.dev.hl.rdFly.isSome || (s.dev.hl.held.isSome && !s.dev.hl.returned)
          then min 255 (s.dev.rd HPT_CNT.RDLOST + 1) else s.dev.rd HPT_CNT.RDLOST) ∧
      (∀ n, n < 112 → s.dev.srcHost n = true → t.dev.srcAct n = false) ∧ s.dev.sameBytes t.dev) ∧
    (s.dev.hl.cfg.getLsbD 1 = true → c ≠ 0xFF#8 → c ≠ b8 (crc8 (ones (k + 1))) →
      Completes (.hlReset (ones k ++ [c])) s (fun t =>
        t.dev.hl.drop = true ∧ t.dev.hl.cause = 1 ∧ t.dev.hl.cfg = s.dev.hl.cfg ∧ t.dev.hl.held = s.dev.hl.held ∧
        t.dev.holders = s.dev.holders ∧ Dev.sameRegs [HPT_CNT.addr] s.dev t.dev ∧ s.dev.sameBytes t.dev))

/-- The bridge. A WR that breaks no rule joins the write queue; a full queue drops it with cause 4, a partial byte with
cause 2. The oldest WR is issued as the Corridor access of initiator 1 and leaves the queue, unless a read accepted
before it waits; while the route table is as a DEV reset leaves it, a WR into Steward private memory finds no target
and fails, and at the response of a failed WR its address is captured with WERR. An RD is issued when every write
accepted before it has its response, as one Corridor access that increments SEQ; until then it is answered with RDY =
0, and with BUSY while an earlier one is pending. A completed read is held with its time, RDLAST returns it any number
of times, and answers RDY = 0 while a read is pending, with RERR = 1 where no read has been issued.
Readings: log entries 50 and 52. -/
def Obligations.HostLinkBridgesWritesAndReads : Prop :=
  ∀ (a n cycles : Nat) (ws : List Word) (rest : List (Nat × List Word)) (part ready cut : Bool) (s : State),
    s.dev.faults = [] → s.dev.mode ≠ .resting → s.dev.mode ≠ .landing → a < 2 ^ 32 →
    let wr := s.dev.hostSends 0x02#8 (beBytes 4 a ++ ws.flatMap (fun w => beBytes 4 w.toNat))
    let rd := s.dev.hostSends 0x0B#8 (beBytes 4 a ++ [b8 (n - 1)])
    let outstanding := s.dev.hl.wq.length + s.dev.hl.wfly.length
    let busy := s.dev.hl.rdWait.isSome || s.dev.hl.rdFly.isSome
    let zeros := fun (b : Bool) => s.dev.hostGets
      ([s.dev.hlStat false false b, b8 s.dev.hl.seq] ++ List.replicate (4 * n) 0#8)
    let issued := fun (d : Dev) => corridorAccess d 1 false a (4 * n) [] false 0
    let after := fun (r : Resp × Dev) (f : HostLink → HostLink) => (holdSlot r.2 1).setHl (fun h => f { h with
      rdWait := none, rdLen := n, rdFly := some r.1, held := none, returned := false, seq := (h.seq + 1) % 256 })
    (a % 4 = 0 → 1 ≤ ws.length → ws.length ≤ 64 →
      (outstanding < 4 →
        Completes (.hlWr wr false) s (fun t =>
          t.dev.hl.wq = s.dev.hl.wq ++ [(a, ws)] ∧ t.dev.hl.drop = s.dev.hl.drop ∧ t.dev.hl.driven = false ∧
          s.onlyHl t)) ∧
      (part = true ∨ 4 ≤ outstanding →
        Completes (.hlWr wr part) s (fun t =>
          t.dev.hl.wq = s.dev.hl.wq ∧ t.dev.hl.drop = true ∧ t.dev.hl.cause = (if part then 2 else 4) ∧
          Dev.sameRegs [HPT_CNT.addr] s.dev t.dev ∧ s.dev.sameBytes t.dev))) ∧
    (s.dev.hl.wq = (a, ws) :: rest → (s.dev.hl.rdWait = none ∨ s.dev.hl.wfly.length < s.dev.hl.rdBefore) →
      (s.dev.noc.rt = [] → 0x20000000 ≤ a → a < 0x30000000 →
        Completes .bridgeWriteIssue s (fun t =>
          t.dev.hl.wq = rest ∧ t.dev.hl.wfly = s.dev.hl.wfly ++ [some a] ∧ t.dev.rd NOC_ERR.DECODE = 1 ∧
          s.dev.sameBytes t.dev)) ∧
      (let d := s.dev.setHl (fun h => { h with wq := rest, wkeep := h.wkeep.tail })
       let keep := nth [] s.dev.hl.wkeep 0
       let sent := fun (e : Option Nat) (d : Dev) =>
         .next { s with dev := settle (d.setHl (fun h => { h with wfly := h.wfly ++ [e] })) }
       let r := corridorAccess d 1 true a (4 * ws.length) (ws.flatMap wordBytes) false 0
       (inDevice a = false ∨ (ws.length = 1 ∧ nth 0#32 keep 0 = 0#32) →
        exec .bridgeWriteIssue s = sent (if r.1.good then none else some a) r.2) ∧
       (inDevice a = true →
        exec .bridgeWriteIssue s = sent (bridgeWords ws keep d a none).1 (bridgeWords ws keep d a none).2))) ∧
    (s.dev.hl.rdWait.isSome = true → s.dev.hl.rdBefore ≤ s.dev.hl.wfly.length → exec .bridgeWriteIssue s = .next s) ∧
    (∀ e fly, s.dev.hl.wfly = e :: fly →
      Completes .bridgeWriteResponse s (fun t =>
        t.dev.hl.wfly = fly ∧ t.dev.hl.rdBefore = s.dev.hl.rdBefore - 1 ∧
        (∀ x, e = some x → x < 2 ^ 32 → s.dev.rd HPT_STAT.WERR = 0 →
          t.dev.rd HPT_STAT.WERR = 1 ∧ t.dev.rd HPT_WERRADDR.ADDR = x) ∧
        (e = none ∨ s.dev.rd HPT_STAT.WERR = 1 → Dev.sameRegs [] s.dev t.dev) ∧
        Dev.sameRegs [HPT_STAT.addr, HPT_WERRADDR.addr] s.dev t.dev ∧ s.dev.sameBytes t.dev)) ∧
    (a % 4 = 0 → 1 ≤ n → n ≤ 64 →
      (busy = false → 1 ≤ outstanding →
        Completes (.hlRd rd ⟨ready, cut⟩) s (fun t =>
          t.dev.hl.rdWait = some (a, n) ∧ t.dev.hl.rdBefore = outstanding ∧ t.dev.hl.seq = s.dev.hl.seq ∧
          t.dev.hl.out = (if cut then [] else zeros false) ∧
          t.dev.rd HPT_CNT.NOTREADY = min 0xFFFF (s.dev.rd HPT_CNT.NOTREADY + bit (!cut)) ∧
          Dev.sameRegs [HPT_CNT.addr] s.dev t.dev ∧ s.dev.sameBytes t.dev)) ∧
      (busy = true →
        Completes (.hlRd rd ⟨ready, cut⟩) s (fun t =>
          t.dev.hl.rdWait = s.dev.hl.rdWait ∧ t.dev.hl.rdFly = s.dev.hl.rdFly ∧ t.dev.hl.held = s.dev.hl.held ∧
          t.dev.hl.out = (if cut then [] else zeros true) ∧ Dev.sameRegs [HPT_CNT.addr] s.dev t.dev ∧
          s.dev.sameBytes t.dev)) ∧
      (busy = false → outstanding = 0 → (inDevice a = false ∨ n = 1) →
        let d := s.dev.setHl (fun h => { h with rdWait := some (a, n), rdBefore := 0 })
        let r := issued d
        let head := fun (rdy rerr : Bool) => [s.dev.hlStat rdy rerr false, b8 ((s.dev.hl.seq + 1) % 256)]
        exec (.hlRd rd ⟨false, true⟩) s = .next { s with dev := settle (after r (fun h =>
          { h with out := [], driven := false })) } ∧
        (s.dev.hl.rdDrop = 0 → r.2.faults = [] → r.2.hl = d.hl →
          Completes (.hlRd rd ⟨ready, cut⟩) s (fun t =>
            t.dev.hl.seq = (s.dev.hl.seq + 1) % 256 ∧ t.dev.hl.rdWait = none ∧
            (if ready then t.dev.hl.held = some r.1 ∧ t.dev.hl.rdFly = none ∧ t.dev.hl.returned = !cut
              else t.dev.hl.held = none ∧ t.dev.hl.rdFly = some r.1) ∧
            t.dev.hl.out = (if cut then [] else s.dev.hostGets (if ready then head true (!r.1.good) ++ readBytes r.1 n
              else head false false ++ List.replicate (4 * n) 0#8)))))) ∧
    (s.dev.hl.rdWait = some (a, n) → s.dev.hl.rdBefore = 0 → (inDevice a = false ∨ n = 1) →
      exec .bridgeReadIssue s = .next { s with dev := settle (after (issued s.dev) id) }) ∧
    (s.dev.hl.rdWait.isSome = true → s.dev.hl.rdBefore ≠ 0 → exec .bridgeReadIssue s = .next s) ∧
    (∀ r, s.dev.hl.rdFly = some r → s.dev.hl.rdDrop = 0 →
      Completes (.bridgeReadComplete cycles) s (fun t =>
        t.dev.hl.held = some r ∧ t.dev.hl.rdFly = none ∧ t.dev.rd HPT_RDTIME.LAST = min 0xFFFF cycles ∧
        t.dev.rd HPT_RDTIME.MAX = max (min 0xFFFF cycles) (s.dev.rd HPT_RDTIME.MAX) ∧
        (t.dev.ni 1).out = (s.dev.ni 1).out - 1 ∧ Dev.sameRegs [HPT_RDTIME.addr] s.dev t.dev ∧ s.dev.sameBytes t.dev)) ∧
    (s.dev.hl.rdDrop ≠ 0 →
      Completes (.bridgeReadComplete cycles) s (fun t =>
        t.dev.hl.rdDrop = s.dev.hl.rdDrop - 1 ∧ t.dev.hl.held = s.dev.hl.held ∧ t.dev.hl.rdFly = s.dev.hl.rdFly ∧
        (t.dev.ni 1).out = (s.dev.ni 1).out - 1 ∧ Dev.sameRegs [] s.dev t.dev ∧ s.dev.sameBytes t.dev)) ∧
    (let lastOne := s.dev.hostSends 0x0C#8 []
     (∀ r, s.dev.hl.held = some r →
      Completes (.hlRdlast lastOne) s (fun t =>
        t.dev.hl.out = s.dev.hostGets
          ([s.dev.hlStat true (!r.good) false, b8 s.dev.hl.seq] ++ readBytes r s.dev.hl.rdLen) ∧
        t.dev.hl.held = some r ∧ t.dev.hl.returned = true ∧ s.onlyHl t)) ∧
     (s.dev.hl.held = none → busy = true →
      Completes (.hlRdlast lastOne) s (fun t =>
        t.dev.hl.out = s.dev.hostGets
          ([s.dev.hlStat false false false, b8 s.dev.hl.seq] ++ List.replicate (4 * s.dev.hl.lastLen) 0#8) ∧
        s.onlyHl t)) ∧
     (s.dev.hl.held = none → busy = false →
      Completes (.hlRdlast lastOne) s (fun t =>
        t.dev.hl.out = s.dev.hostGets [s.dev.hlStat false true false, 0#8] ∧ s.onlyHl t)))

/-! The Vestibule. -/

/-- The slots: the host writes a command slot only while it is FREE; a doorbell posts FREE slots in rising order behind those
that wait and sets RING for the others; VST_DONE frees DONE slots only; Wailith takes the slot rung first, which becomes
BUSY, and a header that breaks a rule is answered with its status and no payload, LOAD_PARSE with BAD_FIELD with the
payload of Table VST.13.
That Wailith runs one command at a time is the model's reading (log entry 58). -/
def Obligations.SlotsPostTakeAndFree : Prop :=
  ∀ (init slot word n : Nat) (data : Word) (s : State), s.dev.faults = [] → s.dev.coreOn = true → s.dev.mode ≠ .landing →
    slot < 4 → word < 64 → n < 4 →
    (s.dev.slot slot = 0 →
      Completes (.vstCmdSlotWrite init slot word data) s (fun t =>
        t.dev.ld (VST_CMD.addr (64 * slot + word)) = data ∧ t.dev.resp = .ok [] ∧
        Dev.sameRegs [VST_CMD.addr (64 * slot + word)] s.dev t.dev ∧ s.dev.sameBytes t.dev)) ∧
    (s.dev.slot slot ≠ 0 →
      Completes (.vstCmdSlotWrite init slot word data) s (fun t =>
        t.dev.resp = .err .target ∧ t.dev.rd VST_ERR.WRBUSY = 1 ∧ Dev.sameRegs [VST_ERR.addr] s.dev t.dev ∧
        s.dev.sameBytes t.dev)) ∧
    Completes (.vstDoorbell data) s (fun t =>
      t.dev.slot n = (if data.getLsbD n ∧ s.dev.slot n = 0 then 1 else s.dev.slot n) ∧
      t.dev.vst.order = s.dev.vst.order ++ (List.range 4).filter (fun k => data.getLsbD k && s.dev.slot k == 0) ∧
      (data.getLsbD n = true → s.dev.slot n ≠ 0 → t.dev.rd VST_ERR.RING = 1) ∧
      Dev.sameRegs [VST_ERR.addr] s.dev t.dev ∧ s.dev.sameBytes t.dev) ∧
    Completes (.vstDoneWrite data) s (fun t =>
      t.dev.slot n = (if data.getLsbD n ∧ s.dev.slot n = 3 then 0 else s.dev.slot n) ∧
      t.dev.vst.order = s.dev.vst.order ∧ Dev.sameRegs [] s.dev t.dev ∧ s.dev.sameBytes t.dev) ∧
    (∀ r, s.dev.rd VST_FWSTAT.SERVER ≠ 0 → s.dev.wl.dozeWait = none → s.dev.vst.order = n :: r →
      (∀ k, k < 4 → s.dev.slot k = 2 → vstDeferred (s.dev.cmdOp k) = true) →
      (s.dev.headerStatus n = none →
        Completes .vstCommandTake s (fun t =>
          t.dev.slot n = 2 ∧ t.dev.vst.order = r ∧ t.dev.rd VST_FWSTAT.TAKEN = n ∧
          (∀ k, k ≠ n → t.dev.slot k = s.dev.slot k) ∧ Dev.sameRegs [VST_FWSTAT.addr] s.dev t.dev ∧
          s.dev.sameBytes t.dev)) ∧
      (∀ st, s.dev.headerStatus n = some st →
        Completes .vstCommandTake s (fun t =>
          s.dev.answered t.dev n st 0 (if st = 4 ∧ s.dev.cmdOp n = 0x13
            then List.replicate 4 0#8 ++ leBytes 4 0xFFFFFFFF else []) ∧ t.dev.vst.order = r ∧
          t.dev.rd VST_CNT.REJECT = min 255 (s.dev.rd VST_CNT.REJECT + 1) ∧
          Dev.sameRegs (VST_FWSTAT.addr :: rspRegs n) s.dev t.dev ∧ s.dev.sameBytes t.dev)))

/-- The commands that only report: NOP returns its payload, GET_INFO eight SYS words, GET_SERVICE the state of every unit,
PARSE_STATUS the parser's counters, LOG_STATUS where the Logbook stands once a seal exists, GET_CONFIG the value of a
field (shown for SYS_INTEG.LIMIT) or the index of an entry that names none. Each changes nothing but its response and
posts no event.
Readings: log entries 22 and 59. -/
def Obligations.ReportingCommandsAnswer : Prop :=
  ∀ (slot k : Nat) (s : State), s.dev.faults = [] → s.dev.coreOn = true →
    let quietly := fun (t : State) =>
      Dev.sameRegs (rspRegs slot) s.dev t.dev ∧ s.dev.sameBytes t.dev ∧ t.dev.evq = s.dev.evq ∧ t.dev.svc = s.dev.svc
    (s.dev.serves slot 0x01 →
      Completes (.vstNop slot) s (fun t => s.dev.answered t.dev slot 0 0 (s.dev.payload slot) ∧ quietly t)) ∧
    (s.dev.serves slot 0x02 →
      Completes (.vstGetInfo slot) s (fun t =>
        s.dev.answered t.dev slot 0 0 (([SYS_MODE.addr, SYS_STRAP.addr, SYS_VER_BOOT.addr, SYS_VER_WL.addr,
          SYS_VER_SC.addr, SYS_GEN.addr, SYS_SVCSUM.addr, SYS_LIMP.addr].map s.dev.view).flatMap wordBytes) ∧
        quietly t)) ∧
    (s.dev.serves slot 0x21 →
      Completes (.vstGetService slot) s (fun t =>
        (∃ pl, s.dev.answered t.dev slot 0 0 pl ∧ pl.length = 64 ∧
          (k < 6 → pl[k]? = some (b8 (s.dev.svcOf (.bank k)).code)) ∧
          (k < 2 → pl[6 + k]? = some (b8 (s.dev.svcOf (.prog k)).code)) ∧
          (k < 4 → pl[8 + k]? = some (b8 (s.dev.svcOf (.lane k)).code)) ∧
          (k < 16 → pl[12 + k]? = some (b8 (s.dev.svcOf (.atb k)).code)) ∧
          (k < 132 → leAt pl (28 + k / 4) 1 / 4 ^ (k % 4) % 4 = (s.dev.svcOf (.col k)).code)) ∧ quietly t)) ∧
    (s.dev.serves slot 0x14 →
      Completes (.vstParseStatus slot) s (fun t =>
        s.dev.answered t.dev slot 0 0 (leBytes 4 s.dev.wl.parsed ++ leBytes 4 s.dev.wl.unmatched ++
          leBytes 4 s.dev.wl.refused ++ [b8 s.dev.wl.lastPort, 0#8, 0#8, 0#8]) ∧ quietly t)) ∧
    (∀ last, s.dev.serves slot 0x52 → s.dev.wl.logSealed = some last →
      Completes (.vstLogStatus slot) s (fun t =>
        s.dev.answered t.dev slot 0 0 (leBytes 4 (if s.dev.wl.logOff < 0xF0000 then s.dev.wl.logOff else 0x1000) ++
          leBytes 4 s.dev.wl.logIndex ++ leBytes 4 last ++ leBytes 4 s.dev.wl.logOpen) ∧ quietly t)) ∧
    (s.dev.serves slot 0x41 → s.dev.cmdBytes slot 8 8 = 0#8 :: 1#8 :: List.replicate 6 0#8 →
      (s.dev.cmdAt slot 16 4 = 0x168 → s.dev.twinOk SYS_INTEG.addr = true →
        Completes (.vstGetConfig slot) s (fun t =>
          s.dev.answered t.dev slot 0 0 (0#8 :: 1#8 :: List.replicate 6 0#8 ++ leBytes 4 0x168 ++
            leBytes 4 (s.dev.rd SYS_INTEG.LIMIT)) ∧ quietly t)) ∧
      (s.dev.cmdAt slot 16 4 = 0x160 →
        Completes (.vstGetConfig slot) s (fun t =>
          s.dev.answered t.dev slot 4 0 (0xFF#8 :: List.replicate 7 0#8) ∧ quietly t)))

/-- The commands that act on modes, trips and the Logbook, served by Wailith in RUN: RESET with 0xA5 restarts the device
with SYS_RSTCAUSE.VST and no response; LIMP answers OK and enters LIMP with HOST_CMD and the TAG; DOZE answers OK,
trips every channel and begins its entry, or answers STATE; TRIP trips the channels of its mask; TRIP_ACK releases
what can be released, which no channel is for which a pulse source arrives in its cycle, and reports it; LOG_MARK owes
a NOTE with its payload; LOG_SEAL seals. A wrong key or mask answers BAD_FIELD without effect. Readings: log entries
58 and 64. -/
def Obligations.ModeTripAndLogCommandsAct : Prop :=
  ∀ (slot n pulses : Nat) (s : State), s.dev.quiet → s.dev.mode = .run → n < 16 →
    let seq := s.dev.rd EVQ_NEXTSEQ.SEQ
    let mask := s.dev.cmdAt slot 8 2
    (s.dev.serves slot 0x03 →
      (s.dev.cmdAt slot 8 1 = 0xA5 →
        Completes (.vstReset slot) s (fun t =>
          t.dev.mode = .boot ∧ t.dev.rd SYS_BOOTSTAT.STEP = 1 ∧ t.dev.rd SYS_RSTCAUSE.VST = 1 ∧
          (∀ k, t.dev.slot k = 0) ∧ t.dev.vst.order = [] ∧ t.dev.rd BAL_STATE.TRIPPED = 0xFFFF ∧
          (∀ k, t.dev.holder k = 0) ∧ ∀ a, a < 64 → t.dev.logByte a = s.dev.logByte a)) ∧
      (s.dev.cmdAt slot 8 1 ≠ 0xA5 →
        Completes (.vstReset slot) s (fun t =>
          s.dev.answered t.dev slot 4 0 [] ∧ Dev.sameRegs (rspRegs slot) s.dev t.dev ∧ t.dev.mode = .run ∧
          s.dev.sameBytes t.dev))) ∧
    (s.dev.serves slot 0x04 → s.dev.rd SYS_LIMP.REASON = 0 →
      Completes (.vstLimp slot) s (fun t =>
        t.dev.mode = .limp ∧ t.dev.rd SYS_LIMP.REASON = 0x0A ∧ t.dev.rd SYS_LIMP.DETAIL = s.dev.cmdTag slot ∧
        s.dev.answered t.dev slot 0 seq [])) ∧
    (s.dev.serves slot 0x05 → s.dev.cmdAt slot 14 2 = 0 →
      (s.dev.dozeOk = true →
        Completes (.vstDoze slot) s (fun t =>
          (∃ e, s.dev.answered t.dev slot 0 e []) ∧ t.dev.wl.dozeWait = some (s.dev.cmdAt slot 8 6) ∧
          t.dev.rd BAL_STATE.TRIPPED = 0xFFFF ∧ t.dev.rd (BAL_TCAUSE.VCMD n) = 1 ∧ t.dev.mode = .run)) ∧
      (s.dev.dozeOk = false →
        Completes (.vstDoze slot) s (fun t =>
          s.dev.answered t.dev slot 6 0 [] ∧ Dev.sameRegs (rspRegs slot) s.dev t.dev ∧ t.dev.wl = s.dev.wl))) ∧
    (s.dev.serves slot 0x30 →
      (s.dev.maskOk slot = true →
        Completes (.vstTrip slot) s (fun t =>
          t.dev.rd BAL_STATE.TRIPPED = s.dev.rd BAL_STATE.TRIPPED ||| mask ∧
          (mask.testBit n = true → t.dev.rd (BAL_TCAUSE.VCMD n) = 1) ∧ (∃ e, s.dev.answered t.dev slot 0 e []) ∧
          Dev.sameRegs (rspRegs slot ++ evRegs ++ tripRegs) s.dev t.dev ∧ s.dev.sameBytes t.dev)) ∧
      (s.dev.maskOk slot = false →
        Completes (.vstTrip slot) s (fun t =>
          s.dev.answered t.dev slot 4 0 [] ∧ Dev.sameRegs (rspRegs slot) s.dev t.dev ∧ s.dev.sameBytes t.dev))) ∧
    (s.dev.serves slot 0x31 → s.dev.maskOk slot = true → s.dev.pendOf 9 = none →
      Completes (.vstTripAck ⟨slot, pulses⟩) s (fun t =>
        (t.dev.rd BAL_STATE.TRIPPED).testBit n =
          ((s.dev.rd BAL_STATE.TRIPPED).testBit n && !(mask.testBit n && s.dev.releasable pulses n)) ∧
        (∃ e rel, s.dev.answered t.dev slot 0 e (leBytes 2 rel ++ leBytes 2 (mask &&& t.dev.rd BAL_STATE.TRIPPED)) ∧
          rel.testBit n = (mask.testBit n && s.dev.releasable pulses n)) ∧
        Dev.sameRegs (BAL_ACK.addr :: (BAL_ACK.addr + 0x800) :: (rspRegs slot ++ evRegs ++ tripRegs)) s.dev t.dev ∧
        s.dev.sameBytes t.dev)) ∧
    (s.dev.serves slot 0x50 →
      Completes (.vstLogMark slot) s (fun t =>
        s.dev.answered t.dev slot 0 seq [] ∧ s.dev.oneCommandEvent t.dev ∧
        t.dev.wl.cmds = s.dev.wl.cmds ++ [{ seq := seq, kind := 0x04, body := bytesWords (s.dev.payload slot) }] ∧
        Dev.sameRegs (rspRegs slot ++ evRegs) s.dev t.dev ∧ s.dev.sameBytes t.dev)) ∧
    (s.dev.serves slot 0x51 → s.dev.canSeal = true →
      Completes (.vstLogSeal slot) s (fun t =>
        s.dev.answered t.dev slot 0 seq [] ∧ s.dev.oneCommandEvent t.dev ∧ t.dev.wl.logOpen = 0 ∧
        t.dev.wl.logSealNo = (s.dev.wl.logSealNo + 1) % 2 ^ 32 ∧ (∀ a, a < 64 → t.dev.logByte a = s.dev.logByte a) ∧
        Dev.sameRegs (rspRegs slot ++ evRegs) s.dev t.dev))

/-- Images and tables, where Wailith's reads of the Atrium succeed and change nothing but the Corridor's statistics and
the draws of free values; a source that the host has overwritten reads as free bytes (R151). LOAD_GALLERY loads an
image that no reason refuses and brings its bank IN_SERVICE, and answers IMG_REFUSED with the lowest reason otherwise;
SWITCH_BANK of a device alone arms the switch, or answers STATE; LOAD_MAP and LOAD_PARSE take a table that keeps its
rules and answer BAD_FIELD otherwise; an address outside the Atrium answers ADDR. A frame given to Wailith is popped
and counted as unmatched without a parse table, and as parsed or refused by the first rule that meets it.
Readings: log entries 9, 60 and 61. -/
def Obligations.ImagesTablesAndFramesLoad : Prop :=
  ∀ (slot b : Nat) (bs : List Byte) (s : State), s.dev.quiet → s.dev.mode = .run →
    let seq := s.dev.rd EVQ_NEXTSEQ.SEQ
    let a := s.dev.cmdAt slot 8 4
    let len := s.dev.cmdAt slot 12 4
    let readsAs := fun (r : Option (List Byte) × Dev) (xs : List Byte) =>
      r = (some xs, { s.dev with noc := r.2.noc, seed := r.2.seed })
    (s.dev.serves slot 0x10 → s.dev.cmdAt slot 16 4 = b → b < 2 →
      (regionOk a len 8 = false →
        Completes (.vstLoadGallery slot) s (fun t =>
          s.dev.answered t.dev slot 0x0A 0 [] ∧ Dev.sameRegs (rspRegs slot) s.dev t.dev ∧ t.dev.gal = s.dev.gal)) ∧
      (regionOk a len 8 = true → s.dev.bankActive b = false → s.dev.bankArmed b = false →
        s.dev.svcOf (.prog b) ≠ .underTest → readsAs (readSource s.dev slot a len) bs →
        (s.dev.imgReason bs len = 0 →
          Completes (.vstLoadGallery slot) s (fun t =>
            s.dev.answered t.dev slot 0 seq (s.dev.imgOut bs 0) ∧ (t.dev.rd GSQ_BANK.LOADED).testBit b = true ∧
            t.dev.svcOf (.prog b) = .inService ∧
            nth PBank.empty t.dev.gal.banks b =
              { code := imgCode bs, ndesc := imgDescs bs, digest := bs.drop (bs.length - 32) } ∧
            nth PBank.empty t.dev.gal.banks (1 - b) = nth PBank.empty s.dev.gal.banks (1 - b) ∧
            s.dev.oneCommandEvent t.dev ∧ s.dev.sameBytes t.dev)) ∧
        (s.dev.imgReason bs len ≠ 0 →
          Completes (.vstLoadGallery slot) s (fun t =>
            s.dev.answered t.dev slot 9 0 (s.dev.imgOut bs (s.dev.imgReason bs len)) ∧
            Dev.sameRegs (rspRegs slot) s.dev t.dev ∧ t.dev.gal = s.dev.gal ∧ t.dev.svc = s.dev.svc ∧
            s.dev.sameBytes t.dev)))) ∧
    (s.dev.serves slot 0x11 → s.dev.cmdAt slot 8 4 = b → b < 2 → s.dev.otherMembers = [] →
      (s.dev.loaded b = true → s.dev.bankActive b = false → s.dev.on GSQ_SWCTL.ARMED = false → s.dev.wl.swGroup = none →
        Completes (.vstSwitchBank slot) s (fun t =>
          s.dev.answered t.dev slot 0 seq (leBytes 4 (t.dev.rd GSQ_SWREQ.REQ)) ∧
          t.dev.rd GSQ_SWREQ.REQ = (s.dev.rd GSQ_SWREQ.REQ + 1) % 2 ^ 16 ∧ t.dev.rd GSQ_SWCTL.ARMED = 1 ∧
          t.dev.rd GSQ_SWCTL.TARGET = b ∧
          Dev.sameRegs (GSQ_SWCTL.addr :: GSQ_SWREQ.addr :: GSQ_SWAT.addr :: (rspRegs slot ++ evRegs)) s.dev t.dev ∧
          s.dev.sameBytes t.dev)) ∧
      (s.dev.loaded b = false →
        Completes (.vstSwitchBank slot) s (fun t =>
          s.dev.answered t.dev slot 6 0 [] ∧ Dev.sameRegs (rspRegs slot) s.dev t.dev ∧ s.dev.sameBytes t.dev))) ∧
    (s.dev.serves slot 0x12 → s.dev.cmdAt slot 16 4 = 0 →
      (len ≠ 32768 →
        Completes (.vstLoadMap slot) s (fun t =>
          s.dev.answered t.dev slot 0x0A 0 [] ∧ Dev.sameRegs (rspRegs slot) s.dev t.dev ∧ t.dev.gal = s.dev.gal)) ∧
      (len = 32768 → regionOk a len 8 = true → readsAs (readSource s.dev slot a 32768) bs →
        (∀ i, i < 16384 → leAt bs (2 * i) 2 < 0x3FFF ∨ leAt bs (2 * i) 2 = 0xFFFF) →
        Completes (.vstLoadMap slot) s (fun t =>
          s.dev.answered t.dev slot 0 seq [] ∧ t.dev.rd RSR_MAPCTL.PEND = 1 ∧ t.dev.gal.map = s.dev.gal.map ∧
          (∃ m, t.dev.gal.map2 = some m ∧ ∀ i, i < 16384 → tget (fun _ => 0xFFFF) m i = leAt bs (2 * i) 2) ∧
          Dev.sameRegs (RSR_MAPCTL.addr :: (rspRegs slot ++ evRegs)) s.dev t.dev ∧ s.dev.sameBytes t.dev))) ∧
    (s.dev.serves slot 0x13 → s.dev.cmdAt slot 16 4 = 0 → regionOk a len 16 = true → readsAs (readRegion s.dev a len) bs →
      (∀ r f, parseCheck bs len = (r, f, none) →
        Completes (.vstLoadParse slot) s (fun t =>
          s.dev.answered t.dev slot 0 seq (leBytes 2 r ++ leBytes 2 f ++ leBytes 4 0xFFFFFFFF) ∧
          t.dev.wl.parse = some (a, r, f) ∧ Dev.sameRegs (rspRegs slot ++ evRegs) s.dev t.dev ∧ s.dev.sameBytes t.dev)) ∧
      (∀ r f o, parseCheck bs len = (r, f, some o) →
        Completes (.vstLoadParse slot) s (fun t =>
          s.dev.answered t.dev slot 4 0 (leBytes 2 r ++ leBytes 2 f ++ leBytes 4 o) ∧ t.dev.wl.parse = s.dev.wl.parse ∧
          Dev.sameRegs (rspRegs slot) s.dev t.dev ∧ s.dev.sameBytes t.dev))) ∧
    (∀ port w rest p f d1, port < 48 → s.dev.rd VST_FWSTAT.SERVER = 1 → s.dev.svcOf (.bank (port / 8)) = .inService →
      (s.dev.port port).closedQ = w :: rest → s.dev.poolOf (fld w 31 5 * 32) = some p →
      s.dev.ownerAt (bufKey p ((fld w 31 5 * 32 - s.dev.poolBase p) / bufSize p)) = 1 →
      takeFrame (frmqPop s.dev port).2 (fld w 31 5 * 32) = (some f, d1) → d1.faults = [] →
      (s.dev.wl.parse = none → d1.wl = s.dev.wl →
        Completes (.frameParse port) s (fun t =>
          t.dev.wl.unmatched = min (s.dev.wl.unmatched + 1) 0xFFFFFFFF ∧ t.dev.wl.lastPort = port ∧
          t.dev.wl.parsed = s.dev.wl.parsed ∧ t.dev.wl.refused = s.dev.wl.refused)) ∧
      (∀ base nr nf r d2, s.dev.wl.parse = some (base, nr, nf) → d1.wl = s.dev.wl →
        findRule nr d1 base 0 port f = (some r, d2) → d2.wl = s.dev.wl →
        Completes (.frameParse port) s (fun t =>
          t.dev.wl.unmatched = s.dev.wl.unmatched ∧
          (ruleRefuses r f = true → t.dev.wl.refused = min (s.dev.wl.refused + 1) 0xFFFFFFFF ∧
            t.dev.wl.parsed = s.dev.wl.parsed) ∧
          (ruleRefuses r f = false → t.dev.wl.parsed = min (s.dev.wl.parsed + 1) 0xFFFFFFFF ∧
            t.dev.wl.refused = s.dev.wl.refused))))

/-- Live service. A permitted SET_SERVICE of a unit in service starts its drain and keeps the slot BUSY; a unit that
completes its drain, or a port bank whose drain time ends, is OUT_OF_SERVICE; one that is not permitted answers STATE
with the unit's state. A repair is armed with its column and spare. A self-test starts on a unit UNDER_TEST, and its
end answers OK with its result and detail; without a gap a column test ends with result 0xFFFFFFFF and a free detail
(log entry 9). -/
def Obligations.ServiceCommandsStartAndFinish : Prop :=
  ∀ (slot ty idx : Nat) (rxing : List Nat) (u : UnitId) (s : State), s.dev.quiet → s.dev.mode = .run →
    unitOf ty idx = some u →
    (s.dev.serves slot 0x20 → s.dev.cmdAt slot 8 1 = ty → s.dev.cmdAt slot 9 1 = idx → s.dev.cmdAt slot 10 2 = 2 →
      s.dev.unitBusy u = false →
      (s.dev.svcOf u = .inService → s.dev.svcPermits u .outOfService = true →
        Completes (.vstSetService ⟨slot, rxing⟩) s (fun t =>
          t.dev.svcOf u = .draining ∧ tget (fun _ => []) t.dev.wl.svcSlot u.key = [slot] ∧ t.dev.slot slot = 2 ∧
          ∀ v : UnitId, v.key ≠ u.key → t.dev.svcOf v = s.dev.svcOf v)) ∧
      (s.dev.svcPermits u .outOfService = false →
        Completes (.vstSetService ⟨slot, rxing⟩) s (fun t =>
          s.dev.answered t.dev slot 6 0 [b8 (s.dev.svcOf u).code, 0#8, 0#8, 0#8] ∧ t.dev.svc = s.dev.svc ∧
          Dev.sameRegs (rspRegs slot) s.dev t.dev ∧ s.dev.sameBytes t.dev))) ∧
    (s.dev.svcOf u = .draining → s.dev.drained u = true →
      Completes (.drainComplete ty idx) s (fun t =>
        t.dev.svcOf u = .outOfService ∧
        (∀ n, u = .atb n → tget (fun _ => []) s.dev.wl.svcSlot u.key = [slot] → slot < 4 →
          t.dev.slot slot = 3 ∧ s.dev.answered t.dev slot 0 (s.dev.rd EVQ_NEXTSEQ.SEQ) [2#8, 0#8, 0#8, 0#8]))) ∧
    (∀ b sending, u = .bank b → s.dev.svcOf u = .draining →
      Completes (.drainTimeout b sending) s (fun t => t.dev.svcOf u = .outOfService)) ∧
    (s.dev.serves slot 0x22 → s.dev.cmdAt slot 8 4 = idx → u = .col idx → idx < 128 →
      s.dev.on GSQ_REPCTL.ARMED = false →
      (s.dev.svcOf (.col 128) = .outOfService →
        Completes (.vstRepairColumn slot) s (fun t =>
          t.dev.rd GSQ_REPCTL.LCOL = idx ∧ t.dev.rd GSQ_REPCTL.SPARE = 0 ∧ t.dev.rd GSQ_REPCTL.ARMED = 1 ∧
          t.dev.wl.repSlot = some slot ∧ t.dev.slot slot = 2 ∧ Dev.sameRegs [GSQ_REPCTL.addr] s.dev t.dev ∧
          s.dev.sameBytes t.dev)) ∧
      (s.dev.svcOf (.col 128) ≠ .outOfService →
        Completes (.vstRepairColumn slot) s (fun t =>
          s.dev.answered t.dev slot 6 0 [b8 (s.dev.svcOf (.col 128)).code, 0#8, 0#8, 0#8] ∧
          Dev.sameRegs (rspRegs slot) s.dev t.dev ∧ s.dev.sameBytes t.dev))) ∧
    (∀ test, s.dev.serves slot 0x23 → s.dev.cmdAt slot 8 1 = ty → s.dev.cmdAt slot 9 1 = idx →
      s.dev.cmdAt slot 10 2 = test → testListed u test = true → s.dev.unitBusy u = false → s.dev.svcOf u = .underTest →
      s.dev.testBlocked u test = false →
      Completes (.vstSelftest slot) s (fun t =>
        tget (fun _ => (0, 0)) t.dev.wl.testSlot u.key = (slot, test) ∧ t.dev.slot slot = 2 ∧ t.dev.svc = s.dev.svc ∧
        (∀ b k, u = .bank b → k < 8 → t.dev.rd (PBK_LOOP.DEPTH (8 * b + k)) = test) ∧ s.dev.sameBytes t.dev)) ∧
    (∀ test result detail, slot < 4 → s.dev.wl.testSlot = [(u.key, (slot, test))] → s.dev.rd VST_FWSTAT.SERVER = 1 →
      ((∀ c, u = .col c → s.dev.inFrame = false) →
        Completes (.selftestComplete ty idx result detail) s (fun t =>
          s.dev.answered t.dev slot 0 (s.dev.rd EVQ_NEXTSEQ.SEQ) (leBytes 4 result ++ leBytes 4 detail) ∧
          t.dev.wl.testSlot = [] ∧ t.dev.svc = s.dev.svc)) ∧
      (u = .col idx → s.dev.activeBank.isSome = true →
        Completes (.selftestGapTimeout idx) s (fun t =>
          (∃ d, s.dev.answered t.dev slot 0 (s.dev.rd EVQ_NEXTSEQ.SEQ) (leBytes 4 0xFFFFFFFF ++ leBytes 4 d)) ∧
          t.dev.wl.testSlot = [] ∧ t.dev.svc = s.dev.svc ∧ s.dev.sameBytes t.dev)))

/-- SET_CONFIG of SYS_INTEG.LIMIT with lock 0 free: the field takes the requested value held to 1 to 255, the status says
whether it was clamped and the payload how many entries were, and the lock is free again; an entry that names no field it
may set is refused with its index; while another holder has lock 0 the command waits, and 100 µs from the start of that
wait its timeout answers BUSY.
Readings, the range of LIMIT among them: log entry 59. -/
def Obligations.SetConfigHoldsLockAndRange : Prop :=
  ∀ (slot v h : Nat) (s : State), s.dev.calm → s.dev.mode = .run → s.dev.pendOf 0 = none →
    let one := s.dev.serves slot 0x40 ∧ s.dev.cmdAt slot 1 1 = 0 ∧
      s.dev.cmdBytes slot 8 8 = 0#8 :: 1#8 :: List.replicate 6 0#8 ∧ s.dev.cmdAt slot 20 4 = v
    (one → s.dev.cmdAt slot 16 4 = 0x168 → s.dev.holder 0 = 0 → s.dev.orphan 0 = false →
      Completes (.vstSetConfig slot) s (fun t =>
        t.dev.rd SYS_INTEG.LIMIT = (if v < 1 then 1 else if 255 < v then 255 else v) ∧
        t.dev.rd SYS_INTEG.COUNT = s.dev.rd SYS_INTEG.COUNT ∧ t.dev.twinOk SYS_INTEG.addr = true ∧
        t.dev.holder 0 = 0 ∧ t.dev.orphan 0 = false ∧
        (1 ≤ v → v ≤ 255 →
          s.dev.answered t.dev slot 0 (s.dev.rd EVQ_NEXTSEQ.SEQ) (0#8 :: 1#8 :: List.replicate 6 0#8)) ∧
        (v = 0 →
          s.dev.answered t.dev slot 1 (s.dev.rd EVQ_NEXTSEQ.SEQ)
            (1#8 :: 1#8 :: List.replicate 6 0#8 ++ leBytes 4 0x168 ++ leBytes 4 0 ++ leBytes 4 1)) ∧
        s.dev.sameBytes t.dev)) ∧
    (one → s.dev.cmdAt slot 16 4 = 0x160 →
      Completes (.vstSetConfig slot) s (fun t =>
        s.dev.answered t.dev slot 4 0 (0xFF#8 :: List.replicate 7 0#8) ∧ Dev.sameRegs (rspRegs slot) s.dev t.dev ∧
        s.dev.sameBytes t.dev)) ∧
    (one → s.dev.cmdAt slot 16 4 = 0x168 → s.dev.holder 0 = h → 2 ≤ h → h < 16 →
      Completes (.vstSetConfig slot) s (fun t =>
        t.dev.slot slot = 2 ∧ (∃ since, t.dev.wl.cfgSlot = some (slot, since) ∧
          (s.dev.wl.cfgSlot = some (slot, since) ∨ since = s.dev.now)) ∧ t.dev.rd SYS_INTEG.LIMIT = s.dev.rd SYS_INTEG.LIMIT ∧
        t.dev.holder 0 = h ∧ s.dev.sameBytes t.dev)) ∧
    (∀ since, slot < 4 → s.dev.wl.cfgSlot = some (slot, since) → s.dev.slot slot = 2 → s.dev.holder 0 = h → 2 ≤ h →
      Completes (.setConfigLockTimeout slot) s (fun t =>
        t.dev.now = max s.dev.now (100000 + since) ∧ s.dev.answered t.dev slot 8 0 [] ∧ t.dev.wl.cfgSlot = none ∧ t.dev.holder 0 = h ∧
        Dev.sameRegs (rspRegs slot) s.dev t.dev ∧ s.dev.sameBytes t.dev))

/-! The ports. -/

/-- Reception by a receiver in RUN. A start bit at mark only counts noise. A character opens a frame with its bytes, its
time and its error flags; one whose start edge came before a change of the setting is judged in the setting of that
edge, and the new setting stands afterwards. A break closes the open frame with cause BREAK, an idle line sets IDLE
once, a gap closes the open frame with cause 0 and its CRC verdict or makes the bytes of a RAW port due, LINEDOWN
follows the line. The wake edges of one cycle in DOZE hold one wake event, for the lowest of their ports, and each
such port captures its own character; the wake clock of a port ends with its switch. Other ports stay as they are.
Readings: log entries 71 and 88. -/
def Obligations.PortReceivesCharacters : Prop :=
  ∀ (n ch late : Nat) (parityBad stopLow : Bool) (ports : List Nat) (s : State), s.dev.faults = [] → n < 48 →
    let p := s.dev.port n
    let others := fun (t : State) => ∀ m, m ≠ n → t.dev.port m = s.dev.port m
    let steady := p.rxHist = [] ∧ p.rxLine = s.dev.rd (PBK_CTRL.LINE n) ∧ p.lastChar = false ∧ p.wakeNext = false
    let live := fun (d : Dev) => d.mode = .run ∧ d.rxLive n = true ∧ d.muted n = false ∧ d.abdWaits n = false
    (steady → live s.dev → s.dev.hearsPin n = true →
      Completes (.characterReceive ⟨n, late⟩ ch true parityBad stopLow) s (fun t =>
        t.dev.rd (PBK_CNT1.NOISE n) = min 0xFFFF (s.dev.rd (PBK_CNT1.NOISE n) + 1) ∧ t.dev.port n = p ∧
        Dev.sameRegs [PBK_CNT1.addr n] s.dev t.dev ∧ s.dev.sameBytes t.dev ∧ others t)) ∧
    (∀ baud fmt, p.rxHist = [(baud, fmt, p.rxLine)] → p.lastChar = false → p.wakeNext = false →
      live ((s.dev.put (PBK_BAUD.addr n) baud).put (PBK_FMT.addr n) fmt) → s.dev.hearsPin n = true →
      Completes (.characterReceive ⟨n, 1⟩ ch true parityBad stopLow) s (fun t =>
        t.dev.rd (PBK_CNT1.NOISE n) = min 0xFFFF (s.dev.rd (PBK_CNT1.NOISE n) + 1) ∧ t.dev.port n = { p with rxHist := [] } ∧
        Dev.sameRegs [PBK_CNT1.addr n] s.dev t.dev ∧ s.dev.sameBytes t.dev ∧ others t)) ∧
    (let bits := s.dev.dataBits n
     let pb := parityBad && s.dev.parity n != 0
     steady → live s.dev → s.dev.hearsPin n = true → s.dev.frmMode n = 0 → s.dev.addrOn n = false → p.frames = [] →
      p.rawBuf = [] → s.dev.charSize n < s.dev.acts (PBK_FRMX.MAXLEN n) → ch % 2 ^ bits ≠ 0 →
      Completes (.characterReceive ⟨n, late⟩ ch false parityBad stopLow) s (fun t =>
        (∃ f, (t.dev.port n).frames = [f] ∧ f.data = leBytes (s.dev.charSize n) (ch % 2 ^ bits) ∧ f.closed = false ∧
          f.cells = [] ∧ f.spilled = 0 ∧ f.time = s.dev.timeUs % 2 ^ 32 ∧ f.fstat.testBit 5 = pb ∧
          f.fstat.testBit 6 = stopLow ∧ f.fstat.testBit 7 = p.ovrNext ∧ f.fstat.testBit 10 = p.abdFrame) ∧
        (stopLow = true → t.dev.rd (PBK_STAT.FRMERR n) = 1 ∧
          t.dev.rd (PBK_CNT0.FRAMING n) = min 0xFFFF (s.dev.rd (PBK_CNT0.FRAMING n) + 1)) ∧
        (pb = true → t.dev.rd (PBK_STAT.PARERR n) = 1 ∧
          t.dev.rd (PBK_CNT0.PARITY n) = min 0xFFFF (s.dev.rd (PBK_CNT0.PARITY n) + 1)) ∧
        (stopLow = false → pb = false → Dev.sameRegs [] s.dev t.dev) ∧ (t.dev.port n).idleDone = false ∧
        Dev.sameRegs [PBK_STAT.addr n, PBK_CNT0.addr n] s.dev t.dev ∧ s.dev.sameBytes t.dev ∧ others t)) ∧
    (∀ f, steady → live s.dev → s.dev.hearsPin n = true → s.dev.frmMode n < 4 → p.open? = some f →
      Completes (.breakReceive ⟨n, late⟩) s (fun t =>
        (t.dev.port n).frames.getLast? = some { f with closed := true, fstat := f.fstat + 4 } ∧
        t.dev.rd (PBK_STAT.BREAK n) = 1 ∧
        t.dev.rd (PBK_CNT1.BREAK n) = min 0xFFFF (s.dev.rd (PBK_CNT1.BREAK n) + 1) ∧
        Dev.sameRegs [PBK_STAT.addr n, PBK_CNT1.addr n] s.dev t.dev ∧ s.dev.sameBytes t.dev ∧ others t)) ∧
    (s.dev.listens n = true → p.idleDone = false →
      Completes (.idleLine n) s (fun t =>
        t.dev.rd (PBK_STAT.IDLE n) = 1 ∧ (t.dev.port n).idleDone = true ∧ exec (.idleLine n) t = .next t ∧
        Dev.sameRegs [PBK_STAT.addr n] s.dev t.dev ∧ s.dev.sameBytes t.dev ∧ others t)) ∧
    (∀ f, s.dev.listens n = true → s.dev.frmMode n = 0 ∨ s.dev.frmMode n = 3 → p.open? = some f →
      let bad := s.dev.crcOn n && (decide (f.data.length < 3) || crc16 (crcBytes (s.dev.charSize n) f.data) != 0)
      Completes (.gapExpiry n) s (fun t =>
        (t.dev.port n).frames.getLast? =
          some { f with closed := true, fstat := f.fstat + 8 * bit (s.dev.crcOn n) + 16 * bit bad } ∧
        (bad = true → t.dev.rd (PBK_CNT3.CRCBAD n) = min 0xFFFF (s.dev.rd (PBK_CNT3.CRCBAD n) + 1)) ∧
        (bad = false → Dev.sameRegs [] s.dev t.dev) ∧
        Dev.sameRegs [PBK_CNT3.addr n] s.dev t.dev ∧ s.dev.sameBytes t.dev ∧ others t)) ∧
    (s.dev.listens n = true → s.dev.frmMode n = 4 →
      Completes (.gapExpiry n) s (fun t =>
        t.dev.port n = { p with rawFlush := p.rawBuf.length, rawLen := 0 } ∧ Dev.sameRegs [] s.dev t.dev ∧
        s.dev.sameBytes t.dev ∧ others t)) ∧
    (s.dev.listens n = true → s.dev.hearsPin n = true →
      Completes (.lineDown n) s (fun t =>
        t.dev.rd (PBK_STAT.LINEDOWN n) = 1 ∧ Dev.sameRegs [PBK_STAT.addr n] s.dev t.dev ∧ s.dev.sameBytes t.dev ∧
        t.dev.ports = s.dev.ports) ∧
      Completes (.lineUp n) s (fun t =>
        t.dev.rd (PBK_STAT.LINEDOWN n) = 0 ∧ Dev.sameRegs [PBK_STAT.addr n] s.dev t.dev ∧ s.dev.sameBytes t.dev ∧
        t.dev.ports = s.dev.ports)) ∧
    (s.dev.mode = .doze → s.dev.wl.wakeHeld = false → s.dev.wakePort n = true → n ∈ ports →
      (∀ m, m < 48 → m ∈ ports → s.dev.wakePort m = true → n ≤ m) →
      Completes (.portWakeEdge ports) s (fun t =>
        (t.dev.rd (PBK_BCAUSE.WOKE (n / 8))).testBit (n % 8) = true ∧ t.dev.wl.wakeHeld = true ∧ t.dev.mode = .doze ∧
        (s.dev.on (PBK_CTRL.RXEN n) = true → p.awake = false → s.dev.abdRuns n = false →
          (t.dev.port n).awake = true ∧
          (s.dev.divisor n < 64 * 160 → t.dev.rd (PBK_WAKE.WSTAT n) = 2 ∧ t.dev.rd (PBK_STAT.WAKEMISS n) = 1) ∧
          (64 * 160 ≤ s.dev.divisor n → (t.dev.port n).wakeNext = true ∧ (t.dev.port n).wakeClk = true)) ∧
        Dev.sameRegs (PBK_BCAUSE.addr (n / 8) :: ports.flatMap (fun m => [PBK_WAKE.addr m, PBK_STAT.addr m])) s.dev t.dev ∧
        s.dev.sameBytes t.dev ∧ ∀ m, m ∉ ports → t.dev.port m = s.dev.port m)) ∧
    (s.dev.bankWorks n = true →
      Completes (.shifterClockSwitch n) s (fun t =>
        t.dev.port n = { p with wakeClk := false } ∧ Dev.sameRegs [] s.dev t.dev ∧ s.dev.sameBytes t.dev ∧ others t))

/-- Frames leave a port. A short frame without a cell takes one and moves into it; a closed frame that is all in cells
goes to the owner that DEST names and to the closed-frame queue, from which a read pops one entry, or 0 when it is
empty; a RAW port whose ring lies in open windows writes eight bytes into it and moves WP. The halves of the Atrium's
windows agree. Readings: log entries 36 and 71. -/
def Obligations.PortDeliversFrames : Prop :=
  ∀ (init n a : Nat) (f : Frame) (s : State), s.dev.faults = [] → s.dev.badWindows = [] → s.dev.mode = .run → n < 48 →
    s.dev.bankWorks n = true →
    let key := bufKey 4 ((a - s.dev.poolBase 4) / 32)
    let others := fun (t : State) => ∀ m, m ≠ n → t.dev.port m = s.dev.port m
    ((s.dev.port n).frames = [f] → f.cells = [] → f.spilled = 0 → 1 ≤ f.data.length → f.data.length ≤ 20 →
      s.dev.rd BPM_CELLQ.PORTMAX = 0 → s.dev.poolServes 4 = true → (s.dev.pool 4).cache = [a] → s.dev.bpm.bad = [] →
      s.dev.ownerAt key = 0 →
      Completes (.cellSpill n) s (fun t =>
        (t.dev.port n).frames = [{ f with spilled := f.data.length, cells := [a] }] ∧
        t.dev.ownerAt key = 0x10 + n ∧ (t.dev.pool 4).cache = [] ∧ others t)) ∧
    ((s.dev.port n).frames = [f] → f.closed = true → f.spilled = f.data.length → f.cells = [a] →
      (f.fstat.testBit 4 = false ∨ s.dev.on (PBK_FRM.CRCDROP n) = false) → (s.dev.port n).closedQ.length < 16 →
      s.dev.poolOf a = some 4 → (a - s.dev.poolBase 4) % 32 = 0 → s.dev.ownerAt key = 0x10 + n → s.dev.bpm.bad = [] →
      ownerValid (s.dev.acts (PBK_FRM.DEST n)) = true →
      Completes (.frameGive n) s (fun t =>
        (t.dev.port n).frames = [] ∧ (t.dev.port n).closedQ = (s.dev.port n).closedQ ++ [w32 (a ||| 1)] ∧
        t.dev.ownerAt key = s.dev.acts (PBK_FRM.DEST n) ∧ others t)) ∧
    (∀ d1, s.dev.frmMode n = 4 → (s.dev.port n).rawStop = false → (s.dev.port n).rawBuf.length = 8 →
      (s.dev.port n).rawFlush = 0 →
      let base := s.dev.rd (PBK_RAWBASE.BASE n)
      let sz := s.dev.rawSize n
      let wp := s.dev.rd (PBK_RAWWP.WP n) % sz
      wp + 8 ≤ sz → 8 ≤ (s.dev.rd (PBK_RAWRP.RP n) + 2 * sz - 1 - wp) % sz →
      (s.dev.windowsPermit (portInit n) true base sz = true →
        atriumAccessFor s.dev (portInit n) n true (base + wp) 8 (s.dev.port n).rawBuf = (.ok [], d1) →
        Completes (.rawRingWrite n) s (fun t =>
          (t.dev.port n).rawBuf = [] ∧ t.dev.rd (PBK_RAWWP.WP n) = (wp + 8) % sz ∧ t.dev.atr = d1.atr ∧ others t)) ∧
      (s.dev.windowsPermit (portInit n) true base sz = false →
        Completes (.rawRingWrite n) s (fun t =>
          t.dev.rd (PBK_STAT.RAWERR n) = 1 ∧ (t.dev.port n).rawStop = true ∧ t.dev.rd ATC_ERR.WINDOW = 1 ∧
          (t.dev.port n).rawBuf = (s.dev.port n).rawBuf ∧ s.dev.sameBytes t.dev ∧ others t))) ∧
    Completes (.pbkFrmqPop init n) s (fun t =>
      (∀ e r, (s.dev.port n).closedQ = e :: r →
        t.dev.resp = .ok (wordBytes e) ∧ (t.dev.port n).closedQ = r ∧
        (t.dev.port n).frames = (s.dev.port n).frames) ∧
      ((s.dev.port n).closedQ = [] → t.dev.resp = .ok (wordBytes 0#32) ∧ t.dev.ports = s.dev.ports) ∧
      Dev.sameRegs [] s.dev t.dev ∧ s.dev.sameBytes t.dev ∧ others t)

/-- Auto-baud. EN arms the measurement only for a format without parity whose sync character ends at space; a fitting
measurement writes the divisor and ends with ABDONE; a count out of range, edges that do not fit, and a timeout, count as
failures, of which the last one allowed ends the attempts with ABGIVEUP and turns the receiver off; a quiet line arms the
port again.
Readings: log entry 88. -/
def Obligations.PortAutoBaudMeasures : Prop :=
  ∀ (n m : Nat) (data : Word) (edges : List Nat) (s : State), s.dev.faults = [] → s.dev.mode = .run → n < 48 →
    s.dev.bankWorks n = true →
    let b := s.dev.dataBits n
    let regs := [PBK_ABD.addr n, PBK_STAT.addr n, PBK_CNT5.addr n, PBK_CTRL.addr n]
    let failed := fun (result : Nat) (t : State) =>
      t.dev.rd (PBK_ABD.RESULT n) = result ∧ t.dev.rd (PBK_STAT.ABFAIL n) = 1 ∧
      t.dev.rd (PBK_CNT5.ABFAIL n) = min 0xFFFF (s.dev.rd (PBK_CNT5.ABFAIL n) + 1) ∧ (t.dev.port n).abdArmed = false ∧
      ((s.dev.port n).abdFails + 1 < s.dev.acts (PBK_ABD.TRIES n) →
        (t.dev.port n).abdFails = (s.dev.port n).abdFails + 1 ∧ t.dev.rd (PBK_ABD.EN n) = s.dev.rd (PBK_ABD.EN n)) ∧
      (s.dev.acts (PBK_ABD.TRIES n) ≤ (s.dev.port n).abdFails + 1 →
        t.dev.rd (PBK_ABD.EN n) = 0 ∧ t.dev.rd (PBK_STAT.ABGIVEUP n) = 1 ∧ t.dev.rd (PBK_CTRL.RXEN n) = 0) ∧
      Dev.sameRegs regs s.dev t.dev ∧ s.dev.sameBytes t.dev
    (fld data 2 1 < 3 →
      let sync := if fld data 2 1 = 0 then 0x55 else if fld data 2 1 = 1 then 0x0D else fld data 24 16
      Completes (.abdEnable n data) s (fun t =>
        (t.dev.rd (PBK_ABD.EN n) = 1 ↔
          data.getLsbD 0 = true ∧ s.dev.parity n = 0 ∧ sync.testBit (b - 1) = false) ∧
        ((t.dev.port n).abdArmed = true ↔ t.dev.rd (PBK_ABD.EN n) = 1) ∧ (t.dev.port n).abdFails = 0 ∧
        t.dev.rd (PBK_ABD.TRIES n) = fld data 7 4 ∧ t.dev.rd (PBK_ABD.KEEP n) = fld data 3 3 ∧
        (data.getLsbD 0 = true → s.dev.parity n ≠ 0 ∨ sync.testBit (b - 1) = true → t.dev.rd (PBK_STAT.CFGERR n) = 1) ∧
        Dev.sameRegs [PBK_ABD.addr n, PBK_STAT.addr n] s.dev t.dev ∧ s.dev.sameBytes t.dev)) ∧
    (s.dev.listens n = true → s.dev.abdRuns n = true → (s.dev.port n).abdArmed = true →
      let long := 7440000 < m ∨ 800000 * (1 + b) < m
      let fits := edgesFit b m (syncEdges b (s.dev.syncChar n)) edges
      (¬long → fits = true → 80 * (1 + b) ≤ m →
        let x := (1 + b) * osOf (s.dev.acts (PBK_BAUD.OS n))
        let q := (2 * 64 * m + x) / (2 * x)
        Completes (.abdMeasure n edges m) s (fun t =>
          t.dev.rd (PBK_ABDM.MEASURED n) = m ∧ t.dev.rd (PBK_BAUD.DIV n) = q / 64 % 2 ^ 16 ∧
          t.dev.rd (PBK_BAUD.FRAC n) = q % 64 ∧ t.dev.rd (PBK_BAUD.OS n) = s.dev.rd (PBK_BAUD.OS n) ∧
          t.dev.rd (PBK_STAT.ABDONE n) = 1 ∧ t.dev.rd (PBK_ABD.EN n) = 0 ∧ (t.dev.port n).abdArmed = false ∧
          (s.dev.on (PBK_ABD.KEEP n) = false →
            (t.dev.port n).abdFrame = true ∧ Dev.sameRegs (PBK_ABDM.addr n :: PBK_BAUD.addr n :: regs) s.dev t.dev) ∧
          s.dev.sameBytes t.dev)) ∧
      (long → Completes (.abdMeasure n edges m) s (failed 3)) ∧
      (¬long → fits = false → Completes (.abdMeasure n edges m) s (failed 1)) ∧
      (¬long → fits = true → m < 80 * (1 + b) → Completes (.abdMeasure n edges m) s (failed 2)) ∧
      Completes (.abdTimeout n) s (failed 3)) ∧
    (s.dev.listens n = true → s.dev.abdWaits n = true →
      Completes (.abdRearm n) s (fun t =>
        (t.dev.port n).abdArmed = true ∧ (t.dev.port n).abdFails = (s.dev.port n).abdFails ∧
        Dev.sameRegs [] s.dev t.dev ∧ s.dev.sameBytes t.dev))

/-- Transmission, where the halves of the Atrium's windows agree. A queue with room takes a head address and a full one
refuses it. A message starts in every line arrangement that lets it start, with the cells and data that the FIFO
takes; an entry that is no message is dropped with TXBAD; a line that is not free or a deasserted CTS holds the queue.
A message longer than the FIFO fetches its next cell in a gap, counted in TXGAP, and ends with TXBAD where that cell
cannot be read. A message's end sets TXDONE, frees its cells and releases the line; a collision stops the driving and
waits to send again until the retries are used up, then aborts; the end of the backoff sends again; a CTS timeout is
shown.
Readings: log entries 37 and 72. -/
def Obligations.PortSendsMessages : Prop :=
  ∀ (init n : Nat) (data : Word) (mark begun : Bool) (s : State), s.dev.faults = [] → s.dev.badWindows = [] →
    s.dev.mode = .run → n < 48 → s.dev.bankWorks n = true →
    let p := s.dev.port n
    let others := fun (t : State) => ∀ m, m ≠ n → t.dev.port m = s.dev.port m
    let roomFor := fun (k : Nat) => (∀ q, (s.dev.pool q).cache.length + k ≤ 32) ∧ s.dev.bpm.bad = []
    let stats := (List.range 48).map PBK_STAT.addr
    let freed := fun (a : Nat) (t : State) =>
      s.dev.poolOf a = some 4 → (a - s.dev.poolBase 4) % 32 = 0 →
        s.dev.ownerAt (bufKey 4 ((a - s.dev.poolBase 4) / 32)) = 0x10 + n →
        t.dev.ownerAt (bufKey 4 ((a - s.dev.poolBase 4) / 32)) = 0
    Completes (.pbkTxqWrite init n data) s (fun t =>
      (p.txq.length < 8 → t.dev.resp = .ok [] ∧ (t.dev.port n).txq = p.txq ++ [32 * fld data 31 5]) ∧
      (8 ≤ p.txq.length → t.dev.resp = .err .target ∧ t.dev.ports = s.dev.ports) ∧
      Dev.sameRegs [] s.dev t.dev ∧ s.dev.sameBytes t.dev ∧ others t) ∧
    (∀ a r, s.dev.txLive n = true → s.dev.svcOf (.bank (n / 8)) ≠ .draining → p.tx = none → p.txq = a :: r →
      let d := applyLine s.dev n
      let d0 := d.setPort n { d.port n with txq := r }
      (d.ctsHolds n = false → d.lineFree n mark = true →
        (∀ len d1 f d2, headCell d0 n a = (some len, d1) → fetchCells 256 d1 n a len 256 true = (some f, d2) →
          Completes (.txMessageStart ⟨n, mark⟩) s (fun t =>
            (t.dev.port n).txq = r ∧ others t ∧
            ∃ m, (t.dev.port n).tx = some m ∧ m.head = a ∧ m.cells = f.cells ∧ m.data = f.data ∧ m.next = f.next ∧
              m.left = f.left ∧ m.collisions = 0 ∧ m.waiting = false ∧ m.retry = s.dev.rd (PBK_HD.RETRY n) ∧
              m.cden = s.dev.on (PBK_HD.CDEN n))) ∧
        (s.dev.poolOf a = none → r = [] →
          Completes (.txMessageStart ⟨n, mark⟩) s (fun t =>
            (t.dev.port n).txq = [] ∧ (t.dev.port n).tx = none ∧ t.dev.rd (PBK_STAT.TXBAD n) = 1 ∧
            Dev.sameRegs stats s.dev t.dev ∧ s.dev.sameBytes t.dev ∧ others t))) ∧
      (d.ctsHolds n = true ∨ d.lineFree n mark = false →
        Completes (.txMessageStart ⟨n, mark⟩) s (fun t =>
          (t.dev.port n).txq = p.txq ∧ (t.dev.port n).tx = none ∧ Dev.sameRegs stats s.dev t.dev ∧
          s.dev.sameBytes t.dev ∧ others t))) ∧
    (∀ m, p.tx = some m → m.waiting = false →
      (m.left = 0 → exec (.txGap n) s = .next s) ∧
      (m.left ≠ 0 →
        let g := fetchCells 256 (s.dev.bump (PBK_CNT5.TXGAP n) 1) n m.next m.left 1 false
        Completes (.txGap n) s (fun t =>
          t.dev.rd (PBK_CNT5.TXGAP n) = min 0xFFFF (s.dev.rd (PBK_CNT5.TXGAP n) + 1) ∧
          (∀ f, g.1 = some f → (t.dev.port n).tx = some { m with
            cells := m.cells ++ f.cells, data := m.data ++ f.data, next := f.next, left := f.left }) ∧
          (g.1 = none → (t.dev.port n).tx = none ∧ t.dev.rd (PBK_STAT.TXBAD n) = 1) ∧ others t)) ∧
      (s.dev.ctsHolds n = true → begun = false → exec (.txMessageDone ⟨n, begun⟩) s = .next s) ∧
      (∀ m1 d1, s.dev.ctsHolds n = false ∨ begun = true → txFetch s.dev n m.left m = (some m1, d1) →
        roomFor m1.cells.length →
        Completes (.txMessageDone ⟨n, begun⟩) s (fun t =>
          (t.dev.port n).tx = none ∧ t.dev.rd (PBK_STAT.TXDONE n) = 1 ∧
          (s.dev.svcOf (.bank (n / 8)) ≠ .underTest → (t.dev.port n).dePin = false) ∧
          (∀ a, m1.cells = [a] → freed a t) ∧ others t)) ∧
      (s.dev.readBack n m = true → m.collisions < m.retry →
        Completes (.collision n) s (fun t =>
          t.dev.rd (PBK_STAT.COLL n) = 1 ∧
          t.dev.rd (PBK_CNT4.COLL n) = min 0xFFFF (s.dev.rd (PBK_CNT4.COLL n) + 1) ∧ (t.dev.port n).dePin = false ∧
          (t.dev.port n).tx = some { m with collisions := m.collisions + 1, waiting := true } ∧
          Dev.sameRegs [PBK_STAT.addr n, PBK_CNT4.addr n] s.dev t.dev ∧ s.dev.sameBytes t.dev ∧ others t)) ∧
      (s.dev.readBack n m = true → m.retry ≤ m.collisions → roomFor m.cells.length →
        Completes (.collision n) s (fun t =>
          t.dev.rd (PBK_STAT.COLL n) = 1 ∧ t.dev.rd (PBK_STAT.TXABORT n) = 1 ∧ (t.dev.port n).tx = none ∧
          (∀ a, m.cells = [a] → freed a t) ∧ others t)) ∧
      (s.dev.readBack n m = false → exec (.collision n) s = .next s)) ∧
    (∀ m, p.tx = some m → m.waiting = true → s.dev.txLive n = true →
      Completes (.retryBackoffEnd n) s (fun t =>
        (t.dev.port n).tx = some { m with waiting := false } ∧ (t.dev.port n).dePin = decide (p.line = 2) ∧
        Dev.sameRegs [] s.dev t.dev ∧ s.dev.sameBytes t.dev ∧ others t)) ∧
    (s.dev.txLive n = true → s.dev.ctsHolds n = true → s.dev.rd (PBK_FLOW.CTSTO n) ≠ 0 →
      (p.txq ≠ [] ∨ p.tx.isSome = true) →
      Completes (.ctsTimeout n) s (fun t =>
        t.dev.rd (PBK_STAT.CTSTO n) = 1 ∧ t.dev.ports = s.dev.ports ∧ Dev.sameRegs [PBK_STAT.addr n] s.dev t.dev ∧
        s.dev.sameBytes t.dev))

/-! The buffer pools. -/

/-- Pools come and go: a legal enable clears the owners and starts the initialisation, an illegal one sets CFGERR; a
disable needs a pool without HELD buffers and its own COUNT; initialisation and rebuild end with INIT clear and the
ring holding every FREE buffer; a rebuild is the Steward's; the cache moves eight entries to and from the ring. The
halves of the Atrium's windows agree. -/
def Obligations.PoolsEnableFillAndCache : Prop :=
  ∀ (init p k : Nat) (data : Word) (s : State), s.dev.faults = [] → s.dev.badWindows = [] → s.dev.mode ≠ .landing →
    s.dev.mode ≠ .resting → p < 5 →
    let count := fld data 15 0
    (s.dev.poolEn p = false →
      Completes (.bpmPoolEnable p data) s (fun t =>
        (s.dev.poolLegal p count = true → t.dev.poolEn p = true ∧ t.dev.poolInit p = true ∧ t.dev.poolFaulted p = false ∧
          t.dev.poolCount p = count ∧ t.dev.pool p = { cache := [], rp := 0, rc := 0, rlost := 0 } ∧
          (k < 65536 → t.dev.ownerAt (bufKey p k) = 0)) ∧
        (s.dev.poolLegal p count = false → t.dev.poolEn p = false ∧ t.dev.rd BPM_STAT.CFGERR = 1 ∧
          t.dev.bpm = s.dev.bpm) ∧
        t.dev.resp = .ok [] ∧ Dev.sameRegs [BPM_POOLCTL.addr p, BPM_STAT.addr] s.dev t.dev ∧ s.dev.sameBytes t.dev)) ∧
    (s.dev.poolEn p = true → count ≠ s.dev.poolCount p →
      Completes (.bpmPoolDisable p data) s (fun t =>
        t.dev.poolEn p = true ∧ t.dev.rd BPM_STAT.CFGERR = 1 ∧ t.dev.bpm = s.dev.bpm ∧ t.dev.resp = .ok [] ∧
        Dev.sameRegs [BPM_STAT.addr] s.dev t.dev ∧ s.dev.sameBytes t.dev)) ∧
    (s.dev.poolEn p = true → count = s.dev.poolCount p →
      Completes (.bpmPoolDisable p data) s (fun t =>
        (s.dev.poolHeld p = false → t.dev.poolEn p = false ∧ t.dev.pool p = { cache := [], rp := 0, rc := 0, rlost := 0 }) ∧
        (s.dev.poolHeld p = true → t.dev.poolEn p = true ∧ t.dev.rd BPM_STAT.CFGERR = 1 ∧ t.dev.bpm = s.dev.bpm) ∧
        t.dev.resp = .ok [] ∧ Dev.sameRegs [BPM_POOLCTL.addr p, BPM_STAT.addr] s.dev t.dev ∧ s.dev.sameBytes t.dev)) ∧
    (∀ d1, s.dev.poolEn p = true → s.dev.poolInit p = true →
      ringFill ((s.dev.freeList p).length + 1) (s.dev.wr BPM_STAT.INIT (clrBit (s.dev.rd BPM_STAT.INIT) p)) p 0
        (s.dev.freeList p) = (none, d1) →
      let filled := fun (t : State) =>
        t.dev.poolInit p = false ∧ t.dev.poolFaulted p = false ∧ t.dev.atr = d1.atr ∧
        t.dev.pool p = { cache := [], rp := 0, rc := (s.dev.freeList p).length, rlost := 0 } ∧
        t.dev.bpm.owner = s.dev.bpm.owner
      Completes (.poolInitComplete p) s filled ∧ Completes (.rebuildComplete p) s filled) ∧
    (fld data 2 0 = p → s.dev.poolEn p = true → s.dev.bpm.bad = [] →
      Completes (.bpmRebuild 0 data) s (fun t =>
        t.dev.poolInit p = true ∧ t.dev.pool p = { cache := [], rp := 0, rc := 0, rlost := 0 } ∧
        t.dev.bpm.owner = s.dev.bpm.owner ∧ t.dev.resp = .ok [] ∧ Dev.sameRegs [BPM_STAT.addr] s.dev t.dev ∧
        s.dev.sameBytes t.dev)) ∧
    (init ≠ 0 → exec (.bpmRebuild init data) s = .next { s with dev := { s.dev with resp := .err .target } }) ∧
    (∀ x d1, s.dev.poolServes p = true → (s.dev.pool p).cache.length < 8 → (s.dev.pool p).rc = 1 →
      ringRead s.dev p (s.dev.pool p).rp 1 = (.ok [x], d1) → s.dev.bpm.bad = [] →
      s.dev.poolBase p ≤ x → (x - s.dev.poolBase p) / bufSize p < s.dev.poolCount p →
      (x - s.dev.poolBase p) % bufSize p = 0 → s.dev.ownerAt (bufKey p ((x - s.dev.poolBase p) / bufSize p)) = 0 →
      x ∉ (s.dev.pool p).cache →
      Completes (.cacheRefill p) s (fun t =>
        (t.dev.pool p).cache = (s.dev.pool p).cache ++ [x] ∧ (t.dev.pool p).rc = 0 ∧
        (t.dev.pool p).rp = ((s.dev.pool p).rp + 1) % s.dev.poolCount p)) ∧
    (∀ d1, s.dev.poolServes p = true → 24 < (s.dev.pool p).cache.length →
      ringWrite { s.dev with seed := s.dev.seed + 8 } p (((s.dev.pool p).rp + (s.dev.pool p).rc) % s.dev.poolCount p)
        (pickOut 8 s.dev.seed (s.dev.pool p).cache).1 = (none, d1) →
      Completes (.cacheWriteback p) s (fun t =>
        (t.dev.pool p).cache.length + 8 = (s.dev.pool p).cache.length ∧ (t.dev.pool p).rc = (s.dev.pool p).rc + 8 ∧
        (t.dev.pool p).rp = (s.dev.pool p).rp ∧ (∀ x ∈ (t.dev.pool p).cache, x ∈ (s.dev.pool p).cache) ∧
        t.dev.atr = d1.atr))

/-- Buffers change hands: an allocation gives the one cached buffer to the owner ID of the requester, as its address with
the pool and VALID, and 0 with EMPTY counted when there is none; FREE returns and GIVE passes on a buffer of the
requester; one of another owner is refused with its cause and counted; RECLAIM by the Steward frees every buffer of an
owner. The causes of refused operations are the model's reading (log entry 12). -/
def Obligations.BuffersAllocateFreeAndGive : Prop :=
  ∀ (init o p a c target : Nat) (data : Word) (s : State), s.dev.faults = [] → s.dev.mode ≠ .landing →
    s.dev.mode ≠ .resting → p < 5 → ownerOfInit init = some o → s.dev.bpm.bad = [] →
    let key := bufKey p ((a - s.dev.poolBase p) / bufSize p)
    let others := fun (t : State) => ∀ k, k ≠ key → t.dev.ownerAt k = s.dev.ownerAt k
    let taken := fun (t : State) =>
      t.dev.resp = .ok (wordBytes (w32 (a ||| p * 2 ||| 1))) ∧ t.dev.ownerAt key = o ∧ (t.dev.pool p).cache = [] ∧
      others t ∧ Dev.sameRegs [] s.dev t.dev ∧ s.dev.sameBytes t.dev
    (s.dev.poolServes p = true → (s.dev.pool p).cache = [a] → s.dev.ownerAt key = 0 →
      Completes (.bpmAlloc init p) s taken ∧
      (c < 64 → p = (if c = 0 then 0 else if c < 4 then 1 else if c < 16 then 2 else 3) →
        Completes (.bpmAllocfit init c) s taken)) ∧
    (s.dev.poolServes p = false →
      Completes (.bpmAlloc init p) s (fun t =>
        t.dev.resp = .ok (wordBytes 0#32) ∧
        t.dev.rd (BPM_CNT.EMPTY p) = min 0xFFFF (s.dev.rd (BPM_CNT.EMPTY p) + 1) ∧ t.dev.bpm = s.dev.bpm ∧
        Dev.sameRegs [BPM_CNT.addr p] s.dev t.dev ∧ s.dev.sameBytes t.dev)) ∧
    (a = 32 * fld data 31 5 → data.getLsbD 0 = false → s.dev.poolOf a = some p →
      (a - s.dev.poolBase p) % bufSize p = 0 →
      (s.dev.ownerAt key = o →
        ((s.dev.pool p).cache.length < 32 →
          Completes (.bpmFree init data) s (fun t =>
            t.dev.resp = .ok [] ∧ t.dev.ownerAt key = 0 ∧ (t.dev.pool p).cache = (s.dev.pool p).cache ++ [a] ∧ others t ∧
            Dev.sameRegs [] s.dev t.dev ∧ s.dev.sameBytes t.dev)) ∧
        (ownerValid target = true →
          Completes (.bpmGive init target data) s (fun t =>
            t.dev.resp = .ok [] ∧ t.dev.ownerAt key = target ∧ t.dev.bpm.pools = s.dev.bpm.pools ∧ others t ∧
            Dev.sameRegs [] s.dev t.dev ∧ s.dev.sameBytes t.dev))) ∧
      (s.dev.ownerAt key ≠ o → s.dev.ownerAt key ≠ 256 →
        Completes (.bpmFree init data) s (fun t =>
          t.dev.resp = .err .target ∧ t.dev.bpm = s.dev.bpm ∧
          (t.dev.rd BPM_FAULT.CAUSE).testBit (if s.dev.ownerAt key = 0 then 1 else 2) = true ∧
          t.dev.rd BPM_FAULTCNT.COUNT = min 0xFFFF (s.dev.rd BPM_FAULTCNT.COUNT + 1) ∧
          (s.dev.rd BPM_FAULT.CAUSE = 0 → t.dev.rd BPM_FAULTADDR.ADDR = a ∧ t.dev.rd BPM_FAULTINFO.POOL = p ∧
            t.dev.rd BPM_FAULTINFO.REQ = o) ∧
          Dev.sameRegs [BPM_FAULT.addr, BPM_FAULTADDR.addr, BPM_FAULTINFO.addr, BPM_FAULTCNT.addr] s.dev t.dev ∧
          s.dev.sameBytes t.dev))) ∧
    (fld data 5 0 = target → target ≠ 0 →
      ((∀ q, (s.dev.pool q).cache.length + s.dev.bpm.owner.length ≤ 32) ∨ (bpmReclaim s.dev 0 target).2.faults = []) →
      Completes (.bpmReclaim 0 data) s (fun t =>
        t.dev.resp = .ok [] ∧ (∀ k, s.dev.ownerAt k = target → t.dev.ownerAt k = 0) ∧
        (∀ k, s.dev.ownerAt k ≠ target → t.dev.ownerAt k = s.dev.ownerAt k))) ∧
    (fld data 5 0 = target → o ≠ 1 → o ≠ target →
      Completes (.bpmReclaim init data) s (fun t => t.dev.resp = .err .target ∧ t.dev.bpm = s.dev.bpm))

/-! The Gallery. -/

/-- The instructions of sequencer control and the scalars. An instruction that does not branch goes on at the next address
and counts the innermost loop that ends at its own, while loops that end elsewhere stay open; a taken JMP or BR closes
the loops it leaves; CALL, RET and LOOP keep their stacks and trap at their limits; FEND completes a frame with no
transfer outstanding; YIELD changes nothing, or takes an armed switch to a bank with a YIELD entry and budget left;
SLI, the scalar operations, SCMP and SRDL compute.
Readings: log entries 8 (which words of the event hold request and frame number), 75 and 76. -/
def Obligations.SequencerInstructionsRun : Prop :=
  ∀ (x : BitVec 8) (d a b : BitVec 16) (s : State), s.dev.runs 1 →
    let g := s.dev.gal
    Goes (.galNop 0 0 0 0) s 1 g.advance ∧
    ((∀ l ∈ g.loops, l.last ≠ g.pc) → g.advance = { g with pc := (g.pc + 1) % 16384 }) ∧
    (∀ l r, g.loops = l :: r → l.last ≠ g.pc →
      let h := { g with loops := r }.advance
      g.advance = { h with loops := l :: h.loops }) ∧
    (∀ l r, g.loops = l :: r → l.last = g.pc →
      (1 < l.left → g.advance = { g with pc := l.first % 16384, loops := { l with left := l.left - 1 } :: r }) ∧
      (l.left ≤ 1 → g.advance = { g with loops := r }.advance)) ∧
    (b.toNat < 16384 →
      let u := b.toNat
      let taken := { g with pc := u, loops := closeLoops u g.loops }
      (∃ out, g.loops = out ++ taken.loops ∧ (∀ l ∈ taken.loops, l.first ≤ u ∧ u ≤ l.last) ∧
        ∀ l, out.getLast? = some l → ¬(l.first ≤ u ∧ u ≤ l.last)) ∧
      Goes (.galJmp 0 0 0 b) s 1 taken ∧
      (x.toNat < 2 → Goes (.galBr x 0 0 b) s 1 (if g.l = (x == 0#8) then taken else g.advance)) ∧
      (g.calls.length < 16 →
        Goes (.galCall 0 0 0 b) s 1 { g with pc := u, calls := (g.pc + 1) % 16384 :: g.calls }) ∧
      (16 ≤ g.calls.length → s.dev.quiet → Stops (.galCall 0 0 0 b) s 4)) ∧
    (∀ r rs, g.calls = r :: rs → Goes (.galRet 0 0 0 0) s 1 { g with pc := r, calls := rs }) ∧
    (g.calls = [] → s.dev.quiet → Stops (.galRet 0 0 0 0) s 5) ∧
    (let e := d.toNat
     let n := if x = 0#8 then b.toNat else (g.sreg a.toNat).toNat % 2 ^ 16
     x.toNat < 2 → (x = 0#8 → a = 0) → (x = 1#8 → a.toNat < 16 ∧ b = 0) → g.pc < e → e < 16384 →
      (∀ l r, g.loops = l :: r → e ≤ l.last) →
      (n = 0 → Goes (.galLoop x d a b) s 1 { g with pc := (e + 1) % 16384 }) ∧
      (n ≠ 0 → g.loops.length < 4 →
        Goes (.galLoop x d a b) s 1
          { g with pc := g.pc + 1, loops := { first := g.pc + 1, last := e, left := n } :: g.loops }) ∧
      (n ≠ 0 → 4 ≤ g.loops.length → s.dev.quiet → Stops (.galLoop x d a b) s 6)) ∧
    (let done := { g with running := false, fend := true, fendPc := g.pc, repReady := s.dev.on GSQ_REPCTL.ARMED }
     (g.ok = false → s.dev.outstanding = 0 →
      Completes (.galFend 0 0 0 0) s (fun t =>
        s.galOnly t ∧ s.spent t 1 [GSQ_BCNT_LAST.addr, GSQ_BCNT_MAX.addr, BAL_WDSTAT.addr, ICU_PEND.addr 2] ∧
        t.dev.gal = { done with ok := true } ∧ t.dev.rd GSQ_BCNT_LAST.LAST = s.dev.bcnt ∧
        t.dev.rd GSQ_BCNT_MAX.MAX = max (s.dev.rd GSQ_BCNT_MAX.MAX) s.dev.bcnt ∧ t.dev.rd BAL_WDSTAT.FMISS = 0 ∧
        t.dev.rd BAL_WDSTAT.FWDACT = 0 ∧ t.dev.srcBit ICU_PEND.addr 64 = true)) ∧
     (g.ok = false → s.dev.outstanding ≠ 0 → Goes (.galFend 0 0 0 0) s 1 done)) ∧
    (let n := s.dev.rd GSQ_SWCTL.TARGET
     let takes := s.dev.rd GSQ_SWCTL.ARMED = 1 ∧ s.dev.rd GSQ_SWCTL.YEN = 1 ∧
       atOrAfter (s.dev.rd GSQ_FCNTLO.FCNT) (s.dev.rd GSQ_SWAT.AT) = true ∧ s.dev.rd (GSQ_BI_ENTRY.YENTRY n) ≠ 0xFFFF ∧
       g.loops = [] ∧ g.calls = [] ∧ g.stack = [] ∧ s.dev.bcnt + 1 + s.dev.ybeff n ≤ s.dev.beff n
     (¬takes → Goes (.galYield 0 0 0 0) s 1 g.advance) ∧
     (takes → s.dev.quiet →
      Completes (.galYield 0 0 0 0) s (fun t =>
        t.dev.gal = { g with pc := s.dev.rd (GSQ_BI_ENTRY.YENTRY n) % 16384, limit := s.dev.beff n } ∧
        t.dev.rd GSQ_BANK.ACTIVE = n ∧ t.dev.rd GSQ_BANK.NONE = 0 ∧ t.dev.rd GSQ_SWCTL.ARMED = 0 ∧
        t.dev.rd GSQ_SWREQ.DONE = s.dev.rd GSQ_SWREQ.REQ ∧ t.dev.srcBit ICU_PEND.addr 66 = true ∧
        (∃ v, t.dev.evq = s.dev.evq ++ [v] ∧ v.block = 0x0E ∧ v.crit = true ∧ v.d0 = w32 (s.dev.rd GSQ_SWREQ.REQ) ∧
          v.d1 = s.dev.ld GSQ_FCNTLO.addr) ∧
        s.spent t 1 [GSQ_BANK.addr, GSQ_SWCTL.addr, GSQ_SWREQ.addr, CNC_GRP.addr, GSQ_BUDGET.addr, EVQ_NEXTSEQ.addr,
                     ICU_PEND.addr 2] ∧ s.dev.sameBytes t.dev))) ∧
    (d.toNat < 16 →
      let set := fun (v : Word) => (g.setS d.toNat v).advance
      (∀ v k, (set v).sreg k = if k = d.toNat then v else g.sreg k) ∧
      Goes (.galSli 0 d a b) s 1 (set (a ++ b)) ∧
      (a.toNat < 4 →
        Goes (.galSrdl 0 d a 0) s 1
          (set (match g.loops.reverse[a.toNat]? with | some l => w32 l.left | none => 0#32)))) ∧
    (x.toNat = 0 ∧ b.toNat < 16 ∨ x.toNat = 1 ∨ x.toNat = 3 → a.toNat < 16 →
      let p := g.sreg a.toNat
      let q := if x = 0#8 then g.sreg b.toNat else if x = 1#8 then b.setWidth 32 else b.signExtend 32
      let k := q.toNat % 32
      (d.toNat < 16 → ∀ e ∈ [(Instr.galSadd x d a b, p + q), (.galSsub x d a b, p - q), (.galSand x d a b, p &&& q),
          (.galSor x d a b, p ||| q), (.galSxor x d a b, p ^^^ q), (.galSshl x d a b, p <<< k),
          (.galSshr x d a b, p >>> k), (.galSsra x d a b, p.sshiftRight k)],
        Goes e.1 s 1 (g.setS d.toNat e.2).advance) ∧
      ∀ r ∈ [(0, decide (p = q)), (1, decide (p ≠ q)), (2, decide (p.toNat < q.toNat)), (3, decide (q.toNat ≤ p.toNat)),
             (4, decide (p.toInt < q.toInt)), (5, decide (q.toInt ≤ p.toInt))],
        Goes (.galScmp (BitVec.ofNat 8 (x.toNat + 16 * r.1)) 0 a b) s 1 { g with l := r.2 }.advance)

/-- Operands, and the plane and field instructions, bay by bay in integers. An operand word names a field of bay memory, a
flag where the width is 1, or a field relative to a scalar; a field outside memory traps FIELD_RANGE and an undefined
word ILLEGAL. LOGIC, the activity instructions and CLRF act on planes in one cycle; the field instructions write their
results, C and T in the active bays in w + 1 cycles. -/
def Obligations.FieldInstructionsCompute : Prop :=
  ∀ (x : BitVec 8) (d a b : BitVec 16) (s : State), s.dev.faults = [] →
    let g := s.dev.gal
    let w := x.toNat % 32 + 1
    let sg := x.getLsbD 5
    let sx := fun (n : Nat) => fieldInt true w n
    let out := fun (v : Int) => decide (v < -2 ^ (w - 1) ∨ 2 ^ (w - 1) ≤ v)
    (∀ (word : BitVec 16) (m : Nat) (ok : Nat → Bool),
      let n := word.toNat
      let i : Int := (g.sreg (n / 2 ^ 11 % 16)).toNat + signed 11 (n % 2 ^ 11)
      place g word m ok =
        if n < 0x1000 then (if n + m ≤ 4096 then .ok (.mem n) else .error 7)
        else if n < 0x1008 then (if m = 1 ∧ ok (n % 8) = true then .ok (.flag (n % 8)) else .error 8)
        else if n < 0x8000 then .error 8
        else if 0 ≤ i ∧ i + m ≤ 4096 then .ok (.mem i.toNat) else .error 7) ∧
    (∀ pa pb pd, s.dev.runs 1 → src g a 1 = .ok pa → src g b 1 = .ok pb →
      place g d 1 (fun f => f == 0 || f == 2) = .ok pd →
      Completes (.galLogic x d a b) s (fun t =>
        s.galOnly t ∧ s.spent t 1 [] ∧
        (∀ k, k < 16384 →
          let bit1 := fun (h : Gal) (p : Place) => ((h.at_ p 1).headD p0).getLsbD k
          bit1 t.dev.gal pd =
            if g.a.getLsbD k then x.getLsbD (4 * bit (bit1 g pa) + 2 * bit (bit1 g pb) + bit (g.c.getLsbD k))
            else bit1 g pd) ∧
        match pd with
        | .mem i => t.dev.gal = { g.advance with mem := t.dev.gal.mem } ∧
            ∀ j, j ≠ i → t.dev.gal.plane j = g.plane j
        | .flag f => t.dev.gal = if f = 0 then { g.advance with c := t.dev.gal.c } else { g.advance with t := t.dev.gal.t })) ∧
    (∀ pa, s.dev.runs 1 → src g a 1 = .ok pa →
      let p := (g.at_ pa 1).headD p0
      (g.stack.length < 8 → Goes (.galPusha 0 0 a 0) s 1 { g with stack := g.a :: g.stack, a := g.a &&& p }.advance) ∧
      (8 ≤ g.stack.length → s.dev.quiet → Stops (.galPusha 0 0 a 0) s 2) ∧
      Goes (.galSeta 0 0 a 0) s 1 { g with a := p }.advance) ∧
    (s.dev.runs 1 →
      (∀ top r, g.stack = top :: r →
        Goes (.galElsea 0 0 0 0) s 1 { g with a := top &&& ~~~g.a }.advance ∧
        Goes (.galPopa 0 0 0 0) s 1 { g with a := top, stack := r }.advance) ∧
      (g.stack = [] → s.dev.quiet → Stops (.galElsea 0 0 0 0) s 3 ∧ Stops (.galPopa 0 0 0 0) s 3) ∧
      (x.toNat < 16 →
        let clr := fun (k : Nat) (p : Plane) => if x.getLsbD k then p &&& ~~~g.a else p
        Goes (.galClrf x 0 0 0) s 1
          { g with c := clr 0 g.c, t := clr 1 g.t, o := clr 2 g.o, e := clr 3 g.e }.advance)) ∧
    (∀ pa i, s.dev.runs (w + 1) → s.dev.scDefines 0 = true → x.toNat < 64 → src g a w = .ok pa → dst g d w = .ok (.mem i) →
      let av := fun k => bayVal (g.at_ pa w) k
      let sum := fun (p q : Nat) => ((p + q) % 2 ^ w, some (decide (2 ^ w ≤ p + q)), some (out (sx p + sx q)))
      let dif := fun (p q : Nat) => ((p + 2 ^ w - q) % 2 ^ w, some (decide (p < q)), some (out (sx p - sx q)))
      let low := fun k => some (decide (av k = 2 ^ (w - 1)))
      let writes := fun (c : Instr) (f : Nat → Nat × Option Bool × Option Bool) =>
        Completes c s (fun t => s.writesField t (w + 1) i w f)
      writes (.galMovf x d a 0) (fun k => (av k, none, none)) ∧
      (b.toNat < 16 →
        let q := (g.sreg b.toNat).toNat % 2 ^ w
        writes (.galAdds x d a b) (fun k => sum (av k) q) ∧ writes (.galSubs x d a b) (fun k => dif (av k) q)) ∧
      (s.dev.scDefines 2 = true →
        writes (.galAbs x d a 0) (fun k => ((sx (av k)).natAbs, none, low k)) ∧
        writes (.galNeg x d a 0) (fun k => ((2 ^ w - av k) % 2 ^ w, none, low k))) ∧
      ∀ pb, src g b w = .ok pb →
        let bv := fun k => bayVal (g.at_ pb w) k
        let lt := fun k => decide (fieldInt sg w (av k) < fieldInt sg w (bv k))
        writes (.galAdd x d a b) (fun k => sum (av k) (bv k)) ∧ writes (.galSub x d a b) (fun k => dif (av k) (bv k)) ∧
        writes (.galSel x d a b) (fun k => (if g.t.getLsbD k then av k else bv k, none, none)) ∧
        (s.dev.scDefines 1 = true →
          writes (.galMin x d a b) (fun k => (if lt k then av k else bv k, none, none)) ∧
          writes (.galMax x d a b) (fun k => (if lt k then bv k else av k, none, none)))) ∧
    (∀ i, s.dev.runs (w + 1) → s.dev.scDefines 0 = true → x.toNat < 64 → dst g d w = .ok (.mem i) →
      Completes (.galBcast x d 0 b) s (fun t =>
        s.writesField t (w + 1) i w (fun _ => ((if sg then (b.signExtend 32).toNat else b.toNat) % 2 ^ w, none, none))) ∧
      (a.toNat < 16 →
        Completes (.galBcast x d (a + 16) 0) s (fun t =>
          s.writesField t (w + 1) i w (fun _ => ((g.sreg a.toNat).toNat % 2 ^ w, none, none))))) ∧
    (∀ pa, s.dev.runs (w + 1) → s.dev.scDefines 0 = true → src g a w = .ok pa →
      let rel := fun (k q : Nat) =>
        let u := fieldInt sg w (bayVal (g.at_ pa w) k)
        let v := fieldInt sg w q
        match x.toNat / 64 with
        | 0 => decide (u = v) | 1 => decide (u ≠ v) | 2 => decide (u < v) | _ => decide (v ≤ u)
      (b.toNat < 16 → Completes (.galCmps x 0 a b) s (fun t =>
        s.writesField t (w + 1) 0 0 (fun k => (0, none, some (rel k ((g.sreg b.toNat).toNat % 2 ^ w)))))) ∧
      ∀ pb, src g b w = .ok pb → Completes (.galCmp x 0 a b) s (fun t =>
        s.writesField t (w + 1) 0 0 (fun k => (0, none, some (rel k (bayVal (g.at_ pb w) k))))))

/-- The accumulator, shifts and reductions. MAC, MUL and ACCF add one exact value in their last cycle under OVMODE; ACCRD
and ACCRDS read bits of the accumulator. SHIFT moves a field by its direction and edge mode; in SEAM mode a joined
seam gives its bits or stalls the sequencer, an unjoined edge gives 0, a dead one sets E as well, loop-back 4 gives
the device's own bits, and the columns leave over the opposite edge where its lane carries planes. ANY takes the OR of
the active bays, with the votes of the group in GROUP scope, and writes its latch; COUNT counts.
Readings: log entries 76, 77 and 83. -/
def Obligations.AccumulatorShiftsAndReductions : Prop :=
  ∀ (x : BitVec 8) (d a b : BitVec 16) (seam : Option (List (BitVec 128))) (s : State), s.dev.quiet →
    let g := s.dev.gal
    let w := x.toNat % 32 + 1
    (s.dev.runs 1 →
      Completes (.galAclr 0 0 0 0) s (fun t =>
        s.galOnly t ∧ s.spent t 1 [] ∧ t.dev.gal = { g.advance with acc := t.dev.gal.acc } ∧
        ∀ k, k < 16384 → t.dev.gal.accAt k = if g.a.getLsbD k then 0 else g.accAt k)) ∧
    (s.dev.scDefines 0 = true → s.dev.twinOk GSQ_CFG.addr = true →
      let w2 := d.toNat % 32 + 1
      let n := w * w2 + w2
      (∀ pa pb, s.dev.runs n → x.toNat < 32 → d.toNat / 2 ^ 5 % 2 ^ 9 = 0 → src g a w = .ok pa → src g b w2 = .ok pb →
        let prod := fun k => fieldInt (d.getLsbD 15) w (bayVal (g.at_ pa w) k) *
          fieldInt (d.getLsbD 14) w2 (bayVal (g.at_ pb w2) k)
        Completes (.galMac x d a b) s (fun t => s.accumulates t n g.accAt prod) ∧
        Completes (.galMul x d a b) s (fun t => s.accumulates t n (fun _ => 0) prod)) ∧
      ∀ pa, s.dev.runs (w + 1) → x.toNat < 64 → src g a w = .ok pa →
        Completes (.galAccf x 0 a 0) s (fun t =>
          s.accumulates t (w + 1) g.accAt (fun k => fieldInt (x.getLsbD 5) w (bayVal (g.at_ pa w) k)))) ∧
    (∀ i, s.dev.runs (w + 1) → x.toNat < 32 → b.toNat + w ≤ 48 → dst g d w = .ok (.mem i) →
      let raw := fun k => bayVal g.accs k / 2 ^ b.toNat % 2 ^ w
      let q := fun k => g.accAt k / 2 ^ b.toNat
      let big := fun k => decide (q k < -2 ^ (w - 1) ∨ 2 ^ (w - 1) ≤ q k)
      (s.dev.scDefines 0 = true →
        Completes (.galAccrd x d 0 b) s (fun t => s.writesField t (w + 1) i w (fun k => (raw k, none, none)))) ∧
      (s.dev.scDefines 3 = true →
        Completes (.galAccrds x d 0 b) s (fun t => s.writesField t (w + 1) i w (fun k =>
          (if big k then (if q k < 0 then 2 ^ (w - 1) else 2 ^ (w - 1) - 1) else raw k, none, some (big k)))))) ∧
    (∀ pa i, x.toNat < 32 → b.toNat < 2 ^ 12 → b.getLsbD 7 = false → dst g d w = .ok (.mem i) → src g a w = .ok pa →
      let n := b.toNat % 2 ^ 7 + 1
      let dr := b.toNat / 2 ^ 8 % 4
      let edge := b.toNat / 2 ^ 10
      let lane := (dr + 2) % 4
      let lat := s.dev.acts GSQ_SEAMLAT.LAT
      let val := fun (wrap : Bool) (dflt : Nat → Nat) (k : Nat) =>
        match shiftSource dr n k wrap with | some m => bayVal (g.at_ pa w) m | none => dflt k
      let fills := fun (dflt : Nat → Nat) (k : Nat) => (val false dflt k, (none : Option Bool), (none : Option Bool))
      let sent := { s with dev := sendColumns dr n (g.at_ pa w) s.dev }
      let total := w * n + lat
      let st := fun (loop : Bool) => ({ w := w, dst := i, src := g.at_ pa w, d := n, dir := dr, addr := g.pc,
                                        start := s.dev.bcnt + total, loop := loop } : Stall)
      let stalls := fun (c : Instr) (loop : Bool) => Completes c s (fun t =>
        sent.galOnly t ∧ sent.spent t total [] ∧ t.dev.gal = { g with stall := some (st loop) })
      ((s.dev.joined dr = true ∨ s.dev.seamLoop dr = true) →
        (sent.dev.lane dr).planes = planeSlots (s.dev.now * 4 / 5 % 2 == 1) (seamCols n dr (g.at_ pa w)) ∧
        sent.dev.lane dr = { s.dev.lane dr with planes := (sent.dev.lane dr).planes } ∧
        ∀ m, m ≠ dr → sent.dev.lane m = s.dev.lane m) ∧
      (s.dev.joined dr = false → s.dev.seamLoop dr = false → sent = s) ∧
      (edge < 3 → s.dev.runs (w * n) →
        Completes (.galShift x d a b seam) s (fun t => s.writesField t (w * n) i w (fun k =>
          (val (edge == 2) (fun _ => if edge = 1 then 2 ^ w - 1 else 0) k, none, none)))) ∧
      (edge = 3 → s.dev.joined lane = false → s.dev.seamLoop dr = false → s.dev.runs total →
        ((s.dev.lane lane).dead = false →
          Completes (.galShift x d a b seam) s (fun t => sent.writesField t total i w (fills (fun _ => 0)))) ∧
        ((s.dev.lane lane).dead = true →
          Completes (.galShift x d a b seam) s (fun t =>
            sent.galOnly t ∧ sent.spent t total [] ∧
            t.dev.gal = { g.advance with mem := t.dev.gal.mem, e := t.dev.gal.e } ∧
            (∀ j, j < i ∨ i + w ≤ j → t.dev.gal.plane j = g.plane j) ∧
            ∀ k, k < 16384 →
              bayVal (t.dev.gal.field i w) k =
                (if g.a.getLsbD k then val false (fun _ => 0) k else bayVal (g.field i w) k) ∧
              t.dev.gal.e.getLsbD k = (g.e.getLsbD k || (shiftSource dr n k false).isNone)))) ∧
      (edge = 3 → s.dev.joined lane = false → s.dev.seamLoop dr = true → s.dev.runs total →
        s.dev.twinOk GSQ_SEAMLAT.addr = true →
        (s.dev.rd (CNC_LAT.PINNED dr) ≤ lat →
          Completes (.galShift x d a b seam) s (fun t => sent.writesField t total i w (fun k =>
            (val true (fun _ => 0) k, none, none)))) ∧
        (lat < s.dev.rd (CNC_LAT.PINNED dr) → stalls (.galShift x d a b seam) true)) ∧
      (edge = 3 → s.dev.joined lane = true → s.dev.runs total → s.dev.twinOk GSQ_SEAMLAT.addr = true →
        (∀ bs, Completes (.galShift x d a b (some bs)) s (fun t => sent.writesField t total i w
          (fills (fun k => (List.range w).foldr (fun j v => bit (seamInto dr n j k bs) + 2 * v) 0)))) ∧
        stalls (.galShift x d a b none) false)) ∧
    (∀ pa, d.toNat < 16 → src g a 1 = .ok pa →
      let pl := (g.at_ pa 1).headD p0
      let cnt := ((List.range 16384).filter (fun k => pl.getLsbD k && g.a.getLsbD k)).length
      let grp := x.getLsbD 0
      let latch := x.getLsbD 1
      let j := x.toNat / 2 ^ 5
      let own := (List.range 16384).any (fun k => g.a.getLsbD k && pl.getLsbD k)
      let all := own || (grp && s.dev.anyVoted)
      let n := 32 + if grp then s.dev.acts GSQ_ANYLAT.LAT else 0
      let copy := fun (c : Bool) =>
        { type := 0x11, origin := s.dev.pos, hops := 0, copy := c,
          payload := [bit own, s.dev.rd GSQ_FCNTLO.FCNT % 2 ^ 16, g.ord] }
      (s.dev.runs 20 →
        Goes (.galCount 0 d a 0) s 20 { g.setS d.toNat (w32 cnt) with l := decide (cnt ≠ 0) }.advance) ∧
      (s.dev.runs n → x.toNat / 4 % 8 = 0 → (latch = false → j = 0) → s.dev.twinOk GSQ_ANYLAT.addr = true →
        Completes (.galAny x d a 0) s (fun t =>
          t.dev.gal = { ({ g.setS d.toNat (w32 (bit all)) with l := all }.advance) with
                        latches := t.dev.gal.latches, ord := g.ord + bit grp } ∧
          (∀ m, t.dev.gal.latches.testBit m = if latch && m == j then own else g.latches.testBit m) ∧
          (grp = true → latch = false → ∀ m, m < 4 → (t.dev.lane m).txq =
            (s.dev.lane m).txq ++ if s.dev.joined m then [copy false, copy true] else []) ∧
          (grp = false → t.dev.gal.latches = g.latches → s.galOnly t ∧ s.spent t n []) ∧
          s.spent t n (tripRegs ++ (List.range 4).map CNC_SBCNT.addr) ∧ s.dev.sameBytes t.dev)))

/-- Riser transfers and the device instructions. RIN and ROUT issue a transfer with its completion time, or one that is
refused for its alignment or for want of room, or none without a descriptor; a transfer that completes writes its
field in every mapped bay that moved in time and 0 elsewhere. TRIP trips the channels of its mask that admit the
Gallery, PIO changes GOUT, PIOIN reads the pins as they were two cycles before, and a NWL result arrives after 16
cycles and remains against an instruction of its cycle.
Readings: log entries 33 and 77. -/
def Obligations.RiserTripPioAndNewelInstructions : Prop :=
  ∀ (x : BitVec 8) (d a b : BitVec 16) (late : Option Nat) (s : State), s.dev.quiet →
    let g := s.dev.gal
    let now := s.dev.bcnt
    let n := x.toNat
    (let w := n % 32 + 1
     let code := n / 2 ^ 5 % 4
     let esz := 2 ^ code
     let fits := s.dev.runs 1 ∧ code < 3 ∧ w ≤ 8 * esz ∧ b.toNat < 64
     let err := fun (c : Instr) (bits : Nat) (h : Gal) => Completes c s (fun t =>
       s.galOnly t ∧ s.spent t 1 [RSR_ERR.addr, RSR_ERRINFO.addr, ICU_PEND.addr 2] ∧ t.dev.gal = h ∧
       t.dev.ld RSR_ERR.addr = s.dev.ld RSR_ERR.addr ||| w32 bits ∧ t.dev.srcBit ICU_PEND.addr 72 = true ∧
       (s.dev.ld RSR_ERR.addr ≠ 0#32 → t.dev.ld RSR_ERRINFO.addr = s.dev.ld RSR_ERRINFO.addr) ∧
       (s.dev.ld RSR_ERR.addr = 0#32 → t.dev.rd RSR_ERRINFO.DESC = b.toNat ∧
         t.dev.rd RSR_ERRINFO.FRAME = s.dev.rd GSQ_FCNTLO.FCNT % 2 ^ 16))
     let both := fun (p : Instr → Bool → Nat → List Plane → Prop) =>
       (∀ i, n < 2 ^ 7 → dst g d w = .ok (.mem i) → p (.galRin x d 0 b) true i (List.replicate w p0)) ∧
       (∀ q, src g a w = .ok q → p (.galRout x 0 a b) false 0 (g.at_ q w))
     fits →
      ((s.dev.activeBank = none ∨ ∃ bk, s.dev.activeBank = some bk ∧ s.dev.ndesc bk ≤ b.toNat) →
        both (fun c _ _ _ => err c 0x80 g.advance)) ∧
      ∀ bk, s.dev.activeBank = some bk → b.toNat < s.dev.ndesc bk →
        let w0 := s.dev.descWord bk b.toNat 0
        let w1 := s.dev.descWord bk b.toNat 1
        let w2 := s.dev.descWord bk b.toNat 2
        let bad := w0.toNat % esz ≠ 0 ∨ fld w1 15 0 % esz ≠ 0
        let shape := fun (y : Xfer) (rin : Bool) (i : Nat) (refused : Bool) =>
          y.rin = rin ∧ y.w = w ∧ y.esz = esz ∧ y.dst = i ∧ y.desc = b.toNat ∧ y.base = w0.toNat ∧
          y.stride = fld w1 15 0 ∧ y.chmax = fld w1 31 16 ∧ y.sext = (!rin && x.getLsbD 7) ∧
          y.errp = (if w2.getLsbD 31 then some (fld w2 27 16) else none) ∧ y.refused = refused
        (bad ∨ 16 ≤ s.dev.outstanding →
          both (fun c rin i _ => ∃ y, shape y rin i true ∧ y.due = now + 64 + 1024 * esz ∧ y.lock = none ∧
            err c (if bad then 0x100 else 1) { g.advance with xfers := g.xfers ++ [y] })) ∧
        (¬bad → s.dev.outstanding < 16 → s.dev.badWindows = [] → s.dev.atrUndef = false →
          both (fun c rin i vals =>
            Completes c s (fun t =>
              ∃ q y, t.dev.gal = { g.advance with xfers := q ++ [y], lastC := y.due } ∧ q.length = g.xfers.length ∧
                shape y rin i false ∧ y.due = max now g.lastC + 64 + 1024 * esz ∧
                y.lock = (if w2.getLsbD 7 then some (fld w2 5 0) else none) ∧ (rin = false → y.vals = vals) ∧
                t.dev.bcnt = now + 1 ∧ s.dev.sameBytes t.dev)))) ∧
    (∀ y, g.xfers = [y] → y.refused = false → y.started = true → y.lock = none → y.due + 1 < 2 ^ 27 →
      g.running = true → g.fend = false → s.dev.galOn = true →
      let out := match late with | some m => ((s.dev.mappedBays y.chmax).drop m).map Prod.fst | none => []
      (y.rin = true →
        Completes (.riserTransferComplete late) s (fun t =>
          s.galOnly t ∧ t.dev.bcnt = max now (y.due + 1) ∧
          t.dev.gal = { g with xfers := [], mem := t.dev.gal.mem } ∧
          (y.errp = none → ∀ j, j < y.dst ∨ y.dst + y.vals.length ≤ j → t.dev.gal.plane j = g.plane j) ∧
          (∀ k, k < 16384 →
            (y.errp = none → bayVal (t.dev.gal.field y.dst y.vals.length) k = if k ∈ out then 0 else bayVal y.vals k) ∧
            (∀ i, y.errp = some i → (t.dev.gal.plane i).getLsbD k = (y.failed.getLsbD k || decide (k ∈ out)))) ∧
          t.dev.rd RSR_CNT.XFERS = min 0xFFFF (s.dev.rd RSR_CNT.XFERS + 1) ∧
          (late.isSome = true → t.dev.rd RSR_ERR.LATE = 1 ∧ t.dev.srcBit ICU_PEND.addr 72 = true) ∧
          Dev.sameRegs [GSQ_BCNT_NOW.addr, RSR_CNT.addr, RSR_ERR.addr, RSR_ERRINFO.addr, ICU_PEND.addr 2] s.dev t.dev)) ∧
      (∀ bay ch, y.rin = false → y.causes = 0 → late = none → s.dev.mappedBays y.chmax = [(bay, ch)] →
        s.dev.badWindows = [] →
        let v := bayVal y.vals bay
        let v := if y.sext && v.testBit (y.w - 1) then v + (2 ^ (8 * y.esz) - 2 ^ y.w) else v
        let r := atriumAccess (galTime s.dev (max now (y.due + 1))) 2 true (y.base + ch * y.stride) y.esz (leBytes y.esz v)
        Completes (.riserTransferComplete late) s (fun t =>
          t.dev.gal.xfers = [] ∧ t.dev.atr = r.2.atr ∧ t.dev.bcnt = max now (y.due + 1) ∧
          t.dev.rd RSR_CNT.XFERS = min 0xFFFF (s.dev.rd RSR_CNT.XFERS + 1) ∧
          (r.1.good = true → t.dev.ld RSR_ERR.addr = s.dev.ld RSR_ERR.addr) ∧
          (r.1.good = false → t.dev.ld RSR_ERR.addr ≠ 0#32)))) ∧
    (s.dev.runs 1 → n < 8 → n % 4 < 3 →
      let cond := n % 4 = 0 ∨ (n % 4 = 1 ∧ g.l = true) ∨ (n % 4 = 2 ∧ g.l = false)
      ∀ e ∈ [(Instr.galTrip (x &&& 3) 0 0 b, b.toNat), (Instr.galTrip (x ||| 4) 0 (a &&& 15) 0, (g.sreg (a.toNat % 16)).toNat % 2 ^ 16)],
        (¬cond → Goes e.1 s 1 g.advance) ∧
        (cond → Completes e.1 s (fun t =>
          t.dev.rd BAL_STATE.TRIPPED = s.dev.rd BAL_STATE.TRIPPED ||| (e.2 &&& s.dev.srcMask BAL_SRC.GTRIP) ∧
          (∀ c, c < 16 → (e.2 &&& s.dev.srcMask BAL_SRC.GTRIP).testBit c = true → t.dev.rd (BAL_TCAUSE.GTRIP c) = 1) ∧
          t.dev.gal = g.advance ∧ s.spent t 1 tripRegs ∧ s.dev.sameBytes t.dev))) ∧
    (s.dev.runs 1 → n < 16 → a.toNat < 16 →
      let port := n / 4
      let v := (g.sreg a.toNat).toNat
      let old := s.dev.rd (PIO_GOUT.GOUT port)
      Completes (.galPio x 0 (if n % 4 = 3 then a else 0) b) s (fun t =>
        (∀ i, i < 16 → (t.dev.rd (PIO_GOUT.GOUT port)).testBit i =
          if b.getLsbD i then
            match n % 4 with | 0 => true | 1 => false | 2 => !old.testBit i | _ => v.testBit i
          else old.testBit i) ∧
        s.galOnly t ∧ s.spent t 1 [PIO_GOUT.addr port] ∧
        t.dev.gal = { g.advance with padHist := t.dev.gal.padHist } ∧
        (∀ k, t.dev.pioIn k ≠ s.dev.pioIn k → k < 4 → (now, (List.range 4).map s.dev.pioIn) ∈ t.dev.gal.padHist))) ∧
    (s.dev.runs 1 → n < 16 → n % 4 = 0 → d.toNat < 16 →
      let level := match g.padHist.find? (fun e => decide (now < e.1 + 2)) with
        | some e => nth 0 e.2 (n / 4)
        | none => s.dev.pioIn (n / 4)
      Goes (.galPioin x d 0 0) s 1 (g.setS d.toNat (w32 level)).advance) ∧
    (s.dev.runs 1 → n < 4 → d.toNat < 16 → b.toNat < 64 →
      let r := newelOp s.dev 3 n b.toNat
      Completes (.galNwl x d 0 b) s (fun t =>
        t.dev.gal = { g.advance with nwl := g.nwl ++ [{ due := now + 16, sd := d.toNat, word := r.1, l := r.2.1, seen := false }] } ∧
        t.dev.holders = r.2.2.holders ∧ s.dev.sameBytes t.dev ∧
        (∀ m, m ≠ b.toNat → t.dev.holder m = s.dev.holder m) ∧
        (n = 0 → s.dev.holder b.toNat = 0 → t.dev.holder b.toNat = 3 ∧ r.2.1 = true) ∧
        (n = 0 → s.dev.holder b.toNat ≠ 0 → t.dev.holder b.toNat = s.dev.holder b.toNat ∧
          (r.2.1 = true ↔ s.dev.holder b.toNat = 3)) ∧
        (n = 1 → s.dev.holder b.toNat = 3 → t.dev.holder b.toNat = 0 ∧ r.2.1 = true) ∧
        s.spent t 1 [NWL_CNT.addr, NWL_ERR.addr, NWL_ERRINFO.addr, NWL_ORPHAN.addr 0, NWL_ORPHAN.addr 1])) ∧
    ((∀ r ∈ g.nwl, r.seen = true) → exec .nwlResult s = .next s) ∧
    (∀ q r rs, g.nwl = q ++ r :: rs → (∀ y ∈ q, y.seen = true) → r.seen = false → r.due < 2 ^ 27 → now < 2 ^ 27 →
      Completes .nwlResult s (fun t =>
        s.galOnly t ∧ t.dev.gal = { g.setS r.sd r.word with
          l := r.l, nwl := if g.running then q ++ { r with seen := true } :: rs else q ++ rs } ∧
        t.dev.bcnt = (if g.running then max now r.due else now) ∧ Dev.sameRegs [GSQ_BCNT_NOW.addr] s.dev t.dev))

/-- Frames of the Gallery. A frame start in RUN counts the frame, gives the sequencer and the flags their state, takes an
armed switch, map and repair that wait for it, and starts the active bank at its entry; power-up clears bay memory; a
seam stall ends with the seam's bits before SEAMTO cycles of it, or aborts after them with a trap, E and a CRIT event;
an undefined word traps ILLEGAL; a frame over its budget traps BUDGET, and one that its last transfer completes within
the budget does not; the plane window reads and writes bay memory byte by byte.
Readings: log entries 8 (which words of the repair event hold its data) and 75 to 77. -/
def Obligations.FramesStartStallAndEnd : Prop :=
  ∀ (word : BitVec 64) (seam : List (BitVec 128)) (miss : List (Option (BitVec 128))) (addr len : Nat) (data : List Byte)
    (s : State), s.dev.quiet →
    let g := s.dev.gal
    let now := s.dev.bcnt
    -- no answer of Wailith waits for this frame start
    let noAnswer := s.dev.wl.due = [] ∧ s.dev.wl.svcSlot = []
    (noAnswer → (s.dev.mode ≠ .run ∨ s.dev.wl.dozeWait.isSome = true) → exec .frameStart s = .next s) ∧
    (let fcnt := (s.dev.rd GSQ_FCNTLO.FCNT + 1) % 2 ^ 32
     let takes := s.dev.rd GSQ_SWCTL.ARMED = 1 ∧
       (s.dev.activeBank = none ∨ ((g.fend = true ∨ g.trapped = true) ∧ atOrAfter fcnt (s.dev.rd GSQ_SWAT.AT) = true))
     let bank := if takes then some (s.dev.rd GSQ_SWCTL.TARGET) else s.dev.activeBank
     noAnswer → s.dev.mode = .run → s.dev.wl.dozeWait = none → g.stall = none → g.running = false → g.cleared = true → g.xfers = [] → g.nwl = [] →
      (s.dev.bal.frames = false ∨ g.ok = true) → s.dev.rd CNC_GUPD.PENDING = 0 → s.dev.wl.swGroup = none →
      s.dev.twinOk GSQ_FPER.addr = true → s.dev.twinOk GSQ_SEAMLAT.addr = true → s.dev.twinOk GSQ_ANYLAT.addr = true →
      (s.dev.rd GSQ_REPCTL.ARMED = 0 →
        Completes .frameStart s (fun t =>
          t.dev.mode = .run ∧ t.dev.rd GSQ_FCNTLO.FCNT = fcnt ∧
          t.dev.rd GSQ_FCNTHI.FCNT = (s.dev.rd GSQ_FCNTHI.FCNT + if fcnt = 0 then 1 else 0) % 2 ^ 32 ∧
          t.dev.bcnt = 0 ∧ t.dev.activeBank = bank ∧ s.dev.sameBytes t.dev ∧
          (takes → t.dev.rd GSQ_SWCTL.ARMED = 0 ∧ t.dev.rd GSQ_SWREQ.DONE = s.dev.rd GSQ_SWREQ.REQ ∧
            t.dev.srcBit ICU_PEND.addr 66 = true) ∧
          t.dev.gal = { g with
            c := p0, a := p1, t := p0, p := p0, stack := [], loops := [], calls := [], s := setNth 0#32 g.s 15 (w32 fcnt),
            running := bank.isSome, fend := false, ok := false, trapped := false, fendPc := 0, ord := 0,
            startDue := false, fresh := false, lastC := g.lastC - g.period, period := s.dev.acts GSQ_FPER.CYCLES,
            frameAt := max s.dev.now (g.frameAt + g.period * 5 / 4), votes := t.dev.gal.votes,
            pc := (match bank with | some b => s.dev.rd (GSQ_BI_ENTRY.ENTRY b) % 16384 | none => 0),
            limit := (match bank with | some b => s.dev.beff b | none => 0), padHist := [],
            map := g.map2.getD g.map, map2 := none })) ∧
      (let c := s.dev.rd GSQ_REPCTL.LCOL
       let sp := 128 + s.dev.rd GSQ_REPCTL.SPARE
       let used := match s.dev.activeBank with | some b => s.dev.beff b | none => 0
       let copy := s.dev.rd GSQ_REPCTL.COPY = 1 ∧ 4160 + used ≤ s.dev.acts GSQ_FPER.CYCLES
       s.dev.rd GSQ_REPCTL.ARMED = 1 → s.dev.rd GSQ_SWCTL.ARMED = 0 → g.fresh = false →
        (g.repReady = true ∨ (g.fend = false ∧ g.trapped = false)) → s.dev.pcol c ≠ sp → s.dev.wl.repSlot = none →
        Completes .frameStart s (fun t =>
          t.dev.rd GSQ_REPCTL.ARMED = 0 ∧ t.dev.pcol c = sp ∧ t.dev.svcOf (.col (s.dev.pcol c)) = .outOfService ∧
          t.dev.svcOf (.col sp) = .inService ∧ t.dev.rd GSQ_REPSTAT.DONE = 1 ∧ t.dev.rd GSQ_REPSTAT.LCOL = c ∧
          t.dev.rd GSQ_REPSTAT.PCOL = sp ∧ t.dev.srcBit ICU_PEND.addr 68 = true ∧
          (∃ v, t.dev.evq = s.dev.evq ++ [v] ∧ v.block = 0x0E ∧ v.crit = true ∧ v.d0 = w32 c ∧
            (copy → v.d1 = w32 sp) ∧ (¬copy → v.d1 = w32 (sp + 256))) ∧
          (∀ k, k < 16384 → t.dev.gal.p.getLsbD k = decide (k % 128 = c)) ∧
          (copy → ∀ i, t.dev.gal.plane i = g.plane i) ∧
          (¬copy → t.dev.rd GSQ_REPSTAT.CLEARED = 1 ∧
            ∀ i k, k < 16384 → k % 128 = c → (t.dev.gal.plane i).getLsbD k = false)))) ∧
    (s.dev.galOn = true → g.cleared = false →
      Completes .galPowerUpClear s (fun t =>
        t = { s with dev := { s.dev with gal := t.dev.gal } } ∧
        t.dev.gal = { g with mem := t.dev.gal.mem, acc := t.dev.gal.acc, cleared := true } ∧
        (∀ i, t.dev.gal.plane i = p0) ∧ (∀ k, t.dev.gal.accAt k = 0) ∧ exec .galPowerUpClear t = .next t)) ∧
    (∀ st, g.stall = some st → s.dev.mode = .run → g.running = true → g.startDue = false → noAnswer →
      st.src.length = st.w → 1 ≤ st.d → st.d ≤ 128 → st.dir < 4 → s.dev.twinOk GSQ_SEAMTO.addr = true →
      let lim := s.dev.acts GSQ_SEAMTO.CYCLES
      let upTo := fun (k : Nat) => max now (st.start + k)
      let hi := upTo (max 1 lim)
      (∀ y ∈ g.xfers, hi ≤ y.due) → (∀ y ∈ g.nwl, hi ≤ y.due) → hi ≤ g.limit → g.limit < 2 ^ 27 → g.pc < 16384 →
      let wrote := fun (t : State) (vacant : Nat → Nat) =>
        (∀ k, k < 16384 → bayVal (t.dev.gal.field st.dst st.w) k =
          if g.a.getLsbD k then
            match shiftSource st.dir st.d k false with | some m => bayVal st.src m | none => vacant k
          else bayVal (g.field st.dst st.w) k) ∧
        ∀ j, j < st.dst ∨ st.dst + st.w ≤ j → t.dev.gal.plane j = g.plane j
      let seamVal := fun (bits : List (BitVec 128)) (k : Nat) =>
        (List.range st.w).foldr (fun j v => bit (seamInto st.dir st.d j k bits) + 2 * v) 0
      Completes (.seamStallEnd seam) s (fun t =>
        (∃ k, 1 ≤ k ∧ k ≤ max 1 (lim - 1) ∧ s.spent t (upTo k - now) [] ∧
          (st.loop = true → s.dev.acts GSQ_SEAMLAT.LAT < s.dev.rd (CNC_LAT.PINNED st.dir) →
            s.dev.rd (CNC_LAT.PINNED st.dir) - s.dev.acts GSQ_SEAMLAT.LAT < lim →
            k = s.dev.rd (CNC_LAT.PINNED st.dir) - s.dev.acts GSQ_SEAMLAT.LAT)) ∧
        (st.loop = false → wrote t (seamVal seam)) ∧
        (st.loop = true → wrote t (fun k =>
          match shiftSource st.dir st.d k true with | some m => bayVal st.src m | none => 0)) ∧
        s.dev.sameBytes t.dev ∧ t.dev.gal = { g.advance with stall := none, mem := t.dev.gal.mem }) ∧
      (1 ≤ lim →
        Completes (.seamAbort miss) s (fun t =>
          s.spent t (upTo lim - now) (EVQ_NEXTSEQ.addr :: trapRegs) ∧
          wrote t (seamVal (miss.map (fun b => b.getD 0#128))) ∧
          s.dev.sameBytes t.dev ∧ t.dev.rd GSQ_TRAP.CAUSE = 9 ∧ t.dev.rd GSQ_TRAP.ADDR = g.pc ∧
          t.dev.gal = { (g.stopped (s.dev.on GSQ_REPCTL.ARMED)) with mem := t.dev.gal.mem, e := t.dev.gal.e } ∧
          (∀ k, k < 16384 →
            t.dev.gal.e.getLsbD k = (g.e.getLsbD k || (shiftSource st.dir st.d k false).isNone)) ∧
          ∃ r v, t.dev.evq = s.dev.evq ++ r ++ [v] ∧ v.block = 0x0E ∧ v.crit = true ∧ ∀ u ∈ r, u.block = 0x09))) ∧
    (let w := wordWork (word.toNat / 2 ^ 56) (word.extractLsb' 48 8) (word.extractLsb' 32 16) (word.extractLsb' 16 16)
       (word.extractLsb' 0 16) s.dev
     (word.toNat / 2 ^ 56 ∉ galOpcodes → w.illegal = true) ∧
     (s.dev.runs 1 → w.illegal = true → Stops (.galIllegal word) s 8) ∧
     (w.illegal = false → exec (.galIllegal word) s = .next s)) ∧
    (s.dev.mode = .run → (g.running = true ∨ (g.fend = true ∧ g.ok = false)) → g.stall = none → now ≤ g.limit →
      g.limit + 1 < 2 ^ 27 → g.pc < 16384 → g.fendPc < 16384 → (∀ y ∈ g.xfers, g.limit < y.due) →
      (∀ y ∈ g.nwl, g.limit < y.due) →
      Completes .budgetExceeded s (fun t =>
        s.spent t (g.limit + 1 - now) trapRegs ∧ t.dev.gal = g.stopped (s.dev.on GSQ_REPCTL.ARMED) ∧
        t.dev.rd GSQ_TRAP.CAUSE = 10 ∧ t.dev.rd GSQ_TRAP.ADDR = (if g.fend then g.fendPc else g.pc) ∧
        t.dev.srcBit ICU_PEND.addr 67 = true ∧ s.dev.sameBytes t.dev)) ∧
    (∀ y, s.dev.mode = .run → g.running = false → g.fend = true → g.ok = false → g.xfers = [y] → y.refused = false →
      y.started = true → y.rin = true → y.lock = none → y.due ≤ g.limit → now ≤ g.limit → g.limit < 2 ^ 27 →
      Completes .budgetExceeded s (fun t =>
        t.dev.gal.ok = true ∧ t.dev.gal.trapped = g.trapped ∧ t.dev.bcnt = max now y.due ∧
        t.dev.rd GSQ_BCNT_LAST.LAST = y.due ∧ t.dev.rd GSQ_TRAP.CAUSE = s.dev.rd GSQ_TRAP.CAUSE ∧
        t.dev.srcBit ICU_PEND.addr 64 = true ∧ s.dev.sameBytes t.dev)) ∧
    (let off := addr - 0x31000000
     0x31000000 ≤ addr → 0 < len → addr + len ≤ 0x31800000 →
      (s.dev.galOn = true →
        Completes (.planeWindowAccess false addr len data) s (fun t =>
          t = { s with dev := { s.dev with resp := t.dev.resp } } ∧
          t.dev.resp = .ok ((List.range len).map (fun i => g.windowByte (off + i)))) ∧
        (data.length = len →
          Completes (.planeWindowAccess true addr len data) s (fun t =>
            t = { s with dev := { s.dev with resp := .ok [], gal := { g with mem := t.dev.gal.mem } } } ∧
            ∀ o, o < 4096 * 2048 → t.dev.gal.windowByte o =
              if off ≤ o ∧ o < off + len then nth 0#8 data (o - off) else g.windowByte o))) ∧
      (s.dev.galOn = false → ∀ wr,
        exec (.planeWindowAccess wr addr len data) s = .next { s with dev := { s.dev with resp := .err .offline } })) ∧
    (addr < 0x31000000 ∨ len = 0 ∨ 0x31800000 < addr + len → ∀ wr,
      exec (.planeWindowAccess wr addr len data) s = .next { s with dev := { s.dev with resp := .err .decode } })

/-! The Concourse. -/

/-- The join of a lane and its end. A trained lane writes its taps and sends HELLO; three training failures take it down;
a step that takes too long quarantines it. A HELLO is refused with the first cause that holds, and otherwise leads to
the alignment of this device, of the peer, or to a refusal with TWOLEADS; an alignment is told to the group, and every
member adopts frame number and lead. Sixteen equal MARKER delays pin a seam, or the way round loop-back 4, and others
begin the measurement again up to its limit; a drift of a joined seam, a LEAVE, a loss of signal or lock and a second
uncorrectable codeword of four take the lane down.
The cause of a step that takes too long is a free value among those of Table CNC.6 (log entry 40); readings: log
entries 41 (the word that tells the group to realign) and 73. -/
def Obligations.LanesJoinAndGoDown : Prop :=
  ∀ (l pos topo fabgen wlgen ppm fper lead size cycle arrival gap fcnt : Nat) (ranges : List (Nat × Nat))
    (digest : List Byte) (settled : Bool) (taps : List Nat) (s : State), s.dev.quiet → s.dev.slotsOk → l < 4 →
    s.dev.laneOn l = true →
    let x := s.dev.lane l
    let ends := fun (c : Instr) (cause : Nat) => Completes c s (fun t => s.dev.wentDown t.dev l cause)
    let others := fun (t : State) => ∀ k, k ≠ l → t.dev.lane k = s.dev.lane k
    (s.dev.lstate l = 1 →
      (let tap := fun k => nth 0 taps k % 256
       Completes (.laneTrained l taps) s (fun t =>
        t.dev.lstate l = 2 ∧ t.dev.rd (CNC_TXEQ0.PRE3 l) = tap 0 ∧ t.dev.rd (CNC_TXEQ0.PRE2 l) = tap 1 ∧
        t.dev.rd (CNC_TXEQ0.PRE1 l) = tap 2 ∧ t.dev.rd (CNC_TXEQ0.POST l) = tap 3 ∧ t.dev.rd (CNC_TXEQ1.MAIN l) = tap 4 ∧
        (∃ m, (t.dev.lane l).txq = x.txq ++ [m] ∧ m.type = 1 ∧ m.payload.take 4 =
          [s.dev.pos, s.dev.topo, s.dev.rd SYS_GEN.FABGEN, s.dev.rd SYS_GEN.WLGEN]) ∧
        (t.dev.lane l).helloAt = s.dev.now ∧
        others t ∧ Dev.sameRegs [CNC_LSTAT.addr l, CNC_TXEQ0.addr l, CNC_TXEQ1.addr l] s.dev t.dev)) ∧
      (x.tries < 2 → Completes (.laneTrainFail l) s (fun t =>
        t.dev.lane l = { x with tries := x.tries + 1 } ∧ others t ∧ Dev.sameRegs [] s.dev t.dev)) ∧
      (2 ≤ x.tries → s.dev.laneOwnsNothing l → ends (.laneTrainFail l) 5)) ∧
    (let open_ := fun (t : State) => s.dev.isolated t.dev l ∧ 1 ≤ t.dev.rd (CNC_LSTAT.QCAUSE l) ∧
       t.dev.rd (CNC_LSTAT.QCAUSE l) ≤ 10
     (s.dev.lstate l = 2 → Completes (.helloTimeout l) s open_) ∧
     (s.dev.lstate l = 3 ∨ s.dev.lstate l = 4 ∨ s.dev.lstate l = 5 → Completes (.joinStepTimeout l) s open_)) ∧
    (s.dev.lstate l = 2 →
      let hello := Instr.sbHello l pos topo fabgen wlgen ranges ppm fper digest lead size settled
      let reasons : List (Bool × Nat) :=
        [(decide (fabgen ≠ s.dev.rd SYS_GEN.FABGEN), 1),
         (!inRanges (s.dev.rd SYS_GEN.WLGEN) ranges || !inRanges wlgen s.dev.wl.peerRanges, 2),
         (decide (topo ≠ s.dev.topo ∨ neighborOf s.dev.topo s.dev.pos l ≠ some pos), 3), (decide (20 < ppm), 4),
         (decide (fper ≠ s.dev.acts GSQ_FPER.CYCLES), 5),
         (decide (sliceB digest 0 8 ≠ s.dev.activeDigest ∨ settled ≠ s.dev.activeBank.isSome), 6)]
      let peer := fun (t : State) => t.dev.rd (CNC_LSTAT.PEERVALID l) = 1 ∧ t.dev.rd (CNC_LSTAT.PEERPOS l) = pos % 8 ∧
        t.dev.rd (CNC_PEER.LEADPOS l) = lead % 8 ∧ t.dev.rd (CNC_PEER.FABGEN l) = fabgen % 256
      let mine := s.dev.rd CNC_GRP.LEAD
      let own := settled = s.dev.activeBank.isSome ∧ ((settled = false ∧ lead < mine) ∨
        (settled = true ∧ s.dev.groupSize = 1 ∧ (size = 1 → pos < s.dev.pos)))
      let theirs := settled = s.dev.activeBank.isSome ∧ ((settled = false ∧ mine < lead) ∨
        (settled = true ∧ size = 1 ∧ (s.dev.groupSize = 1 → s.dev.pos ≤ pos)))
      (∀ e : Bool × Nat, reasons.find? Prod.fst = some e → Completes hello s (fun t =>
        s.dev.isolated t.dev l ∧ t.dev.rd (CNC_LSTAT.QCAUSE l) = e.2 ∧ peer t)) ∧
      (reasons.find? Prod.fst = none →
        (lead = mine ∨ (lead ≠ mine ∧ theirs) → Completes hello s (fun t =>
          t.dev.lstate l = 4 ∧ peer t ∧ t.dev.grp = s.dev.grp ∧ others t ∧
          Dev.sameRegs [CNC_LSTAT.addr l, CNC_PEER.addr l] s.dev t.dev)) ∧
        (lead ≠ mine → own → Completes hello s (fun t =>
          t.dev.lstate l = 3 ∧ peer t ∧ t.dev.grp = { s.dev.grp with alignTo := some (lead, l) } ∧
          s.dev.relayed t.dev none [{ type := 0x20, origin := s.dev.pos, hops := 0, copy := false,
                                      payload := [6, s.dev.rd GSQ_FCNTLO.FCNT, lead] }] ∧
          Dev.sameRegs [CNC_LSTAT.addr l, CNC_PEER.addr l] s.dev t.dev)) ∧
        (lead ≠ mine → ¬own → ¬theirs → Completes hello s (fun t =>
          s.dev.isolated t.dev l ∧ t.dev.rd (CNC_LSTAT.QCAUSE l) = 9 ∧ t.dev.rd CNC_GERR.TWOLEADS = 1 ∧ peer t)))) ∧
    (∀ ld, s.dev.lstate l = 3 ∨ s.dev.lstate l = 6 → s.dev.grp.alignTo = some (ld, l) → ld < 8 →
      s.dev.gal.running = false → s.dev.gal.stall = none → s.dev.rd CNC_GUPD.PENDING = 0 → s.dev.wl.due = [] →
      s.dev.rd GSQ_REPCTL.ARMED = 0 → s.dev.rd GSQ_SWCTL.ARMED = 0 → s.dev.wl.swGroup = none →
      s.dev.twinOk GSQ_FPER.addr = true → s.dev.twinOk GSQ_SEAMLAT.addr = true → s.dev.twinOk GSQ_ANYLAT.addr = true →
      Completes (.laneAlign l fcnt) s (fun t =>
        t.dev.lstate l = (if s.dev.lstate l = 3 then 4 else 6) ∧ t.dev.grp.alignTo = none ∧
        t.dev.rd GSQ_FCNTLO.FCNT = fcnt % 2 ^ 32 ∧ t.dev.rd GSQ_FCNTHI.FCNT = fcnt / 2 ^ 32 % 2 ^ 32 ∧
        t.dev.rd CNC_GRP.LEAD = ld ∧ t.dev.rd CNC_GRP.ISLEAD = bit (ld == s.dev.pos) ∧ t.dev.bcnt = 0 ∧
        t.dev.gal.running = s.dev.activeBank.isSome ∧ s.dev.sameBytes t.dev)) ∧
    (let v := s.dev.markDelay cycle arrival
     let ms := x.marks ++ [v]
     (s.dev.lstate l = 4 →
      (ms.length < 16 → Completes (.sbMarker l cycle arrival) s (fun t =>
        t.dev.lane l = { x with marks := ms } ∧ others t ∧ t.dev.rd (CNC_LAT.MARK l) = v % 256 ∧
        Dev.sameRegs [CNC_LAT.addr l] s.dev t.dev)) ∧
      (16 ≤ ms.length → (∀ k ∈ ms, k = v) → v ≤ 128 → s.dev.rd CNC_GRP.ISLEAD = 0 →
        Completes (.sbMarker l cycle arrival) s (fun t =>
          t.dev.lstate l = 5 ∧ t.dev.rd (CNC_LAT.PINNED l) = v ∧
          t.dev.lane l = { x with marks := [], attempts := 0 } ∧ others t ∧
          Dev.sameRegs [CNC_LAT.addr l, CNC_LSTAT.addr l] s.dev t.dev)) ∧
      (16 ≤ ms.length → (128 < v ∨ ∃ k ∈ ms, k ≠ v) →
        (x.attempts < 3 → Completes (.sbMarker l cycle arrival) s (fun t =>
          t.dev.lane l = { x with marks := [], attempts := x.attempts + 1 } ∧ others t ∧
          Dev.sameRegs [CNC_LAT.addr l] s.dev t.dev)) ∧
        (3 ≤ x.attempts → Completes (.sbMarker l cycle arrival) s (fun t =>
          s.dev.isolated t.dev l ∧ t.dev.rd (CNC_LSTAT.QCAUSE l) = 7)))) ∧
     (s.dev.lstate l ≠ 4 → s.dev.nearLoop l = true → s.dev.rd (CNC_CTRL.LOOP l) = 4 →
      (ms.length < 16 → Completes (.sbMarker l cycle arrival) s (fun t =>
        t.dev.lane l = { x with marks := ms } ∧ others t ∧ Dev.sameRegs [CNC_LAT.addr l] s.dev t.dev)) ∧
      (16 ≤ ms.length → (∀ k ∈ ms, k = v) → v ≤ 128 → Completes (.sbMarker l cycle arrival) s (fun t =>
        t.dev.rd (CNC_LAT.PINNED l) = v ∧ others t ∧ Dev.sameRegs [CNC_LAT.addr l] s.dev t.dev))) ∧
     (s.dev.lstate l = 6 → s.dev.nearLoop l = false →
      let p := s.dev.rd (CNC_LAT.PINNED l)
      (p ≤ v + 2 ∧ v ≤ p + 2 → Completes (.sbMarker l cycle arrival) s (fun t =>
        t.dev.rd (CNC_LAT.MARK l) = v % 256 ∧ t.dev.lanes = s.dev.lanes ∧ Dev.sameRegs [CNC_LAT.addr l] s.dev t.dev)) ∧
      (p + 2 < v ∨ v + 2 < p → s.dev.laneOwnsNothing l → Completes (.sbMarker l cycle arrival) s (fun t =>
        s.dev.wentDown t.dev l 6 ∧ t.dev.rd (CNC_ERR.DRIFT l) = 1)))) ∧
    (2 ≤ s.dev.lstate l →
      (s.dev.laneOwnsNothing l →
        ends (.sbLeave l) 4 ∧ ends (.laneSignalLoss l) 1 ∧ ends (.laneLockLoss l) 2 ∧
        (true ∈ x.fec.take (3 - gap) → ends (.uncorrectableCodeword l gap) 3)) ∧
      (true ∉ x.fec.take (3 - gap) → Completes (.uncorrectableCodeword l gap) s (fun t =>
        t.dev.rd (CNC_ERR.FECUNC l) = 1 ∧ t.dev.lstate l = s.dev.lstate l ∧
        t.dev.rd (CNC_FECUNC.UNCORR l) = min (2 ^ 32 - 1) (s.dev.rd (CNC_FECUNC.UNCORR l) + 1) ∧ others t ∧
        Dev.sameRegs [CNC_ERR.addr l, CNC_FECUNC.addr l] s.dev t.dev)) ∧
      Completes (.sbUndefinedType l gap) s (fun t =>
        t.dev.lane l = { x with undef := x.undef + 1 } ∧ others t ∧ Dev.sameRegs [] s.dev t.dev)) ∧
    (s.dev.lstate l < 2 → ∀ c ∈ [Instr.sbLeave l, .laneSignalLoss l, .laneLockLoss l, .uncorrectableCodeword l gap,
      .sbUndefinedType l gap], exec c s = .next s) ∧
    exec (.sbIdle l) s = .next s

/-- Messages on a joined lane. The first copy of a vote is noted, counted and relayed on the other joined lanes in two
copies, and a duplicate only counted; a LATCH enters the remote vectors. The first beacon of a frame is taken and
relayed, a later one only checked; one that differs, and too many missing ones, quarantine every joined lane with
ALIGN. A newer LINKSTATE, or the first of a device, gives the members that are reachable, and an older one changes
nothing. The lead's update waits for its frame and may be withdrawn, its request to arm a switch is met or refused,
its word to disarm disarms and its word to realign is noted; a refusal at the lead ends SWITCH_BANK with STATE. Remote
lock requests act on the Newel for the peer, and messages for another device go on towards it; the remote access of
this device goes out, ends with its result, its data or its time limit, and one to a device out of reach ends with
GONE.
The kinds of GROUPCMD and the choice of a lane are the model's (log entries 41, 42). -/
def Obligations.SidebandMessagesAct : Prop :=
  ∀ (l origin dst hops seq fcnt ord lead change at_ a0 a1 a2 lock op va len init : Nat) (copy value error : Bool) (vec : Nat)
    (links args : List Nat) (result data : Word) (bytes : List Byte) (s : State), s.dev.quiet → s.dev.slotsOk → l < 4 →
    s.dev.mode = .run →
    let g := s.dev.grp
    let sent := fun (ty c : Nat) (k : Bool) (pl : List Nat) => ({ type := ty, origin := origin, hops := c, copy := k, payload := pl } : SbMsg)
    let two := fun (ty : Nat) (pl : List Nat) => [sent ty (hops + 1) false pl, sent ty (hops + 1) true pl]
    let counted := fun (t : State) =>
      t.dev.rd (CNC_SBCNT.VOTERX l) = min 0xFFFF (s.dev.rd (CNC_SBCNT.VOTERX l) + 1)
    let alone := fun (t : State) => t.dev.rd CNC_GERR.BEACONMISS = 1 ∧ t.dev.grp.beaconMiss = 0 ∧
      ∀ k, k < 4 → s.dev.joined k = true → t.dev.lstate k = 7 ∧ t.dev.rd (CNC_LSTAT.QCAUSE k) = 10
    let ended := fun (t : State) (res : Nat) => t.dev.rd CNC_RARES.RES = res ∧ t.dev.rd CNC_RACTL.GO = 0 ∧
      (∀ k, (t.dev.lane k).raFly = false) ∧ (res ≠ 1 → t.dev.rd CNC_GERR.RAERR = 1)
    (s.dev.joined l = true → origin ≠ s.dev.pos →
      (origin < 8 →
        let pl := [vec % 256, seq]
        ((origin, 0x10, seq) ∉ g.seen → Completes (.sbLatch l origin hops copy vec seq) s (fun t =>
          counted t ∧ nth 0 t.dev.grp.remote origin = vec % 256 ∧ (origin, 0x10, seq) ∈ t.dev.grp.seen ∧
          (∀ p, p ≠ origin → nth 0 t.dev.grp.remote p = nth 0 g.remote p) ∧
          s.dev.relayed t.dev (some l) (two 0x10 pl) ∧ s.dev.sameBytes t.dev ∧
          Dev.sameRegs (tripRegs ++ (List.range 4).map CNC_SBCNT.addr) s.dev t.dev)) ∧
        ((origin, 0x10, seq) ∈ g.seen → Completes (.sbLatch l origin hops copy vec seq) s (fun t =>
          counted t ∧ t.dev.grp = g ∧ t.dev.lanes = s.dev.lanes ∧ Dev.sameRegs [CNC_SBCNT.addr l] s.dev t.dev))) ∧
      (let key := 65536 * (fcnt % 2 ^ 16) + ord % 2 ^ 16
       ((origin, 0x11, key) ∉ g.seen → Completes (.sbGany l origin hops copy value fcnt ord) s (fun t =>
          counted t ∧ t.dev.gal = { s.dev.gal with votes := s.dev.gal.votes ++ [(origin, key, value)] } ∧
          s.dev.relayed t.dev (some l) (two 0x11 [bit value, fcnt % 2 ^ 16, ord % 2 ^ 16]) ∧
          Dev.sameRegs ((List.range 4).map CNC_SBCNT.addr) s.dev t.dev)) ∧
       ((origin, 0x11, key) ∈ g.seen → Completes (.sbGany l origin hops copy value fcnt ord) s (fun t =>
          counted t ∧ t.dev.gal = s.dev.gal ∧ t.dev.lanes = s.dev.lanes ∧
          Dev.sameRegs [CNC_SBCNT.addr l] s.dev t.dev)))) ∧
    (s.dev.joined l = true → s.dev.rd CNC_GRP.ISLEAD = 0 → g.alignTo = none →
      (fcnt = s.dev.rd GSQ_FCNTLO.FCNT → g.beaconFrame = true → exec (.sbBeacon l origin hops fcnt lead) s = .next s) ∧
      (fcnt = s.dev.rd GSQ_FCNTLO.FCNT → g.beaconFrame = false → Completes (.sbBeacon l origin hops fcnt lead) s (fun t =>
        t.dev.rd CNC_BEACON.FCNT = fcnt ∧ t.dev.grp = { g with beaconFrame := true } ∧
        s.dev.relayed t.dev (some l) [sent 0x12 (hops + 1) false [fcnt, lead]] ∧
        Dev.sameRegs [CNC_BEACON.addr] s.dev t.dev)) ∧
      (fcnt % 2 ^ 32 ≠ s.dev.rd GSQ_FCNTLO.FCNT → Completes (.sbBeacon l origin hops fcnt lead) s alone)) ∧
    (s.dev.rd CNC_GRP.ISLEAD = 0 → (s.dev.rd CNC_GRP.MEMBERS).testBit (s.dev.rd CNC_GRP.LEAD) = true →
      s.dev.twinOk CNC_GCFG.addr = true →
      (s.dev.acts CNC_GCFG.BEACONTO ≤ g.beaconMiss → Completes .beaconMiss s alone) ∧
      (g.beaconMiss < s.dev.acts CNC_GCFG.BEACONTO → exec .beaconMiss s = .next s)) ∧
    (s.dev.joined l = true → origin ≠ s.dev.pos →
      let last := tget (fun _ => 0) g.change origin
      let age := (2 ^ 16 + change % 2 ^ 16 + 1 - last) % 2 ^ 16
      let graph : List (Nat × List Nat) := g.graph.filter (fun e => e.1 != origin) ++ [(origin, links)]
      let known : Dev := { s.dev with grp := { g with graph := graph } }
      (last ≠ 0 → age = 0 ∨ 2 ^ 15 ≤ age → exec (.sbLinkstate l origin hops change links) s = .next s) ∧
      (last = 0 ∨ (0 < age ∧ age < 2 ^ 15) → Completes (.sbLinkstate l origin hops change links) s (fun t =>
        t.dev.rd CNC_GRP.MEMBERS = known.reach ∧ t.dev.rd CNC_GRP.DIAM = known.diameter known.reach % 16 ∧
        (known.reach.testBit (s.dev.rd CNC_GRP.LEAD) = true → t.dev.rd CNC_GRP.LEAD = s.dev.rd CNC_GRP.LEAD) ∧
        (known.reach.testBit (s.dev.rd CNC_GRP.LEAD) = false →
          t.dev.rd CNC_GRP.LEAD = lowestPos known.reach ∧ t.dev.rd CNC_GERR.LEADCHG = 1) ∧ s.dev.sameBytes t.dev))) ∧
    (s.dev.joined l = true → origin ≠ s.dev.pos → origin = s.dev.rd CNC_GRP.LEAD →
      let heard := fun (kind : Nat) => (origin, 0x20 + 256 * kind, at_) ∉ g.seen
      let cmd := fun (kind : Nat) (xs : List Nat) => Instr.sbGroupcmd l origin hops kind at_ xs
      (heard 2 → Completes (cmd 2 [a0, a1, a2]) s (fun t =>
        t.dev.grp.updJoin = (a2 == 1) ∧
        t.dev.rd CNC_GUPD.PENDING = 1 ∧ t.dev.rd CNC_GUPD.LAT = a0 % 2 ^ 8 ∧ t.dev.rd CNC_GUPD.ANYLAT = a1 % 2 ^ 11 ∧
        t.dev.rd CNC_GUPDAT.AT = at_ % 2 ^ 32 ∧ s.dev.relayed t.dev (some l) [sent 0x20 (hops + 1) false [2, at_, a0, a1, a2]] ∧
        Dev.sameRegs [CNC_GUPD.addr, CNC_GUPDAT.addr] s.dev t.dev)) ∧
      (let ok := a0 < 2 ∧ s.dev.loaded a0 = true ∧ leNat (nth PBank.empty s.dev.gal.banks a0).digest = a1 ∧
         s.dev.rd GSQ_SWCTL.ARMED = 0 ∧ s.dev.wl.dozeWait = none ∧
         atOrAfter (s.dev.rd GSQ_FCNTLO.FCNT) ((2 ^ 32 + at_ - 1) % 2 ^ 32) = false
       heard 0 → Completes (cmd 0 [a0, a1]) s (fun t =>
        (ok → t.dev.rd GSQ_SWCTL.ARMED = 1 ∧ t.dev.rd GSQ_SWCTL.TARGET = a0 ∧ t.dev.rd GSQ_SWCTL.YEN = 0 ∧
          t.dev.rd GSQ_SWAT.AT = at_ % 2 ^ 32 ∧ t.dev.rd GSQ_SWREQ.REQ = (s.dev.rd GSQ_SWREQ.REQ + 1) % 2 ^ 16 ∧
          t.dev.wl.swGroup = some (a0, at_, [], [])) ∧
        (¬ok → t.dev.wl = s.dev.wl ∧ Dev.sameRegs [] s.dev t.dev))) ∧
      (∀ bk xs ys, heard 1 → s.dev.wl.swGroup = some (bk, at_, xs, ys) → Completes (cmd 1 args) s (fun t =>
        t.dev.rd GSQ_SWCTL.ARMED = 0 ∧ t.dev.wl.swGroup = none ∧ Dev.sameRegs [GSQ_SWCTL.addr] s.dev t.dev)) ∧
      (heard 3 → s.dev.rd CNC_GRP.ISLEAD = 0 → Completes (cmd 3 args) s (fun t =>
        t.dev.wl.swGroup = none ∧ Dev.sameRegs [] s.dev t.dev)) ∧
      (heard 5 → s.dev.rd CNC_GRP.ISLEAD = 0 → s.dev.rd CNC_GUPD.PENDING = 1 → g.updJoin = true →
        s.dev.rd CNC_GUPDAT.AT = at_ % 2 ^ 32 → Completes (cmd 5 args) s (fun t =>
        t.dev.rd CNC_GUPD.PENDING = 0 ∧ t.dev.grp.updJoin = false ∧ Dev.sameRegs [CNC_GUPD.addr] s.dev t.dev)) ∧
      (heard 6 → Completes (cmd 6 [a0]) s (fun t =>
        t.dev.grp.alignTo = (if s.dev.activeBank = none then some (a0 % 8, l) else g.alignTo) ∧
        Dev.sameRegs [] s.dev t.dev))) ∧
    (∀ bk xs ys n, s.dev.joined l = true → origin ≠ s.dev.pos → s.dev.rd CNC_GRP.ISLEAD = 1 →
      s.dev.wl.swGroup = some (bk, at_, xs, ys) → s.dev.wl.swSlot = some n → n < 4 →
      (origin, 0x20 + 256 * 4, at_) ∉ g.seen →
      Completes (.sbGroupcmd l origin hops 4 at_ args) s (fun t =>
        t.dev.rd GSQ_SWCTL.ARMED = 0 ∧ t.dev.wl.swGroup = none ∧ t.dev.wl.swSlot = none ∧
        s.dev.answered t.dev n 6 0 [] ∧ Dev.sameRegs (GSQ_SWCTL.addr :: rspRegs n) s.dev t.dev)) ∧
    (let passes := fun (c : Instr) (m : SbMsg) =>
       (∀ k, s.dev.route dst = some k → k ≠ l → Completes c s (fun t =>
          (t.dev.lane k).txq = (s.dev.lane k).txq ++ sbBlocks m ∧ (∀ j, j ≠ k → t.dev.lane j = s.dev.lane j) ∧
          Dev.sameRegs [] s.dev t.dev ∧ s.dev.sameBytes t.dev)) ∧
       (s.dev.route dst = none ∨ s.dev.route dst = some l → exec c s = .next s)
     s.dev.joined l = true → dst ≠ s.dev.pos →
      passes (.sbLockReq l ⟨origin, dst, hops⟩ lock op) (sent 0x32 (hops + 1) false [dst, lock, op]) ∧
      passes (.sbLockRsp l ⟨origin, dst, hops⟩ result error) (sent 0x33 (hops + 1) false [dst, result.toNat, bit error]) ∧
      passes (.sbRaRsp l ⟨origin, dst, hops⟩ error bytes)
        { sent 0x31 (hops + 1) false [dst, bit error] with data := bytes } ∧
      (op < 2 → origin < 8 → 0 < len → len ≤ 256 → va < 2 ^ 32 →
        passes (.sbRaReq l ⟨origin, dst, hops⟩ op va len bytes)
          { sent 0x30 (hops + 1) false [dst, op, va, len] with data := if op = 1 then sliceB bytes 0 len else [] })) ∧
    (s.dev.joined l = true →
      let r := newelOp s.dev (8 + origin % 8) (op % 4) (lock % 64)
      Completes (.sbLockReq l ⟨origin, s.dev.pos, hops⟩ lock op) s (fun t =>
        t.dev.holders = r.2.2.holders ∧ (t.dev.lane l).txq = (s.dev.lane l).txq ++
          [{ type := 0x33, origin := s.dev.pos, hops := 0, copy := false, payload := [origin, r.1.toNat, 0] }] ∧
        s.dev.sameBytes t.dev)) ∧
    (s.dev.joined l = true → s.dev.rd CNC_RARES.RES = 2 → s.dev.rd CNC_RACTL.DST = origin →
      let here := s.dev.pos
      (s.dev.acts CNC_RACTL.OP = 2 → Completes (.sbLockRsp l ⟨origin, here, hops⟩ result error) s (fun t =>
        ended t (if error then 3 else 1) ∧ t.dev.ld CNC_RARESULT.addr = result)) ∧
      (s.dev.acts CNC_RACTL.OP ≠ 2 → error = true ∨ s.dev.acts CNC_RACTL.OP = 1 →
        Completes (.sbRaRsp l ⟨origin, here, hops⟩ error bytes) s (fun t =>
          ended t (if error then 3 else 1) ∧ s.dev.sameBytes t.dev)) ∧
      (s.dev.acts CNC_RACTL.OP = 0 → s.dev.badWindows = [] →
        let r := atriumAccess s.dev (8 + l) true (s.dev.rd CNC_RALADDR.LADDR) (s.dev.acts CNC_RACTL.LEN)
          (sliceB bytes 0 (s.dev.acts CNC_RACTL.LEN))
        Completes (.sbRaRsp l ⟨origin, here, hops⟩ false bytes) s (fun t =>
          ended t (if r.1.good then 1 else 3) ∧ t.dev.atr = r.2.atr))) ∧
    (init ≠ 0 → exec (.cncRaGo init data) s = .next { s with dev := { s.dev with resp := .err .target } }) ∧
    (s.dev.rd CNC_RARES.RES = 2 →
      exec (.cncRaGo 0 data) s = .next { s with dev := { s.dev with resp := .ok [] } } ∧
      Completes .raTimeout s (fun t => ended t 5 ∧ t.dev.now = max s.dev.now (100000 + g.raTime))) ∧
    (s.dev.rd CNC_RARES.RES ≠ 2 → exec .raTimeout s = .next s) ∧
    (let dst := fld data 26 24
     s.dev.rd CNC_RARES.RES ≠ 2 → data.getLsbD 31 = true →
      (dst = s.dev.pos ∨ (s.dev.rd CNC_GRP.MEMBERS).testBit dst = false ∨ s.dev.route dst = none →
        Completes (.cncRaGo 0 data) s (fun t => ended t 4 ∧ t.dev.resp = .ok [])) ∧
      (∀ k, dst ≠ s.dev.pos → (s.dev.rd CNC_GRP.MEMBERS).testBit dst = true → s.dev.route dst = some k → k < 4 →
        let goes := fun (t : State) (ty : Nat) (pl : List Nat) =>
          t.dev.rd CNC_RARES.RES = 2 ∧ t.dev.rd CNC_RACTL.GO = 1 ∧ t.dev.rd CNC_RACTL.DST = dst ∧
          (t.dev.lane k).raFly = true ∧ (t.dev.lane k).txq = (s.dev.lane k).txq ++
            [{ type := ty, origin := s.dev.pos, hops := 0, copy := false, payload := pl }] ∧
          t.dev.resp = .ok [] ∧ Dev.sameRegs [CNC_RACTL.addr, CNC_RARES.addr] s.dev t.dev
        let ra := s.dev.ld CNC_RARADDR.addr
        (fld data 29 28 = 2 → Completes (.cncRaGo 0 data) s (fun t => goes t 0x32 [dst, fld ra 13 8, fld ra 1 0])) ∧
        (fld data 29 28 = 0 → Completes (.cncRaGo 0 data) s (fun t =>
          goes t 0x30 [dst, 0, ra.toNat, t.dev.acts CNC_RACTL.LEN])) ∧
        (fld data 29 28 = 1 → s.dev.badWindows = [] → Completes (.cncRaGo 0 data) s (fun t =>
          t.dev.resp = .ok [] ∧ t.dev.rd CNC_RACTL.DST = dst ∧
          ((t.dev.rd CNC_RARES.RES = 2 ∧ t.dev.rd CNC_RACTL.GO = 1 ∧ (t.dev.lane k).raFly = true) ∨ ended t 3)))))

/-! Memories and the Corridor. -/

/-- The Atrium and the Logbook memory. An access that no window opens, or that touches a bank out of service, changes no
byte; a write stores exactly its bytes and a read returns them and changes none, unless a word it needs is
uncorrectable; before the clear of boot step 0x3 the content is open, and only the words of the access take a value;
the cycles of waiting are counted; single-bit errors are counted and written back. A patrol read walks a bank; a bank
that was off holds zeros when it is on again. Only the Steward, and the save in LANDING, write the Logbook memory, in
whole words and never its header or the reserved bytes behind HEADPTR.
That no write reaches these is the model's reading (log entry 49). -/
def Obligations.AtriumAndLogbookMemoryAccess : Prop :=
  ∀ (init a len word bank waited : Nat) (wr : Bool) (data : List Byte) (s : State), s.dev.faults = [] →
    (s.dev.niOpen init = false → ∀ c ∈ [Instr.atriumAccess ⟨init, waited⟩ wr a len data, .logbookMemoryWrite init a data,
      .logbookMemoryRead init a len], exec c s = .next { s with dev := { s.dev with resp := .err .offline } }) ∧
    (s.dev.niOpen init = true → len = 0 ∨ 256 < len ∨ 0x400000 < a + len →
      exec (.atriumAccess ⟨init, waited⟩ wr a len data) s = .next { s with dev := { s.dev with resp := .err .decode } }) ∧
    (let page := fun (p : Nat) => a / 4096 ≤ p ∧ p ≤ (a + len - 1) / 4096
     let touched := fun (w : Nat) => a / 8 ≤ w ∧ w ≤ (a + len - 1) / 8
     let opens := init = 0 ∨ ∀ p, page p → ∃ k, k < 32 ∧ s.dev.rd (ATC_WINBASE.BASE k) ≤ p ∧
       p ≤ s.dev.rd (ATC_WINLIM.LIMIT k) ∧
       (if wr then s.dev.rd (ATC_WINPERM.WPERM k) else s.dev.rd (ATC_WINPERM.RPERM k)).testBit init = true
     let serves := ∀ p, page p → s.dev.svcOf (.atb (p % 16)) = .inService ∨
       (s.dev.svcOf (.atb (p % 16)) = .underTest ∧ init = 0)
     let needs := fun (w : Nat) => touched w ∧ (wr = true → 8 * w < a ∨ a + len < 8 * w + 8)
     let cmd := Instr.atriumAccess ⟨init, waited⟩ wr a len data
     let cflct := ATC_CFLCT.addr init
     let outside := fun (t : State) => (∀ b, ¬touched (b / 8) → t.dev.atrByte b = s.dev.atrByte b) ∧
       (∀ b, t.dev.logByte b = s.dev.logByte b) ∧ t.dev.priv = s.dev.priv
     s.dev.niOpen init = true → 0 < len → len ≤ 256 → a + len ≤ 0x400000 → (init = 0 ∨ s.dev.badWindows = []) →
      (¬opens → Completes cmd s (fun t =>
        t.dev.resp = .err .window ∧ t.dev.rd ATC_ERR.WINDOW = 1 ∧ s.dev.sameBytes t.dev ∧
        (s.dev.rd ATC_ERR.WINDOW = 0 → t.dev.rd ATC_WINERR.SRC = init % 16 ∧ t.dev.rd ATC_WINERRADDR.ADDR = a) ∧
        (s.dev.rd ATC_ERR.WINDOW = 1 → Dev.sameRegs [cflct] s.dev t.dev) ∧
        Dev.sameRegs [cflct, ATC_ERR.addr, ATC_WINERR.addr, ATC_WINERRADDR.addr] s.dev t.dev)) ∧
      (opens → ¬serves → Completes cmd s (fun t =>
        t.dev.resp = .err .offline ∧ s.dev.sameBytes t.dev ∧ Dev.sameRegs [cflct] s.dev t.dev)) ∧
      (init < 16 → Completes cmd s (fun t =>
        t.dev.rd (ATC_CFLCT.COUNT init) = min (2 ^ 32 - 1) (s.dev.rd (ATC_CFLCT.COUNT init) + waited))) ∧
      (opens → serves → s.dev.atrUndef = false →
        Completes cmd s (fun t =>
          ((∃ w, needs w ∧ s.dev.eccOf w = 2) → t.dev.resp = .err .ecc ∧ t.dev.rd ATC_ERR.UNC = 1 ∧
            s.dev.sameBytes t.dev) ∧
          ((∀ w, needs w → s.dev.eccOf w ≠ 2) →
            (wr = false → t.dev.resp = .ok ((List.range len).map (fun i => s.dev.atrByte (a + i))) ∧
              s.dev.sameBytes t.dev) ∧
            (wr = true → t.dev.resp = .ok [] ∧ (∀ w, touched w → t.dev.eccOf w = 0) ∧
              (∀ b, t.dev.atrByte b = if a ≤ b ∧ b < a + len then nth 0#8 data (b - a) else s.dev.atrByte b) ∧
              (∀ b, t.dev.logByte b = s.dev.logByte b) ∧ t.dev.priv = s.dev.priv)) ∧
          (∀ w, needs w → s.dev.eccOf w = 1 → wr = false → w ∈ t.dev.atrFix ∧ t.dev.rd ATC_ERR.CORR = 1) ∧
          (Memory.wf s.dev = true → Memory.wf t.dev = true) ∧
          Dev.sameRegs [cflct, ATC_ERR.addr, ATC_ECCCNT.addr, ATC_ECCADDR.addr] s.dev t.dev)) ∧
      (opens → serves → s.dev.atrUndef = true → Completes cmd s (fun t =>
        outside t ∧ Dev.sameRegs [cflct, ATC_ERR.addr, ATC_ECCCNT.addr, ATC_ECCADDR.addr] s.dev t.dev ∧
        (wr = false → t.dev.resp = .err .ecc ∨
          t.dev.resp = .ok ((List.range len).map (fun i => t.dev.atrByte (a + i)))) ∧
        (wr = true → t.dev.resp = .err .ecc ∨ (t.dev.resp = .ok [] ∧
          ∀ b, a ≤ b → b < a + len → t.dev.atrByte b = nth 0#8 data (b - a))) ∧
        ((∀ w, touched w → tget (fun _ => false) s.dev.atrKnown w = true) → wr = false → s.dev.sameBytes t.dev)))) ∧
    (s.dev.coreOn = true →
      (word ∈ s.dev.atrFix → Completes (.atriumEccWriteback word) s (fun t =>
        word ∉ t.dev.atrFix ∧ (s.dev.eccOf word = 1 → t.dev.eccOf word = 0) ∧
        (∀ w, w ≠ word → t.dev.eccOf w = s.dev.eccOf w) ∧ s.dev.sameBytes t.dev ∧ Dev.sameRegs [] s.dev t.dev)) ∧
      (word ∉ s.dev.atrFix → exec (.atriumEccWriteback word) s = .next s) ∧
      (bank < 16 → s.dev.rd ATC_SCRUB.EN = 1 → s.dev.svcOf (.atb bank) ≠ .outOfService →
        let i := tget (fun _ => 0) s.dev.patrol bank
        let w := 8192 * (i / 512) + bank * 512 + i % 512
        i < 32768 → Completes (.atriumPatrolRead bank) s (fun t =>
          tget (fun _ => 0) t.dev.patrol bank = (i + 1) % 32768 ∧ s.dev.sameBytes t.dev ∧
          (s.dev.eccOf w = 0 → Dev.sameRegs [] s.dev t.dev) ∧
          (s.dev.eccOf w = 1 → w ∈ t.dev.atrFix ∧ t.dev.rd ATC_ERR.CORR = 1 ∧
            t.dev.rd ATC_ECCCNT.CORR = min 0xFFFF (s.dev.rd ATC_ECCCNT.CORR + 1)) ∧
          (s.dev.eccOf w = 2 → t.dev.rd ATC_ERR.UNC = 1 ∧
            t.dev.rd ATC_ECCCNT.UNC = min 0xFFFF (s.dev.rd ATC_ECCCNT.UNC + 1) ∧
            (s.dev.rd ATC_ERR.UNC = 0 → t.dev.rd ATC_ECCADDR.ADDR = 8 * w)) ∧
          Dev.sameRegs [ATC_ERR.addr, ATC_ECCCNT.addr, ATC_ECCADDR.addr] s.dev t.dev)) ∧
      (∀ slot r, bank < 16 → tget (fun _ => []) s.dev.wl.svcSlot (UnitId.atb bank).key = slot :: r →
        s.dev.svcOf (.atb bank) = .outOfService → s.dev.niOpen 0 = true →
        Completes (.atriumBankInitComplete bank) s (fun t =>
          t.dev.svcOf (.atb bank) = s.dev.askedState slot ∧
          (∀ b, t.dev.atrByte b =
            if s.dev.atrOff.testBit bank = true ∧ b / 4096 % 16 = bank then 0#8 else s.dev.atrByte b) ∧
          (∀ b, t.dev.logByte b = s.dev.logByte b)))) ∧
    (s.dev.niOpen init = true →
      (0x10000000 ≤ a → 0 < data.length → data.length ≤ 256 → a + data.length ≤ 0x10100000 →
        let off := a - 0x10000000
        (s.dev.logWriter init = false → exec (.logbookMemoryWrite init a data) s =
          .next { s with dev := { s.dev with resp := .err .source } }) ∧
        (s.dev.logWriter init = true → off % 4 ≠ 0 ∨ data.length % 4 ≠ 0 → exec (.logbookMemoryWrite init a data) s =
          .next { s with dev := { s.dev with resp := .err .target } }) ∧
        (s.dev.logWriter init = true → off % 4 = 0 → data.length % 4 = 0 →
          Completes (.logbookMemoryWrite init a data) s (fun t =>
            t.dev.resp = .ok [] ∧
            (∀ b, t.dev.logByte b =
              if off ≤ b ∧ b < off + data.length ∧ (64 ≤ b ∧ b < 0x44 ∨ 0x1000 ≤ b) then nth 0#8 data (b - off)
              else s.dev.logByte b) ∧
            (∀ b, t.dev.atrByte b = s.dev.atrByte b) ∧ t.dev.priv = s.dev.priv ∧ Dev.sameRegs [] s.dev t.dev))) ∧
      (0x10000000 ≤ a → 0 < len → len ≤ 256 → a + len ≤ 0x10100000 →
        let off := a - 0x10000000
        let bad := ∃ w, off / 4 ≤ w ∧ 4 * w < off + len ∧ tget (fun _ => 0) s.dev.logErr w = 2
        (bad → exec (.logbookMemoryRead init a len) s = .next { s with dev := { s.dev with resp := .err .ecc } }) ∧
        (¬bad → exec (.logbookMemoryRead init a len) s =
          .next { s with dev := { s.dev with
            resp := .ok ((List.range len).map (fun i => s.dev.logByte (off + i))) } })))

/-- The Corridor and the translation of remote accesses. A request that no route entry decodes gets DECODE and the first
one is captured; one that its entry leads to the Atrium is answered there, counted, and its response packet waits in a
slot; Steward private memory answers only initiator 0. A response frees its slot and enters the statistics; a commit
replaces a route entry whole or sets ROUTE; a snapshot copies and restarts the statistics; the trace is cleared; the
generator runs and ends. CWT_INVAL and CWT_BASE drop translations; a remote request without a table or across a page
faults, one with a translation is served by it, one without waits for a walk, whose failure is captured and answered.
Readings: log entries 44, 56, 57 and 74. -/
def Obligations.CorridorRoutesCountsAndTranslates : Prop :=
  ∀ (init a len lat tag errs p l origin hops op va : Nat) (wr twin : Bool) (data : List Byte) (w : Word) (s : State),
    s.dev.faults = [] → s.dev.mode = .run →
    let live := fun (d : Dev) (n : Nat) => nth NiStat.idle d.noc.live n
    let cmd := Instr.corridorRequestDecode ⟨init, origin⟩ wr a len data twin
    let silent := ∀ k, k < 4 → s.dev.rd (NOC_PRBCTL.EN k) = 0
    (s.dev.admits init = false ∨ len = 0 ∨ 256 < len → exec cmd s = .next s) ∧
    (s.dev.admits init = true → 0 < len → len ≤ 256 → silent →
      (s.dev.rtMatch init a = none ∨ (∃ e, s.dev.rtMatch init a = some e ∧ e.lim < (a + len - 1) / 0x1000) → Completes cmd s (fun t =>
        t.dev.resp = .err .decode ∧ t.dev.rd NOC_ERR.DECODE = 1 ∧ s.dev.sameBytes t.dev ∧ t.dev.noc = s.dev.noc ∧
        (s.dev.rd NOC_ERR.DECODE = 0 → t.dev.rd NOC_ERRSRC.SRC = init % 16 ∧ t.dev.rd NOC_ERRADDR.ADDR = a % 2 ^ 32) ∧
        (s.dev.rd NOC_ERR.DECODE = 1 → Dev.sameRegs [] s.dev t.dev) ∧
        Dev.sameRegs [NOC_ERR.addr, NOC_ERRSRC.addr, NOC_ERRADDR.addr] s.dev t.dev)) ∧
      (∀ e, s.dev.rtMatch init a = some e → (a + len - 1) / 0x1000 ≤ e.lim →
        let r := atriumServe s.dev.draw init wr a len (sliceB data 0 len)
        let counted := fun (t : State) =>
          (live t.dev init).out = (live s.dev init).out + 1 ∧
          (live t.dev init).pkts = min (2 ^ 32 - 1) ((live s.dev init).pkts + 1) ∧
          (∃ q, (live t.dev init).slots = (live s.dev init).slots ++ [q] ∧ q.cls = 1 ∧ q.src = init ∧ q.tag < 32 ∧
            q.prio = fld e.ctl 29 28 ∧ q.route = respRoute init (fld e.ctl 23 0) ∧ q.op = !t.dev.resp.good) ∧
          ∀ n, n ≠ init → live t.dev n = live s.dev n
        (a + len ≤ 0x400000 → fld e.ctl 27 24 = 5 → (init = 0 ∨ s.dev.badWindows = []) → Completes cmd s (fun t =>
          t.dev.resp = r.1 ∧ t.dev.atr = r.2.atr ∧ t.dev.regs = r.2.regs ∧ counted t)) ∧
        (a < 0x400000 → (fld e.ctl 27 24 ≠ 5 ∨ 0x400000 < a + len) → Completes cmd s (fun t =>
          t.dev.resp = .err .target ∧ s.dev.sameBytes t.dev ∧ Dev.sameRegs [] s.dev t.dev ∧ counted t)) ∧
        (0x20000000 ≤ a → a + len ≤ 0x20040000 → fld e.ctl 27 24 = 1 →
          let off := a - 0x20000000
          Completes cmd s (fun t =>
            (init ≠ 0 → t.dev.resp = .err .source ∧ s.dev.sameBytes t.dev) ∧
            (init = 0 → wr = false → t.dev.resp = .ok (s.dev.privBytes off len) ∧ s.dev.sameBytes t.dev) ∧
            (init = 0 → wr = true → t.dev.resp = .ok [] ∧ t.dev.atr = s.dev.atr ∧ t.dev.log = s.dev.log ∧
              ∀ b, tget privDflt t.dev.priv b =
                if off ≤ b ∧ b < off + len then nth 0#8 data (b - off) else tget privDflt s.dev.priv b) ∧
            Dev.sameRegs [] s.dev t.dev ∧ counted t)))) ∧
    (∀ q, (live s.dev init).slots.find? (fun q => q.tag == tag) = some q →
      Completes (.corridorResponseSink init lat tag) s (fun t =>
      let x := live t.dev init
      x.out = (live s.dev init).out - 1 ∧ x.slots = (live s.dev init).slots.erase q ∧
      x.bytes = min (2 ^ 32 - 1) ((live s.dev init).bytes + q.moved) ∧
      x.latMax = max (live s.dev init).latMax (min 0xFFFF lat) ∧ x.pkts = (live s.dev init).pkts ∧
      (∀ n, n ≠ init → live t.dev n = live s.dev n) ∧ Dev.sameRegs [] s.dev t.dev ∧ s.dev.sameBytes t.dev)) ∧
    ((∀ q ∈ (live s.dev init).slots, q.tag ≠ tag) → exec (.corridorResponseSink init lat tag) s = .next s) ∧
    (let ni := s.dev.rd NOC_RTSEL.NI
     let ent := s.dev.rd NOC_RTSEL.ENTRY
     let ok := routeOk ni (fld w 27 24) (fld w 23 0) = true ∧ s.dev.rtStage.1 ≤ s.dev.rtStage.2
     Completes (.nocRtctlCommit w) s (fun t =>
      (ok → t.dev.rtEntry ni ent = { base := s.dev.rtStage.1, lim := s.dev.rtStage.2, ctl := w &&& 0xBFFFFFFF#32 } ∧
        t.dev.noc.stage = none ∧ Dev.sameRegs [] s.dev t.dev) ∧
      (¬ok → t.dev.noc = s.dev.noc ∧ t.dev.rd NOC_ERR.ROUTE = 1 ∧ Dev.sameRegs [NOC_ERR.addr] s.dev t.dev) ∧
      (∀ n e, n < 16 → e < 64 → (n ≠ ni ∨ e ≠ ent) → t.dev.rtEntry n e = s.dev.rtEntry n e) ∧ s.dev.sameBytes t.dev)) ∧
    Completes (.nocSnap w) s (fun t =>
      (∀ n, n < 16 → t.dev.rd (NOC_STAT_BYTES.BYTES n) = (live s.dev n).bytes % 2 ^ 32 ∧
        t.dev.rd (NOC_STAT_PKTS.PKTS n) = (live s.dev n).pkts % 2 ^ 32 ∧
        live t.dev n = { NiStat.idle with out := (live s.dev n).out, drop := (live s.dev n).drop, slots := (live s.dev n).slots }) ∧
      s.dev.sameBytes t.dev ∧ t.dev.noc.rt = s.dev.noc.rt) ∧
    Completes (.nocTraceClr w) s (fun t =>
      t.dev.noc = { s.dev.noc with trace := [] } ∧ t.dev.rd NOC_TRSTAT.FULL = 0 ∧
      t.dev.rd NOC_TRCTL.WRAP = bit (w.getLsbD 1) ∧ Dev.sameRegs [NOC_TRCTL.addr, NOC_TRSTAT.addr] s.dev t.dev) ∧
    Completes (.nocTgGo w) s (fun t =>
      t.dev.rd NOC_TGCTL.GO = 1 ∧
      (s.dev.rd NOC_TGCTL.GO = 0 → t.dev.rd NOC_TGCTL.TGT = fld w 27 24 ∧ t.dev.rd NOC_TGCTL.TGCOUNT = fld w 15 0) ∧
      (s.dev.rd NOC_TGCTL.GO = 1 → Dev.sameRegs [] s.dev t.dev) ∧ Dev.sameRegs [NOC_TGCTL.addr] s.dev t.dev) ∧
    (let from_ := s.dev.rd NOC_TGADDR.ADDR
     let count := s.dev.rd NOC_TGCTL.TGCOUNT
     let arrives := ∃ e, s.dev.rtMatch 15 from_ = some e ∧ (from_ + s.dev.rd NOC_TGCTL.TGLEN) / 0x1000 ≤ e.lim ∧
       fld e.ctl 27 24 = s.dev.rd NOC_TGCTL.TGT
     s.dev.rd NOC_TGCTL.GO = 1 → Completes (.tgRunComplete errs) s (fun t =>
      t.dev.rd NOC_TGCTL.GO = 0 ∧ t.dev.rd NOC_TGSTAT.DONE = 1 ∧ s.dev.sameBytes t.dev ∧
      (arrives → t.dev.rd NOC_TGSTAT.ERRS = min 0xFFFF (s.dev.rd NOC_TGSTAT.ERRS + errs)) ∧
      (¬arrives → t.dev.rd NOC_TGSTAT.ERRS = min 0xFFFF (s.dev.rd NOC_TGSTAT.ERRS + 2 * count) ∧
        t.dev.noc.echo = s.dev.noc.echo ∧ (count ≠ 0 → t.dev.rd NOC_ERR.DECODE = 1)))) ∧
    Completes (.cwtInval w) s (fun t =>
      (∀ e, e ∈ t.dev.tlb ↔ e ∈ s.dev.tlb ∧
        (match fld w 1 0 with
         | 0 => False
         | 1 => e.peer ≠ fld w 10 8
         | 2 => ¬(e.peer = fld w 10 8 ∧ e.vpn = fld w 31 12)
         | _ => True)) ∧ Dev.sameRegs [] s.dev t.dev ∧ s.dev.sameBytes t.dev) ∧
    (p < 8 → Completes (.cwtBaseWrite p w) s (fun t =>
      t.dev.ld (CWT_BASE.addr p) = w &&& 0xFFFFE001#32 ∧ (∀ e, e ∈ t.dev.tlb ↔ e ∈ s.dev.tlb ∧ e.peer ≠ p) ∧
      (∀ q r, s.dev.walks = q :: r → t.dev.walks =
        (if q.peer = p ∧ w &&& 0xFFFFE001#32 ≠ s.dev.ld (CWT_BASE.addr p) then { q with stale := true } else q) :: r) ∧
      Dev.sameRegs [CWT_BASE.addr p] s.dev t.dev ∧ s.dev.sameBytes t.dev)) ∧
    (let reply := fun (t : State) (lane peer : Nat) (r : Resp) => (t.dev.lane lane).txq = (s.dev.lane lane).txq ++
       sbBlocks { type := 0x31, origin := s.dev.pos, hops := 0, copy := false, payload := [peer, bit (!r.good)],
                  data := r.bytes }
     let failed := Resp.err .target
     let fault := fun (t : State) (cause level peer v : Nat) (dir : Bool) =>
       t.dev.rd CWT_FAULTCNT.COUNT = min 0xFFFF (s.dev.rd CWT_FAULTCNT.COUNT + 1) ∧
       (s.dev.rd CWT_FAULT.VALID = 0 → t.dev.rd CWT_FAULT.VALID = 1 ∧ t.dev.rd CWT_FAULT.CAUSE = cause ∧
         t.dev.rd CWT_FAULT.LEVEL = level ∧ t.dev.rd CWT_FAULT.PEER = peer % 8 ∧ t.dev.rd CWT_FAULT.WRITE = bit dir ∧
         t.dev.rd CWT_FAULTVA.VA = v % 2 ^ 32) ∧
       (s.dev.rd CWT_FAULT.VALID = 1 → t.dev.ld CWT_FAULT.addr = s.dev.ld CWT_FAULT.addr)
     (l < 4 → s.dev.joined l = true → op < 2 → origin < 8 → 0 < len → len ≤ 256 → va < 2 ^ 32 →
      let req := Instr.sbRaReq l ⟨origin, s.dev.pos, hops⟩ op va len data
      let missing := s.dev.rd (CWT_BASE.EN origin) = 0
      let cross := 4096 < va % 4096 + len
      let known := fun (e : TlbEnt) => e.peer = origin ∧ e.vpn = va / 4096
      (missing ∨ cross → Completes req s (fun t =>
        fault t (if missing then 1 else 2) 0 origin va (op == 1) ∧ reply t l origin failed ∧
        Dev.sameRegs [CWT_FAULT.addr, CWT_FAULTVA.addr, CWT_FAULTCNT.addr] s.dev t.dev ∧ s.dev.sameBytes t.dev)) ∧
      (¬missing → ¬cross → (∀ e ∈ s.dev.tlb, ¬known e) → Completes req s (fun t =>
        t.dev.walks = s.dev.walks ++ [{ lane := l, peer := origin, va := va, len := len, op := op, data := sliceB data 0 len,
                                        base := s.dev.ld (CWT_BASE.addr origin), stale := false }] ∧
        t.dev.rd CWT_TLBCNT.MISS = min 0xFFFF (s.dev.rd CWT_TLBCNT.MISS + 1) ∧ t.dev.lanes = s.dev.lanes ∧
        Dev.sameRegs [CWT_TLBCNT.addr] s.dev t.dev ∧ s.dev.sameBytes t.dev)) ∧
      (∀ e r, ¬missing → ¬cross → s.dev.tlb = e :: r → known e →
        let hit := fun (t : State) => t.dev.rd CWT_TLBCNT.HIT = min 0xFFFF (s.dev.rd CWT_TLBCNT.HIT + 1)
        (e.perm.testBit (if op = 1 then 2 else 1) = false → Completes req s (fun t =>
          fault t 7 2 origin va (op == 1) ∧ reply t l origin failed ∧ hit t ∧ s.dev.sameBytes t.dev)) ∧
        (e.perm.testBit (if op = 1 then 2 else 1) = true → 4096 * e.page < 0x40000000 → s.dev.badWindows = [] →
          let x := corridorAccess (tlbFill (s.dev.bump CWT_TLBCNT.HIT 1) e) (8 + l) (op == 1)
            (4096 * e.page + va % 4096) len (sliceB data 0 len) false origin
          Completes req s (fun t =>
            t.dev.atr = x.2.atr ∧ reply t l origin x.1 ∧ t.dev.tlb = x.2.tlb ∧ t.dev.tlb.head? = some e ∧ hit t)))) ∧
     (∀ q r, s.dev.walks = q :: r → s.dev.badWindows = [] → s.dev.atrUndef = false →
      let x := walkTable { s.dev with walks := r } q.base q.peer q.va
      let next := match r with
        | [] => []
        | q2 :: r2 => { q2 with base := s.dev.ld (CWT_BASE.addr q2.peer), stale := false } :: r2
      Completes .cwtTableWalk s (fun t => match x.1 with
        | .error f => t.dev.walks = next ∧ fault t f.cause f.level q.peer q.va (q.op == 1) ∧
            reply t q.lane q.peer failed ∧ s.dev.sameBytes t.dev
        | .ok e =>
          (e.perm.testBit (if q.op = 1 then 2 else 1) = false →
            t.dev.walks = next ∧ fault t 7 2 q.peer q.va (q.op == 1) ∧ reply t q.lane q.peer failed ∧
            t.dev.tlb = s.dev.tlb ∧ s.dev.sameBytes t.dev) ∧
          (e.perm.testBit (if q.op = 1 then 2 else 1) = true → 4096 * e.page < 0x40000000 →
            let d1 := if q.stale then x.2 else tlbFill x.2 e
            let y := corridorAccess d1 (8 + q.lane) (q.op == 1) (4096 * e.page + q.va % 4096) q.len q.data false q.peer
            t.dev.walks = next ∧ t.dev.tlb = d1.tlb ∧ (q.stale = false → t.dev.tlb.head? = some e) ∧
            t.dev.atr = y.2.atr ∧ reply t q.lane q.peer y.1))) ∧
     (s.dev.walks = [] → exec .cwtTableWalk s = .next s))

/-! The digest engine. -/

/-- The digest engine. Writes of an initiator that does not own a context are refused. START opens a message or a list
job, or waits for a known-answer run; data go into the open message, ORDER and OVERFLOW are refused; LAST and FINISH
give the digest of the bytes written; ABORT ends a job; a list job of one descriptor reads its message, writes its
digest and ends, and one with a bad address fails. The Steward loads and clears key slots 1 to 7 that no message uses,
and the loading registers are then zero; a LEN outside 1 to 64 acts as the nearer limit. The known-answer run passes,
or fails with an integrity fault.
Which message of a list job is in progress is a free value; readings: log entry 65. -/
def Obligations.DigestEngineJobsAndKeys : Prop :=
  ∀ (init c fail : Nat) (data : Word) (s : State), s.dev.faults = [] → s.dev.niOpen init = true → c < 2 →
    let x := s.dev.dctx c
    let mine := c = 1 ∨ init = 0
    let refuses := fun (cmd : Instr) => exec cmd s = .next { s with dev := { s.dev with resp := .err .target } }
    let stat := [DGE_CSTAT.addr c]
    let other := fun (t : State) => t.dev.dctx (1 - c) = s.dev.dctx (1 - c) ∧ t.dev.dge.keys = s.dev.dge.keys ∧
      t.dev.dge.keyld = s.dev.dge.keyld ∧ s.dev.sameBytes t.dev
    let ended := fun (t : State) (cause : Nat) => t.dev.rd (DGE_CSTAT.BUSY c) = 0 ∧ t.dev.rd (DGE_CSTAT.ERR c) = 1 ∧
      t.dev.rd (DGE_CSTAT.CAUSE c) = cause ∧ t.dev.rd (DGE_CSTAT.SPACE c) = 16 ∧ t.dev.dctx c = DgeCtx.idle ∧ other t
    let digested := fun (t : State) (dig : List Byte) =>
      (∀ k, k < 12 → t.dev.ld (DGE_DIG.addr c k) = w32 (leAt dig (4 * k) 4)) ∧ t.dev.rd (DGE_CSTAT.MSGS c) = 1 ∧
      t.dev.rd (DGE_CSTAT.DONE c) = 1 ∧ t.dev.rd (DGE_CSTAT.BUSY c) = 0 ∧ t.dev.rd (DGE_CSTAT.SPACE c) = 16 ∧
      t.dev.dctx c = DgeCtx.idle
    let open_ := x.busy = true ∧ x.list = false ∧ x.lastn ≠ 0
    (¬mine → ∀ cmd ∈ [Instr.dgeStart init c data, .dgeData init c data, .dgeLast init c data, .dgeFinish init c data,
      .dgeAbort init c data], refuses cmd) ∧
    (mine →
      (x.busy = true → refuses (.dgeStart init c data)) ∧
      (let y : DgeCtx := { busy := true, list := !data.getLsbD 4, algo := data.getLsbD 3, keyed := data.getLsbD 2,
                           kslot := fld data 10 8, lastn := fld data 17 16 + 1, msg := [] }
       let bad := y.list = false ∧ y.keyed = true ∧
         ((y.kslot = 0 ∧ (c = 1 ∨ y.algo = true)) ∨ (y.kslot ≠ 0 ∧ nth none s.dev.dge.keys (y.kslot - 1) = none))
       x.busy = false → Completes (.dgeStart init c data) s (fun t =>
        t.dev.resp = .ok [] ∧ Dev.sameRegs stat s.dev t.dev ∧
        (s.dev.dge.kat = false → bad → ended t 5) ∧
        (s.dev.dge.kat = true ∨ ¬bad → t.dev.dctx c = y ∧ t.dev.rd (DGE_CSTAT.BUSY c) = 1 ∧
          t.dev.rd (DGE_CSTAT.MSGS c) = 0 ∧ other t ∧
          t.dev.dge.katWait = s.dev.dge.katWait ++ if s.dev.dge.kat then [(c, data)] else []))) ∧
      (open_ → s.dev.rd (DGE_CSTAT.SPACE c) ≠ 0 →
        Completes (.dgeData init c data) s (fun t =>
          t.dev.resp = .ok [] ∧ t.dev.dctx c = { x with msg := x.msg ++ wordBytes data } ∧
          s.dev.rd (DGE_CSTAT.SPACE c) - 1 ≤ t.dev.rd (DGE_CSTAT.SPACE c) ∧ Dev.sameRegs stat s.dev t.dev ∧ other t) ∧
        (s.dev.waitsKat c = false → Completes (.dgeLast init c data) s (fun t =>
          t.dev.resp = .ok [] ∧
          digested t (s.dev.digestOf x.algo x.keyed x.kslot (x.msg ++ (wordBytes data).take x.lastn)) ∧
          Dev.sameRegs (stat ++ (List.range 12).map (DGE_DIG.addr c)) s.dev t.dev ∧ other t))) ∧
      (open_ → s.dev.rd (DGE_CSTAT.SPACE c) = 0 → ∀ cmd ∈ [Instr.dgeData init c data, .dgeLast init c data],
        Completes cmd s (fun t => t.dev.resp = .err .target ∧ ended t 6 ∧ Dev.sameRegs stat s.dev t.dev)) ∧
      (¬open_ → ∀ cmd ∈ [Instr.dgeData init c data, .dgeLast init c data], Completes cmd s (fun t =>
        t.dev.resp = .err .target ∧ t.dev.rd (DGE_CSTAT.ERR c) = 1 ∧ t.dev.rd (DGE_CSTAT.CAUSE c) = 7 ∧
        t.dev.dge = s.dev.dge ∧ Dev.sameRegs stat s.dev t.dev ∧ s.dev.sameBytes t.dev)) ∧
      (open_ → s.dev.waitsKat c = false → Completes (.dgeFinish init c data) s (fun t =>
        t.dev.resp = .ok [] ∧ digested t (s.dev.digestOf x.algo x.keyed x.kslot x.msg) ∧
        Dev.sameRegs (stat ++ (List.range 12).map (DGE_DIG.addr c)) s.dev t.dev ∧ other t)) ∧
      (¬open_ → exec (.dgeFinish init c data) s = .next { s with dev := { s.dev with resp := .ok [] } }) ∧
      (x.busy = true → Completes (.dgeAbort init c data) s (fun t =>
        t.dev.resp = .ok [] ∧ ended t 8 ∧ Dev.sameRegs stat s.dev t.dev)) ∧
      (x.busy = false → exec (.dgeAbort init c data) s = .next { s with dev := { s.dev with resp := .ok [] } })) ∧
    (let a := s.dev.rd (DGE_LIST.ADDR c)
     let res := s.dev.rd (DGE_RES.ADDR c)
     x.busy = true → x.list = true → s.dev.waitsKat c = false → s.dev.niOpen 4 = true →
      (res % 64 ≠ 0 ∨ a % 16 ≠ 0 ∨ 0x400000 < a + 16 → Completes (.dgeListJobComplete c) s (fun t =>
        ended t 3 ∧ t.dev.rd (DGE_ERRDESC.ADDR c) = a ∧ Dev.sameRegs (DGE_ERRDESC.addr c :: stat) s.dev t.dev)) ∧
      (∀ bs msg d1 d2 d3, res % 64 = 0 → a % 16 = 0 → a + 16 ≤ 0x400000 →
        atriumAccess s.dev 4 false a 16 [] = (.ok bs, d1) →
        let e : DgeDesc := { addr := leAt bs 0 4, len := leAt bs 4 4, flags := leAt bs 8 4, next := leAt bs 12 4 }
        let algo := e.flags.testBit 3
        let keyed := e.flags.testBit 1
        let slot := e.flags / 16
        e.len ≤ 0x400000 → e.addr + e.len ≤ 0x400000 → e.flags < 128 → e.flags.testBit 0 = true →
        e.flags.testBit 2 = false → e.next = 0 → d1.keyBad c algo keyed slot = false →
        dgeFetch 16385 d1 e.addr e.len = (.ok msg, d2) →
        let dig := s.dev.digestOf algo keyed slot msg
        s.dev.rd (DGE_CSTAT.MSGS c) = 0 → atriumAccess d2 4 true res dig.length dig = (.ok [], d3) →
        s.dev.badWindows = [] →
        Completes (.dgeListJobComplete c) s (fun t => digested t dig ∧ t.dev.atr = d3.atr))) ∧
    (x.busy = false ∨ x.list = false → exec (.dgeListJobComplete c) s = .next s) ∧
    (let slot := fld data 18 16
     let used := init ≠ 0 ∨ slot = 0 ∨ s.dev.slotInUse 0 = some slot ∨ s.dev.slotInUse 1 = some slot
     let n := max 1 (min 64 (fld data 6 0))
     let turnedAway := fun (cmd : Instr) =>
       exec cmd s = .next { s with dev := { s.dev.draw with resp := .err .target } }
     let held := fun (t : State) (k : Option (List Byte)) =>
       t.dev.resp = .ok [] ∧ nth none t.dev.dge.keys (slot - 1) = k ∧
       (∀ j, j ≠ slot - 1 → nth none t.dev.dge.keys j = nth none s.dev.dge.keys j) ∧
       (∀ j, nth 0#32 t.dev.dge.keyld j = 0#32) ∧
       (∀ j, j < 8 → (t.dev.rd DGE_KEYSTAT.LOADED).testBit j =
         if j = slot then k.isSome else (s.dev.rd DGE_KEYSTAT.LOADED).testBit j) ∧
       Dev.sameRegs [DGE_KEYSTAT.addr] s.dev t.dev ∧ s.dev.sameBytes t.dev
     (used → turnedAway (.dgeKeyLoad init data)) ∧
     (¬used → Completes (.dgeKeyLoad init data) s (fun t =>
       held t (some ((s.dev.dge.keyld.flatMap wordBytes).take n)))) ∧
     (used → turnedAway (.dgeKeyZero init data)) ∧
     (¬used → Completes (.dgeKeyZero init data) s (fun t => held t none))) ∧
    (init ≠ 0 → refuses (.dgeKatGo init data)) ∧
    (init = 0 → Completes (.dgeKatGo init data) s (fun t =>
      t.dev.resp = .ok [] ∧ t.dev.rd DGE_KAT.GO = 1 ∧ t.dev.dge = { s.dev.dge with kat := true } ∧
      (data.getLsbD 0 = true → t.dev.rd DGE_KAT.PASS = 0) ∧ (data.getLsbD 1 = true → t.dev.rd DGE_KAT.FAIL = 0) ∧
      Dev.sameRegs [DGE_KAT.addr] s.dev t.dev ∧ s.dev.sameBytes t.dev)) ∧
    (s.dev.dge.kat = true → s.dev.dge.katWait = [] →
      (∀ k, k < 2 → (s.dev.dctx k).busy = false) →
        Completes (.dgeKatComplete 0) s (fun t =>
          t.dev.rd DGE_KAT.GO = 0 ∧ t.dev.rd DGE_KAT.PASS = 1 ∧ t.dev.dge.kat = false ∧
          Dev.sameRegs [DGE_KAT.addr] s.dev t.dev ∧ s.dev.sameBytes t.dev) ∧
        (0 < fail → fail < 6 → s.dev.calm → Completes (.dgeKatComplete fail) s (fun t =>
          t.dev.rd DGE_KAT.GO = 0 ∧ t.dev.rd DGE_KAT.FAIL = 1 ∧ t.dev.rd DGE_KAT.TEST = fail ∧
          t.dev.rd BAL_INTCAUSE.LAST = 0x40 ∧ t.dev.rd SYS_INTEG.COUNT = s.dev.rd SYS_INTEG.COUNT + 1 ∧
          (fail = 5 → t.dev.wl.noSeals = true) ∧ s.dev.sameBytes t.dev))) ∧
    ((∃ k, k < 2 ∧ (s.dev.dctx k).busy = true ∧ s.dev.waitsKat k = false) → exec (.dgeKatComplete fail) s = .next s)
end

