-- ==== Sys2Proof/Tests/Slice0.lean ====
section
/-!
SUPPORT. Small tests, each one evaluation on a small state: witnesses that the hypotheses of every statement can be met, an
ill-formed term for each check of WellFormed, and check values and worked cases of the manual.
-/

namespace Sys2Proof.Tests

open Machine

set_option Elab.async false

/-! Small states. `run0` is the device after reset put into RUN; `st` makes a state of a device. -/

def run0 : Dev := { Dev.init with mode := .run }
def limp0 : Dev := { Dev.init with mode := .limp }
def st (d : Dev) : State := { dev := d, pending := [] }
/-- The device that a command leaves. -/
def after (c : Instr) (d : Dev) : Dev := match exec c (st d) with | .next t => t.dev | _ => d

/-! Witnesses: for every statement with hypotheses, states and operands that meet them, clause by clause, at a boundary of
their ranges where they have one. -/

theorem test_wit_StepRunsFrontCommand :
    let s : State := { dev := run0, pending := [.nocSnap 0, .sysRstreq 0 1] }
    s.pending = .nocSnap 0 :: [.sysRstreq 0 1] := by decide +kernel

theorem test_wit_EveryStepTakesItsFaults :
    let s : State := { dev := run0, pending := [.registerWrite ⟨0, 0⟩ SYS_RSTCAUSE.addr 1 false 0] }
    s.settled ∧ ∃ t, step s = .next t := ⟨by simp [State.settled, run0, Dev.init], _, rfl⟩

theorem test_wit_GalleryWordsRoundTrip :
    galEncode (.galAdd 7 0x20 0x10 8) = some 0x3107002000100008#64 ∧
    galEncode (.galShift 7 0x20 0x10 8 none) = some 0x5007002000100008#64 := by decide +kernel

theorem test_wit_RegisterWriteClearsFlags : run0.faults = [] ∧ run0.niOpen 15 = true := by decide +kernel

theorem test_wit_RegisterAccessesWithoutEffect :
    run0.faults = [] ∧ run0.niOpen 0 = true ∧ 0x40000001 % 4 ≠ 0 ∧
    BAL_STATE.addr ∈ [SYS_DEVID.addr, SYS_REV.addr, SYS_MODE.addr, SYS_STRAP.addr, SYS_VER_BOOT.addr, SYS_VER_WL.addr,
          SYS_SVCSUM.addr, EVQ_STAT.addr, BAL_STATE.addr] := by decide +kernel

theorem test_wit_ReadClearCounterRestarts : run0.faults = [] ∧ run0.niOpen 1 = true := by decide +kernel

theorem test_wit_TwinPairTakesEffectOrExpires :
    let p : TwinPend := { addr := SYS_INTEG.addr, data := 0x2000#32, at_ := 0 }
    let d : Dev := { run0 with twin := [p], now := 64 }
    (run0.faults = [] ∧ run0.niOpen 0 = true ∧ run0.pendOf 0 = none) ∧
    (d.faults = [] ∧ d.niOpen 0 = true ∧ d.pendOf 0 = some p ∧ p.addr = SYS_INTEG.addr ∧ d.now ≤ p.at_ + 64 ∧
      0xDF00#32 &&& 0xFF00#32 = ~~~p.data &&& 0xFF00#32) ∧
    d.calm := by simp only [Dev.calm, Dev.quiet]; decide +kernel

theorem test_wit_ScrubPassAndDecayCount :
    run0.faults = [] ∧ run0.coreOn = true ∧ run0.mode ≠ .landing ∧ run0.badTwins = [] := by decide +kernel

theorem test_wit_ResetSourcesRestartInBoot :
    let rest : Dev := { Dev.init with mode := .resting }
    let land : Dev := { Dev.init with mode := .landing }
    run0.mode ≠ .landing ∧ run0.mode ≠ .resting ∧ run0.faults = [] ∧ fld 0xA5000001#32 31 24 = 0xA5 ∧
    (0xA5000001#32).getLsbD 0 = true ∧ ¬(fld 0xA5000000#32 31 24 = 0xA5 ∧ (0xA5000000#32).getLsbD 0 = true) ∧
    rest.faults = [] ∧ rest.mode = .resting ∧ rest.aonOn = true ∧
    land.faults = [] ∧ land.mode = .landing := by decide +kernel

theorem test_wit_BootSequenceReachesRun :
    let b5 := Dev.init.wr SYS_BOOTSTAT.STEP 5
    let b8 := { Dev.init with pins := { Dev.init.pins with vhold := 20000 } }.wr SYS_BOOTSTAT.STEP 8
    (Dev.init.quiet ∧ Dev.init.mode = .boot ∧ Dev.init.rd SYS_BOOTSTAT.STEP ≤ 1) ∧
    (b5.quiet ∧ b5.mode = .boot ∧ b5.rd SYS_BOOTSTAT.STEP = 5 ∧ b5.rd SYS_LIMP.REASON = 0 ∧ b5.niOpen 1 = true ∧
      (1#32).getLsbD 0 = true) ∧
    (b8.quiet ∧ b8.mode = .boot ∧ b8.rd SYS_BOOTSTAT.STEP = 8 ∧ b8.vready = true ∧ b8.wl.logStop = false) := by
  simp only [Dev.quiet]; decide +kernel

theorem test_wit_LimpEntryRecordsCause :
    let b8 := Dev.init.wr SYS_BOOTSTAT.STEP 8
    (run0.quiet ∧ run0.mode = .run ∧ run0.rd SYS_LIMP.REASON = 0) ∧ (limp0.quiet ∧ limp0.mode = .limp) ∧
    (b8.quiet ∧ b8.mode = .boot ∧ b8.rd SYS_BOOTSTAT.STEP = 8 ∧ b8.vready = false ∧ b8.rd SYS_LIMP.REASON = 0) := by
  simp only [Dev.quiet]; decide +kernel

theorem test_wit_LimpClearKeepsNewCause :
    run0.faults = [] ∧ run0.niOpen 0 = true ∧ run0.mode = .run ∧ (0x200#32).getLsbD 9 = true ∧ (0x100#32).getLsbD 9 = false ∧
    limp0.faults = [] ∧ limp0.niOpen 0 = true ∧ limp0.mode = .limp := by decide +kernel

theorem test_wit_DozeEntryAndWake :
    let e : Dev := { run0 with wl := { run0.wl with dozeWait := some 0x3F }, holders := [(63, 4), (0, 3)] }
    let z : Dev := { run0 with mode := .doze, wl := { run0.wl with wakeHeld := true, copies := [some PBank.empty, none] } }
    let z := z.wr GSQ_BANK.NONE 0
    (e.quiet ∧ e.mode = .run ∧ e.wl.dozeWait = some 0x3F ∧ e.inFrame = false ∧ (∀ l, l < 4 → e.lstate l = 0) ∧
      (e.holder 63 = 3 ∨ e.holder 63 = 4)) ∧
    (z.quiet ∧ z.mode = .doze ∧ z.wl.wakeHeld = true ∧ z.wl.laneIn = [false, false, false, false] ∧
      z.on GSQ_BANK.NONE = false ∧ nth none z.wl.copies (z.rd GSQ_BANK.ACTIVE) = some PBank.empty) := by
  simp only [Dev.quiet]; decide +kernel

theorem test_wit_StewardResetOrphansLocks :
    let d : Dev := { run0 with holders := [(63, 1)] }
    d.quiet ∧ d.mode ≠ .landing ∧ d.mode ≠ .resting ∧ d.holder 63 = 1 := by simp only [Dev.quiet]; decide +kernel

theorem test_wit_SupplyMonitorsShow :
    let land : Dev := { run0 with mode := .landing }
    let chg := run0.wr PSV_STAT.CHGON 1
    (run0.quiet ∧ run0.coreOn = true ∧ run0.rd PSV_STAT.IOWARN = 0 ∧ run0.mode = .run) ∧
    (land.quiet ∧ land.coreOn = true ∧ land.mode = .landing) ∧
    (chg.quiet ∧ chg.coreOn = true ∧ chg.on PSV_STAT.CHGON = true) := by simp only [Dev.quiet]; decide +kernel

theorem test_wit_CoreSupplyFaultRaisesIntegrity :
    run0.calm ∧ run0.mode ≠ .landing ∧ run0.mode ≠ .resting ∧ run0.galOn = true ∧ (709 < 710 ∨ 790 < 709) ∧
    (791 < 710 ∨ 790 < 791) := by simp only [Dev.calm, Dev.quiet]; decide +kernel

theorem test_wit_LandingSavesAndRests :
    let land := { run0 with mode := .landing }.wr PSV_SAVESTAT.STATUS 0x40000000
    let rest : Dev := { run0 with mode := .resting }
    (run0.quiet ∧ run0.mode ≠ .landing ∧ run0.mode ≠ .resting ∧ run0.mode ≠ .boot) ∧
    (land.quiet ∧ land.mode = .landing ∧ land.rd PSV_SAVESTAT.STATUS / 2 ^ 28 = 4) ∧
    (rest.quiet ∧ rest.mode = .resting) := by simp only [Dev.quiet]; decide +kernel

theorem test_wit_PioOutputsFollowWrites : run0.faults = [] ∧ run0.niOpen 0 = true ∧ 3 < 4 ∧ 15 < 16 := by decide +kernel

theorem test_wit_PinLinesPulseAndWake :
    let z := ({ run0 with mode := .doze }.wr (PIO_PINTCFG.WAKE 15) 1).wr (PIO_PINTCFG.MODE 15) 5
    (run0.faults = [] ∧ run0.coreOn = true ∧ 15 < 16) ∧
    (z.faults = [] ∧ z.coreOn = true ∧ z.mode = .doze ∧ z.wakeLines 0x8000 ≠ 0) := by decide +kernel

theorem test_wit_TapInstructionsShift :
    let t := Dev.init.wr SYS_STRAP.BOOTSEL 1
    (t.faults = [] ∧ t.mode = .boot ∧ t.rd SYS_STRAP.BOOTSEL = 1) ∧
    (run0.faults = [] ∧ ¬(run0.mode = .boot ∧ run0.rd SYS_STRAP.BOOTSEL = 1)) := by decide +kernel

theorem test_wit_InspectionPortIsReadOnly : run0.faults = [] ∧ run0.aonOn = true ∧ run0.coreOn = true := by decide +kernel

/-- A CRIT event, and one of a block no rule of the model logs. -/
def crit : Ev := { seq := 1, block := 0x0E, code := 1, gap := false, crit := true, time := 0, d0 := 0, d1 := 0 }
def dull : Ev := { crit with seq := 0, block := 0x3F, crit := false }

theorem test_wit_LogRecordsAndSeals :
    let c := run0.wr IPT_COUNT.COUNT 1
    let e : Dev := { run0 with evq := [dull, crit] }
    let o : Dev := { run0 with wl := { run0.wl with logOpen := 1 } }
    (c.quiet ∧ c.mode = .run ∧ c.rd IPT_COUNT.COUNT ≠ c.wl.iptSeen) ∧
    (e.quiet ∧ e.mode = .run ∧ e.wl.logStop = false ∧ e.evq = [dull] ++ crit :: [] ∧
      (∀ x ∈ [dull], e.selects x = false) ∧ e.selects crit = true ∧ crit.block ≠ 0x80) ∧
    (o.quiet ∧ o.mode = .run ∧ o.canSeal = true) := by simp only [Dev.quiet]; decide +kernel

/-- Source 111, a pulse source, is enabled at priority 15 for the host and pending. -/
def pend111 : Dev :=
  ((run0.put (ICU_EN.addr 3) 0x8000#32).put (ICU_PEND.addr 3) 0x8000#32).put (ICU_CFG.addr 27) 0x1F000000#32

theorem test_wit_ClaimReturnsHighestPriority :
    (run0.faults = [] ∧ run0.niOpen (bit true) = true ∧ ∀ m, m < 112 → run0.delivered true m = false) ∧
    (pend111.faults = [] ∧ pend111.niOpen (bit true) = true ∧ 111 < 112 ∧ pend111.delivered true 111 = true ∧
      (∀ m, m < 112 → pend111.delivered true m = true →
        pend111.srcPrio m < pend111.srcPrio 111 ∨ (pend111.srcPrio m = pend111.srcPrio 111 ∧ 111 ≤ m)) ∧
      pend111.srcPulse 111 = true) := by decide +kernel

theorem test_wit_EoiCompletesActiveSource :
    let d := pend111.put (ICU_ACT.addr 3) 0x8000#32
    (d.faults = [] ∧ d.niOpen (bit true) = true ∧ 111 < 112 ∧ d.srcAct 111 = true ∧ d.srcHost 111 = true ∧
      d.srcPulse 111 = true ∧ srcReserved 111 = false) ∧
    ¬(111 < 112 ∧ run0.srcAct 111 = true ∧ run0.srcHost 111 = true) := by decide +kernel

theorem test_wit_PendAndCfgWrites :
    run0.faults = [] ∧ run0.niOpen 0 = true ∧ 5 < 6 ∧ 31 < 32 ∧ 27 < 28 ∧ 3 < 4 ∧ srcReserved (4 * 27 + 3) = false := by
  decide +kernel

theorem test_wit_EvqPostAndPopByStewardOnly : run0.quiet ∧ run0.niOpen 0 = true ∧ 15 ≠ 0 := by
  simp only [Dev.quiet]; decide +kernel

theorem test_wit_NewelAcquireGrantsFreeLock :
    let d : Dev := { run0 with holders := [(63, 15)] }
    d.faults = [] ∧ d.niOpen 1 = true ∧ 63 < 64 ∧ nwlHolder 1 0 = some 2 ∧ d.holder 62 = 0 ∧ d.holder 63 = 15 := by
  decide +kernel

theorem test_wit_NewelReleaseForceAndOrphanClear :
    let d : Dev := { run0 with holders := [(63, 2)] }
    (d.faults = [] ∧ d.niOpen 1 = true ∧ nwlHolder 1 0 = some 2 ∧ 63 < 64 ∧ (0#32).getLsbD 0 = false ∧ (1#32).getLsbD 0 = true ∧ d.holder 63 = 2 ∧
      d.holder 62 ≠ 2 ∧ 1 < 2 ∧ 31 < 32) ∧
    (fld 63#32 5 0 = 63 ∧ d.holder 63 ≠ 0 ∧ d.quiet ∧ fld 62#32 5 0 = 62 ∧ d.holder 62 = 0 ∧ 1 ≠ 0) := by
  simp only [Dev.quiet]; decide +kernel

theorem test_wit_ChannelsTripReleaseAndToggle :
    let h := run0.wr BAL_STATE.TRIPPED 0x7FFF
    (run0.quiet ∧ run0.niOpen 0 = true ∧ 15 < 16 ∧ (0x8000#32).getLsbD 15 = true ∧ run0.mode ≠ .limp ∧
      run0.mode ≠ .landing ∧ run0.pendOf 9 = none ∧ run0.releasable 0 15 = true) ∧
    (h.quiet ∧ (h.rd BAL_STATE.TRIPPED).testBit 15 = false ∧ h.bal.clkLost = false ∧ h.chanTwinOk 15 = true) ∧
    (limp0.quiet ∧ limp0.niOpen 0 = true ∧ limp0.mode = .limp) := by simp only [Dev.quiet]; decide +kernel

theorem test_wit_WatchdogsKickWarnAndExpire :
    let w := run0.putTwin BAL_HWD.addr 1#32
    (run0.quiet ∧ run0.mode = .run ∧ 15 < 16 ∧ run0.rd BAL_WDSTAT.SNEXT = 0 ∧ run0.rd BAL_WDSTAT.HNEXT = 0 ∧
      run0.twinOk BAL_FWD.addr = true ∧ run0.twinOk BAL_SWD.addr = true ∧ run0.bal.swdHalf = false) ∧
    (w.quiet ∧ w.mode = .run ∧ w.acts BAL_HWD.TO ≠ 0 ∧ w.twinOk BAL_HWD.addr = true ∧ w.bal.hwdHalf = false) := by
  simp only [Dev.quiet]; decide +kernel

theorem test_wit_ClockReadbackAndLockstepFaults :
    let c := { run0 with bal := { run0.bal with clkLost := true } }
    (run0.calm ∧ run0.coreOn = true ∧ 15 < 16 ∧ run0.pinsSafe ∧
      (∀ j, j < 32 → (0#32).getLsbD j = run0.driven j) ∧
      15 = 31 / 2 ∧ (∀ j, j < 32 → (0x80000000#32).getLsbD j = (decide (j = 31) || run0.driven j)) ∧
      (run0.rd BAL_STATE.TRIPPED).testBit 15 = true) ∧
    (c.calm ∧ c.coreOn = true ∧ c.bal.clkLost = true ∧ c.rd BAL_STATE.TRIPPED = 0xFFFF) ∧
    (limp0.calm ∧ limp0.coreOn = true ∧ limp0.mode = .limp) := by
  simp only [Dev.calm, Dev.quiet, Dev.pinsSafe]; decide +kernel

theorem test_wit_HostLinkSliceTransactions :
    let z : Dev := { run0 with mode := .doze }
    let c := run0.setHl (fun h => { h with cfg := 0x802#32 })
    (run0.faults = [] ∧ run0.mode ≠ .resting ∧ run0.mode ≠ .doze ∧ run0.wl.dozeWait = none ∧ 255 < 256 ∧
      1 ≤ (List.replicate 16 0#8).length ∧ (List.replicate 16 0#8).length ≤ 16 ∧
      (0xFE#8).toNat ∉ [0x02, 0x0B, 0x0C, 0x05, 0x9E, 0x31, 0x35, 0xFF]) ∧
    (z.faults = [] ∧ z.mode ≠ .resting ∧ z.mode = .doze) ∧
    (c.faults = [] ∧ c.mode ≠ .resting ∧ c.hl.cfg.getLsbD 1 = true ∧
      0#8 ≠ b8 (crc8 (0x31#8 :: 0#8 :: beBytes 4 0x2000))) := by decide +kernel

theorem test_wit_HostLinkResetKeepsWrites :
    let d := { run0 with holders := [(63, 2)] }.setHl (fun h => { h with cfg := 0x802#32, held := some (.ok []) })
    d.quiet ∧ d.mode ≠ .resting ∧ d.hl.cfg.getLsbD 1 = true ∧ (∀ b ∈ List.replicate 16 0xFF#8, b = 0xFF#8) ∧
    d.holder 63 = 2 ∧ d.holder 62 ≠ 2 ∧ d.hl.held.isSome = true ∧ d.hl.returned = false ∧ 0#8 ≠ 0xFF#8 ∧
    0#8 ≠ b8 (crc8 (List.replicate 17 0xFF#8)) := by
  simp only [Dev.quiet]; decide +kernel

theorem test_wit_HostLinkBridgesWritesAndReads :
    let hl := fun (f : HostLink → HostLink) => run0.setHl f
    let full := hl (fun h => { h with wq := [(0, [0#32]), (4, [0#32])], wfly := [none, some 8] })
    let priv := hl (fun h => { h with wq := [(0x2FFFFFFC, [0#32])] })
    let hold := hl (fun h => { h with wq := [(0x40004000, [0#32])], wkeep := [[0#32]] })
    let pair := hl (fun h => { h with wq := [(0x40004000, [0#32, 1#32])], wkeep := [[1#32, 0#32]] })
    let mixed := hl (fun h =>
      { h with wq := [(4, [0#32])], wfly := [none], rdWait := some (0x40000000, 1), rdBefore := 2 })
    let stuck := hl (fun h =>
      { h with wq := [(4, [0#32])], wfly := [none], rdWait := some (0x40000000, 1), rdBefore := 1 })
    let fly := hl (fun h => { h with rdFly := some (.ok []) })
    let gone := hl (fun h => { h with rdDrop := 1 })
    let kept := hl (fun h => { h with held := some (.ok []), returned := true })
    let wait := hl (fun h => { h with rdWait := some (0x40000000, 1) })
    (run0.faults = [] ∧ run0.mode ≠ .resting ∧ run0.mode ≠ .landing ∧ 0xFFFFFFFC < 2 ^ 32 ∧ 0xFFFFFFFC % 4 = 0 ∧
      1 ≤ (List.replicate 64 0#32).length ∧ (List.replicate 64 0#32).length ≤ 64 ∧
      run0.hl.wq.length + run0.hl.wfly.length < 4) ∧
    (full.faults = [] ∧ full.mode = .run ∧ 4 ≤ full.hl.wq.length + full.hl.wfly.length ∧
      full.hl.wfly = none :: [some 8] ∧ full.hl.rdWait = none ∧ full.hl.rdFly = none ∧ full.hl.rdBefore - 1 = 0 ∧
      1 ≤ full.hl.wq.length + full.hl.wfly.length) ∧
    (priv.faults = [] ∧ priv.mode = .run ∧ priv.hl.wq = (0x2FFFFFFC, [0#32]) :: [] ∧ priv.hl.rdWait = none ∧
      priv.noc.rt = [] ∧ 0x20000000 ≤ 0x2FFFFFFC ∧ 0x2FFFFFFC < 0x30000000 ∧ inDevice 0x2FFFFFFC = false) ∧
    (hold.faults = [] ∧ hold.hl.wq = (0x40004000, [0#32]) :: [] ∧ inDevice 0x40004000 = true ∧
      nth 0#32 (nth [] hold.hl.wkeep 0) 0 = 0#32) ∧
    (pair.faults = [] ∧ pair.hl.wq = (0x40004000, [0#32, 1#32]) :: []) ∧
    (mixed.faults = [] ∧ mixed.hl.wq = (4, [0#32]) :: [] ∧ mixed.hl.wfly.length < mixed.hl.rdBefore ∧
      mixed.hl.rdWait.isSome = true ∧ mixed.hl.rdBefore ≠ 0) ∧
    (stuck.faults = [] ∧ stuck.hl.rdWait.isSome = true ∧ stuck.hl.rdBefore ≤ stuck.hl.wfly.length) ∧
    (run0.hl.rdDrop = 0 ∧ inDevice 0x40000000 = true ∧
      (let d := run0.setHl (fun h => { h with rdWait := some (0x40000000, 1), rdBefore := 0 })
       let r := corridorAccess d 1 false 0x40000000 4 [] false 0
       r.2.faults = [] ∧ r.2.hl = d.hl)) ∧
    (fly.faults = [] ∧ fly.mode = .run ∧ fly.hl.rdFly = some (.ok []) ∧ fly.hl.rdDrop = 0 ∧ fly.hl.held = none) ∧
    (gone.faults = [] ∧ gone.hl.rdDrop ≠ 0) ∧ (kept.faults = [] ∧ kept.hl.held = some (.ok [])) ∧
    (wait.faults = [] ∧ wait.mode = .run ∧ wait.hl.rdWait = some (0x40000000, 1) ∧ wait.hl.rdBefore = 0 ∧
      wait.hl.rdFly = none ∧ wait.hl.held = none) ∧
    (run0.hl.held = none ∧ run0.hl.rdWait = none ∧ run0.hl.rdFly = none) := by and_intros <;> decide +kernel

/-- A device whose Wailith serves in RUN, with the words of a command in slot 3, which is BUSY. -/
def busy (ws : List Word) : Dev :=
  let d : Dev := { run0 with
    vst := { run0.vst with st := [0, 0, 0, 2] }, wl := { run0.wl with logOff := 0x1000 }, atrUndef := false }
  ws.zipIdx.foldl (fun d e => d.put (VST_CMD.addr (192 + e.2)) e.1) (d.wr VST_FWSTAT.SERVER 1)

theorem test_wit_SlotsPostTakeAndFree :
    let d := busy [0x01#32]
    let r (w : Word) : Dev := { busy [w] with vst := { run0.vst with st := [0, 0, 2, 1], order := [3] } }
    let e := (r 0x01#32).put (VST_CMD.addr 128) 0x20#32
    (d.faults = [] ∧ d.coreOn = true ∧ d.mode ≠ .landing ∧ 3 < 4 ∧ 63 < 64 ∧ d.slot 2 = 0 ∧ d.slot 3 ≠ 0) ∧
    (e.faults = [] ∧ e.coreOn = true ∧ e.mode ≠ .landing ∧ e.rd VST_FWSTAT.SERVER ≠ 0 ∧ e.wl.dozeWait = none ∧
      e.vst.order = 3 :: [] ∧ (∀ k, k < 4 → e.slot k = 2 → vstDeferred (e.cmdOp k) = true) ∧ e.headerStatus 3 = none) ∧
    ((r 0#32).put (VST_CMD.addr 128) 0x20#32).headerStatus 3 = some 2 ∧
    (busy [0x0213#32, 12#32]).headerStatus 3 = some 4 ∧ (busy [0x0213#32, 12#32]).cmdOp 3 = 0x13 := by decide +kernel

theorem test_wit_ReportingCommandsAnswer :
    let d := fun ws => busy ws
    let l : Dev := { busy [0x52#32] with wl := { run0.wl with logOff := 0x1000, logSealed := some 7 } }
    ((d []).faults = [] ∧ (d []).coreOn = true) ∧ (d [0x01#32]).serves 3 0x01 ∧ (d [0x02#32]).serves 3 0x02 ∧
    (d [0x21#32]).serves 3 0x21 ∧ (d [0x14#32]).serves 3 0x14 ∧ (l.serves 3 0x52 ∧ l.wl.logSealed = some 7) ∧
    (let g := d [0x41#32, 12#32, 0x100#32, 0#32, 0x168#32]
     g.serves 3 0x41 ∧ g.cmdBytes 3 8 8 = 0#8 :: 1#8 :: List.replicate 6 0#8 ∧ g.cmdAt 3 16 4 = 0x168) ∧
    (let g := d [0x41#32, 12#32, 0x100#32, 0#32, 0x160#32]
     g.serves 3 0x41 ∧ g.cmdBytes 3 8 8 = 0#8 :: 1#8 :: List.replicate 6 0#8 ∧ g.cmdAt 3 16 4 = 0x160) := by
  simp only [Dev.serves]; and_intros <;> decide +kernel

theorem test_wit_ModeTripAndLogCommandsAct :
    let d := fun ws => busy ws
    let dr : Dev := (d [0x05#32, 8#32]).setSvc (.bank 0) .draining
    let o : Dev := { d [0x51#32] with wl := { run0.wl with logOpen := 1 } }
    ((d []).quiet ∧ (d []).mode = .run ∧ 15 < 16) ∧
    ((d [0x03#32, 1#32, 0xA5#32]).serves 3 0x03 ∧ (d [0x03#32, 1#32, 0xA5#32]).cmdAt 3 8 1 = 0xA5) ∧
    ((d [0x03#32, 1#32, 0xA4#32]).serves 3 0x03 ∧ (d [0x03#32, 1#32, 0xA4#32]).cmdAt 3 8 1 ≠ 0xA5) ∧
    ((d [0x04#32]).serves 3 0x04 ∧ (d [0x04#32]).rd SYS_LIMP.REASON = 0) ∧
    ((d [0x05#32, 8#32]).serves 3 0x05 ∧ (d [0x05#32, 8#32]).cmdAt 3 14 2 = 0 ∧ (d [0x05#32, 8#32]).dozeOk = true) ∧
    (dr.serves 3 0x05 ∧ dr.cmdAt 3 14 2 = 0 ∧ dr.dozeOk = false) ∧
    ((d [0x30#32, 4#32, 0x7FFF8000#32]).serves 3 0x30 ∧ (d [0x30#32, 4#32, 0x7FFF8000#32]).maskOk 3 = true) ∧
    ((d [0x30#32, 4#32, 0xFFFF0000#32]).serves 3 0x30 ∧ (d [0x30#32, 4#32, 0xFFFF0000#32]).maskOk 3 = false) ∧
    ((d [0x31#32, 4#32, 0x7FFF8000#32]).serves 3 0x31 ∧ (d [0x31#32, 4#32, 0x7FFF8000#32]).maskOk 3 = true ∧
      (d [0x31#32, 4#32, 0x7FFF8000#32]).pendOf 9 = none) ∧
    (d [0x50#32]).serves 3 0x50 ∧ (o.serves 3 0x51 ∧ o.canSeal = true) := by
  simp only [Dev.serves, Dev.quiet]; and_intros <;> decide +kernel

theorem test_wit_ServiceCommandsStartAndFinish :
    let d := fun ws => busy ws
    let dr := { run0 with wl := { run0.wl with svcSlot := [(0x40F, [3])] } }.setSvc (.atb 15) .draining
    let db := run0.setSvc (.bank 5) .draining
    ((d []).quiet ∧ (d []).mode = .run ∧ unitOf 4 15 = some (.atb 15) ∧ unitOf 0 5 = some (.bank 5) ∧
      unitOf 2 131 = some (.col 131) ∧ unitOf 2 127 = some (.col 127)) ∧
    (let x := d [0x20#32, 4#32, 0x20F04#32]
     x.serves 3 0x20 ∧ x.cmdAt 3 8 1 = 4 ∧ x.cmdAt 3 9 1 = 15 ∧ x.cmdAt 3 10 2 = 2 ∧ x.unitBusy (.atb 15) = false ∧
      x.svcOf (.atb 15) = .inService ∧ x.svcPermits (.atb 15) .outOfService = true) ∧
    (let x := d [0x20#32, 4#32, 0x27F02#32]
     x.serves 3 0x20 ∧ x.cmdAt 3 8 1 = 2 ∧ x.cmdAt 3 9 1 = 127 ∧ x.cmdAt 3 10 2 = 2 ∧ x.unitBusy (.col 127) = false ∧
      x.svcPermits (.col 127) .outOfService = false) ∧
    (dr.quiet ∧ dr.mode = .run ∧ dr.svcOf (.atb 15) = .draining ∧ dr.drained (.atb 15) = true ∧
      tget (fun _ => []) dr.wl.svcSlot (UnitId.atb 15).key = [3] ∧ 3 < 4) ∧
    (db.quiet ∧ db.mode = .run ∧ db.svcOf (.bank 5) = .draining) := by
  simp only [Dev.serves, Dev.quiet]; and_intros <;> decide +kernel

theorem test_wit_ServiceCommandsStartAndFinish_2 :
    let d := fun ws => busy ws
    let sp := fun v => (d [0x22#32, 4#32, 127#32]).setSvc (.col 128) v
    let ut := (d [0x23#32, 4#32, 0x40500#32]).setSvc (.bank 5) .underTest
    let ts := fun (k : Nat) => { run0.wr VST_FWSTAT.SERVER 1 with wl := { run0.wl with testSlot := [(k, (3, 1))] } }
    let ac := (ts 0x27F).wr GSQ_BANK.NONE 0
    (∀ v ∈ [Svc.outOfService, Svc.underTest], (sp v).serves 3 0x22 ∧ (sp v).cmdAt 3 8 4 = 127 ∧ 127 < 128 ∧
      (sp v).on GSQ_REPCTL.ARMED = false ∧ (sp v).svcOf (.col 128) = v) ∧
    (ut.serves 3 0x23 ∧ ut.cmdAt 3 8 1 = 0 ∧ ut.cmdAt 3 9 1 = 5 ∧ ut.cmdAt 3 10 2 = 4 ∧
      testListed (.bank 5) 4 = true ∧ ut.unitBusy (.bank 5) = false ∧ ut.svcOf (.bank 5) = .underTest ∧
      ut.testBlocked (.bank 5) 4 = false) ∧
    ((ts 0x303).quiet ∧ (ts 0x303).mode = .run ∧ (ts 0x303).wl.testSlot = [((UnitId.lane 3).key, (3, 1))] ∧
      (ts 0x303).rd VST_FWSTAT.SERVER = 1 ∧ ∀ c, UnitId.lane 3 = .col c → (ts 0x303).inFrame = false) ∧
    (ac.quiet ∧ ac.mode = .run ∧ unitOf 2 127 = some (.col 127) ∧ ac.wl.testSlot = [((UnitId.col 127).key, (3, 1))] ∧
      ac.rd VST_FWSTAT.SERVER = 1 ∧ ac.activeBank.isSome = true ∧ ac.inFrame = false) := by
  simp only [Dev.serves, Dev.quiet, reduceCtorEq, false_implies, implies_true]; and_intros <;> decide +kernel

theorem test_wit_SetConfigHoldsLockAndRange :
    let d := fun (f v : Word) (h : Nat) => { busy [0x40#32, 16#32, 0x100#32, 0#32, f, v] with holders := [(0, h)] }
    let ok := fun (x : Dev) (f v h : Nat) =>
      x.calm ∧ x.mode = .run ∧ x.pendOf 0 = none ∧ x.serves 3 0x40 ∧ x.cmdAt 3 1 1 = 0 ∧
      x.cmdBytes 3 8 8 = 0#8 :: 1#8 :: List.replicate 6 0#8 ∧ x.cmdAt 3 20 4 = v ∧ x.cmdAt 3 16 4 = f ∧
      x.holder 0 = h ∧ x.orphan 0 = false
    let w : Dev := { run0 with holders := [(0, 15)], vst := { run0.vst with st := [0, 0, 0, 2] },
                               wl := { run0.wl with cfgSlot := some (3, 0) } }
    ok (d 0x168#32 0#32 0) 0x168 0 0 ∧ ok (d 0x168#32 255#32 0) 0x168 255 0 ∧
    ok (d 0x168#32 0xFFFFFFFF#32 0) 0x168 0xFFFFFFFF 0 ∧ ok (d 0x160#32 0#32 0) 0x160 0 0 ∧
    ok (d 0x168#32 0#32 15) 0x168 0 15 ∧
    (w.calm ∧ w.mode = .run ∧ w.pendOf 0 = none ∧ 3 < 4 ∧ w.wl.cfgSlot = some (3, 0) ∧ w.slot 3 = 2 ∧ w.holder 0 = 15 ∧
      2 ≤ 15 ∧ 15 < 16) := by
  simp only [Dev.serves, Dev.calm, Dev.quiet]; and_intros <;> decide +kernel

/-- A Gallery image of one word, FEND, without its digest, and with it (Table GPR.1). -/
def imgBody : List Byte :=
  leBytes 4 0x4B4E4731 ++ leBytes 4 136 ++ leBytes 4 4 ++ List.replicate 28 0#8 ++ leBytes 4 0xFFFF0000 ++
    List.replicate 20 0#8 ++ leBytes 4 1 ++ List.replicate 28 0#8 ++ leBytes 8 (7 * 2 ^ 56)
def img : List Byte := imgBody ++ sha256 imgBody
/-- A parse table of one rule without fields, for frames of at least one byte at port 47 (Tables VST.14, VST.15). -/
def parseTab (flags : Nat) : List Byte :=
  leBytes 4 0x4B4E5031 ++ leBytes 4 32 ++ leBytes 8 1 ++ [47#8, b8 flags] ++ List.replicate 4 0#8 ++ leBytes 2 1 ++
    List.replicate 8 0#8
/-- Bytes of the Atrium from address 0x1000. -/
def held (bs : List Byte) (d : Dev) : Dev := { d with atr := atrPut [] 0x1000 bs }

/-- A device with the route table of a DEV reset and a cleared Atrium without errors, as Wailith reads it. -/
theorem reads_of (d : Dev) (hu : d.atrUndef = false) (he : d.atrErr = []) (hr : d.noc.rt = [])
    (hp : ∀ k, k < 4 → d.on (NOC_PRBCTL.EN k) = false) (hb : ∀ n, n < 16 → d.bankServes 0 n = true) : d.stewardReads := by
  refine ⟨hu, he, hp, hb, rtDflt 0, by decide +kernel, by decide +kernel, fun b h => ?_⟩
  have h0 : d.rtEntry 0 0 = rtDflt 0 := by simp [Dev.rtEntry, hr, tget]
  have hl : List.range 64 = 0 :: (List.range 63).map Nat.succ := by decide +kernel
  have hv : (rtDflt 0).ctl.getLsbD 31 = true := by decide +kernel
  have hs : (rtDflt 0).base = 0 ∧ (rtDflt 0).lim = 0x3FF := by decide +kernel
  simp only [Dev.rtMatch, hl, List.map_cons, h0]
  rw [List.find?_cons_of_pos]
  simp only [hv, hs.1, hs.2, Bool.true_and, Bool.and_eq_true, decide_eq_true_eq]
  omega

/-- A source region as the statements on tables and images say that it reads. -/
def ReadsAs (d : Dev) (r : Option (List Byte) × Dev) (bs : List Byte) : Prop :=
  r = (some bs, { d with noc := r.2.noc, seed := r.2.seed })

theorem region_reads (d : Dev) (a n : Nat) (bs : List Byte) (h : d.stewardReads) (ha : a + n ≤ 0x400000)
    (hb : d.atrBytes a n = bs) : ReadsAs d (readRegion d a n) bs := by
  have := stewardRead_reads (n / 256 + 1) d a n (by omega) ha h
  rw [hb] at this
  exact this

theorem source_reads (d : Dev) (slot a n : Nat) (bs : List Byte) (h : d.stewardReads) (ha : a + n ≤ 0x400000)
    (ht : d.vst.touched.testBit slot = false) (hb : d.atrBytes a n = bs) : ReadsAs d (readSource d slot a n) bs := by
  have hr := region_reads d a n bs h ha hb
  unfold ReadsAs at *
  have hs : readSource d slot a n = readRegion d a n := by
    unfold readSource
    rw [hr]
    simp [ht]
  rw [hs]
  exact hr

theorem test_wit_ImagesTablesAndFramesLoad :
    let d := held img (busy [0x10#32, 12#32, 0x1000#32, 136#32, 1#32])
    let bad := busy [0x10#32, 12#32, 0x1000#32, 136#32, 1#32]
    let out := busy [0x10#32, 12#32, 0x3FFF80#32, 136#32, 1#32]
    let sw := (busy [0x11#32, 4#32, 1#32]).wr GSQ_BANK.LOADED 2
    (d.quiet ∧ d.mode = .run ∧ d.serves 3 0x10 ∧ d.cmdAt 3 16 4 = 1 ∧ d.cmdAt 3 8 4 = 0x1000 ∧ d.cmdAt 3 12 4 = 136 ∧
      regionOk 0x1000 136 8 = true ∧ d.bankActive 1 = false ∧ d.bankArmed 1 = false ∧ d.svcOf (.prog 1) ≠ .underTest) ∧
    d.imgReason img 136 = 0 ∧ (bad.serves 3 0x10 ∧
      bad.imgReason (List.replicate 136 0#8) 136 ≠ 0) ∧
    (out.serves 3 0x10 ∧ out.cmdAt 3 8 4 = 0x3FFF80 ∧ regionOk 0x3FFF80 136 8 = false) ∧
    (sw.quiet ∧ sw.mode = .run ∧ sw.serves 3 0x11 ∧ sw.cmdAt 3 8 4 = 1 ∧ sw.otherMembers = [] ∧ sw.loaded 1 = true ∧
      sw.bankActive 1 = false ∧ sw.on GSQ_SWCTL.ARMED = false ∧ sw.wl.swGroup = none) ∧
    ((busy [0x11#32, 4#32, 1#32]).serves 3 0x11 ∧ (busy [0x11#32, 4#32, 1#32]).loaded 1 = false) := by
  simp only [Dev.serves, Dev.quiet]; and_intros <;> decide +kernel

theorem test_wit_ImagesTablesAndFramesLoad_source :
    let d := held img (busy [0x10#32, 12#32, 0x1000#32, 136#32, 1#32])
    let bad := busy [0x10#32, 12#32, 0x1000#32, 136#32, 1#32]
    ReadsAs d (readSource d 3 0x1000 136) img ∧ ReadsAs bad (readSource bad 3 0x1000 136) (List.replicate 136 0#8) := by
  refine ⟨source_reads _ _ _ _ _ (reads_of _ ?_ ?_ ?_ ?_ ?_) ?_ ?_ ?_, source_reads _ _ _ _ _ (reads_of _ ?_ ?_ ?_ ?_ ?_) ?_ ?_ ?_⟩
    <;> decide +kernel

theorem test_wit_ImagesTablesAndFramesLoad_parse :
    let d := held (parseTab 0) (busy [0x13#32, 12#32, 0x1000#32, 32#32, 0#32])
    let e := busy [0x13#32, 12#32, 0x1000#32, 32#32, 0#32]
    let m := busy [0x12#32, 12#32, 0x1000#32, 32764#32, 0#32]
    (d.quiet ∧ d.mode = .run ∧ d.serves 3 0x13 ∧ d.cmdAt 3 16 4 = 0 ∧ d.cmdAt 3 8 4 = 0x1000 ∧ d.cmdAt 3 12 4 = 32 ∧
      regionOk 0x1000 32 16 = true ∧
      parseCheck (parseTab 0) 32 = (1, 0, none)) ∧
    (e.serves 3 0x13 ∧
      parseCheck (List.replicate 32 0#8) 32 = (0, 0, some 0)) ∧
    (m.quiet ∧ m.mode = .run ∧ m.serves 3 0x12 ∧ m.cmdAt 3 16 4 = 0 ∧ m.cmdAt 3 12 4 = 32764 ∧ 32764 ≠ 32768) := by
  simp only [Dev.serves, Dev.quiet]; and_intros <;> decide +kernel

theorem test_wit_ImagesTablesAndFramesLoad_region :
    let d := held (parseTab 0) (busy [0x13#32, 12#32, 0x1000#32, 32#32, 0#32])
    let e := busy [0x13#32, 12#32, 0x1000#32, 32#32, 0#32]
    ReadsAs d (readRegion d 0x1000 32) (parseTab 0) ∧ ReadsAs e (readRegion e 0x1000 32) (List.replicate 32 0#8) := by
  refine ⟨region_reads _ _ _ _ (reads_of _ ?_ ?_ ?_ ?_ ?_) ?_ ?_, region_reads _ _ _ _ (reads_of _ ?_ ?_ ?_ ?_ ?_) ?_ ?_⟩
    <;> decide +kernel

/-- A LOAD_MAP of a region that reads zero. -/
def mapLoad : Dev := busy [0x12#32, 12#32, 0x1000#32, 32768#32, 0#32]

theorem atrBytes_empty (d : Dev) (a n : Nat) (h : d.atr = []) : d.atrBytes a n = List.replicate n 0#8 := by
  have : ∀ i, d.atrByte i = 0#8 := fun i => by simp [Dev.atrByte, h, tget, atrDflt]
  simp [Dev.atrBytes, this]

theorem leAt_zeros (n k : Nat) (h : k + 2 ≤ n) : leAt (List.replicate n 0#8) k 2 = 0 := by
  have hs : sliceB (List.replicate n 0#8) k 2 = [0#8, 0#8] := by
    have : min 2 (n - k) = 2 := by omega
    simp [sliceB, this]
  simp [leAt, hs, leNat]

theorem test_wit_ImagesTablesAndFramesLoad_map :
    (mapLoad.serves 3 0x12 ∧ mapLoad.cmdAt 3 16 4 = 0 ∧ mapLoad.cmdAt 3 8 4 = 0x1000 ∧ mapLoad.cmdAt 3 12 4 = 32768 ∧
      regionOk 0x1000 32768 8 = true) ∧
    ReadsAs mapLoad (readSource mapLoad 3 0x1000 32768) (List.replicate 32768 0#8) ∧
    ∀ i, i < 16384 → leAt (List.replicate 32768 0#8) (2 * i) 2 < 0x3FFF := by
  refine ⟨?_, source_reads mapLoad 3 0x1000 32768 _ (reads_of mapLoad ?_ ?_ ?_ ?_ ?_) ?_ ?_
    (atrBytes_empty mapLoad 0x1000 32768 ?_), fun i hi => by rw [leAt_zeros _ _ (by omega)]; decide⟩
  · simp only [Dev.serves]; decide +kernel
  all_goals decide +kernel

/-- Port 47 receives and sends eight-bit characters, its bank is IN_SERVICE, and pool 4 has sixteen cells from 0x1000 with
its ring at 0x8000. -/
def port47 (p : Port) : Dev :=
  let d : Dev := { run0 with atrUndef := false }
  let d := ((d.setSvc (.bank 5) .inService).wr (PBK_CTRL.RXEN 47) 1).wr (PBK_CTRL.TXEN 47) 1
  let d := (((d.wr (PBK_BAUD.DIV 47) 100).wr (PBK_FMT.DBITS 47) 1).wr (PBK_FRMX.MAXLEN 47) 64).setPort 47 p
  ((d.wr (BPM_POOLBASE.BASE 4) 0x1000).wr (BPM_POOLRING.RING 4) 0x8000).wr (BPM_POOLCTL.COUNT 4) 16
def poolOn (d : Dev) : Dev := d.wr (BPM_POOLCTL.EN 4) 1
def own47 (o : Nat) (d : Dev) : Dev := d.setOwner (bufKey 4 0) o
def openFrame : Frame := { data := [1#8, 2#8], spilled := 0, cells := [], fstat := 0, time := 0, closed := false }
/-- The second cell of pool 4, free in its cache. -/
def cached (d : Dev) (a : Nat) : Dev := d.setPool 4 { cache := [a], rp := 0, rc := 0, rlost := 0 }

theorem test_wit_ImagesTablesAndFramesLoad_frame :
    let d := own47 1 (poolOn (port47 { Port.idle with closedQ := [0x1001#32] }))
    let d := held [1#8] (d.wr VST_FWSTAT.SERVER 1)
    let e := { d with atr := atrPut d.atr 0x3000 (parseTab 3), wl := { d.wl with parse := some (0x3000, 1, 0) } }
    (d.quiet ∧ d.mode = .run ∧ 47 < 48 ∧ d.rd VST_FWSTAT.SERVER = 1 ∧ d.svcOf (.bank (47 / 8)) = .inService ∧
      (d.port 47).closedQ = 0x1001#32 :: [] ∧ d.poolOf (fld 0x1001#32 31 5 * 32) = some 4 ∧
      d.ownerAt (bufKey 4 ((fld 0x1001#32 31 5 * 32 - d.poolBase 4) / bufSize 4)) = 1 ∧ d.wl.parse = none) ∧
    (let r := takeFrame (frmqPop d 47).2 0x1000
     r.1 = some { fstat := 0, time := 0, data := [0#8] } ∧ r.2.faults = [] ∧ r.2.wl = d.wl) ∧
    (e.quiet ∧ e.wl.parse = some (0x3000, 1, 0) ∧ (e.port 47).closedQ = 0x1001#32 :: []) ∧
    (let r := takeFrame (frmqPop e 47).2 0x1000
     let f := findRule 1 r.2 0x3000 0 47 { fstat := 0, time := 0, data := [0#8] }
     r.1 = some { fstat := 0, time := 0, data := [0#8] } ∧ r.2.faults = [] ∧ r.2.wl = e.wl ∧ f.1.isSome = true ∧ f.2.wl = e.wl) := by
  simp only [Dev.quiet]; and_intros <;> decide +kernel

theorem test_wit_PortReceivesCharacters :
    let d := port47 Port.idle
    let o := port47 { Port.idle with frames := [openFrame] }
    let c := (port47 Port.idle).wr (PBK_FRM.MODE 47) 4
    let h := (port47 { Port.idle with rxHist := [(d.ld (PBK_BAUD.addr 47), d.ld (PBK_FMT.addr 47), 0)] }).wr
      (PBK_BAUD.DIV 47) 0
    let z := { d with mode := .doze }.wr (PBK_WAKE.EN 47) 1
    let fast := z.wr (PBK_BAUD.DIV 47) 8
    let wakes := fun (z : Dev) => z.faults = [] ∧ z.mode = .doze ∧ z.wl.wakeHeld = false ∧ z.wakePort 47 = true ∧
      z.wakePort 46 = false ∧ z.on (PBK_CTRL.RXEN 47) = true ∧ (z.port 47).awake = false ∧ z.abdRuns 47 = false
    let live := fun (d : Dev) => d.mode = .run ∧ d.rxLive 47 = true ∧ d.muted 47 = false ∧ d.abdWaits 47 = false
    let steady := fun (d : Dev) => (d.port 47).rxHist = [] ∧ (d.port 47).rxLine = d.rd (PBK_CTRL.LINE 47) ∧
      (d.port 47).lastChar = false ∧ (d.port 47).wakeNext = false
    (d.faults = [] ∧ 47 < 48 ∧ steady d ∧ live d ∧ d.hearsPin 47 = true ∧
      d.frmMode 47 = 0 ∧ d.addrOn 47 = false ∧ (d.port 47).frames = [] ∧ (d.port 47).rawBuf = [] ∧
      d.charSize 47 < d.acts (PBK_FRMX.MAXLEN 47) ∧ 255 % 2 ^ d.dataBits 47 ≠ 0 ∧ d.listens 47 = true ∧
      (d.port 47).idleDone = false ∧ d.bankWorks 47 = true) ∧
    (h.faults = [] ∧ (h.port 47).rxHist = [(d.ld (PBK_BAUD.addr 47), d.ld (PBK_FMT.addr 47), (h.port 47).rxLine)] ∧
      (h.port 47).lastChar = false ∧ (h.port 47).wakeNext = false ∧ h.hearsPin 47 = true ∧
      live ((h.put (PBK_BAUD.addr 47) (d.ld (PBK_BAUD.addr 47))).put (PBK_FMT.addr 47) (d.ld (PBK_FMT.addr 47)))) ∧
    (o.faults = [] ∧ steady o ∧ live o ∧ o.hearsPin 47 = true ∧ o.listens 47 = true ∧ o.frmMode 47 < 4 ∧
      o.frmMode 47 = 0 ∧ (o.port 47).open? = some openFrame) ∧
    (c.faults = [] ∧ c.listens 47 = true ∧ c.frmMode 47 = 4) ∧
    wakes z ∧ wakes fast ∧ fast.divisor 47 < 64 * 160 ∧ 64 * 160 ≤ z.divisor 47 := by and_intros <;> decide +kernel

theorem test_wit_PortDeliversFrames :
    let f : Frame := { openFrame with data := List.replicate 20 7#8 }
    let g : Frame := { f with closed := true, spilled := 20, cells := [0x1000] }
    let c := cached (poolOn (port47 { Port.idle with frames := [f] })) 0x11E0
    let h := own47 0x3F (poolOn (port47 { Port.idle with frames := [g], closedQ := List.replicate 15 1#32 }))
    let w := ((port47 { Port.idle with rawBuf := List.replicate 8 5#8 }).wr (PBK_FRM.MODE 47) 4).wr (PBK_RAWBASE.BASE 47) 0x2000
    let shut := w.putTwin (ATC_WINPERM.addr 0) 0#32
    let ring := fun (w : Dev) => w.faults = [] ∧ w.badWindows = [] ∧ w.mode = .run ∧ w.bankWorks 47 = true ∧
      w.frmMode 47 = 4 ∧ (w.port 47).rawStop = false ∧ (w.port 47).rawBuf.length = 8 ∧ (w.port 47).rawFlush = 0 ∧
      w.rawSize 47 = 256 ∧ w.rd (PBK_RAWWP.WP 47) % 256 = 0 ∧ 0 + 8 ≤ 256 ∧
      8 ≤ (w.rd (PBK_RAWRP.RP 47) + 2 * 256 - 1 - 0) % 256
    (c.faults = [] ∧ c.badWindows = [] ∧ c.mode = .run ∧ 47 < 48 ∧ c.bankWorks 47 = true ∧ (c.port 47).frames = [f] ∧
      f.cells = [] ∧ f.spilled = 0 ∧ 1 ≤ f.data.length ∧ f.data.length ≤ 20 ∧ c.rd BPM_CELLQ.PORTMAX = 0 ∧
      c.poolServes 4 = true ∧ (c.pool 4).cache = [0x11E0] ∧ c.bpm.bad = [] ∧
      c.ownerAt (bufKey 4 ((0x11E0 - c.poolBase 4) / 32)) = 0) ∧
    (h.faults = [] ∧ h.badWindows = [] ∧ h.mode = .run ∧ h.bankWorks 47 = true ∧ (h.port 47).frames = [g] ∧
      g.closed = true ∧ g.spilled = g.data.length ∧ g.cells = [0x1000] ∧ g.fstat.testBit 4 = false ∧
      (h.port 47).closedQ.length < 16 ∧ h.poolOf 0x1000 = some 4 ∧ (0x1000 - h.poolBase 4) % 32 = 0 ∧
      h.ownerAt (bufKey 4 ((0x1000 - h.poolBase 4) / 32)) = 0x10 + 47 ∧ h.bpm.bad = [] ∧
      ownerValid (h.acts (PBK_FRM.DEST 47)) = true) ∧
    ring w ∧ ring shut ∧ w.windowsPermit (portInit 47) true (w.rd (PBK_RAWBASE.BASE 47)) 256 = true ∧
    (atriumAccessFor w (portInit 47) 47 true (w.rd (PBK_RAWBASE.BASE 47) + 0) 8 (w.port 47).rawBuf).1 = .ok [] ∧
    shut.windowsPermit (portInit 47) true (shut.rd (PBK_RAWBASE.BASE 47)) 256 = false := by and_intros <;> decide +kernel

theorem test_wit_PortAutoBaudMeasures :
    let d := port47 Port.idle
    let a := (port47 { Port.idle with abdArmed := true }).wr (PBK_ABD.EN 47) 1
    let v := (port47 { Port.idle with abdFails := 1 }).wr (PBK_ABD.EN 47) 1
    (d.faults = [] ∧ d.mode = .run ∧ 47 < 48 ∧ d.bankWorks 47 = true ∧ fld 0x31#32 2 1 = 0) ∧
    (a.faults = [] ∧ a.mode = .run ∧ a.bankWorks 47 = true ∧ a.listens 47 = true ∧ a.abdRuns 47 = true ∧
      (a.port 47).abdArmed = true ∧
      a.on (PBK_ABD.KEEP 47) = false ∧ 7200000 ≤ 7440000 ∧ 7200000 ≤ 800000 * (1 + a.dataBits 47) ∧
      80 * (1 + a.dataBits 47) ≤ 7200000) ∧
    edgesFit 8 7200000 (syncEdges 8 (a.syncChar 47)) ((syncEdges 8 (a.syncChar 47)).map (· * 800000)) = true ∧
    edgesFit 8 7200000 (syncEdges 8 (a.syncChar 47)) [] = false ∧
    (v.faults = [] ∧ v.mode = .run ∧ v.bankWorks 47 = true ∧ v.listens 47 = true ∧ v.abdWaits 47 = true) := by
  and_intros <;> decide +kernel

theorem test_wit_PortSendsMessages :
    let msg : TxMsg :=
      { head := 0x1000, cells := [0x1000], data := [7#8], next := 0, left := 0, collisions := 0, waiting := false, retry := 1,
        cden := true }
    let long : TxMsg := { msg with next := 0x1020, left := 5 }
    let cells := fun (d : Dev) => { poolOn d with atr := atrPut [] 0x1000 [1#8] }
    let q := own47 0x3F (cells (port47 { Port.idle with txq := [0x1000] }))
    let u := port47 { Port.idle with txq := [0x1000] }
    let m := own47 0x3F (poolOn (port47 { Port.idle with tx := some msg }))
    let g := poolOn (port47 { Port.idle with tx := some long })
    let c := fun (k : Nat) =>
      (port47 { Port.idle with tx := some { msg with collisions := k }, line := 3 }).wr (PBK_CTRL.LINE 47) 3
    let w := port47 { Port.idle with tx := some { msg with waiting := true } }
    let cts := fun (p : Port) => (((port47 p).wr (PBK_CTRL.LINE 47) 1).wr (PBK_FLOW.CTSTO 47) 1).wr (PBK_CTRL.CTSPOL 47) 1
    let t := cts { Port.idle with line := 1, txq := [0x1000] }
    let h := cts { Port.idle with line := 1, tx := some msg }
    (q.faults = [] ∧ q.badWindows = [] ∧ q.mode = .run ∧ 47 < 48 ∧ q.bankWorks 47 = true ∧ q.txLive 47 = true ∧
      q.svcOf (.bank (47 / 8)) ≠ .draining ∧ (q.port 47).tx = none ∧ (q.port 47).txq = 0x1000 :: [] ∧
      (q.port 47).txq.length < 8) ∧
    (let d := applyLine q 47
     let d0 := d.setPort 47 { d.port 47 with txq := [] }
     let h := headCell d0 47 0x1000
     d.ctsHolds 47 = false ∧ d.lineFree 47 false = true ∧ h.1 = some 1 ∧
     (fetchCells 256 h.2 47 0x1000 1 256 true).1 = some { cells := [0x1000], data := [0#8], next := 0, left := 0 }) ∧
    (u.faults = [] ∧ u.txLive 47 = true ∧ (u.port 47).txq = 0x1000 :: [] ∧ u.poolOf 0x1000 = none) ∧
    (t.faults = [] ∧ t.badWindows = [] ∧ t.mode = .run ∧ t.bankWorks 47 = true ∧ t.txLive 47 = true ∧
      t.svcOf (.bank (47 / 8)) ≠ .draining ∧ (t.port 47).tx = none ∧ (t.port 47).txq = 0x1000 :: [] ∧
      (applyLine t 47).ctsHolds 47 = true ∧ t.ctsHolds 47 = true ∧ t.rd (PBK_FLOW.CTSTO 47) ≠ 0 ∧ (t.port 47).txq ≠ []) ∧
    (h.faults = [] ∧ (h.port 47).tx = some msg ∧ msg.waiting = false ∧ h.ctsHolds 47 = true) ∧
    (m.faults = [] ∧ m.badWindows = [] ∧ m.mode = .run ∧ m.bankWorks 47 = true ∧ (m.port 47).tx = some msg ∧
      msg.left = 0 ∧ m.ctsHolds 47 = false ∧ txFetch m 47 msg.left msg = (some msg, m) ∧
      (∀ q, q < 5 → (m.pool q).cache.length + msg.cells.length ≤ 32) ∧ m.bpm.pools.length ≤ 5 ∧ m.bpm.bad = [] ∧
      m.svcOf (.bank (47 / 8)) ≠ .underTest ∧
      m.poolOf 0x1000 = some 4 ∧ (0x1000 - m.poolBase 4) % 32 = 0 ∧
      m.ownerAt (bufKey 4 ((0x1000 - m.poolBase 4) / 32)) = 0x10 + 47 ∧ m.readBack 47 msg = false) ∧
    (g.faults = [] ∧ g.badWindows = [] ∧ (g.port 47).tx = some long ∧ long.left ≠ 0 ∧
      (fetchCells 256 (g.bump (PBK_CNT5.TXGAP 47) 1) 47 long.next long.left 1 false).1.isSome = true) ∧
    ((c 0).faults = [] ∧ (c 0).badWindows = [] ∧ (c 0).mode = .run ∧ (c 0).bankWorks 47 = true ∧
      ((c 0).port 47).tx = some msg ∧ (c 0).readBack 47 msg = true ∧ msg.collisions < msg.retry) ∧
    ((c 1).faults = [] ∧ ((c 1).port 47).tx = some { msg with collisions := 1 } ∧
      (c 1).readBack 47 { msg with collisions := 1 } = true ∧ msg.retry ≤ 1 ∧
      (∀ q, q < 5 → ((c 1).pool q).cache.length + msg.cells.length ≤ 32) ∧ (c 1).bpm.bad = []) ∧
    (w.faults = [] ∧ w.badWindows = [] ∧ w.mode = .run ∧ w.bankWorks 47 = true ∧
      (w.port 47).tx = some { msg with waiting := true } ∧ w.txLive 47 = true) := by and_intros <;> decide +kernel

/-- A pool that the list does not hold has an empty cache, so the room of PortSendsMessages holds for every pool number. -/
theorem pool_beyond (d : Dev) (k q : Nat) (h : d.bpm.pools.length ≤ 5) (hq : 5 ≤ q) (hk : k ≤ 32) :
    (d.pool q).cache.length + k ≤ 32 := by
  have : d.bpm.pools.length ≤ q := by omega
  simp [Dev.pool, nth, this, Pool.empty]
  omega

theorem test_wit_PoolsEnableFillAndCache :
    let off := port47 Port.idle
    let on := poolOn off
    let i := on.wr BPM_STAT.INIT 16
    let r := { on with atr := atrPut [] 0x8000 (leBytes 4 0x11E0) }.setPool 4 { cache := [], rp := 0, rc := 1, rlost := 0 }
    let w := on.setPool 4 { cache := (List.range 25).map (fun k => 0x1000 + 32 * (k % 16)), rp := 0, rc := 0, rlost := 0 }
    (off.faults = [] ∧ off.mode ≠ .landing ∧ off.mode ≠ .resting ∧ 4 < 5 ∧ off.poolEn 4 = false ∧
      off.poolLegal 4 (fld 0x80000010#32 15 0) = true ∧ off.poolLegal 4 (fld 0x80000000#32 15 0) = false) ∧
    (on.faults = [] ∧ on.mode ≠ .landing ∧ on.mode ≠ .resting ∧ on.poolEn 4 = true ∧
      fld 16#32 15 0 = on.poolCount 4 ∧ on.poolHeld 4 = false ∧ (own47 1 on).poolHeld 4 = true ∧ fld 4#32 2 0 = 4 ∧
      on.bpm.bad = [] ∧ 15 ≠ 0) ∧
    (let f := ringFill ((i.freeList 4).length + 1) (i.wr BPM_STAT.INIT (clrBit (i.rd BPM_STAT.INIT) 4)) 4 0 (i.freeList 4)
     i.faults = [] ∧ i.mode ≠ .landing ∧ i.poolEn 4 = true ∧ i.poolInit 4 = true ∧ f.1 = none ∧ f.2.faults = []) ∧
    (r.faults = [] ∧ r.mode ≠ .landing ∧ r.poolServes 4 = true ∧ (r.pool 4).cache.length < 8 ∧ (r.pool 4).rc = 1 ∧
      (ringRead r 4 (r.pool 4).rp 1).1 = .ok [0x11E0] ∧ (ringRead r 4 (r.pool 4).rp 1).2.faults = [] ∧
      r.bpm.bad = [] ∧ r.poolBase 4 ≤ 0x11E0 ∧ (0x11E0 - r.poolBase 4) / bufSize 4 < r.poolCount 4 ∧
      (0x11E0 - r.poolBase 4) % bufSize 4 = 0 ∧ r.ownerAt (bufKey 4 ((0x11E0 - r.poolBase 4) / bufSize 4)) = 0 ∧
      0x11E0 ∉ (r.pool 4).cache) ∧
    (w.faults = [] ∧ w.mode ≠ .landing ∧ w.poolServes 4 = true ∧ 24 < (w.pool 4).cache.length) := by
  and_intros <;> decide +kernel

theorem test_wit_BuffersAllocateFreeAndGive :
    let c := cached (poolOn (port47 Port.idle)) 0x11E0
    let h := (poolOn (port47 Port.idle)).setOwner (bufKey 4 15) 2
    let z := { run0 with atrUndef := false }.setPool 3 { cache := [0x1000], rp := 0, rc := 0, rlost := 0 }
    let z := ((z.wr (BPM_POOLBASE.BASE 3) 0x1000).wr (BPM_POOLCTL.COUNT 3) 1).wr (BPM_POOLCTL.EN 3) 1
    (c.faults = [] ∧ c.mode ≠ .landing ∧ c.mode ≠ .resting ∧ 4 < 5 ∧ ownerOfInit 1 = some 2 ∧ c.bpm.bad = [] ∧
      c.poolServes 4 = true ∧ (c.pool 4).cache = [0x11E0] ∧
      c.ownerAt (bufKey 4 ((0x11E0 - c.poolBase 4) / bufSize 4)) = 0 ∧ (port47 Port.idle).poolServes 4 = false) ∧
    (z.faults = [] ∧ z.poolServes 3 = true ∧ (z.pool 3).cache = [0x1000] ∧
      z.ownerAt (bufKey 3 ((0x1000 - z.poolBase 3) / bufSize 3)) = 0 ∧
      63 < 64 ∧ 3 = (if 63 = 0 then 0 else if 63 < 4 then 1 else if 63 < 16 then 2 else 3)) ∧
    (h.faults = [] ∧ h.bpm.bad = [] ∧ 0x11E0 = 32 * fld 0x11E0#32 31 5 ∧ (0x11E0#32).getLsbD 0 = false ∧
      h.poolOf 0x11E0 = some 4 ∧ (0x11E0 - h.poolBase 4) % bufSize 4 = 0 ∧
      h.ownerAt (bufKey 4 ((0x11E0 - h.poolBase 4) / bufSize 4)) = 2 ∧ (h.pool 4).cache.length < 32 ∧
      ownerValid 0x3F = true ∧ ownerOfInit 2 = some 3 ∧ 2 ≠ 3 ∧ 2 ≠ 256) ∧
    (fld 2#32 5 0 = 2 ∧ (bpmReclaim h 0 2).2.faults = [] ∧ 3 ≠ 1 ∧ 3 ≠ 2) := by and_intros <;> decide +kernel

theorem pickOut_length (n : Nat) : ∀ (s : Nat) (l : List Nat), n ≤ l.length → (pickOut n s l).1.length = n := by
  induction n with
  | zero => intro s l _; rfl
  | succ n ih =>
    intro s l h
    match l with
    | [] => simp at h
    | x :: r =>
      simp only [pickOut, List.length_cons]
      rw [ih]
      have : pickIdx s (r.length + 1) < r.length + 1 := by
        unfold pickIdx; split
        · omega
        · exact Nat.mod_lt _ (by omega)
      rw [List.length_eraseIdx_of_lt (by simpa using this)]
      simp at h ⊢; omega

theorem ringWrite_one (d : Dev) (xs : List Nat) (hs : ringSpans (d.poolCount 4) 0 xs.length = [(0, 8)])
    (h : ∀ bs, (atriumAccess d 5 true (d.poolRing 4 + 4 * 0) (4 * 8) bs).1 = .ok [] ∧
      (atriumAccess d 5 true (d.poolRing 4 + 4 * 0) (4 * 8) bs).2.faults = []) :
    (ringWrite d 4 0 xs).1 = none ∧ (ringWrite d 4 0 xs).2.faults = [] := by
  have h := h ((xs.take 8).flatMap (fun x => leBytes 4 x))
  simp only [ringWrite, hs, List.foldl]
  revert h
  rcases atriumAccess d 5 true (d.poolRing 4 + 4 * 0) (4 * 8) ((xs.take 8).flatMap (fun x => leBytes 4 x)) with ⟨r, e⟩
  rintro ⟨rfl, h⟩
  exact ⟨rfl, h⟩

/-- A pool with 25 entries in its cache, before and after the draw of eight free values. -/
def fullCache : Dev := (poolOn (port47 Port.idle)).setPool 4 { cache := List.replicate 25 0x1000, rp := 0, rc := 0, rlost := 0 }
def drawn : Dev := { fullCache with seed := fullCache.seed + 8 }

theorem drawn_access (bs : List Byte) :
    (atriumAccess drawn 5 true (drawn.poolRing 4 + 4 * 0) (4 * 8) bs).1 = .ok [] ∧
    (atriumAccess drawn 5 true (drawn.poolRing 4 + 4 * 0) (4 * 8) bs).2.faults = [] := by
  rw [show drawn.poolRing 4 + 4 * 0 = 0x8000 by decide +kernel, show 4 * 8 = 32 by decide]
  have h1 : nocIssue drawn 5 true 0x8000 32 false 0 = (some 5, drawn) := by
    rw [nocIssue_decoded drawn 5 true 0x8000 32 false 0 (rtDflt (5 * 64)) (by decide +kernel) (by decide +kernel)
      (by decide +kernel), show fld (rtDflt (5 * 64)).ctl 27 24 = 5 by decide +kernel]
  have h2 : useWindows drawn 5 = drawn := by simp [useWindows, show drawn.badWindows = [] by decide +kernel]
  have h3 : drawn.windowsPermit 5 true 0x8000 32 = true := by decide +kernel
  have h4 : drawn.banksServe 5 0x8000 32 = true := by decide +kernel
  have h5 : partWords 0x8000 32 = [] := by decide +kernel
  have h6 : drawn.faults = [] := by decide +kernel
  have h7 : drawn.atrUndef = false := by decide +kernel
  simp [atriumAccess, atriumAccessFor, atriumServe, h1, h2, h3, h4, h5, eccReads, h6, meetWords, h7, hostTouch, statAccess,
    Dev.setNi, Dev.draw]

/-- The clause of PoolsEnableFillAndCache about a full cache, whose picks are free values. -/
theorem test_wit_PoolsEnableFillAndCache_full :
    (fullCache.faults = [] ∧ fullCache.mode ≠ .landing ∧ fullCache.mode ≠ .resting ∧ fullCache.poolServes 4 = true ∧
      24 < (fullCache.pool 4).cache.length) ∧
    (let w := ringWrite drawn 4 (((fullCache.pool 4).rp + (fullCache.pool 4).rc) % fullCache.poolCount 4)
        (pickOut 8 fullCache.seed (fullCache.pool 4).cache).1
     w.1 = none ∧ w.2.faults = []) := by
  refine ⟨by decide +kernel, ?_⟩
  rw [show ((fullCache.pool 4).rp + (fullCache.pool 4).rc) % fullCache.poolCount 4 = 0 by decide +kernel]
  refine ringWrite_one drawn _ ?_ drawn_access
  rw [pickOut_length 8 _ _ (by decide +kernel)]
  decide +kernel

/-- A frame runs with Stepcode 2.3: budget 5000, the active bank 0 loaded with `k` descriptors. -/
def gal (k : Nat) (f : Gal → Gal) : Dev :=
  let g := { run0.gal with running := true, limit := 5000, cleared := true, banks := [{ PBank.empty with ndesc := k }, PBank.empty] }
  let d := ({ run0 with gal := f g, atrUndef := false }.wr SYS_VER_SC.MAJ 2).wr SYS_VER_SC.MIN 3
  (d.wr GSQ_BANK.NONE 0).wr GSQ_BANK.LOADED 3
def gal0 : Dev := gal 0 id
def xfer0 : Xfer :=
  { rin := true, w := 8, esz := 1, sext := false, dst := 8, desc := 0, base := 0x1000, stride := 1, chmax := 1,
    lock := none, errp := none, start := 0, due := 4000, refused := false, started := true, held := false, causes := 0,
    failed := p0, vals := List.replicate 8 p1 }
def lp : Loop := { first := 0, last := 0, left := 2 }

theorem test_wit_SequencerInstructionsRun :
    let d := fun f => gal 0 f
    let y := (((gal0.wr GSQ_SWCTL.ARMED 1).wr GSQ_SWCTL.YEN 1).wr GSQ_SWCTL.TARGET 1).wr (GSQ_BI_B0.B0 1) 1
    let full := d (fun g => { g with calls := List.replicate 16 0, loops := List.replicate 4 { lp with last := 16383 } })
    let outer := d (fun g => { g with loops := [{ lp with last := 5 }] })
    (gal0.runs 1 ∧ gal0.quiet ∧ gal0.gal.calls = [] ∧ gal0.gal.loops = [] ∧ gal0.gal.calls.length < 16 ∧
      gal0.gal.pc < 16383 ∧ gal0.gal.ok = false ∧ gal0.outstanding = 0) ∧
    (full.runs 1 ∧ full.quiet ∧ 16 ≤ full.gal.calls.length ∧ 4 ≤ full.gal.loops.length) ∧
    ((d (fun g => { g with loops := [lp] })).runs 1 ∧ (d (fun g => { g with loops := [lp] })).gal.loops = lp :: [] ∧
      lp.last = (d (fun g => { g with loops := [lp] })).gal.pc ∧ 1 < lp.left ∧ { lp with left := 1 }.left ≤ 1) ∧
    (outer.runs 1 ∧ outer.gal.loops = { lp with last := 5 } :: [] ∧ 5 ≠ outer.gal.pc ∧
      ∀ l ∈ outer.gal.loops, l.last ≠ outer.gal.pc) ∧
    ((d (fun g => { g with calls := [5] })).runs 1 ∧ (d (fun g => { g with calls := [5] })).gal.calls = 5 :: []) ∧
    ((d (fun g => { g with xfers := [xfer0] })).runs 1 ∧
      (d (fun g => { g with xfers := [xfer0] })).outstanding ≠ 0) ∧
    (y.runs 1 ∧ y.quiet ∧ y.rd GSQ_SWCTL.ARMED = 1 ∧ y.rd GSQ_SWCTL.YEN = 1 ∧ y.rd GSQ_SWCTL.TARGET = 1 ∧
      atOrAfter (y.rd GSQ_FCNTLO.FCNT) (y.rd GSQ_SWAT.AT) = true ∧ y.rd (GSQ_BI_ENTRY.YENTRY 1) ≠ 0xFFFF ∧
      y.gal.loops = [] ∧ y.gal.calls = [] ∧ y.gal.stack = [] ∧ y.bcnt + 1 + y.ybeff 1 ≤ y.beff 1) := by
  simp only [Dev.runs, Dev.quiet]; and_intros <;> decide +kernel

theorem test_wit_FieldInstructionsCompute :
    let one := gal 0 (fun g => { g with stack := [p1] })
    let full := gal 0 (fun g => { g with stack := List.replicate 8 p1 })
    (gal0.runs 33 ∧ gal0.scDefines 0 = true ∧ gal0.scDefines 1 = true ∧ gal0.scDefines 2 = true ∧ gal0.quiet ∧
      src gal0.gal 0x0FE0 32 = .ok (.mem 4064) ∧ dst gal0.gal 0 32 = .ok (.mem 0) ∧
      place gal0.gal 0x1002 1 (fun f => f == 0 || f == 2) = .ok (.flag 2) ∧ src gal0.gal 0x1000 1 = .ok (.flag 0) ∧
      gal0.gal.stack.length < 8 ∧ gal0.gal.stack = []) ∧
    (one.runs 1 ∧ one.gal.stack = p1 :: []) ∧ (full.runs 1 ∧ 8 ≤ full.gal.stack.length ∧ full.quiet) := by
  simp only [Dev.runs, Dev.quiet]; and_intros <;> decide +kernel

/-- Lane 0 joined, and its seam latency 4. -/
def seam0 : Dev := (gal0.wr (CNC_LSTAT.LSTATE 0) 6)

theorem test_wit_AccumulatorShiftsAndReductions :
    let dead := gal0.setLane 0 { Lane.idle with dead := true }
    let loop := (gal0.setSvc (.lane 0) .underTest).wr (CNC_CTRL.LOOP 0) 4
    let slow := loop.wr (CNC_LAT.PINNED 0) 200
    (gal0.quiet ∧ gal0.runs (32 * 128) ∧ gal0.runs (32 * 32 + 32) ∧ gal0.scDefines 0 = true ∧ gal0.scDefines 3 = true ∧
      gal0.twinOk GSQ_CFG.addr = true ∧ src gal0.gal 0x0FE0 32 = .ok (.mem 4064) ∧ (0xC01F#16).toNat / 2 ^ 5 % 2 ^ 9 = 0 ∧
      dst gal0.gal 0 32 = .ok (.mem 0) ∧ (16#16).toNat + 32 ≤ 48 ∧ (0x87F#16).toNat / 2 ^ 10 = 2 ∧
      (0xC7F#16).toNat < 2 ^ 12 ∧ (0xC7F#16).getLsbD 7 = false ∧ (0xC7F#16).toNat / 2 ^ 10 = 3 ∧
      src gal0.gal 0x1001 1 = .ok (.flag 1)) ∧
    (gal0.joined 0 = false ∧ gal0.seamLoop 0 = false ∧ gal0.joined 2 = false ∧ (gal0.lane 2).dead = false ∧
      gal0.runs (32 * 128 + gal0.acts GSQ_SEAMLAT.LAT)) ∧
    (∀ e ∈ [loop, slow], e.quiet ∧ e.joined 2 = false ∧ e.seamLoop 0 = true ∧ e.runs (32 * 128 + e.acts GSQ_SEAMLAT.LAT) ∧
      e.twinOk GSQ_SEAMLAT.addr = true) ∧
    (loop.rd (CNC_LAT.PINNED 0) ≤ loop.acts GSQ_SEAMLAT.LAT ∧ slow.acts GSQ_SEAMLAT.LAT < slow.rd (CNC_LAT.PINNED 0)) ∧
    (dead.quiet ∧ dead.joined 0 = false ∧ dead.seamLoop 2 = false ∧ (dead.lane 0).dead = true ∧ dead.runs (1 + dead.acts GSQ_SEAMLAT.LAT)) ∧
    (seam0.quiet ∧ seam0.joined 0 = true ∧ seam0.runs (1 + seam0.acts GSQ_SEAMLAT.LAT) ∧
      seam0.twinOk GSQ_SEAMLAT.addr = true) ∧
    (seam0.runs (32 + seam0.acts GSQ_ANYLAT.LAT) ∧ (0xE3#8).toNat / 4 % 8 = 0 ∧ seam0.twinOk GSQ_ANYLAT.addr = true) := by
  simp only [Dev.runs, Dev.quiet]; and_intros <;> decide +kernel

theorem test_wit_RiserTripPioAndNewelInstructions :
    let d1 := (gal 64 id).put (RSR_DESC.addr 252) 0x1000#32
    let bad := (gal 64 id).put (RSR_DESC.addr 252) 0x1001#32
    let f16 := gal 64 (fun g => { g with xfers := List.replicate 16 xfer0 })
    let done := fun (x : Xfer) => (gal 1 (fun g => { g with xfers := [x], map := [(16383, 0)] })).wr RSR_MAPCTL.VALID 1
    let res : NwlPend := { due := 16, sd := 15, word := 0#32, l := true, seen := false }
    let nw := gal 0 (fun g => { g with nwl := [res] })
    let had := gal 0 (fun g => { g with nwl := [{ res with seen := true }] })
    let lk : Dev := { gal0 with holders := [(63, 3), (62, 15)] }
    let out := done { xfer0 with rin := false }
    (gal0.quiet ∧ gal0.runs 1 ∧ gal0.activeBank = some 0 ∧ gal0.ndesc 0 ≤ 63 ∧ (0x5F#8).toNat / 2 ^ 5 % 4 = 2 ∧
      32 ≤ 8 * 2 ^ 2 ∧ (63#16).toNat < 64 ∧ dst gal0.gal 0 32 = .ok (.mem 0) ∧ src gal0.gal 0 32 = .ok (.mem 0)) ∧
    (d1.quiet ∧ d1.runs 1 ∧ d1.activeBank = some 0 ∧ 63 < d1.ndesc 0 ∧ (d1.descWord 0 63 0).toNat % 4 = 0 ∧
      fld (d1.descWord 0 63 1) 15 0 % 4 = 0 ∧ d1.outstanding < 16 ∧ d1.badWindows = [] ∧ d1.atrUndef = false) ∧
    (bad.quiet ∧ bad.runs 1 ∧ 63 < bad.ndesc 0 ∧ (bad.descWord 0 63 0).toNat % 4 ≠ 0) ∧
    (f16.quiet ∧ f16.runs 1 ∧ 16 ≤ f16.outstanding) ∧
    (∀ x ∈ [xfer0, { xfer0 with errp := some 40 }], (done x).quiet ∧ (done x).gal.xfers = [x] ∧ x.refused = false ∧
      x.started = true ∧ x.lock = none ∧ x.due + 1 < 2 ^ 27 ∧ (done x).gal.running = true ∧ (done x).gal.fend = false ∧
      (done x).galOn = true ∧ x.rin = true) ∧
    (out.quiet ∧ out.gal.xfers = [{ xfer0 with rin := false }] ∧ xfer0.causes = 0 ∧ out.mappedBays 1 = [(16383, 0)] ∧
      out.badWindows = []) ∧
    (nw.quiet ∧ nw.gal.nwl = [] ++ res :: [] ∧ res.seen = false ∧ res.due < 2 ^ 27 ∧ nw.bcnt < 2 ^ 27) ∧
    (had.quiet ∧ ∀ r ∈ had.gal.nwl, r.seen = true) ∧
    (lk.quiet ∧ lk.runs 1 ∧ (63#16).toNat < 64 ∧ lk.holder 63 = 3 ∧ lk.holder 62 ≠ 0 ∧ lk.holder 61 = 0) := by
  simp only [Dev.runs, Dev.quiet]; and_intros <;> decide +kernel

theorem test_wit_FramesStartStallAndEnd :
    let idle := gal 0 (fun g => { g with running := false, fresh := false, ok := true, fend := true })
    let first := (gal 0 (fun g => { g with running := false, cleared := true })).wr GSQ_SWCTL.ARMED 1
    let rep := ((gal 0 (fun g => { g with running := false, fresh := false, ok := true, repReady := true, map2 := some [] })).wr
      GSQ_REPCTL.ARMED 1).wr GSQ_REPCTL.LCOL 127
    let st : Stall := { w := 1, dst := 4095, src := [p1], d := 128, dir := 3, addr := 0, start := 10, loop := false }
    let stall := fun (b : Bool) => gal 0 (fun g => { g with stall := some { st with loop := b } })
    let sleepy : Dev := { run0 with wl := { run0.wl with dozeWait := some 0 } }
    let noAnswer := fun (d : Dev) => d.wl.due = [] ∧ d.wl.svcSlot = []
    let dirty := gal 0 (fun g => { g with cleared := false })
    (limp0.quiet ∧ limp0.mode ≠ .run ∧ noAnswer limp0) ∧ (sleepy.quiet ∧ sleepy.wl.dozeWait.isSome = true ∧ noAnswer sleepy) ∧
    (∀ d ∈ [idle, first, rep], d.quiet ∧ noAnswer d ∧ d.mode = .run ∧ d.wl.dozeWait = none ∧ d.gal.stall = none ∧ d.gal.running = false ∧
      d.gal.cleared = true ∧ d.gal.xfers = [] ∧ d.gal.nwl = [] ∧ (d.bal.frames = false ∨ d.gal.ok = true) ∧
      d.rd CNC_GUPD.PENDING = 0 ∧ d.wl.swGroup = none ∧ d.twinOk GSQ_FPER.addr = true ∧
      d.twinOk GSQ_SEAMLAT.addr = true ∧ d.twinOk GSQ_ANYLAT.addr = true) ∧
    (idle.rd GSQ_REPCTL.ARMED = 0 ∧ first.rd GSQ_REPCTL.ARMED = 0 ∧ first.rd GSQ_SWCTL.ARMED = 1 ∧
      (first.wr GSQ_BANK.NONE 1).activeBank = none) ∧
    (rep.rd GSQ_REPCTL.ARMED = 1 ∧ rep.rd GSQ_SWCTL.ARMED = 0 ∧ rep.gal.fresh = false ∧ rep.gal.repReady = true ∧
      rep.pcol (rep.rd GSQ_REPCTL.LCOL) ≠ 128 + rep.rd GSQ_REPCTL.SPARE ∧ rep.wl.repSlot = none ∧
      4160 + rep.beff 0 ≤ rep.acts GSQ_FPER.CYCLES ∧ (rep.wr GSQ_REPCTL.COPY 1).rd GSQ_REPCTL.COPY = 1) ∧
    (dirty.quiet ∧ dirty.galOn = true ∧ dirty.gal.cleared = false) ∧
    (∀ b ∈ [false, true], (stall b).quiet ∧ noAnswer (stall b) ∧ (stall b).gal.stall = some { st with loop := b } ∧
      (stall b).mode = .run ∧ (stall b).gal.running = true ∧ (stall b).gal.startDue = false ∧ st.src.length = st.w ∧
      1 ≤ st.d ∧ st.d ≤ 128 ∧ st.dir < 4 ∧ (stall b).twinOk GSQ_SEAMTO.addr = true ∧ (stall b).gal.xfers = [] ∧
      (stall b).gal.nwl = [] ∧ max (stall b).bcnt (st.start + max 1 ((stall b).acts GSQ_SEAMTO.CYCLES)) ≤ (stall b).gal.limit ∧
      (stall b).gal.limit < 2 ^ 27 ∧ (stall b).gal.pc < 16384 ∧ 1 ≤ (stall b).acts GSQ_SEAMTO.CYCLES) := by
  simp only [Dev.quiet]; and_intros <;> decide +kernel

theorem test_wit_FramesStartStallAndEnd_2 :
    let long := gal 0 (fun g => { g with limit := 0 })
    let late := gal 0 (fun g => { g with running := false, fend := true, fendPc := 16383 })
    let fin_ := gal 0 (fun g => { g with running := false, fend := true, ok := false, xfers := [xfer0] })
    let off : Dev := { gal0 with mode := .doze }
    (0xFF00000000000000#64 : BitVec 64).toNat / 2 ^ 56 ∉ galOpcodes ∧
    (gal0.runs 1 ∧ (wordWork 1 1 0 0 0 gal0).illegal = true ∧ (wordWork 1 0 0 0 0 gal0).illegal = false) ∧
    (∀ d ∈ [long, late], d.quiet ∧ d.mode = .run ∧ (d.gal.running = true ∨ (d.gal.fend = true ∧ d.gal.ok = false)) ∧
      d.gal.stall = none ∧ d.bcnt ≤ d.gal.limit ∧ d.gal.limit + 1 < 2 ^ 27 ∧ d.gal.pc < 16384 ∧ d.gal.fendPc < 16384 ∧
      (∀ y ∈ d.gal.xfers, d.gal.limit < y.due) ∧ ∀ y ∈ d.gal.nwl, d.gal.limit < y.due) ∧
    (fin_.quiet ∧ fin_.mode = .run ∧ fin_.gal.running = false ∧ fin_.gal.fend = true ∧ fin_.gal.ok = false ∧
      fin_.gal.xfers = [xfer0] ∧ xfer0.refused = false ∧ xfer0.started = true ∧ xfer0.rin = true ∧ xfer0.lock = none ∧
      xfer0.due ≤ fin_.gal.limit ∧ fin_.bcnt ≤ fin_.gal.limit ∧ fin_.gal.limit < 2 ^ 27) ∧
    (0x31000000 ≤ 0x317FFFFF ∧ 0 < 1 ∧ 0x317FFFFF + 1 ≤ 0x31800000 ∧ gal0.galOn = true ∧ [7#8].length = 1) ∧
    (off.quiet ∧ off.galOn = false) ∧ (0x30FFFFFF < 0x31000000 ∧ 0x31800000 < 0x317FFFFF + 2) := by
  simp only [Dev.runs, Dev.quiet]; and_intros <;> decide +kernel

/-- Lane 3 of a device at POS 0 of a ring, in a lane state. -/
def laneIn (k : Nat) (f : Lane → Lane) : Dev :=
  let d := (run0.wr (CNC_LSTAT.LSTATE 3) k).wr SYS_STRAP.TOPO 3
  { d with wl := { d.wl with peerRanges := [(0, 255)] } }.setLane 3 (f Lane.idle)

theorem test_wit_LanesJoinAndGoDown :
    let x := fun (k : Nat) => laneIn k id
    let al := fun (k : Nat) => { x k with grp := { (x k).grp with alignTo := some (7, 3) } }
    let near := fun (ms : List Nat) =>
      ((laneIn 1 (fun y => { y with marks := ms })).setSvc (.lane 3) .underTest).wr (CNC_CTRL.LOOP 3) 4
    (∀ k ∈ [0, 1, 2, 3, 4, 5, 6], (x k).quiet ∧ (x k).slotsOk ∧ 3 < 4 ∧ (x k).laneOn 3 = true ∧ (x k).lstate 3 = k) ∧
    ((laneIn 1 (fun y => { y with tries := 1 })).lane 3).tries < 2 ∧
    (2 ≤ ((laneIn 1 (fun y => { y with tries := 2 })).lane 3).tries ∧ (x 1).laneOwnsNothing 3) ∧
    (∀ k ∈ [3, 6], (al k).quiet ∧ (al k).slotsOk ∧ (al k).laneOn 3 = true ∧ (al k).lstate 3 = k ∧
      (al k).grp.alignTo = some (7, 3) ∧ 7 < 8 ∧ (al k).gal.running = false ∧ (al k).gal.stall = none ∧
      (al k).rd CNC_GUPD.PENDING = 0 ∧ (al k).wl.due = [] ∧ (al k).rd GSQ_REPCTL.ARMED = 0 ∧
      (al k).rd GSQ_SWCTL.ARMED = 0 ∧ (al k).wl.swGroup = none ∧ (al k).twinOk GSQ_FPER.addr = true ∧
      (al k).twinOk GSQ_SEAMLAT.addr = true ∧ (al k).twinOk GSQ_ANYLAT.addr = true) ∧
    ((x 4).markDelay 5 133 = 128 ∧ [5].length < 16 ∧ 16 ≤ (List.replicate 15 128 ++ [128]).length ∧
      (∀ k ∈ List.replicate 15 128 ++ [128], k = 128) ∧ (x 4).rd CNC_GRP.ISLEAD = 0 ∧ (x 4).markDelay 5 134 = 129) ∧
    (∀ ms ∈ [[], List.replicate 15 128], (near ms).quiet ∧ (near ms).slotsOk ∧ (near ms).laneOn 3 = true ∧
      (near ms).lstate 3 ≠ 4 ∧ (near ms).nearLoop 3 = true ∧ (near ms).rd (CNC_CTRL.LOOP 3) = 4 ∧
      ((near ms).lane 3).marks = ms ∧ (near ms).markDelay 5 133 = 128) ∧
    ((x 6).nearLoop 3 = false ∧ (x 6).markDelay 5 7 = 2 ∧ (x 6).rd (CNC_LAT.PINNED 3) = 0 ∧ (0 ≤ 2 + 2 ∧ 2 ≤ 0 + 2) ∧
      (x 6).markDelay 5 8 = 3 ∧ (0 + 2 < 3 ∨ 3 + 2 < 0) ∧ (x 6).laneOwnsNothing 3) ∧
    (true ∈ [false, false, true].take (3 - 0) ∧ true ∉ [false, false, true].take (3 - 1)) := by
  simp only [Dev.quiet, Dev.laneOwnsNothing, Dev.slotsOk]; and_intros <;> decide +kernel

theorem test_wit_LanesJoinAndGoDown_hello :
    let d := laneIn 2 id
    let m := (d.wr GSQ_BANK.NONE 0).wr CNC_GRP.MEMBERS 0x03
    let reasons := fun (d : Dev) (fab wl ppm : Nat) (dig : List Byte) (settled : Bool) =>
      [(decide (fab ≠ d.rd SYS_GEN.FABGEN), 1),
       (!inRanges (d.rd SYS_GEN.WLGEN) [(0, 255)] || !inRanges wl d.wl.peerRanges, 2),
       (decide (3 ≠ d.topo ∨ neighborOf d.topo d.pos 3 ≠ some 7), 3), (decide (20 < ppm), 4),
       (decide (d.acts GSQ_FPER.CYCLES ≠ d.acts GSQ_FPER.CYCLES), 5),
       (decide (sliceB dig 0 8 ≠ d.activeDigest ∨ settled ≠ d.activeBank.isSome), 6)]
    (reasons d (d.rd SYS_GEN.FABGEN) 0 20 [] false).find? Prod.fst = none ∧
    (reasons d (d.rd SYS_GEN.FABGEN + 1) 0 21 [] true).find? Prod.fst = some (true, 1) ∧
    (reasons d (d.rd SYS_GEN.FABGEN) 0 20 [1#8] false).find? Prod.fst = some (true, 6) ∧
    (d.activeBank.isSome = false ∧ d.rd CNC_GRP.LEAD = 0 ∧ 0 < 1) ∧
    ((d.wr CNC_GRP.LEAD 1).rd CNC_GRP.LEAD = 1) ∧
    (m.activeBank.isSome = true ∧ m.groupSize = 2 ∧ (reasons m (m.rd SYS_GEN.FABGEN) 0 20 m.activeDigest true).find? Prod.fst = none) := by
  and_intros <;> decide +kernel

/-- Lane 3 joined to POS 7. -/
def joined7 : Dev :=
  (((laneIn 6 id).wr (CNC_LSTAT.PEERPOS 3) 7).wr CNC_GRP.MEMBERS 0x81).wr CNC_GRP.LEAD 7

/-- The same, and lane 1 joined to POS 1. -/
def joined17 : Dev := ((joined7.wr (CNC_LSTAT.LSTATE 1) 6).wr (CNC_LSTAT.PEERPOS 1) 1).wr CNC_GRP.MEMBERS 0x83

theorem test_wit_SidebandMessagesAct :
    let d := joined7
    let heard : Dev := { d with grp := { d.grp with seen := [(7, 0x10, 5), (7, 0x11, 65536 + 2)] } }
    let late : Dev := { d with grp := { d.grp with beaconFrame := true } }
    let miss : Dev := { d with grp := { d.grp with beaconMiss := 7 } }
    let told : Dev := { d with grp := { d.grp with change := [(7, 5)] } }
    let ok := d.wr GSQ_BANK.LOADED 2
    let sw : Dev := { d with wl := { d.wl with swGroup := some (0, 9, [], []) } }
    let join : Dev := { (d.wr CNC_GUPD.PENDING 1).wr CNC_GUPDAT.AT 9 with grp := { d.grp with updJoin := true } }
    let lead : Dev := { d.wr CNC_GRP.ISLEAD 1 with wl := { d.wl with swGroup := some (0, 9, [], []), swSlot := some 3 } }
    (d.quiet ∧ d.slotsOk ∧ 3 < 4 ∧ d.mode = .run ∧ d.joined 3 = true ∧ 7 ≠ d.pos ∧ 7 < 8 ∧ (7, 0x10, 5) ∉ d.grp.seen ∧
      (7, 0x11, 65536 + 2) ∉ d.grp.seen ∧ d.rd CNC_GRP.ISLEAD = 0 ∧ d.grp.alignTo = none ∧ d.grp.beaconFrame = false ∧
      0 = d.rd GSQ_FCNTLO.FCNT ∧ 1 % 2 ^ 32 ≠ d.rd GSQ_FCNTLO.FCNT) ∧
    (heard.quiet ∧ heard.slotsOk ∧ heard.joined 3 = true ∧ (7, 0x10, 5) ∈ heard.grp.seen ∧
      (7, 0x11, 65536 + 2) ∈ heard.grp.seen) ∧
    (late.quiet ∧ late.slotsOk ∧ late.joined 3 = true ∧ late.grp.beaconFrame = true) ∧
    ((d.rd CNC_GRP.MEMBERS).testBit (d.rd CNC_GRP.LEAD) = true ∧ d.twinOk CNC_GCFG.addr = true ∧
      d.grp.beaconMiss < d.acts CNC_GCFG.BEACONTO ∧ miss.quiet ∧ miss.slotsOk ∧
      miss.acts CNC_GCFG.BEACONTO ≤ miss.grp.beaconMiss) ∧
    (tget (fun _ => 0) d.grp.change 7 = 0 ∧ told.quiet ∧ told.slotsOk ∧ told.joined 3 = true ∧
      tget (fun _ => 0) told.grp.change 7 = 5 ∧ (2 ^ 16 + 4 % 2 ^ 16 + 1 - 5) % 2 ^ 16 = 0 ∧
      (2 ^ 16 + (2 ^ 15 + 4) % 2 ^ 16 + 1 - 5) % 2 ^ 16 = 2 ^ 15 ∧ (2 ^ 16 + 5 % 2 ^ 16 + 1 - 5) % 2 ^ 16 = 1) ∧
    (7 = d.rd CNC_GRP.LEAD ∧ ∀ k ∈ [0, 1, 2, 3, 5, 6], (7, 0x20 + 256 * k, 9) ∉ d.grp.seen) ∧
    (ok.loaded 1 = true ∧ leNat (nth PBank.empty ok.gal.banks 1).digest = 0 ∧ ok.rd GSQ_SWCTL.ARMED = 0 ∧
      ok.wl.dozeWait = none ∧ atOrAfter (ok.rd GSQ_FCNTLO.FCNT) ((2 ^ 32 + 2 - 1) % 2 ^ 32) = false) ∧
    (sw.quiet ∧ sw.slotsOk ∧ sw.joined 3 = true ∧ sw.wl.swGroup = some (0, 9, [], []) ∧
      (7, 0x20 + 256 * 1, 9) ∉ sw.grp.seen) ∧
    (join.quiet ∧ join.slotsOk ∧ join.joined 3 = true ∧ join.rd CNC_GRP.ISLEAD = 0 ∧ join.rd CNC_GUPD.PENDING = 1 ∧
      join.grp.updJoin = true ∧ join.rd CNC_GUPDAT.AT = 9 % 2 ^ 32) ∧
    (lead.quiet ∧ lead.slotsOk ∧ lead.joined 3 = true ∧ lead.rd CNC_GRP.ISLEAD = 1 ∧
      lead.wl.swGroup = some (0, 9, [], []) ∧ lead.wl.swSlot = some 3 ∧ 3 < 4 ∧ (7, 0x20 + 256 * 4, 9) ∉ lead.grp.seen) := by
  simp only [Dev.quiet, Dev.slotsOk]; and_intros <;> decide +kernel

theorem test_wit_SidebandMessagesAct_2 :
    let d := joined7
    let r := joined17
    let ra := fun (op : Nat) =>
      (((d.wr CNC_RARES.RES 2).wr CNC_RACTL.DST 7).wr CNC_RACTL.OP op).wr CNC_RACTL.LEN 8
    (r.quiet ∧ r.slotsOk ∧ r.mode = .run ∧ r.joined 3 = true ∧ 1 ≠ r.pos ∧ r.route 1 = some 1 ∧ 1 ≠ 3) ∧
    (d.route 7 = some 3 ∧ d.route 1 = some 3 ∧ run0.route 7 = none) ∧
    (∀ k ∈ [0, 1, 2], (ra k).quiet ∧ (ra k).slotsOk ∧ (ra k).mode = .run ∧ (ra k).joined 3 = true ∧
      (ra k).rd CNC_RARES.RES = 2 ∧ (ra k).rd CNC_RACTL.DST = 7 ∧ (ra k).acts CNC_RACTL.OP = k ∧ (ra k).badWindows = []) ∧
    (d.rd CNC_RARES.RES ≠ 2 ∧ d.badWindows = [] ∧ (0xA7000000#32).getLsbD 31 = true ∧ fld 0xA7000000#32 26 24 = 7 ∧
      fld 0xA7000000#32 29 28 = 2 ∧ fld 0x87000000#32 29 28 = 0 ∧ fld 0x97000000#32 29 28 = 1 ∧ d.route 7 = some 3 ∧
      7 ≠ d.pos ∧ (d.rd CNC_GRP.MEMBERS).testBit 7 = true ∧ fld 0xA6000000#32 26 24 = 6 ∧
      (d.rd CNC_GRP.MEMBERS).testBit 6 = false) := by
  simp only [Dev.quiet, Dev.slotsOk]; and_intros <;> decide +kernel

/-- Window 0 opens the whole Atrium to every initiator. -/
def open_ (d : Dev) : Dev :=
  ((({ d with atrUndef := false }.wr (ATC_WINBASE.BASE 0) 0).wr (ATC_WINLIM.LIMIT 0) 0x3FF).wr
    (ATC_WINPERM.WPERM 0) 0xFFFF).wr (ATC_WINPERM.RPERM 0) 0xFFFF

theorem test_wit_AtriumAndLogbookMemoryAccess :
    let d := open_ run0
    let shut := { run0 with atrUndef := false }.putTwin (ATC_WINPERM.addr 0) 0#32
    let off := d.setSvc (.atb 15) .outOfService
    let bad : Dev := { d with atrErr := [(0x7FFFE, 1), (0x7FFFF, 2)] }
    let fix : Dev := { d with atrErr := [(0x7FFFE, 1)], atrFix := [0x7FFFE] }
    let dark : Dev := { d with atrUndef := true }
    let met : Dev := { dark with atrKnown := [(0x7FFFF, true)] }
    let ini := { d with wl := { d.wl with svcSlot := [(0x40F, [3])] }, atrOff := 0x8000 }.setSvc (.atb 15) .outOfService
    ({ run0 with mode := .landing }.faults = [] ∧ { run0 with mode := .landing }.niOpen 0 = false) ∧
    (d.faults = [] ∧ d.niOpen 14 = true ∧ 0x400000 < 0x3FFF01 + 256 ∧ 0x3FFF00 + 256 ≤ 0x400000 ∧ d.badWindows = [] ∧
      d.rd (ATC_WINBASE.BASE 0) ≤ 0x3FF ∧ 0x3FF ≤ d.rd (ATC_WINLIM.LIMIT 0) ∧
      (d.rd (ATC_WINPERM.WPERM 0)).testBit 14 = true ∧ (d.rd (ATC_WINPERM.RPERM 0)).testBit 14 = true ∧
      d.svcOf (.atb (0x3FF % 16)) = .inService ∧ d.atrUndef = false ∧ Memory.wf d = true) ∧
    (shut.faults = [] ∧ shut.badWindows = [] ∧ 0x3FF0 / 4096 ≤ 3 ∧
      ∀ k, k < 32 → ¬(shut.rd (ATC_WINBASE.BASE k) ≤ 3 ∧ 3 ≤ shut.rd (ATC_WINLIM.LIMIT k) ∧
        (shut.rd (ATC_WINPERM.WPERM k)).testBit 14 = true)) ∧
    (off.faults = [] ∧ off.badWindows = [] ∧ off.svcOf (.atb (0x3FF % 16)) = .outOfService) ∧
    (dark.faults = [] ∧ dark.niOpen 14 = true ∧ dark.badWindows = [] ∧ dark.atrUndef = true ∧
      tget (fun _ => false) met.atrKnown (0x3FFFF8 / 8) = true ∧ (0x3FFFF8 + 8 - 1) / 8 = 0x7FFFF) ∧
    (bad.faults = [] ∧ bad.eccOf 0x7FFFF = 2 ∧ bad.eccOf 0x7FFFE = 1 ∧ 0x3FFFF0 / 8 ≤ 0x7FFFF ∧
      0x7FFFF ≤ (0x3FFFF0 + 16 - 1) / 8) ∧
    (fix.faults = [] ∧ fix.coreOn = true ∧ 0x7FFFE ∈ fix.atrFix ∧ 0x7FFFF ∉ fix.atrFix) ∧
    ((d.wr ATC_SCRUB.EN 1).rd ATC_SCRUB.EN = 1 ∧ 15 < 16 ∧ d.svcOf (.atb 15) ≠ .outOfService ∧
      tget (fun _ => 0) d.patrol 15 < 32768) ∧
    (ini.faults = [] ∧ tget (fun _ => []) ini.wl.svcSlot (UnitId.atb 15).key = [3] ∧
      ini.svcOf (.atb 15) = .outOfService ∧ ini.niOpen 0 = true ∧ ini.atrOff.testBit 15 = true) ∧
    (0x10000000 ≤ 0x100FFF00 ∧ (List.replicate 256 7#8).length ≤ 256 ∧
      0x100FFF00 + (List.replicate 256 7#8).length ≤ 0x10100000 ∧ d.logWriter 1 = false ∧ d.logWriter 0 = true ∧
      (0x100FFF00 - 0x10000000) % 4 = 0 ∧ (List.replicate 256 7#8).length % 4 = 0 ∧ (0x100FFF02 - 0x10000000) % 4 ≠ 0) ∧
    tget (fun _ => 0) { d with logErr := [(0x3FFFF, 2)] }.logErr 0x3FFFF = 2 := by and_intros <;> decide +kernel

theorem test_wit_CorridorRoutesCountsAndTranslates :
    let d := open_ run0
    let far : Dev := { d with noc := { d.noc with rt := [(14 * 64, { base := 0, lim := 0x3FF, ctl := 0x81000000#32 })] } }
    let priv : Dev := { d with noc := { d.noc with rt := [(1 * 64, { base := 0x20000, lim := 0x2003F, ctl := 0x81000000#32 })] } }
    let p : Packet := reqPacket 15 0 false false false 31 0 4 [] (rtDflt 0)
    let busy : Dev :=
      { d with noc := { d.noc with live := setNth NiStat.idle d.noc.live 15 { NiStat.idle with out := 1, slots := [p] } } }
    let tg := fun (t : Nat) => ((d.wr NOC_TGCTL.GO 1).wr NOC_TGCTL.TGT t).wr NOC_TGCTL.TGCOUNT 1
    (d.faults = [] ∧ d.mode = .run ∧ d.admits 14 = true ∧ (∀ k, k < 4 → d.rd (NOC_PRBCTL.EN k) = 0) ∧
      d.rtMatch 14 0x50000000 = none ∧ ({ d with noc := { d.noc with live := List.replicate 16 { NiStat.idle with out := 999 } } }).admits 14 = false) ∧
    (∃ e, d.rtMatch 14 0x3FFF00 = some e ∧ (0x3FFF00 + 256 - 1) / 0x1000 ≤ e.lim ∧ fld e.ctl 27 24 = 5) ∧
    (atriumServe d 14 true 0x3FFF00 256 (List.replicate 256 1#8)).2.faults = [] ∧
    (far.faults = [] ∧ ∃ e, far.rtMatch 14 0x3FFF00 = some e ∧ (0x3FFF00 + 256 - 1) / 0x1000 ≤ e.lim ∧ fld e.ctl 27 24 ≠ 5) ∧
    (∃ e, d.rtMatch 0 0x2003FF00 = some e ∧ (0x2003FF00 + 256 - 1) / 0x1000 ≤ e.lim ∧ fld e.ctl 27 24 = 1) ∧
    (priv.faults = [] ∧ ∃ e, priv.rtMatch 1 0x2003FF00 = some e ∧ (0x2003FF00 + 256 - 1) / 0x1000 ≤ e.lim ∧ fld e.ctl 27 24 = 1) ∧
    (busy.faults = [] ∧ (nth NiStat.idle busy.noc.live 15).slots.find? (fun q => q.tag == 31) = some p ∧
      ∀ q ∈ (nth NiStat.idle busy.noc.live 15).slots, q.tag ≠ 30) ∧
    (let w : Word := w32 (2 ^ 24 * 5 + routeOf 0 5)
     routeOk (d.rd NOC_RTSEL.NI) (fld w 27 24) (fld w 23 0) = true ∧ d.rtStage.1 ≤ d.rtStage.2) ∧
    routeOk (d.rd NOC_RTSEL.NI) (fld 0#32 27 24) (fld 0#32 23 0) = false ∧
    (∀ t ∈ [5, 0], (tg t).faults = [] ∧ (tg t).rd NOC_TGCTL.GO = 1 ∧ (tg t).rd NOC_TGCTL.TGCOUNT ≠ 0) ∧
    (∃ e, (tg 5).rtMatch 15 0 = some e ∧ (0 + (tg 5).rd NOC_TGCTL.TGLEN) / 0x1000 ≤ e.lim ∧ fld e.ctl 27 24 = 5 ∧
      fld e.ctl 27 24 ≠ 0) := by
  refine ⟨?_, ⟨_, rfl, ?_⟩, ?_, ⟨?_, _, rfl, ?_⟩, ⟨_, rfl, ?_⟩, ⟨?_, _, rfl, ?_⟩, ?_⟩ <;> (and_intros <;> decide +kernel)

theorem test_wit_CorridorRoutesCountsAndTranslates_2 :
    let d := open_ joined7
    let on := d.put (CWT_BASE.addr 7) 0x2001#32
    let q : WalkReq :=
      { lane := 3, peer := 7, va := 0xFFFFFFF8, len := 8, op := 1, data := List.replicate 8 1#8, base := 0x2001#32, stale := false }
    let e : TlbEnt := { peer := 7, vpn := 0xFFFFF, page := 0x3FF, perm := 1 }
    let hit : Dev := { on with tlb := [e] }
    let grant : Dev := { on with tlb := [{ e with perm := 7 }] }
    let walk : Dev := { on with walks := [q] }
    let good : Dev := { walk with atr := atrPut (atrPut [] (0x2000 + 8 * 1023) (leBytes 8 0x6001)) (0x6000 + 8 * 1023) (leBytes 8 0x3FF007) }
    (d.faults = [] ∧ d.mode = .run ∧ 3 < 4 ∧ d.joined 3 = true ∧ 1 < 2 ∧ 7 < 8 ∧ d.rd (CWT_BASE.EN 7) = 0) ∧
    (on.faults = [] ∧ on.rd (CWT_BASE.EN 7) ≠ 0 ∧ 4096 < 0xFFFFFFFF % 4096 + 2 ∧ ¬(4096 < 0xFFFFFFF8 % 4096 + 8) ∧
      on.tlb = [] ∧ on.walks = []) ∧
    (hit.tlb = e :: [] ∧ e.peer = 7 ∧ e.vpn = 0xFFFFFFF8 / 4096 ∧ e.perm.testBit (if 1 = 1 then 2 else 1) = false) ∧
    (grant.tlb = { e with perm := 7 } :: [] ∧ (7 : Nat).testBit (if 1 = 1 then 2 else 1) = true ∧ 4096 * e.page < 0x40000000 ∧
      grant.badWindows = []) ∧
    (walk.faults = [] ∧ walk.walks = q :: [] ∧ walk.badWindows = [] ∧ walk.atrUndef = false ∧
      (walkTable { walk with walks := [] } q.base q.peer q.va).1 = .error ⟨6, 1⟩) ∧
    (good.faults = [] ∧ good.mode = .run ∧ good.walks = q :: [] ∧ good.badWindows = [] ∧ good.atrUndef = false ∧
      (walkTable { good with walks := [] } q.base q.peer q.va).1 = .ok { e with perm := 7 } ∧ 7 < 8 ∧
      q.peer = 7 ∧ 0x2003#32 &&& 0xFFFFE001#32 = good.ld (CWT_BASE.addr 7) ∧ 0x4001#32 &&& 0xFFFFE001#32 ≠ good.ld (CWT_BASE.addr 7)) := by
  and_intros <;> decide +kernel

theorem test_wit_DigestEngineJobsAndKeys :
    let job : DgeCtx := { busy := true, list := false, algo := false, keyed := false, kslot := 0, lastn := 4, msg := [] }
    let d := run0
    let m := (run0.setCtx 1 job).wr (DGE_CSTAT.SPACE 1) 1
    let z := (run0.setCtx 1 job).wr (DGE_CSTAT.SPACE 1) 0
    let li := (open_ run0).setCtx 1 { job with list := true }
    let bad := li.wr (DGE_RES.ADDR 1) 32
    let one := { li with atr := atrPut [] 8 [1#8] }.wr (DGE_RES.ADDR 1) 64
    let kat : Dev := { run0 with dge := { run0.dge with kat := true } }
    (d.faults = [] ∧ d.niOpen 2 = true ∧ 1 < 2 ∧ ¬(0 = 1 ∨ 2 = 0) ∧ (d.dctx 1).busy = false ∧ d.dge.kat = false ∧
      (fld 0x114#32 10 8 ≠ 0 ∧ nth none d.dge.keys (fld 0x114#32 10 8 - 1) = none)) ∧
    (m.faults = [] ∧ (m.dctx 1).busy = true ∧ (m.dctx 1).list = false ∧ (m.dctx 1).lastn ≠ 0 ∧
      m.rd (DGE_CSTAT.SPACE 1) ≠ 0 ∧ m.waitsKat 1 = false) ∧
    (z.faults = [] ∧ (z.dctx 1).busy = true ∧ (z.dctx 1).list = false ∧ (z.dctx 1).lastn ≠ 0 ∧ z.rd (DGE_CSTAT.SPACE 1) = 0) ∧
    (bad.faults = [] ∧ bad.niOpen 4 = true ∧ one.niOpen 4 = true ∧ one.badWindows = [] ∧ (bad.dctx 1).busy = true ∧
      (bad.dctx 1).list = true ∧ bad.waitsKat 1 = false ∧
      bad.rd (DGE_RES.ADDR 1) % 64 ≠ 0) ∧
    (one.faults = [] ∧ (one.dctx 1).busy = true ∧ (one.dctx 1).list = true ∧ one.waitsKat 1 = false ∧
      one.rd (DGE_RES.ADDR 1) = 64 ∧ one.rd (DGE_LIST.ADDR 1) = 0 ∧ one.rd (DGE_CSTAT.MSGS 1) = 0) ∧
    (let r := atriumAccess one 4 false 0 16 []
     let f := dgeFetch 16385 r.2 0 0
     let dig := one.digestOf false false 0 []
     let w := atriumAccess f.2 4 true 64 dig.length dig
     r.1 = .ok (List.replicate 8 0#8 ++ 1#8 :: List.replicate 7 0#8) ∧ r.2.keyBad 1 false false 0 = false ∧
     f.1 = .ok [] ∧ w.1 = .ok [] ∧ w.2.faults = []) ∧
    (fld 0x70040#32 18 16 = 7 ∧ fld 0x70040#32 6 0 = 64 ∧ d.slotInUse 0 ≠ some 7 ∧ d.slotInUse 1 ≠ some 7 ∧
      fld 0x70041#32 6 0 = 65) ∧
    (kat.calm ∧ kat.dge.kat = true ∧ kat.dge.katWait = [] ∧ (∀ k, k < 2 → (kat.dctx k).busy = false) ∧ 5 < 6) ∧
    (∃ k, k < 2 ∧ (m.dctx k).busy = true ∧ m.waitsKat k = false) := by
  simp only [Dev.calm, Dev.quiet]; and_intros <;> decide +kernel

theorem test_illformed_refused_1 :
    ([Instr.registerWrite ⟨16, 0⟩ 0 0 false 0, .registerWrite ⟨0, 8⟩ 0 0 false 0, .readClearRead ⟨16, 0⟩ 0 0, .readClearRead ⟨0, 8⟩ 0 0,
     .sysRstreq 16 0, .bootctlGo 16 0, .drainComplete 2 132,
     .drainTimeout 6 [], .vstCmdSlotWrite 16 0 0 0, .vstCmdSlotWrite 0 4 0 0, .vstCmdSlotWrite 0 0 64 0,
     .setConfigLockTimeout 4, .frameParse 48, .icuEoi false 256 false, .icuPendWrite 6 0 0, .icuCfgWrite 48 0,
     .evqPostc 16 0, .evqPop 16 0, .nwlAcq ⟨16, 0⟩ 0 false, .nwlAcq ⟨0, 8⟩ 0 false, .nwlAcq ⟨0, 0⟩ 64 false, .nwlRel ⟨16, 0⟩ 0 0 false,
     .nwlRel ⟨0, 8⟩ 0 0 false, .nwlRel ⟨0, 0⟩ 64 0 false, .nwlOrphanClear ⟨16, 0⟩ 0 0 ⟨0, false⟩, .nwlOrphanClear ⟨0, 8⟩ 0 0 ⟨0, false⟩,
     .nwlOrphanClear ⟨0, 0⟩ 2 0 ⟨0, false⟩, .nwlForce 16 0,
     .characterReceive ⟨48, 0⟩ 0 false false false, .frameGive 48, .breakReceive ⟨48, 0⟩, .idleLine 48, .gapExpiry 48,
     .lineDown 48, .lineUp 48, .cellSpill 48, .rawRingWrite 48, .pbkFrmqPop 16 0, .pbkFrmqPop 0 48, .abdEnable 48 0,
     .abdMeasure 48 [] 0, .abdTimeout 48]).all (fun i => !i.wf) = true := by decide +kernel

theorem test_illformed_refused_2 :
    ([Instr.abdRearm 48, .portWakeEdge [0, 48], .shifterClockSwitch 48, .pbkTxqWrite 16 0 0, .pbkTxqWrite 0 48 0,
     .txMessageStart ⟨48, true⟩, .txGap 48, .txMessageDone ⟨48, false⟩, .ctsTimeout 48, .collision 48, .retryBackoffEnd 48,
     .bpmPoolEnable 5 0, .bpmPoolDisable 5 0, .poolInitComplete 5, .bpmAlloc 16 0, .bpmAlloc 0 5, .bpmAllocfit 16 0,
     .bpmAllocfit 0 64, .bpmFree 16 0, .bpmGive 16 0 0, .bpmGive 0 64 0, .bpmReclaim 16 0, .bpmRebuild 16 0,
     .rebuildComplete 5, .cacheRefill 5, .cacheWriteback 5, .planeWindowAccess false 0 0 [], .laneTrained 4 [],
     .laneTrainFail 4, .helloTimeout 4, .laneAlign 4 0, .sbHello 4 0 0 0 0 [] 0 0 [] 0 0 false,
     .sbHello 0 8 0 0 0 [] 0 0 [] 0 0 false, .sbHello 0 0 0 0 0 [] 0 0 [] 8 0 false, .sbLatch 4 0 0 false 0 0,
     .sbLatch 0 8 0 false 0 0, .sbLatch 0 0 0 false 256 0, .sbGany 4 0 0 false false 0 0,
     .sbGany 0 8 0 false false 0 0, .sbBeacon 4 0 0 0 0]).all (fun i => !i.wf) = true := by decide +kernel

theorem test_illformed_refused_3 :
    ([Instr.sbBeacon 0 8 0 0 0, .sbBeacon 0 0 0 0 8, .sbMarker 4 0 0, .sbLinkstate 4 0 0 0 [], .sbLinkstate 0 8 0 0 [],
     .sbLeave 4, .sbGroupcmd 4 0 0 0 0 [], .sbGroupcmd 0 8 0 0 0 [], .sbLockReq 4 ⟨0, 0, 0⟩ 0 0, .sbLockReq 0 ⟨8, 0, 0⟩ 0 0,
     .sbLockReq 0 ⟨0, 8, 0⟩ 0 0, .sbLockReq 0 ⟨0, 0, 0⟩ 64 0, .sbLockRsp 4 ⟨0, 0, 0⟩ 0 false, .sbLockRsp 0 ⟨8, 0, 0⟩ 0 false,
     .sbLockRsp 0 ⟨0, 8, 0⟩ 0 false, .sbRaReq 4 ⟨0, 0, 0⟩ 0 0 1 [], .sbRaReq 0 ⟨8, 0, 0⟩ 0 0 1 [], .sbRaReq 0 ⟨0, 8, 0⟩ 0 0 1 [],
     .sbRaReq 0 ⟨0, 0, 0⟩ 0 0 0 [], .sbRaReq 0 ⟨0, 0, 0⟩ 0 0 257 [], .sbRaRsp 4 ⟨0, 0, 0⟩ false [], .sbRaRsp 0 ⟨8, 0, 0⟩ false [],
     .sbRaRsp 0 ⟨0, 8, 0⟩ false [], .sbIdle 4, .uncorrectableCodeword 4 0, .laneSignalLoss 4, .laneLockLoss 4, .cncRaGo 16 0,
     .corridorRequestDecode ⟨16, 0⟩ false 0 1 [] false, .corridorRequestDecode ⟨0, 8⟩ false 0 1 [] false,
     .corridorRequestDecode ⟨0, 0⟩ false 0 0 [] false, .corridorRequestDecode ⟨0, 0⟩ false 0 257 [] false,
     .corridorResponseSink 16 0 0, .atriumAccess ⟨16, 0⟩ false 0 1 [], .atriumAccess ⟨0, 0⟩ false 0 0 [],
     .atriumAccess ⟨0, 0⟩ false 0 257 [], .atriumPatrolRead 16, .atriumBankInitComplete 16,
     .logbookMemoryWrite 16 0 [0], .logbookMemoryWrite 0 0 [], .logbookMemoryWrite 0 0 (List.replicate 257 0),
     .logbookMemoryRead 16 0 1, .logbookMemoryRead 0 0 0, .logbookMemoryRead 0 0 257, .cwtBaseWrite 9 0]).all
      (fun i => !i.wf) = true := by decide +kernel

theorem test_illformed_refused_4 :
    ([Instr.dgeStart 16 0 0, .dgeStart 0 2 0, .dgeListJobComplete 2, .dgeData 16 0 0, .dgeData 0 2 0, .dgeLast 16 0 0,
     .dgeLast 0 2 0, .dgeFinish 16 0 0, .dgeFinish 0 2 0, .dgeAbort 16 0 0, .dgeAbort 0 2 0, .dgeKeyLoad 16 0,
     .dgeKeyZero 16 0, .dgeKatGo 16 0, .lifeToggle 16, .balVtrip 16 0, .balSkick 16 0, .balHkick 16 0, .pioSet 4 0,
     .pioClr 4 0, .pioTgl 4 0, .pioOutWrite 4 0, .pinInterruptEdge 16 false, .pinWake 65536,
     .selftestComplete 2 132 0 0, .selftestGapTimeout 132, .joinStepTimeout 4, .sbUndefinedType 4 0, .vstNop 4,
     .vstGetInfo 4, .vstReset 4, .vstLimp 4, .vstDoze 4, .vstLoadGallery 4, .vstSwitchBank 4, .vstLoadMap 4,
     .vstLoadParse 4, .vstParseStatus 4, .vstSetService ⟨4, []⟩, .vstGetService 4]).all (fun i => !i.wf) = true := by
  decide +kernel

theorem test_illformed_refused_5 :
    ([Instr.vstRepairColumn 4, .vstSelftest 4, .vstTrip 4, .vstTripAck ⟨4, 0⟩, .vstSetConfig 4, .vstGetConfig 4, .vstLogMark 4,
     .vstLogSeal 4, .vstLogStatus 4]).all (fun i => !i.wf) = true := by decide +kernel

theorem test_wellformed_accepted : [Instr.registerWrite ⟨15, 7⟩ 0 0 false 0, .vstCmdSlotWrite 15 3 63 0, .nwlAcq ⟨15, 7⟩ 63 true,
    .pbkTxqWrite 15 47 0, .drainComplete 2 131, .logbookMemoryRead 15 0 256, .portWakeEdge [0, 47],
    .sbRaReq 3 ⟨7, 7, 0⟩ 0 0 256 []].all Instr.wf = true := by decide +kernel

/-! Worked cases and check values of the manual, and decoding. -/

theorem test_crc8_check_value : crc8 [0x31, 0x32, 0x33, 0x34, 0x35, 0x36, 0x37, 0x38, 0x39] = 0xF4 := by decide +kernel

/-- Worked case VST.1: STRICT rejects the clamped value and applies nothing. -/
theorem test_VST1_strict :
    let d := after (.vstSetConfig 3) (busy [0x00310140, 0x10, 0x100, 0, 0x168, 0x12C])
    (List.range 7).map (fun i => d.ld (VST_RSP.addr (192 + i))) = [0x00310740, 0x14, 1, 0, 0x168, 0x12C, 0xFF] ∧
      d.rd SYS_INTEG.LIMIT = run0.rd SYS_INTEG.LIMIT := by decide +kernel

/-- Worked case VST.1: without STRICT the value is clamped to 255 and both halves of the pair hold it. -/
theorem test_VST1_clamped :
    let d := after (.vstSetConfig 3) ((busy [0x00320040, 0x10, 0x100, 0, 0x168, 0x12C]).wr EVQ_NEXTSEQ.SEQ 0x0CA1)
    (List.range 2).map (fun i => d.ld (VST_RSP.addr (192 + i))) = [0x00320140, 0x0CA10014] ∧
      d.view SYS_INTEG.addr = 0xFF00 ∧ d.view (SYS_INTEG.addr + 0x800) = 0xFFFF00FF := by decide +kernel

/-- The port chapter's auto-baud example: M = 55,804 over 9 bit times gives DIV 387 and FRAC 34. -/
theorem test_autobaud_measure :
    let d := after (.abdMeasure 47 (List.map (· * 6200) [1, 2, 3, 4, 5, 6, 7, 8]) 55804) ((port47 { Port.idle with abdArmed := true }).wr (PBK_ABD.EN 47) 1)
    (d.rd (PBK_ABDM.MEASURED 47), d.rd (PBK_BAUD.DIV 47), d.rd (PBK_BAUD.FRAC 47)) = (0xD9FC, 387, 34) := by decide +kernel

/-- Worked case COR.1: the route strings of the Steward and of the Riser to the Atrium. -/
theorem test_COR1_routes : routeOf 0 5 = 0x22 ∧ routeOf 2 5 = 0x20 ∧ routeOk 2 5 0x20 = true ∧ routeOk 2 5 0x22 = false := by
  decide +kernel

/-- Worked case GIS.1: the three words of the slip check's start. -/
theorem test_GIS1_words :
    galDecode 0x100000010000001E#64 = .galSli 0 1 0 30 ∧ galDecode 0x602F000000000003#64 = .galRin 0x2F 0 0 3 ∧
      galDecode 0x602F001000000004#64 = .galRin 0x2F 16 0 4 := by decide +kernel

/-- A table word of 64 bits is a Gallery word (Table GIS.1); no other command has bits. -/
theorem test_decodeTableWord : decodeTableWord 64 0x100000010000001E = some (.galSli 0 1 0 30) ∧
    decodeTableWord 32 0x10000001 = none := by decide +kernel

theorem test_sli_sets_scalar : (after (.galSli 0 1 0 30) gal0).gal.sreg 1 = 30 := by decide +kernel

theorem test_add_field_wraps :
    let d := gal 0 (fun g => { g with a := p1, mem := (List.range 8).map (fun i => (i, p1)) ++ [(8, p1)] })
    let e := after (.galAdd 7 16 0 8) d
    bayVal (e.gal.field 16 8) 5 = 0 ∧ e.gal.c.getLsbD 5 = true ∧ e.gal.t.getLsbD 5 = false := by decide +kernel

theorem test_lock_granted_and_foreign :
    (after (.nwlAcq ⟨1, 0⟩ 5 false) run0).holder 5 = 2 ∧
      (after (.nwlRel ⟨1, 0⟩ 5 1 false) { run0 with holders := [(5, 1)] }).rd NWL_ERR.FOREIGN = 1 := by decide +kernel

theorem test_trip_lowers_pins :
    let d := after (.balVtrip 0 0x10) ((run0.wr BAL_STATE.TRIPPED 0))
    d.rd BAL_STATE.TRIPPED = 0x10 ∧ d.rd (BAL_TCAUSE.VCMD 4) = 1 := by decide +kernel

theorem test_idle_step_runs_clock : ∃ t, step State.reset = .next t ∧ t.pending = [] := ⟨_, rfl, rfl⟩

end Sys2Proof.Tests
end

section
/-!
The statements of the scope: how a command ends, and what REGISTER_WRITE and READ_CLEAR_READ do to the registers that follow
their access codes alone.
-/

namespace Sys2Proof.Machine

/-! How a command ends. -/

/-- A request of a row ends in `fin`, whether its NI admits it or not. -/
theorem rowWrite_fin (init : Nat) (s : State) (f : Dev → Resp × Dev) : ∃ d, rowWrite init s f = fin s d := by
  unfold rowWrite
  split_ifs <;> exact ⟨_, rfl⟩

/-- A request to the Newel or to the EVQ ends in `fin`, whether it is served or not. -/
theorem nwlServe_fin (s : State) (init n bound : Nat) (f : Dev → Resp × Dev) : ∃ d, nwlServe s init n bound f = fin s d := by
  unfold nwlServe
  split_ifs <;> exact ⟨_, rfl⟩

/-- A claim ends in `fin`: answered, or OFFLINE (R409). -/
theorem execIcuClaim_fin (host pulse : Bool) (s : State) : ∃ d, execIcuClaim host pulse s = fin s d := by
  unfold execIcuClaim
  split_ifs <;> exact ⟨_, rfl⟩

/-- An access of the plane window ends in `fin`: served, or DECODE outside its range. -/
theorem execPlaneWindowAccess_fin (write : Bool) (addr len : Nat) (data : List Byte) (s : State) :
    ∃ d, execPlaneWindowAccess write addr len data s = fin s d := by
  unfold execPlaneWindowAccess
  split_ifs <;> exact ⟨_, rfl⟩

/-- An access of the Atrium ends in `fin`: OFFLINE, served, or DECODE. -/
theorem execAtriumAccess_fin (sender : AtriumSender) (write : Bool) (addr len : Nat) (data : List Byte) (s : State) :
    ∃ d, execAtriumAccess sender write addr len data s = fin s d := by
  unfold execAtriumAccess
  split_ifs <;> exact ⟨_, rfl⟩

/-- A write of the Logbook memory ends in `fin`: OFFLINE, served, or DECODE. -/
theorem execLogbookMemoryWrite_fin (init addr : Nat) (data : List Byte) (s : State) :
    ∃ d, execLogbookMemoryWrite init addr data s = fin s d := by
  unfold execLogbookMemoryWrite
  split_ifs <;> exact ⟨_, rfl⟩

/-- A read of the Logbook memory ends in `fin`: OFFLINE, served, or DECODE. -/
theorem execLogbookMemoryRead_fin (init addr len : Nat) (s : State) :
    ∃ d, execLogbookMemoryRead init addr len s = fin s d := by
  unfold execLogbookMemoryRead
  split_ifs <;> exact ⟨_, rfl⟩

/-- The row of the illegal word traps as an instruction does, and leaves the state alone where the word is legal. -/
theorem execGalIllegal_ends (word : BitVec 64) (s : State) :
    execGalIllegal word s = .next s ∨ ∃ d, execGalIllegal word s = fin s d := by
  unfold execGalIllegal
  dsimp only
  split
  · exact .inr ⟨_, rfl⟩
  · exact .inl rfl

/-- Every command ends in `fin`, with some device; only the row of the illegal word can answer its state as it is. The
rows not named below are `fin` by definition, the Gallery's through `galExec`. -/
theorem exec_ends (c : Instr) (s : State) : exec c s = .next s ∨ ∃ d, exec c s = fin s d := by
  unfold exec
  cases c with
  | galIllegal word => exact execGalIllegal_ends word s
  | registerWrite | readClearRead | twinValueWrite | twinComplementWrite | bootctlGo | vstCmdSlotWrite | vstDoorbell
  | vstDoneWrite | balAck | balVtrip | balSkick | balHkick | dgeStart | dgeData | dgeLast | dgeFinish | dgeAbort
  | dgeKeyLoad | dgeKeyZero | dgeKatGo => exact .inr (rowWrite_fin _ s _)
  | evqPostc | evqPop | nwlAcq | nwlRel | nwlOrphanClear | nwlForce => exact .inr (nwlServe_fin s _ _ _ _)
  | icuClaim host pulse => exact .inr (execIcuClaim_fin host pulse s)
  | planeWindowAccess write addr len data => exact .inr (execPlaneWindowAccess_fin write addr len data s)
  | atriumAccess sender write addr len data => exact .inr (execAtriumAccess_fin sender write addr len data s)
  | logbookMemoryWrite init addr data => exact .inr (execLogbookMemoryWrite_fin init addr data s)
  | logbookMemoryRead init addr len => exact .inr (execLogbookMemoryRead_fin init addr len s)
  | _ => exact .inr ⟨_, rfl⟩

/-- Settles O2, by how a command ends. -/
theorem everyCommandAnswersNext : Obligations.EveryCommandAnswersNext := by
  intro c s
  rcases exec_ends c s with h | ⟨d, h⟩
  · exact ⟨s, h, rfl⟩
  · obtain ⟨t, ht, hpending, -⟩ := fin_next s d
    exact ⟨t, h.trans ht, hpending⟩

/-! Fields as the bits of their word. -/

/-- A field is the word's bits from its lowest on. -/
theorem fld_eq_extractLsb' (w : Word) (hi lo : Nat) : fld w hi lo = (w.extractLsb' lo (hi + 1 - lo)).toNat := by
  simp [fld, BitVec.extractLsb'_toNat, Nat.shiftRight_eq_div_pow]

/-- Words with the same bits hi to lo hold the same field. -/
theorem fld_congr {w v : Word} {hi lo : Nat} (h : ∀ i, lo ≤ i → i ≤ hi → w.getLsbD i = v.getLsbD i) :
    fld w hi lo = fld v hi lo := by
  rw [fld_eq_extractLsb', fld_eq_extractLsb']
  congr 1
  ext k hk
  simpa using h (lo + k) (by omega) (by omega)

/-- The mask of a field has its ones in the bits of the field. -/
theorem maskOf_getLsbD (hi lo i : Nat) (hhi : hi < 32) : (maskOf hi lo).getLsbD i = decide (lo ≤ i ∧ i ≤ hi) := by
  simp only [maskOf, w32, BitVec.getLsbD_ofNat, Nat.testBit_two_pow_mul, Nat.testBit_two_pow_sub_one]
  rw [Bool.eq_iff_iff]
  simp only [Bool.and_eq_true, decide_eq_true_eq]
  omega

/-- A word with the bits of a mask taken from another word. -/
def mergeBits (m old new : Word) : Word := (old &&& ~~~m) ||| (new &&& m)

/-- Inside the mask the new bits stand, outside it the old ones. -/
theorem mergeBits_getLsbD (m old new : Word) (i : Nat) :
    (mergeBits m old new).getLsbD i = if m.getLsbD i then new.getLsbD i else old.getLsbD i := by
  by_cases hi : i < 32
  · cases hm : m[i] <;> simp [mergeBits, hm, hi]
  · simp [BitVec.getLsbD_of_ge _ _ (Nat.le_of_not_lt hi)]

/-- The merged field is the new one. -/
theorem fld_mergeBits (old new : Word) (hi lo : Nat) (hhi : hi < 32) :
    fld (mergeBits (maskOf hi lo) old new) hi lo = fld new hi lo :=
  fld_congr fun i hlo hle => by simp [mergeBits_getLsbD, maskOf_getLsbD _ _ _ hhi, hlo, hle]

/-- A field that does not meet the merged one stays. -/
theorem fld_mergeBits_other (old new : Word) (hi lo h l : Nat) (hhi : hi < 32) (hd : h < lo ∨ hi < l) :
    fld (mergeBits (maskOf hi lo) old new) h l = fld old h l :=
  fld_congr fun i hlo hle => by rw [mergeBits_getLsbD, maskOf_getLsbD _ _ _ hhi, decide_eq_false (by omega)]; rfl

/-- A register none of whose fields satisfies `p` has no such bits. -/
theorem bitsWhere_eq_zero (r : RegSpec) (p : FieldSpec → Bool) (h : ∀ f ∈ r.fields, p f = false) :
    r.bitsWhere p = 0#32 := by
  unfold RegSpec.bitsWhere
  generalize r.fields = fs at h
  induction fs with
  | nil => rfl
  | cons f fs ih =>
    simp only [List.mem_cons, forall_eq_or_imp] at h
    simpa [h.1] using ih h.2

/-! Changes of the registers alone. -/

/-- Nothing but stored register words changed. -/
def Dev.onlyRegs (d e : Dev) : Prop := e = { d with regs := e.regs }

theorem Dev.onlyRegs_refl (d : Dev) : d.onlyRegs d := rfl

theorem Dev.onlyRegs_put (d : Dev) (a : Nat) (v : Word) : d.onlyRegs (d.put a v) := rfl

theorem Dev.onlyRegs_bump (d : Dev) (f : Fld) (n : Nat) : d.onlyRegs (d.bump f n) := rfl

theorem Dev.onlyRegs.trans {d e g : Dev} (h : d.onlyRegs e) (k : e.onlyRegs g) : d.onlyRegs g := by
  unfold Dev.onlyRegs at *
  rw [k, h]

theorem Dev.onlyRegs.faults {d e : Dev} (h : d.onlyRegs e) : e.faults = d.faults := by rw [h]

theorem Dev.onlyRegs.mode {d e : Dev} (h : d.onlyRegs e) : e.mode = d.mode := by rw [h]

theorem Dev.onlyRegs.sameBytes {d e : Dev} (h : d.onlyRegs e) : d.sameBytes e := by
  rw [h]
  exact ⟨fun _ => rfl, fun _ => rfl, fun _ => rfl⟩

/-! Which accesses reach their register. -/

/-- An access that is not naturally aligned is refused with cause TARGET (R14). -/
theorem regRefused_misaligned (d : Dev) (a : Nat) (h : a % 4 ≠ 0) : d.regRefused a = some .target := by
  simp [Dev.regRefused, h]

/-- The address is aligned and lies in an assigned block that serves in every state: no port bank, lane, sequencer, Riser or
buffer pool (R411), nor the Newel (R170). -/
def servedAlways (a : Nat) : Bool :=
  decide (a % 4 = 0) && blockAssigned a && (pbkBank a).isNone && (cncLane a).isNone
    && !([0x40006, 0x40007, 0x4000E, 0x4000F].contains (a / 0x1000))

theorem servedAlways_iff (a : Nat) : servedAlways a = true ↔
    a % 4 = 0 ∧ blockAssigned a = true ∧ pbkBank a = none ∧ cncLane a = none ∧
      a / 0x1000 ≠ 0x40006 ∧ a / 0x1000 ≠ 0x40007 ∧ a / 0x1000 ≠ 0x4000E ∧ a / 0x1000 ≠ 0x4000F := by
  simp [servedAlways, and_assoc]

/-- An access that no block refuses (R14, R15, R411). -/
theorem regRefused_servedAlways (d : Dev) (a : Nat) (h : servedAlways a = true) : d.regRefused a = none := by
  obtain ⟨haligned, hassigned, hbank, hlane, -, hpool, hseq, hriser⟩ := (servedAlways_iff a).1 h
  simp [Dev.regRefused, Dev.blockHeld, Dev.bankHeld, haligned, hassigned, hbank, hlane, hpool, hseq, hriser]

/-- No initiator is foreign outside the Newel (R170). -/
theorem nwlForeign_servedAlways (init origin a : Nat) (h : servedAlways a = true) : nwlForeign init origin a = false := by
  obtain ⟨-, -, -, -, hnewel, -⟩ := (servedAlways_iff a).1 h
  simp [nwlForeign, hnewel]

/-! Registers that a write treats by their access codes alone. -/

/-- A write without the TWIN flag is what the access codes say and nothing more: no block refuses it, and the register is
neither a twin, nor one for the Steward alone, nor one whose write acts. -/
structure CodesAlone (a : Nat) : Prop where
  served : servedAlways a = true
  noTwin : twinBase a = none
  anyInit : stwOnly a = false
  noSpecial : ∀ (d : Dev) (init origin : Nat) (v : Word), specialWrite d init origin a v = none
  noAfter : ∀ (old d : Dev), writeAfter old d a = d

/-- Such a write answers OK and stores what the access codes say. -/
theorem regWriteAny_codesAlone (d : Dev) (init origin a : Nat) (v : Word) (h : CodesAlone a) :
    regWriteAny d init origin a v false = (.ok [], plainWrite d a v) := by
  simp [regWriteAny, regWrite, openWrite, regRefused_servedAlways d a h.served,
    nwlForeign_servedAlways init origin a h.served, h.noTwin, h.anyInit, h.noSpecial, h.noAfter]

theorem codesAlone_atcErr : CodesAlone ATC_ERR.addr :=
  ⟨by decide, by decide, by decide, fun _ _ _ _ => rfl, fun _ _ => rfl⟩

theorem codesAlone_sysRstcause : CodesAlone SYS_RSTCAUSE.addr :=
  ⟨by decide, by decide, by decide, fun _ _ _ _ => rfl, fun _ _ => rfl⟩

/-! Writes of read-only registers and of flags. -/

/-- Every field of the register at an address is RO. -/
def readOnly (a : Nat) : Bool := (specOf a).all (fun r => r.fields.all (fun f => f.acc == .ro))

/-- The bits of the W1C fields of a register. -/
def RegSpec.flagBits (r : RegSpec) : Word := r.bitsWhere (fun f => f.acc == .w1c)

/-- The counters tied to the flags in `m` count one event each. -/
def countSets (m : Word) (cs : List (Nat × Fld)) (d : Dev) : Dev :=
  cs.foldl (fun d p => if m.getLsbD p.1 then d.bump p.2 1 else d) d

/-- A read-only register has no bits of another access code. -/
theorem bitsWhere_readOnly {a : Nat} {r : RegSpec} (ha : readOnly a = true) (hr : specOf a = some r)
    (p : FieldSpec → Bool) (hp : ∀ f : FieldSpec, f.acc = .ro → p f = false) : r.bitsWhere p = 0#32 := by
  refine bitsWhere_eq_zero r p (fun f hf => hp f ?_)
  simp only [readOnly, hr, Option.all_some, List.all_eq_true, beq_iff_eq] at ha
  exact ha f hf

/-- A write of a read-only register stores nothing (R16). -/
theorem plainWrite_readOnly (d : Dev) (a : Nat) (v : Word) (h : readOnly a = true) : plainWrite d a v = d := by
  unfold plainWrite
  split
  · next r hr =>
    rw [bitsWhere_readOnly h hr _ (by simp +contextual), bitsWhere_readOnly h hr _ (by simp +contextual),
      bitsWhere_readOnly h hr _ (by simp +contextual)]
    rfl
  · rfl

/-- Hardware sets no flag of a read-only register. -/
theorem hwSet_readOnly (d : Dev) (a : Nat) (sets : Word) (h : readOnly a = true) : hwSet d a sets = d := by
  unfold hwSet
  split
  · next r hr =>
    rw [bitsWhere_readOnly h hr _ (by simp +contextual)]
    simp
  · rfl

/-- Hardware that sets nothing changes nothing. -/
@[simp] theorem hwSet_zero (d : Dev) (a : Nat) : hwSet d a 0#32 = d := by
  unfold hwSet
  split <;> simp

/-- A write by the access codes stores one word at its address, or nothing. -/
theorem plainWrite_cases (d : Dev) (a : Nat) (v : Word) : plainWrite d a v = d ∨ ∃ w, plainWrite d a v = d.put a w := by
  unfold plainWrite
  split
  · dsimp only
    split
    · exact .inl rfl
    · exact .inr ⟨_, rfl⟩
  · exact .inl rfl

/-- A write by the access codes touches nothing outside the registers. -/
theorem plainWrite_onlyRegs (d : Dev) (a : Nat) (v : Word) : d.onlyRegs (plainWrite d a v) := by
  obtain h | ⟨w, h⟩ := plainWrite_cases d a v
  · rw [h]; exact d.onlyRegs_refl
  · rw [h]; exact d.onlyRegs_put a w

/-- A write by the access codes leaves every other register alone. -/
theorem plainWrite_ld_ne (d : Dev) (a b : Nat) (v : Word) (h : b ≠ a) : (plainWrite d a v).ld b = d.ld b := by
  obtain hw | ⟨w, hw⟩ := plainWrite_cases d a v
  · rw [hw]
  · rw [hw, Dev.put_ld_ne d a b w h]

/-- A write of a register of W1C flags: a 1 clears its flag, a 0 leaves it (R7). -/
theorem plainWrite_flags_ld (d : Dev) {a : Nat} {r : RegSpec} (v : Word) (hr : specOf a = some r)
    (hflags : ∀ f ∈ r.fields, f.acc = .w1c) (hbank : pbkBank a = none) :
    (plainWrite d a v).ld a = d.ld a &&& ~~~(v &&& r.flagBits) := by
  have hst : r.bitsWhere (fun f => f.acc == .rw || f.acc == .rmw) = 0#32 :=
    bitsWhere_eq_zero r _ (fun f hf => by simp [hflags f hf])
  have hset : r.bitsWhere (fun f => f.acc == .w1s) = 0#32 := bitsWhere_eq_zero r _ (fun f hf => by simp [hflags f hf])
  have hones (w : Word) : w &&& ~~~0#32 = w := by rw [BitVec.not_zero, BitVec.and_allOnes]
  unfold plainWrite
  simp only [hr, hst, hset, hbank, BitVec.zero_or, BitVec.or_zero, BitVec.and_zero, hones]
  change (if r.flagBits = 0#32 then d else d.put a (d.ld a &&& ~~~(r.flagBits &&& v))).ld a = _
  split
  · next h => rw [h, BitVec.and_zero, hones]
  · rw [Dev.put_ld, BitVec.and_comm v]

theorem countSets_onlyRegs (m : Word) : ∀ (cs : List (Nat × Fld)) (d : Dev), d.onlyRegs (countSets m cs d)
  | [], d => d.onlyRegs_refl
  | p :: cs, d => by
    unfold countSets
    rw [List.foldl_cons]
    refine Dev.onlyRegs.trans ?_ (countSets_onlyRegs m cs _)
    split
    · exact d.onlyRegs_bump _ _
    · exact d.onlyRegs_refl

/-- A register that holds none of the counters reads as before. -/
theorem countSets_ld_ne (m : Word) (b : Nat) :
    ∀ (cs : List (Nat × Fld)) (d : Dev), (∀ p ∈ cs, b ≠ p.2.addr) → (countSets m cs d).ld b = d.ld b
  | [], _, _ => rfl
  | p :: cs, d, h => by
    unfold countSets
    rw [List.foldl_cons]
    refine (countSets_ld_ne m b cs _ (fun q hq => h q (List.mem_cons_of_mem _ hq))).trans ?_
    split
    · exact Dev.wr_ld_ne d p.2 _ b (h p List.mem_cons_self)
    · rfl

/-- What hardware sets in the cycle of a write: flags of the register, then the counters tied to them (R8, R165). -/
theorem hwSet_eq (d : Dev) {a : Nat} {r : RegSpec} (sets : Word) (hr : specOf a = some r) :
    hwSet d a sets = if sets &&& r.flagBits = 0#32 then d
      else countSets (sets &&& r.flagBits) (tiedCounters a) (d.put a (d.ld a ||| (sets &&& r.flagBits))) := by
  unfold hwSet
  simp only [hr]
  rfl

theorem hwSet_onlyRegs (d : Dev) (a : Nat) (sets : Word) : d.onlyRegs (hwSet d a sets) := by
  cases hr : specOf a with
  | none => simp only [hwSet, hr]; exact d.onlyRegs_refl
  | some r =>
    rw [hwSet_eq d sets hr]
    split
    · exact d.onlyRegs_refl
    · exact (d.onlyRegs_put _ _).trans (countSets_onlyRegs _ _ _)

/-- Flags that hardware sets in the cycle of a write are set, whatever the write did; all others stay (R8). -/
theorem hwSet_ld (d : Dev) {a : Nat} {r : RegSpec} (sets : Word) (hr : specOf a = some r)
    (hc : ∀ p ∈ tiedCounters a, a ≠ p.2.addr) : (hwSet d a sets).ld a = d.ld a ||| (sets &&& r.flagBits) := by
  rw [hwSet_eq d sets hr]
  split
  · next h => simp [h]
  · rw [countSets_ld_ne _ _ _ _ hc, Dev.put_ld]

/-- Hardware that sets flags of one register changes no other but the counters tied to them. -/
theorem hwSet_ld_ne (d : Dev) (a b : Nat) (sets : Word) (hb : b ≠ a) (hc : ∀ p ∈ tiedCounters a, b ≠ p.2.addr) :
    (hwSet d a sets).ld b = d.ld b := by
  cases hr : specOf a with
  | none => simp only [hwSet, hr]
  | some r =>
    rw [hwSet_eq d sets hr]
    split
    · rfl
    · rw [countSets_ld_ne _ _ _ _ hc, Dev.put_ld_ne _ _ _ _ hb]

/-- A register that a write and the hardware of its cycle both touch changes nothing outside the registers. -/
theorem hwSet_plainWrite_onlyRegs (d : Dev) (a : Nat) (v sets : Word) : d.onlyRegs (hwSet (plainWrite d a v) a sets) :=
  (plainWrite_onlyRegs d a v).trans (hwSet_onlyRegs _ a sets)

/-- A register of W1C flags with no counter in it: a 1 clears, a 0 leaves, and what hardware sets in the cycle stands (R8). -/
theorem hwSet_plainWrite_ld (d : Dev) {a : Nat} {r : RegSpec} (v sets : Word) (hr : specOf a = some r)
    (hflags : ∀ f ∈ r.fields, f.acc = .w1c) (hbank : pbkBank a = none) (hc : ∀ p ∈ tiedCounters a, a ≠ p.2.addr) :
    (hwSet (plainWrite d a v) a sets).ld a = (d.ld a &&& ~~~(v &&& r.flagBits)) ||| (sets &&& r.flagBits) := by
  rw [hwSet_ld _ sets hr hc, plainWrite_flags_ld d v hr hflags hbank]

/-- Every other register that holds no counter of the flags reads as before. -/
theorem hwSet_plainWrite_ld_ne (d : Dev) (a b : Nat) (v sets : Word) (hb : b ≠ a)
    (hc : ∀ p ∈ tiedCounters a, b ≠ p.2.addr) : (hwSet (plainWrite d a v) a sets).ld b = d.ld b := by
  rw [hwSet_ld_ne _ a b sets hb hc, plainWrite_ld_ne d a b v hb]

/-! Reads that clear. -/

/-- The bits of the RC fields of a register. -/
def RegSpec.clearBits (r : RegSpec) : Word := r.bitsWhere (fun f => f.acc == .rc)

/-- What a read leaves of RC fields that restart at 0: the increments of its cycle (R9, R165). -/
theorem readClear_ld (d : Dev) {a : Nat} {r : RegSpec} (incs : Word) (hr : specOf a = some r)
    (hreset : r.resetWord &&& r.clearBits = 0#32) : (readClear d a incs).ld a = mergeBits r.clearBits (d.ld a) incs := by
  unfold readClear
  simp only [hr]
  change (if r.clearBits = 0#32 then d else
    d.put a (mergeBits r.clearBits (d.ld a) incs ||| (r.resetWord &&& r.clearBits))).ld a = _
  split
  · next h => rw [h, mergeBits, BitVec.not_zero, BitVec.and_allOnes, BitVec.and_zero, BitVec.or_zero]
  · rw [hreset, BitVec.or_zero, Dev.put_ld]

/-- A read that clears stores one word at its address, or nothing. -/
theorem readClear_cases (d : Dev) (a : Nat) (incs : Word) :
    readClear d a incs = d ∨ ∃ w, readClear d a incs = d.put a w := by
  unfold readClear
  split
  · dsimp only
    split
    · exact .inl rfl
    · exact .inr ⟨_, rfl⟩
  · exact .inl rfl

/-- A read that clears leaves every other register alone. -/
theorem readClear_ld_ne (d : Dev) (a b : Nat) (incs : Word) (h : b ≠ a) : (readClear d a incs).ld b = d.ld b := by
  obtain hw | ⟨w, hw⟩ := readClear_cases d a incs
  · rw [hw]
  · rw [hw, Dev.put_ld_ne d a b w h]

/-- A read that clears touches nothing outside the registers. -/
theorem readClear_onlyRegs (d : Dev) (a : Nat) (incs : Word) : d.onlyRegs (readClear d a incs) := by
  obtain h | ⟨w, h⟩ := readClear_cases d a incs
  · rw [h]; exact d.onlyRegs_refl
  · rw [h]; exact d.onlyRegs_put a w

/-! Counters. -/

/-- A saturating sum stays at the largest value of its field. -/
theorem satAdd_eq_min (w a b : Nat) : satAdd w a b = min (2 ^ w - 1) (a + b) := by
  have hpos : 0 < 2 ^ w := by positivity
  unfold satAdd
  split <;> omega

/-- A counter counts up to the largest value of its field. -/
theorem Dev.bump_rd (d : Dev) (f : Fld) (n : Nat) (hlo : f.lo ≤ f.hi) (hhi : f.hi < 32) :
    (d.bump f n).rd f = min (2 ^ (f.hi + 1 - f.lo) - 1) (d.rd f + n) := by
  have hpos : 0 < 2 ^ (f.hi + 1 - f.lo) := by positivity
  rw [Dev.bump, Dev.wr_rd _ _ _ hlo hhi, satAdd_eq_min, Nat.mod_eq_of_lt (by omega)]

/-- A field above the one set reads as before. -/
theorem Dev.wr_rd_above (d : Dev) (g f : Fld) (v : Nat) (hlo : g.lo ≤ g.hi) (hhi : g.hi < 32) (ha : g.hi < f.lo)
    (h : f.addr = g.addr) : (d.wr g v).rd f = d.rd f := by
  rw [Dev.wr, Dev.rd, h, Dev.put_ld, fld_setFld_above _ _ _ _ _ _ hlo hhi ha, Dev.rd, h]

/-! REGISTER_WRITE and READ_CLEAR_READ as commands. -/

/-- A register is stored where it is addressed, outside the port banks. -/
theorem canonAddr_servedAlways (a : Nat) (h : servedAlways a = true) : canonAddr a = a := by
  obtain ⟨-, -, hbank, -⟩ := (servedAlways_iff a).1 h
  have hrange : ¬(0x40010 ≤ a / 0x1000 ∧ a / 0x1000 < 0x40016) := fun h => by simp [pbkBank, h] at hbank
  rw [canonAddr, if_neg (by omega)]

/-- A read of a register that no block refuses, that is no twin and whose read does not act: the value as a read shows it, and
its RC fields cleared (R7, R9). -/
theorem regRead_plain (d : Dev) (init origin a : Nat) (incs : Word) (hserved : servedAlways a = true)
    (htwin : twinBase a = none) (hspecial : specialRead d init origin a = none) :
    regRead d init origin a incs = (.ok (wordBytes (d.view a)), readClear d a incs) := by
  simp [regRead, regRefused_servedAlways d a hserved, nwlForeign_servedAlways init origin a hserved, htwin, hspecial,
    canonAddr_servedAlways a hserved]

/-- A write that is not naturally aligned is refused with cause TARGET, with the TWIN flag or without (R14). -/
theorem regWriteAny_misaligned (d : Dev) (init origin a : Nat) (v : Word) (twin : Bool) (h : a % 4 ≠ 0) :
    regWriteAny d init origin a v twin = (.err .target, d) := by
  have hplain : regWrite d init origin a v = (.err .target, d) := by simp [regWrite, regRefused_misaligned d a h]
  unfold regWriteAny
  rw [regRefused_misaligned d a h, hplain]
  split <;> rfl

/-- A read that is not naturally aligned is refused with cause TARGET (R14). -/
theorem regRead_misaligned (d : Dev) (init origin a : Nat) (incs : Word) (h : a % 4 ≠ 0) :
    regRead d init origin a incs = (.err .target, d) := by simp [regRead, regRefused_misaligned d a h]

/-- REGISTER_WRITE where the NI admits it and nothing outside the registers changes. -/
theorem registerWrite_next (init origin a : Nat) (data sets : Word) (twin : Bool) (s : State) (r : Resp) (e : Dev)
    (hf : s.dev.faults = []) (hopen : s.dev.niOpen init = true)
    (hr : regWriteAny s.dev init origin a data twin = (r, e)) (he : s.dev.onlyRegs e) :
    exec (.registerWrite ⟨init, origin⟩ a data twin sets) s =
      .next { s with dev := { hwSet e (canonAddr a) sets with resp := r } } := by
  have hregs := he.trans (hwSet_onlyRegs e (canonAddr a) sets)
  have hexec : exec (.registerWrite ⟨init, origin⟩ a data twin sets) s =
    execRegisterWrite ⟨init, origin⟩ a data twin sets s := rfl
  rw [hexec, execRegisterWrite, rowWrite_open init s _ hopen]
  simp only [hr]
  exact fin_none _ _ (hregs.faults.trans hf)

/-- READ_CLEAR_READ where the NI admits it and nothing outside the registers changes. -/
theorem readClearRead_next (init origin a : Nat) (incs : Word) (s : State) (r : Resp) (e : Dev)
    (hf : s.dev.faults = []) (hopen : s.dev.niOpen init = true)
    (hr : regRead s.dev init origin a incs = (r, e)) (he : s.dev.onlyRegs e) :
    exec (.readClearRead ⟨init, origin⟩ a incs) s = .next { s with dev := { e with resp := r } } := by
  have hexec : exec (.readClearRead ⟨init, origin⟩ a incs) s = execReadClearRead ⟨init, origin⟩ a incs s := rfl
  rw [hexec, execReadClearRead, rowWrite_open init s _ hopen]
  simp only [hr]
  exact fin_none _ _ (he.faults.trans hf)

/-- REGISTER_WRITE of a register that follows its access codes alone: the response is OK, and the flags that hardware sets in
the same cycle are set after the write (R7, R8). -/
theorem registerWrite_codesAlone (init origin a : Nat) (data sets : Word) (s : State) (hf : s.dev.faults = [])
    (hopen : s.dev.niOpen init = true) (ha : CodesAlone a) :
    exec (.registerWrite ⟨init, origin⟩ a data false sets) s =
      .next { s with dev := { hwSet (plainWrite s.dev a data) a sets with resp := .ok [] } } := by
  have hwrite := regWriteAny_codesAlone s.dev init origin a data ha
  rw [registerWrite_next _ _ _ _ _ _ _ _ _ hf hopen hwrite (plainWrite_onlyRegs _ _ _), canonAddr_servedAlways a ha.served]

/-! Accesses without effect. -/

/-- These registers follow their access codes alone, and all their fields are RO. -/
theorem readOnlyRegs_codesAlone :
    ∀ a ∈ [SYS_DEVID.addr, SYS_REV.addr, SYS_MODE.addr, SYS_STRAP.addr, SYS_VER_BOOT.addr, SYS_VER_WL.addr,
      SYS_SVCSUM.addr, EVQ_STAT.addr, BAL_STATE.addr], CodesAlone a ∧ readOnly a = true := by
  simp only [List.forall_mem_cons]
  refine ⟨?_, ?_, ?_, ?_, ?_, ?_, ?_, ?_, ?_, by simp⟩ <;>
    exact ⟨⟨by decide, by decide, by decide, fun _ _ _ _ => rfl, fun _ _ => rfl⟩, by decide⟩

/-- Settles O9: a misaligned access is refused before any register, and a write of RO fields stores nothing. -/
theorem registerAccessesWithoutEffect : Obligations.RegisterAccessesWithoutEffect := by
  intro init origin a data sets twin s hf hopen
  refine ⟨fun ha => ⟨?_, ?_⟩, fun ha => ?_⟩
  · rw [registerWrite_next _ _ _ _ _ _ _ _ _ hf hopen (regWriteAny_misaligned _ _ _ _ _ _ ha) s.dev.onlyRegs_refl,
      hwSet_zero]
  · exact readClearRead_next _ _ _ _ _ _ _ hf hopen (regRead_misaligned _ _ _ _ _ ha) s.dev.onlyRegs_refl
  · obtain ⟨hcodes, hro⟩ := readOnlyRegs_codesAlone a ha
    rw [registerWrite_codesAlone _ _ _ _ _ _ hf hopen hcodes, plainWrite_readOnly _ _ _ hro, hwSet_readOnly _ _ _ hro]

/-! SYS_RSTCAUSE and ATC_ERR. -/

/-- SYS_RSTCAUSE holds W1C flags only, in bits 6 to 2 and 0. -/
theorem specOf_sysRstcause :
    ∃ r, specOf SYS_RSTCAUSE.addr = some r ∧ (∀ f ∈ r.fields, f.acc = .w1c) ∧ r.flagBits = 0x7D#32 :=
  ⟨_, rfl, by decide, by decide⟩

/-- REGISTER_WRITE of SYS_RSTCAUSE: cleared by a 1, kept by a 0, set by hardware of the same cycle, nothing else changed. -/
theorem registerWrite_sysRstcause (init origin : Nat) (data sets : Word) (s : State) (hf : s.dev.faults = [])
    (hopen : s.dev.niOpen init = true) :
    Completes (.registerWrite ⟨init, origin⟩ SYS_RSTCAUSE.addr data false sets) s (fun t =>
      t.dev.resp = .ok [] ∧
      t.dev.ld SYS_RSTCAUSE.addr = (s.dev.ld SYS_RSTCAUSE.addr &&& ~~~(data &&& 0x7D#32)) ||| (sets &&& 0x7D#32) ∧
      Dev.sameRegs [SYS_RSTCAUSE.addr] s.dev t.dev ∧ s.dev.sameBytes t.dev ∧ t.dev.mode = s.dev.mode) := by
  obtain ⟨r, hr, hacc, hflags⟩ := specOf_sysRstcause
  have hcounters : tiedCounters SYS_RSTCAUSE.addr = [] := rfl
  have hregs := hwSet_plainWrite_onlyRegs s.dev SYS_RSTCAUSE.addr data sets
  have hld := hwSet_plainWrite_ld s.dev data sets hr hacc (by decide) (by simp [hcounters])
  rw [hflags] at hld
  refine ⟨_, registerWrite_codesAlone _ _ _ _ _ _ hf hopen codesAlone_sysRstcause, rfl, hld, ?_, hregs.sameBytes,
    hregs.mode⟩
  intro a ha
  exact hwSet_plainWrite_ld_ne s.dev _ a data sets (by simpa using ha) (by simp [hcounters])

/-- ATC_ERR holds the flags CORR, UNC and WINDOW in bits 0 to 2. -/
theorem specOf_atcErr : ∃ r, specOf ATC_ERR.addr = some r ∧ r.flagBits = 7#32 := ⟨_, rfl, by decide⟩

/-- Corrected and uncorrectable errors are counted in the fields of ATC_ECCCNT (R165). -/
theorem tiedCounters_atcErr : tiedCounters ATC_ERR.addr = [(0, ATC_ECCCNT.CORR), (1, ATC_ECCCNT.UNC)] := rfl

/-- A corrected error in the cycle sets its flag and counts in its counter (R8, R165). -/
theorem hwSet_atcErr_corr (d : Dev) : hwSet d ATC_ERR.addr 1#32 =
    (d.put ATC_ERR.addr (d.ld ATC_ERR.addr ||| 1#32)).bump ATC_ECCCNT.CORR 1 := by
  obtain ⟨r, hr, hflags⟩ := specOf_atcErr
  rw [hwSet_eq d _ hr, hflags, tiedCounters_atcErr]
  rfl

/-- The flag of a corrected error in the cycle is set. -/
theorem hwSet_atcErr_rd_flag (d : Dev) : (hwSet d ATC_ERR.addr 1#32).rd ATC_ERR.CORR = 1 := by
  rw [hwSet_atcErr_corr, Dev.bump, Dev.wr_rd_ne _ _ _ _ (by decide), Dev.rd]
  change fld ((d.put ATC_ERR.addr _).ld ATC_ERR.addr) 0 0 = fld 1#32 0 0
  rw [Dev.put_ld]
  refine fld_congr fun i _ hi => ?_
  obtain rfl : i = 0 := Nat.le_zero.1 hi
  simp

/-- The counter of corrected errors counts the one of the cycle. -/
theorem hwSet_atcErr_rd_corr (d : Dev) :
    (hwSet d ATC_ERR.addr 1#32).rd ATC_ECCCNT.CORR = min 0xFFFF (d.rd ATC_ECCCNT.CORR + 1) := by
  rw [hwSet_atcErr_corr, Dev.bump_rd _ _ _ (by decide) (by decide), Dev.put_rd_ne _ _ _ _ (by decide)]
  rfl

/-- The counter of uncorrectable errors stays. -/
theorem hwSet_atcErr_rd_unc (d : Dev) :
    (hwSet d ATC_ERR.addr 1#32).rd ATC_ECCCNT.UNC = d.rd ATC_ECCCNT.UNC := by
  rw [hwSet_atcErr_corr, ← Dev.put_rd_ne d ATC_ERR.addr _ ATC_ECCCNT.UNC (by decide)]
  exact Dev.wr_rd_above _ ATC_ECCCNT.CORR ATC_ECCCNT.UNC _ (by decide) (by decide) (by decide) rfl

/-- REGISTER_WRITE of ATC_ERR in the cycle of a corrected error: the flag is set whatever the write did, its counter counts,
nothing else changes. -/
theorem registerWrite_atcErr (init origin : Nat) (data : Word) (s : State) (hf : s.dev.faults = [])
    (hopen : s.dev.niOpen init = true) :
    Completes (.registerWrite ⟨init, origin⟩ ATC_ERR.addr data false 1#32) s (fun t =>
      t.dev.resp = .ok [] ∧ t.dev.rd ATC_ERR.CORR = 1 ∧
      t.dev.rd ATC_ECCCNT.CORR = min 0xFFFF (s.dev.rd ATC_ECCCNT.CORR + 1) ∧
      t.dev.rd ATC_ECCCNT.UNC = s.dev.rd ATC_ECCCNT.UNC ∧
      Dev.sameRegs [ATC_ERR.addr, ATC_ECCCNT.addr] s.dev t.dev ∧ s.dev.sameBytes t.dev) := by
  have hcnt (f : Fld) (h : f.addr ≠ ATC_ERR.addr) : (plainWrite s.dev ATC_ERR.addr data).rd f = s.dev.rd f := by
    rw [Dev.rd, plainWrite_ld_ne _ _ _ _ h, Dev.rd]
  refine ⟨_, registerWrite_codesAlone _ _ _ _ _ _ hf hopen codesAlone_atcErr, rfl, hwSet_atcErr_rd_flag _,
    (hwSet_atcErr_rd_corr _).trans (by rw [hcnt _ (by decide)]), (hwSet_atcErr_rd_unc _).trans (hcnt _ (by decide)), ?_,
    (hwSet_plainWrite_onlyRegs s.dev _ data 1#32).sameBytes⟩
  intro a ha
  simp only [List.mem_cons, List.not_mem_nil, or_false, not_or] at ha
  obtain ⟨herr, hecc⟩ := ha
  have hcounters : ∀ p ∈ tiedCounters ATC_ERR.addr, a ≠ p.2.addr := by
    simpa [tiedCounters_atcErr] using ⟨hecc, hecc⟩
  exact hwSet_plainWrite_ld_ne s.dev _ a data 1#32 herr hcounters

/-- Settles O8, by the two registers that stand for all. -/
theorem registerWriteClearsFlags : Obligations.RegisterWriteClearsFlags := fun init origin data sets s hf hopen =>
  ⟨registerWrite_atcErr init origin data s hf hopen, registerWrite_sysRstcause init origin data sets s hf hopen⟩

/-! The event-loss counter. -/

/-- EVQ_LOST.COUNT is the one RC field of its register, and it restarts at 0. -/
theorem specOf_evqLost : ∃ r, specOf EVQ_LOST.addr = some r ∧ r.clearBits = maskOf 15 0 ∧
    r.resetWord &&& r.clearBits = 0#32 := ⟨_, rfl, by decide, by decide⟩

/-- Settles O10: only COUNT is merged with the losses of the cycle. -/
theorem readClearCounterRestarts : Obligations.ReadClearCounterRestarts := by
  intro init origin incs s hf hopen
  obtain ⟨r, hr, hbits, hreset⟩ := specOf_evqLost
  have hread := regRead_plain s.dev init origin EVQ_LOST.addr incs (by decide) (by decide) rfl
  have hregs := readClear_onlyRegs s.dev EVQ_LOST.addr incs
  have hld := readClear_ld s.dev incs hr hreset
  rw [hbits] at hld
  refine ⟨_, readClearRead_next _ _ _ _ _ _ _ hf hopen hread hregs, rfl, ?_, ?_, ?_, hregs.sameBytes⟩
  · exact (congrArg (fld · 15 0) hld).trans (fld_mergeBits _ _ _ _ (by decide))
  · exact (congrArg (fld · 16 16) hld).trans (fld_mergeBits_other _ _ _ _ _ _ (by decide) (by decide))
  · intro a ha
    exact readClear_ld_ne s.dev _ a incs (by simpa using ha)

end Sys2Proof.Machine
end


section
/-!
The statements of the station's architecture: a step runs the front command, and the frames of the Gallery. This part says
what a chain of operations leaves alone, and in which order the events of a cycle reach the EVQ.
-/

namespace Sys2Proof.Machine

/-- Settles O1: the front command is the one that `step` matches on. -/
theorem stepRunsFrontCommand : Obligations.StepRunsFrontCommand := by
  intro c r s hpending
  rw [step, hpending]

/-! Registers left alone. -/

theorem Dev.sameRegs.mono {xs ys : List Nat} {d e : Dev} (h : Dev.sameRegs xs d e) (hsub : xs ⊆ ys) :
    Dev.sameRegs ys d e := fun a ha => h a fun hx => ha (hsub hx)

theorem Dev.sameRegs.trans {xs : List Nat} {d e g : Dev} (h : Dev.sameRegs xs d e) (k : Dev.sameRegs xs e g) :
    Dev.sameRegs xs d g := fun a ha => (k a ha).trans (h a ha)

theorem Dev.sameRegs_of_regs {d e : Dev} (h : e.regs = d.regs) (xs : List Nat) : Dev.sameRegs xs d e :=
  fun a _ => by rw [Dev.ld, h, Dev.ld]

/-- A store is seen only at its address. -/
theorem Dev.sameRegs_put (d : Dev) (a : Nat) (v : Word) {xs : List Nat} (h : a ∈ xs) : Dev.sameRegs xs d (d.put a v) :=
  fun b hb => Dev.put_ld_ne d a b v fun hba => hb (hba ▸ h)

theorem Dev.sameRegs_wr (d : Dev) (f : Fld) (v : Nat) {xs : List Nat} (h : f.addr ∈ xs) : Dev.sameRegs xs d (d.wr f v) :=
  Dev.sameRegs_put d f.addr _ h

theorem Dev.sameRegs_bump (d : Dev) (f : Fld) (n : Nat) {xs : List Nat} (h : f.addr ∈ xs) :
    Dev.sameRegs xs d (d.bump f n) := Dev.sameRegs_put d f.addr _ h

theorem Dev.sameRegs_pulse (d : Dev) (n : Nat) {xs : List Nat} (h : ICU_PEND.addr (n / 32) ∈ xs) :
    Dev.sameRegs xs d (d.pulse n) := fun a ha => pulse_ld d n a fun he => ha (he ▸ h)

section
variable {xs : List Nat} {d e : Dev} (h : Dev.sameRegs xs d e)
include h

theorem Dev.sameRegs.rd (f : Fld) (hf : f.addr ∉ xs) : e.rd f = d.rd f := by rw [Dev.rd, h _ hf, Dev.rd]

theorem Dev.sameRegs.on (f : Fld) (hf : f.addr ∉ xs) : e.on f = d.on f := by rw [Dev.on, h.rd f hf, Dev.on]

theorem Dev.sameRegs.acts (f : Fld) (hf : f.addr ∉ xs) : e.acts f = d.acts f := by
  unfold Dev.acts
  rw [h.rd f hf]

theorem Dev.sameRegs.twinOk (a : Nat) (ha : a ∉ xs) (hb : a + 0x800 ∉ xs) : e.twinOk a = d.twinOk a := by
  unfold Dev.twinOk
  rw [h _ ha, h _ hb]

/-- The active bank stands in GSQ_BANK. -/
theorem Dev.sameRegs.activeBank (hb : GSQ_BANK.addr ∉ xs) : e.activeBank = d.activeBank := by
  unfold Dev.activeBank
  rw [h.on GSQ_BANK.NONE hb, h.rd GSQ_BANK.ACTIVE hb]

end

/-- A one-bit field is 0 or 1. -/
theorem Dev.rd_lt (d : Dev) (f : Fld) : d.rd f < 2 ^ (f.hi + 1 - f.lo) := Nat.mod_lt _ (by positivity)

theorem Dev.on_iff (d : Dev) (f : Fld) : d.on f = true ↔ d.rd f = 1 := by simp [Dev.on]

theorem Dev.on_false_of_zero (d : Dev) (f : Fld) (h : d.rd f = 0) : d.on f = false := by simp [Dev.on, h]

/-- A field below the one set reads as before. -/
theorem Dev.wr_rd_below (d : Dev) (g f : Fld) (v : Nat) (hlo : g.lo ≤ g.hi) (hhi : g.hi < 32) (hb : f.hi < g.lo)
    (hf : f.lo ≤ f.hi) (h : f.addr = g.addr) : (d.wr g v).rd f = d.rd f := by
  rw [Dev.wr, Dev.rd, h, Dev.put_ld, fld_setFld_below _ _ _ _ _ _ hlo hhi hb hf, Dev.rd, h]

/-! Pending bits. -/

/-- A pulse of a source that is not reserved sets its pending bit (R154). -/
theorem srcBit_pulse (d : Dev) (n : Nat) (h : srcReserved n = false) : (d.pulse n).srcBit ICU_PEND.addr n = true := by
  have hbit : (BitVec.ofNat 32 (2 ^ (n % 32))).getLsbD (n % 32) = true := by
    simp only [BitVec.getLsbD_ofNat, Nat.testBit_two_pow_self, Nat.mod_lt n (by decide : 32 > 0), decide_true, Bool.and_self]
  rw [Dev.pulse, h, if_neg Bool.false_ne_true, Dev.srcBit, Dev.put_ld, BitVec.getLsbD_or, hbit, Bool.or_true]

/-- A pulse clears no pending bit. -/
theorem srcBit_pulse_of (d : Dev) (n m : Nat) (h : d.srcBit ICU_PEND.addr m = true) :
    (d.pulse n).srcBit ICU_PEND.addr m = true := by
  unfold Dev.pulse
  split
  · exact h
  · unfold Dev.srcBit at *
    by_cases ha : ICU_PEND.addr (m / 32) = ICU_PEND.addr (n / 32)
    · rw [ha, Dev.put_ld, BitVec.getLsbD_or, ← ha, h, Bool.true_or]
    · rw [Dev.put_ld_ne _ _ _ _ ha, h]

theorem srcBit_of_ld {d e : Dev} (n : Nat) (h : e.ld (ICU_PEND.addr (n / 32)) = d.ld (ICU_PEND.addr (n / 32))) :
    e.srcBit ICU_PEND.addr n = d.srcBit ICU_PEND.addr n := by
  rw [Dev.srcBit, h, Dev.srcBit]

/-! Changes that a frame makes. -/

/-- Nothing changed but time, registers, service states, the EVQ, the Gallery, the lanes, the group, the Balustrade and the
draws of free values. -/
def Dev.onlyFrame (d e : Dev) : Prop :=
  e = { d with now := e.now, seed := e.seed, regs := e.regs, svc := e.svc, evq := e.evq, evGap := e.evGap, gal := e.gal,
               lanes := e.lanes, grp := e.grp, bal := e.bal }

theorem Dev.onlyFrame.trans {d e g : Dev} (h : d.onlyFrame e) (k : e.onlyFrame g) : d.onlyFrame g := by
  unfold Dev.onlyFrame at *
  rw [k, h]

theorem Dev.onlyFrame.faults {d e : Dev} (h : d.onlyFrame e) : e.faults = d.faults := by rw [h]

theorem Dev.onlyFrame.mode {d e : Dev} (h : d.onlyFrame e) : e.mode = d.mode := by rw [h]

theorem Dev.onlyFrame.wl {d e : Dev} (h : d.onlyFrame e) : e.wl = d.wl := by rw [h]

theorem Dev.onlyFrame.sameBytes {d e : Dev} (h : d.onlyFrame e) : d.sameBytes e := by
  rw [h]
  exact ⟨fun _ => rfl, fun _ => rfl, fun _ => rfl⟩

theorem Dev.onlyRegs.onlyFrame {d e : Dev} (h : d.onlyRegs e) : d.onlyFrame e := by
  unfold Dev.onlyRegs at h
  rw [h]
  rfl

theorem Dev.onlyRegs_pulse (d : Dev) (n : Nat) : d.onlyRegs (d.pulse n) := by
  unfold Dev.pulse
  split <;> rfl

theorem Dev.onlyRegs_wr (d : Dev) (f : Fld) (v : Nat) : d.onlyRegs (d.wr f v) := rfl

/-! Events. -/

/-- What an event says: all but its sequence number, its time and the GAP flag. -/
def Ev.content (v : Ev) : Nat × Nat × Bool × Word × Word := (v.block, v.code, v.crit, v.d0, v.d1)

/-- `e` is `d` with the events of a list behind its EVQ. -/
structure Dev.posts (d e : Dev) (vs : List Ev) : Prop where
  only : e = { d with regs := e.regs, evq := e.evq, evGap := e.evGap }
  regs : Dev.sameRegs [EVQ_NEXTSEQ.addr] d e
  evq : ∃ us, e.evq = d.evq ++ us ∧ us.map Ev.content = vs.map Ev.content

theorem Dev.posts.onlyFrame {d e : Dev} {vs : List Ev} (h : d.posts e vs) : d.onlyFrame e := by
  rw [h.only]
  rfl

theorem Dev.posts.gal {d e : Dev} {vs : List Ev} (h : d.posts e vs) : e.gal = d.gal := by rw [h.only]

theorem Dev.posts.svc {d e : Dev} {vs : List Ev} (h : d.posts e vs) : e.svc = d.svc := by rw [h.only]

theorem Dev.posts.now {d e : Dev} {vs : List Ev} (h : d.posts e vs) : e.now = d.now := by rw [h.only]

/-- The EVQ arbiter with room for the event (R168). -/
theorem evqAppend_posts (d : Dev) (v : Ev) (h : d.evq.length < 240) :
    d.posts (evqAppend d v.block v.code v.crit v.d0 v.d1) [v] where
  only := by rw [evqAppend_room _ _ _ _ _ _ h]; rfl
  regs := fun a ha => evqAppend_ld _ _ _ _ _ _ h a (by simpa using ha)
  evq := by rw [evqAppend_room _ _ _ _ _ _ h]; exact ⟨_, rfl, rfl⟩

/-- Events that reach the arbiter one after the other, with room for all. -/
theorem foldl_evqAppend_posts : ∀ (vs : List Ev) (d : Dev), d.evq.length + vs.length ≤ 240 →
    d.posts (vs.foldl (fun d v => evqAppend d v.block v.code v.crit v.d0 v.d1) d) vs
  | [], d, _ => ⟨rfl, fun _ _ => rfl, [], by simp⟩
  | v :: r, d, h => by
    rw [List.length_cons] at h
    obtain ⟨honly, hregs, us, hevq, hus⟩ := evqAppend_posts d v (by omega)
    have hlen := evqAppend_length d v.block v.code v.crit v.d0 v.d1 (by omega)
    obtain ⟨konly, kregs, ws, kevq, hws⟩ := foldl_evqAppend_posts r _ (by rw [hlen]; omega)
    refine ⟨?_, hregs.trans kregs, us ++ ws, ?_, ?_⟩
    · rw [List.foldl_cons, konly, honly]
    · rw [List.foldl_cons, kevq, hevq, List.append_assoc]
    · rw [List.map_append, hus, hws]
      rfl

/-- The device at the begin of a cycle: no event of it has been posted. -/
def Dev.cycleBegin (d : Dev) : Dev := { d with evq := [], evGap := false }

/-- A cycle does what its function does to the device at its begin, and then posts the events of the cycle behind those that
waited, in the order of R166. -/
theorem inCycle_posts (f : Dev → Dev) (d : Dev)
    (hroom : d.evq.length + (byBlock (f d.cycleBegin).evq).length ≤ 240) :
    Dev.posts { f d.cycleBegin with evq := d.evq, evGap := d.evGap } (inCycle f d) (byBlock (f d.cycleBegin).evq) := by
  cases hevq : (f d.cycleBegin).evq with
  | nil =>
    rw [inCycle_none f d hevq]
    exact ⟨rfl, fun _ _ => rfl, [], by simp [byBlock]⟩
  | cons v r =>
    rw [hevq] at hroom
    have hposts := foldl_evqAppend_posts (byBlock (v :: r))
      (Dev.wr { f d.cycleBegin with evq := d.evq, evGap := d.evGap } EVQ_NEXTSEQ.SEQ (d.rd EVQ_NEXTSEQ.SEQ)) hroom
    have hfold : inCycle f d = (byBlock (v :: r)).foldl (fun d v => evqAppend d v.block v.code v.crit v.d0 v.d1)
        (Dev.wr { f d.cycleBegin with evq := d.evq, evGap := d.evGap } EVQ_NEXTSEQ.SEQ (d.rd EVQ_NEXTSEQ.SEQ)) := by
      unfold Dev.cycleBegin at hevq ⊢
      simp only [inCycle, hevq, List.isEmpty_cons, Bool.false_eq_true, if_false]
    rw [hfold]
    refine ⟨?_, (Dev.sameRegs_wr _ _ _ (by decide)).trans hposts.regs, hposts.evq⟩
    rw [hposts.only]
    rfl

/-- The one event of a cycle. -/
theorem byBlock_singleton (v : Ev) (h : v.block < 256) : byBlock [v] = [v] := by
  have hrange : ∀ n, (List.range n).flatMap (fun b => [v].filter (fun e => e.block == b)) =
      if v.block < n then [v] else [] := by
    intro n
    induction n with
    | zero => rfl
    | succ n ih =>
      rw [List.range_succ, List.flatMap_append, ih]
      rcases lt_trichotomy v.block n with hv | hv | hv
      · simp [hv, hv.ne, Nat.lt_succ_of_lt hv]
      · simp [hv]
      · simp [hv.ne', Nat.not_lt.2 hv.le, show ¬ v.block < n + 1 by omega]
  rw [byBlock, hrange, if_pos h]

/-- Two events of a cycle that are posted against the order of their blocks change places (R166). -/
theorem byBlock_swap (v u : Ev) (hlt : u.block < v.block) (h : v.block < 256) : byBlock [v, u] = [u, v] := by
  have hrange : ∀ n, (List.range n).flatMap (fun b => [v, u].filter (fun e => e.block == b)) =
      (if u.block < n then [u] else []) ++ if v.block < n then [v] else [] := by
    intro n
    induction n with
    | zero => rfl
    | succ n ih =>
      have hfilter : [v, u].filter (fun e => e.block == n) =
          (if u.block = n then [u] else []) ++ if v.block = n then [v] else [] := by
        by_cases hv : v.block = n
        · simp [hv, show u.block ≠ n by omega]
        · by_cases hu : u.block = n <;> simp [hu, hv]
      rw [List.range_succ, List.flatMap_append, ih, List.flatMap_singleton, hfilter]
      split_ifs <;> grind
  rw [byBlock, hrange, if_pos (by omega), if_pos h]
  rfl

end Sys2Proof.Machine
end


section
/-!
Traps of the sequencer and the trips that they may request.
-/

namespace Sys2Proof.Machine

/-! Masks. -/

theorem maskFrom_succ (n : Nat) (f : Nat → Bool) :
    maskFrom (n + 1) f = if f n then maskFrom n f + 2 ^ n else maskFrom n f := by
  rw [maskFrom, List.range_succ, List.foldl_append]
  rfl

theorem maskFrom_lt (f : Nat → Bool) : ∀ n, maskFrom n f < 2 ^ n
  | 0 => by simp [maskFrom]
  | n + 1 => by
    have := maskFrom_lt f n
    rw [maskFrom_succ, Nat.pow_succ]
    split <;> omega

/-- Bit j of a mask is `f j`. -/
theorem testBit_maskFrom (f : Nat → Bool) (j : Nat) : ∀ n, (maskFrom n f).testBit j = (decide (j < n) && f j)
  | 0 => by simp [maskFrom]
  | n + 1 => by
    have ih := testBit_maskFrom f j n
    have hlt := maskFrom_lt f n
    rw [maskFrom_succ]
    rcases lt_trichotomy j n with hj | rfl | hj
    · split
      · rw [Nat.add_comm, Nat.testBit_two_pow_add_gt hj, ih]; simp [hj, Nat.lt_succ_of_lt hj]
      · rw [ih]; simp [hj, Nat.lt_succ_of_lt hj]
    · cases hf : f j
      · simp [ih]
      · simp [Nat.add_comm _ (2 ^ j), Nat.testBit_two_pow_add_eq, ih]
    · have hlt' : (if f n then maskFrom n f + 2 ^ n else maskFrom n f) < 2 ^ j := by
        have : 2 ^ (n + 1) ≤ 2 ^ j := Nat.pow_le_pow_right (by decide) hj
        rw [Nat.pow_succ] at this
        split <;> omega
      rw [Nat.testBit_lt_two_pow hlt']
      simp [show ¬ j < n + 1 by omega]

theorem maskFrom_eq_zero (f : Nat → Bool) (n : Nat) (h : ∀ j, j < n → f j = false) : maskFrom n f = 0 :=
  Nat.eq_of_testBit_eq fun j => by
    rw [testBit_maskFrom, Nat.zero_testBit, Bool.and_eq_false_iff, decide_eq_false_iff_not]
    by_cases hj : j < n
    · exact .inr (h j hj)
    · exact .inl hj

/-! Folds. -/

/-- A relation that every step of a fold respects holds between its ends. -/
theorem foldl_relates {γ : Type} {R : Dev → Dev → Prop} (hrefl : ∀ d, R d d) (htrans : ∀ {d e g}, R d e → R e g → R d g)
    (f : Dev → γ → Dev) : ∀ (l : List γ) (d : Dev), (∀ x ∈ l, ∀ d, R d (f d x)) → R d (l.foldl f d)
  | [], d, _ => hrefl d
  | x :: r, d, h =>
    htrans (h x (by simp) d) (foldl_relates hrefl htrans f r (f d x) fun y hy => h y (by simp [hy]))

/-! Trips. -/

/-- What a trip may change: registers of the Balustrade, its pins, the pending bit of its source, and one event of its
block in the EVQ. -/
structure Dev.trips (d e : Dev) : Prop where
  only : d.onlyFrame e
  regs : Dev.sameRegs tripRegs d e
  gal : e.gal = d.gal
  now : e.now = d.now
  evq : ∃ r, e.evq = d.evq ++ r ∧ r.length ≤ 1 ∧ ∀ u ∈ r, u.block = 0x09
  pend : ∀ n, n < 192 → d.srcBit ICU_PEND.addr n = true → e.srcBit ICU_PEND.addr n = true

/-- The cause bits of a trip are recorded. -/
def tripCauses (d : Dev) (f : Nat → Nat) : Dev :=
  (List.range 16).foldl (fun e n =>
    if (maskFrom 16 (fun n => f n != 0)).testBit n then e.put (BAL_TCAUSE.addr n) (e.ld (BAL_TCAUSE.addr n) ||| w32 (f n))
    else e) d

theorem tripCauses_onlyRegs (d : Dev) (f : Nat → Nat) : d.onlyRegs (tripCauses d f) := by
  refine foldl_relates (R := Dev.onlyRegs) Dev.onlyRegs_refl Dev.onlyRegs.trans _ _ d fun n _ d => ?_
  split
  · exact d.onlyRegs_put _ _
  · rfl

theorem tripCauses_regs (d : Dev) (f : Nat → Nat) :
    Dev.sameRegs ((List.range 16).map BAL_TCAUSE.addr) d (tripCauses d f) := by
  refine foldl_relates (R := Dev.sameRegs _) (fun _ _ _ => rfl) Dev.sameRegs.trans _ _ d fun n hn d => ?_
  split
  · exact Dev.sameRegs_put d _ _ (List.mem_map_of_mem hn)
  · exact fun _ _ => rfl

/-- No register below or above the cause registers is one. -/
theorem not_mem_tcause (a : Nat) (h : a < BAL_TCAUSE.addr 0 ∨ BAL_TCAUSE.addr 16 ≤ a) :
    a ∉ (List.range 16).map BAL_TCAUSE.addr := by
  simp only [List.mem_map, List.mem_range, not_exists, not_and, BAL_TCAUSE.addr] at *
  omega

/-- Channels that are not yet TRIPPED and have an active cause. -/
def newTrips (d : Dev) (f : Nat → Nat) : Nat :=
  maskFrom 16 (fun n => f n != 0 && !(d.rd BAL_STATE.TRIPPED).testBit n)

/-- Both pins of the new channels go low, and the AON mirror takes the new trip state. -/
def Dev.lowerPins (d : Dev) (old new : Nat) : Dev :=
  { d with bal := { d.bal with outA := maskFrom 16 (fun n => d.bal.outA.testBit n && !new.testBit n),
                               outB := maskFrom 16 (fun n => d.bal.outB.testBit n && !new.testBit n),
                               aonTrip := old ||| new } }

/-- The new channels of a trip become TRIPPED, counted and pulsed, with both pins low. -/
def tripPins (d : Dev) (new : Nat) : Dev :=
  (((d.wr BAL_STATE.TRIPPED (d.rd BAL_STATE.TRIPPED ||| new)).lowerPins (d.rd BAL_STATE.TRIPPED) new).bump BAL_CNT.TRIPS
    (bitsOf 16 new).length).pulse 80

theorem tripPins_regs (d : Dev) (new : Nat) :
    Dev.sameRegs [BAL_STATE.addr, BAL_CNT.addr, ICU_PEND.addr 2] d (tripPins d new) :=
  ((Dev.sameRegs_wr d BAL_STATE.TRIPPED _ (by decide)).trans
    (Dev.sameRegs_bump (Dev.lowerPins _ _ _) BAL_CNT.TRIPS _ (by decide))).trans (Dev.sameRegs_pulse _ 80 (by decide))

theorem Dev.onlyFrame_lowerPins (d : Dev) (old new : Nat) : d.onlyFrame (d.lowerPins old new) := rfl

theorem tripPins_onlyFrame (d : Dev) (new : Nat) : d.onlyFrame (tripPins d new) :=
  (((Dev.onlyRegs_wr d _ _).onlyFrame.trans (Dev.onlyFrame_lowerPins _ _ _)).trans (Dev.onlyRegs_bump _ _ _).onlyFrame).trans
    (Dev.onlyRegs_pulse _ 80).onlyFrame

theorem tripPins_frame (d : Dev) (new : Nat) :
    (tripPins d new).gal = d.gal ∧ (tripPins d new).now = d.now ∧ (tripPins d new).evq = d.evq := by
  unfold tripPins
  rw [Dev.onlyRegs_pulse]
  exact ⟨rfl, rfl, rfl⟩

theorem tripPins_tripped (d : Dev) (new : Nat) (h : new < 2 ^ 16) :
    (tripPins d new).rd BAL_STATE.TRIPPED = d.rd BAL_STATE.TRIPPED ||| new := by
  have hregs : Dev.sameRegs [BAL_CNT.addr, ICU_PEND.addr 2]
      (d.wr BAL_STATE.TRIPPED (d.rd BAL_STATE.TRIPPED ||| new)) (tripPins d new) :=
    (Dev.sameRegs_bump (Dev.lowerPins _ _ _) BAL_CNT.TRIPS _ (by decide)).trans (Dev.sameRegs_pulse _ 80 (by decide))
  rw [hregs.rd _ (by decide), Dev.wr_rd _ _ _ (by decide) (by decide)]
  exact Nat.mod_eq_of_lt (Nat.or_lt_two_pow (d.rd_lt BAL_STATE.TRIPPED) h)

/-- A pulse and a count keep what is pending. -/
theorem tripPins_pend (d : Dev) (new n : Nat) (hn : n < 192) (h : d.srcBit ICU_PEND.addr n = true) :
    (tripPins d new).srcBit ICU_PEND.addr n = true := by
  refine srcBit_pulse_of _ 80 n ?_
  rw [← h]
  have hregs : Dev.sameRegs [BAL_STATE.addr, BAL_CNT.addr] d
      (((d.wr BAL_STATE.TRIPPED (d.rd BAL_STATE.TRIPPED ||| new)).lowerPins (d.rd BAL_STATE.TRIPPED) new).bump
        BAL_CNT.TRIPS (bitsOf 16 new).length) :=
    (Dev.sameRegs_wr d BAL_STATE.TRIPPED _ (by decide)).trans
      (Dev.sameRegs_bump (Dev.lowerPins _ _ _) BAL_CNT.TRIPS _ (by decide))
  refine srcBit_of_ld n (hregs _ ?_)
  simp only [ICU_PEND.addr, BAL_STATE.addr, BAL_CNT.addr, List.mem_cons, List.not_mem_nil, or_false]
  omega

/-- A trip in its two parts (R482): the causes, and what becomes of the channels that were HEALTHY. -/
theorem tripWith_eq (d : Dev) (f : Nat → Nat) : ∃ causes, tripWith d f =
    if newTrips d f = 0 then tripCauses d f
    else evqAppend (tripPins (tripCauses d f) (newTrips d f)) 0x09 (Config.evCode .trip).toNat true
      (w32 (newTrips d f)) (w32 causes) := by
  have hold : (tripCauses d f).rd BAL_STATE.TRIPPED = d.rd BAL_STATE.TRIPPED :=
    (tripCauses_regs d f).rd _ (not_mem_tcause _ (by decide))
  refine ⟨(List.range 16).foldl (fun m n => if (newTrips d f).testBit n then m ||| f n else m) 0, ?_⟩
  unfold tripPins
  rw [hold]
  rfl

/-- What a trip may change. -/
theorem tripWith_trips (d : Dev) (f : Nat → Nat) (h : d.evq.length < 240) : d.trips (tripWith d f) := by
  obtain ⟨causes, heq⟩ := tripWith_eq d f
  have honly := tripCauses_onlyRegs d f
  have hregs : Dev.sameRegs tripRegs d (tripCauses d f) :=
    (tripCauses_regs d f).mono (by simp only [tripRegs]; exact List.subset_append_right _ _)
  have hgal : (tripCauses d f).gal = d.gal := by rw [honly]
  have hnow : (tripCauses d f).now = d.now := by rw [honly]
  have hevq : (tripCauses d f).evq = d.evq := by rw [honly]
  have hpend (n : Nat) (hn : n < 192) : (tripCauses d f).srcBit ICU_PEND.addr n = d.srcBit ICU_PEND.addr n :=
    srcBit_of_ld n (tripCauses_regs d f _ (not_mem_tcause _ (.inl (by simp only [ICU_PEND.addr, BAL_TCAUSE.addr]; omega))))
  rw [heq]
  split
  · exact ⟨honly.onlyFrame, hregs, hgal, hnow, ⟨[], by simp [hevq]⟩, fun n hn hb => (hpend n hn).trans hb⟩
  · obtain ⟨kgal, know, kevq⟩ := tripPins_frame (tripCauses d f) (newTrips d f)
    have hroom : (tripPins (tripCauses d f) (newTrips d f)).evq.length < 240 := by rw [kevq, hevq]; exact h
    have hposts := evqAppend_posts (tripPins (tripCauses d f) (newTrips d f))
      ⟨0, 0x09, (Config.evCode .trip).toNat, false, true, 0, w32 (newTrips d f), w32 causes⟩ hroom
    have hpregs : Dev.sameRegs tripRegs (tripCauses d f) (tripPins (tripCauses d f) (newTrips d f)) :=
      (tripPins_regs _ _).mono (by simp [tripRegs])
    have heregs : Dev.sameRegs tripRegs _ _ := hposts.regs.mono (by simp [tripRegs])
    obtain ⟨us, hus, hcontent⟩ := hposts.evq
    refine ⟨(honly.onlyFrame.trans (tripPins_onlyFrame _ _)).trans hposts.onlyFrame, (hregs.trans hpregs).trans heregs,
      hposts.gal.trans (kgal.trans hgal), hposts.now.trans (know.trans hnow), ⟨us, ?_, ?_, ?_⟩, fun n hn hb => ?_⟩
    · rw [hus, kevq, hevq]
    · rw [← List.length_map Ev.content, hcontent]
      rfl
    · intro u hu
      have := List.mem_map_of_mem (f := Ev.content) hu
      rw [hcontent, List.map_singleton, List.mem_singleton] at this
      exact congrArg Prod.fst this
    · rw [srcBit_of_ld n (hposts.regs _ ?_)]
      · exact tripPins_pend _ _ n hn ((hpend n hn).trans hb)
      · simp only [ICU_PEND.addr, EVQ_NEXTSEQ.addr, List.mem_singleton]
        omega

/-- The channels of active causes are TRIPPED, and no other channel changes. -/
theorem tripWith_tripped (d : Dev) (f : Nat → Nat) (h : d.evq.length < 240) :
    (tripWith d f).rd BAL_STATE.TRIPPED = d.rd BAL_STATE.TRIPPED ||| maskFrom 16 (fun n => f n != 0) := by
  obtain ⟨causes, heq⟩ := tripWith_eq d f
  have hold : (tripCauses d f).rd BAL_STATE.TRIPPED = d.rd BAL_STATE.TRIPPED :=
    (tripCauses_regs d f).rd _ (not_mem_tcause _ (by decide))
  have hnew : d.rd BAL_STATE.TRIPPED ||| newTrips d f = d.rd BAL_STATE.TRIPPED ||| maskFrom 16 (fun n => f n != 0) := by
    refine Nat.eq_of_testBit_eq fun j => ?_
    rw [Nat.testBit_or, Nat.testBit_or, newTrips, testBit_maskFrom, testBit_maskFrom]
    cases (d.rd BAL_STATE.TRIPPED).testBit j <;> simp
  rw [heq, ← hnew]
  split
  · next hz => rw [hz, Nat.or_zero, hold]
  · have hevq : (tripPins (tripCauses d f) (newTrips d f)).evq.length < 240 := by
      rw [(tripPins_frame _ _).2.2, tripCauses_onlyRegs d f]; exact h
    rw [Dev.rd, evqAppend_ld _ _ _ _ _ _ hevq _ (by decide)]
    exact (tripPins_tripped _ _ (maskFrom_lt _ 16)).trans (congrArg (· ||| newTrips d f) hold)

/-- With agreeing halves the use of the source matrix finds nothing (R437). -/
theorem srcUse_ok (d : Dev) (mask : Nat) (h : ∀ n, n < 16 → d.twinOk (BAL_SRC.addr n) = true) : srcUse d mask = d := by
  have hbad : maskFrom 16 (fun n => mask.testBit n && !d.twinOk (BAL_SRC.addr n)) = 0 :=
    maskFrom_eq_zero _ _ fun n hn => by simp [h n hn]
  unfold srcUse
  simp only [hbad, if_true]

/-- The Gallery TRIP source acts on the channels that admit it. -/
theorem galTrip_eq (d : Dev) (mask : Nat) (h : ∀ n, n < 16 → d.twinOk (BAL_SRC.addr n) = true) :
    galTrip d mask = tripMask d (mask &&& d.srcMask BAL_SRC.GTRIP) cGtrip := by
  rw [galTrip, srcUse_ok d mask h]

theorem tripMask_tripped (d : Dev) (mask cause : Nat) (hm : mask < 2 ^ 16) (hc : cause ≠ 0) (h : d.evq.length < 240) :
    (tripMask d mask cause).rd BAL_STATE.TRIPPED = d.rd BAL_STATE.TRIPPED ||| mask := by
  have hmask : maskFrom 16 (fun n => (if mask.testBit n then cause else 0) != 0) = mask := by
    refine Nat.eq_of_testBit_eq fun j => ?_
    rw [testBit_maskFrom]
    by_cases hj : j < 16
    · cases hb : mask.testBit j <;> simp [hj, hc]
    · have : mask < 2 ^ j := hm.trans_le (Nat.pow_le_pow_right (by decide) (by omega))
      simp [hj, Nat.testBit_lt_two_pow this]
  rw [tripMask, tripWith_tripped d _ h, hmask]

/-! Traps. -/

theorem Dev.sameRegs_setGal (d : Dev) (f : Gal → Gal) (xs : List Nat) : Dev.sameRegs xs d (d.setGal f) := fun _ _ => rfl

@[simp] theorem Dev.setGal_ld (d : Dev) (f : Gal → Gal) (a : Nat) : (d.setGal f).ld a = d.ld a := rfl
@[simp] theorem Dev.setGal_rd (d : Dev) (f : Gal → Gal) (g : Fld) : (d.setGal f).rd g = d.rd g := rfl
@[simp] theorem Dev.setGal_gal (d : Dev) (f : Gal → Gal) : (d.setGal f).gal = f d.gal := rfl

/-- Cause and address of a trap stand in GSQ_TRAP, and the sequencer has stopped. -/
def trapStop (d : Dev) (code addr : Nat) : Dev :=
  ((d.wr GSQ_TRAP.CAUSE code).wr GSQ_TRAP.ADDR addr).setGal (fun g => g.stopped (d.on GSQ_REPCTL.ARMED))

theorem trapStop_regs (d : Dev) (code addr : Nat) : Dev.sameRegs [GSQ_TRAP.addr] d (trapStop d code addr) :=
  ((Dev.sameRegs_wr d GSQ_TRAP.CAUSE _ (by decide)).trans (Dev.sameRegs_wr _ GSQ_TRAP.ADDR _ (by decide))).trans
    (Dev.sameRegs_setGal _ _ _)

theorem Dev.onlyFrame_setGal (d : Dev) (f : Gal → Gal) : d.onlyFrame (d.setGal f) := rfl

theorem trapStop_onlyFrame (d : Dev) (code addr : Nat) : d.onlyFrame (trapStop d code addr) :=
  ((Dev.onlyRegs_wr d _ _).onlyFrame.trans (Dev.onlyRegs_wr _ _ _).onlyFrame).trans (Dev.onlyFrame_setGal _ _)

theorem trapStop_cause (d : Dev) (code addr : Nat) : (trapStop d code addr).rd GSQ_TRAP.CAUSE = code % 2 ^ 8 := by
  rw [trapStop, Dev.setGal_rd, Dev.wr_rd_above (d.wr GSQ_TRAP.CAUSE code) GSQ_TRAP.ADDR GSQ_TRAP.CAUSE _ (by decide)
    (by decide) (by decide) rfl, Dev.wr_rd _ _ _ (by decide) (by decide)]
  rfl

theorem trapStop_addr (d : Dev) (code addr : Nat) : (trapStop d code addr).rd GSQ_TRAP.ADDR = addr % 2 ^ 14 := by
  rw [trapStop, Dev.setGal_rd, Dev.wr_rd _ _ _ (by decide) (by decide)]
  rfl

/-- A safety image requests the trip of the channels of its SAFEMASK (R340). -/
def safeTrip (d : Dev) : Dev :=
  match d.activeBank with
  | some b => if d.on (GSQ_BI_SAFE.SAFETY b) then galTrip d (d.rd (GSQ_BI_SAFE.SAFEMASK b)) else d
  | none => d

/-- A trap stops the sequencer, and requests the trip of a safety image (R283, R340). -/
theorem seqTrap_eq (d : Dev) (codes : List Nat) (addr : Nat) :
    seqTrap d codes addr = safeTrip (trapStop d (codes.foldl min 255) addr) := by
  have harmed : ((d.wr GSQ_TRAP.CAUSE (codes.foldl min 255)).wr GSQ_TRAP.ADDR addr).on GSQ_REPCTL.ARMED =
      d.on GSQ_REPCTL.ARMED := by
    rw [Dev.on, Dev.wr_rd_ne _ _ _ _ (by decide), Dev.wr_rd_ne _ _ _ _ (by decide), Dev.on]
  unfold trapStop
  rw [← harmed]
  rfl

/-- The active bank holds a safety image. -/
def Dev.isSafety (d : Dev) : Prop := ∃ b, d.activeBank = some b ∧ d.on (GSQ_BI_SAFE.SAFETY b) = true

theorem safeTrip_safety (d : Dev) (b : Nat) (hb : d.activeBank = some b) (hs : d.on (GSQ_BI_SAFE.SAFETY b) = true) :
    safeTrip d = galTrip d (d.rd (GSQ_BI_SAFE.SAFEMASK b)) := by simp [safeTrip, hb, hs]

theorem safeTrip_other (d : Dev) (h : ¬ d.isSafety) : safeTrip d = d := by
  unfold safeTrip
  split
  · next b hb => rw [if_neg fun hs => h ⟨b, hb, hs⟩]
  · rfl

/-- What a trap leaves of the device `d`: GSQ_TRAP, a stopped sequencer, and what the trip of a safety image changes. -/
structure Dev.trapped (d e : Dev) (code addr : Nat) : Prop where
  only : d.onlyFrame e
  regs : Dev.sameRegs trapRegs d e
  gal : e.gal = d.gal.stopped (d.on GSQ_REPCTL.ARMED)
  now : e.now = d.now
  cause : e.rd GSQ_TRAP.CAUSE = code % 2 ^ 8
  addr : e.rd GSQ_TRAP.ADDR = addr % 2 ^ 14
  evq : ∃ r, e.evq = d.evq ++ r ∧ r.length ≤ 1 ∧ ∀ u ∈ r, u.block = 0x09
  pend : ∀ n, n < 192 → d.srcBit ICU_PEND.addr n = true → e.srcBit ICU_PEND.addr n = true
  safe : ∀ b, d.activeBank = some b → d.on (GSQ_BI_SAFE.SAFETY b) = true → e.rd BAL_STATE.TRIPPED =
    d.rd BAL_STATE.TRIPPED ||| (d.rd (GSQ_BI_SAFE.SAFEMASK b) &&& d.srcMask BAL_SRC.GTRIP)
  plain : ¬ d.isSafety → e = { d with regs := e.regs, gal := e.gal } ∧ Dev.sameRegs [GSQ_TRAP.addr] d e

section
variable {d e : Dev} (h : Dev.sameRegs [GSQ_TRAP.addr] d e)
include h

/-- The trap register is none of a bank's image. -/
theorem Dev.sameRegs.bankImage (b : Nat) : e.on (GSQ_BI_SAFE.SAFETY b) = d.on (GSQ_BI_SAFE.SAFETY b) ∧
    e.rd (GSQ_BI_SAFE.SAFEMASK b) = d.rd (GSQ_BI_SAFE.SAFEMASK b) := by
  have hne : GSQ_BI_SAFE.addr b ∉ [GSQ_TRAP.addr] := by
    simp only [GSQ_BI_SAFE.addr, GSQ_TRAP.addr, List.mem_singleton]
    omega
  exact ⟨h.on _ hne, h.rd _ hne⟩

theorem Dev.sameRegs.isSafety : e.isSafety ↔ d.isSafety := by
  unfold Dev.isSafety
  simp only [h.activeBank (by decide), (h.bankImage _).1]

end

section
variable {xs : List Nat} {d e : Dev} (h : Dev.sameRegs xs d e) (hx : ∀ a ∈ xs, a < BAL_SRC.addr 0 ∨ BAL_SRC.addr 0x400 ≤ a)
include h hx

/-- Registers outside the second half of the Balustrade's block are none of the source matrix. -/
theorem Dev.sameRegs.srcTwin (n : Nat) (hn : n < 16) : e.twinOk (BAL_SRC.addr n) = d.twinOk (BAL_SRC.addr n) := by
  refine h.twinOk _ (fun hm => ?_) fun hm => ?_ <;>
    · have := hx _ hm
      simp only [BAL_SRC.addr] at this
      omega

theorem Dev.sameRegs.srcMask_gtrip : e.srcMask BAL_SRC.GTRIP = d.srcMask BAL_SRC.GTRIP := by
  refine Nat.eq_of_testBit_eq fun j => ?_
  rw [Dev.srcMask, Dev.srcMask, testBit_maskFrom, testBit_maskFrom]
  by_cases hj : j < 16
  · rw [h.on (BAL_SRC.GTRIP j) fun hm => ?_]
    have := hx _ hm
    simp only [BAL_SRC.GTRIP, BAL_SRC.addr] at this
    omega
  · simp [hj]

end

/-- A stop that requests no trip. -/
theorem trapStop_trapped (d : Dev) (code addr : Nat) (h : ¬ d.isSafety) : d.trapped (trapStop d code addr) code addr where
  only := trapStop_onlyFrame d code addr
  regs := (trapStop_regs d code addr).mono (by simp [trapRegs])
  gal := rfl
  now := rfl
  cause := trapStop_cause d code addr
  addr := trapStop_addr d code addr
  evq := ⟨[], by simp [trapStop]⟩
  pend n hn hb := (srcBit_of_ld n (trapStop_regs d code addr _
    (by simp only [ICU_PEND.addr, GSQ_TRAP.addr, List.mem_singleton]; omega))).trans hb
  safe b hb hs := absurd ⟨b, hb, hs⟩ h
  plain _ := ⟨rfl, trapStop_regs d code addr⟩

/-- A stop of a safety image and the trip that it requests. -/
theorem galTrip_trapStop_trapped (d : Dev) (code addr b : Nat) (hevq : d.evq.length < 240)
    (htwin : ∀ n, n < 16 → d.twinOk (BAL_SRC.addr n) = true) (hb : d.activeBank = some b)
    (hs : d.on (GSQ_BI_SAFE.SAFETY b) = true) :
    d.trapped (galTrip (trapStop d code addr) (d.rd (GSQ_BI_SAFE.SAFEMASK b))) code addr := by
  have hregs := trapStop_regs d code addr
  have hmask : d.rd (GSQ_BI_SAFE.SAFEMASK b) &&& d.srcMask BAL_SRC.GTRIP < 2 ^ 16 :=
    Nat.and_lt_two_pow _ (maskFrom_lt _ 16)
  have hroom : (trapStop d code addr).evq.length < 240 := hevq
  rw [galTrip_eq _ _ fun n hn => (hregs.srcTwin (by decide) n hn).trans (htwin n hn), hregs.srcMask_gtrip (by decide)]
  have htrip := tripWith_trips (trapStop d code addr)
    (fun n => if (d.rd (GSQ_BI_SAFE.SAFEMASK b) &&& d.srcMask BAL_SRC.GTRIP).testBit n then cGtrip else 0) hroom
  have htripped := tripMask_tripped (trapStop d code addr) _ cGtrip hmask (by decide) hroom
  have htrap : GSQ_TRAP.addr ∉ tripRegs := by decide
  rw [hregs.rd BAL_STATE.TRIPPED (by decide)] at htripped
  exact {
    only := (trapStop_onlyFrame d code addr).trans htrip.only
    regs := (hregs.mono (by simp [trapRegs])).trans (htrip.regs.mono (by simp [trapRegs]))
    gal := htrip.gal
    now := htrip.now
    cause := (htrip.regs.rd GSQ_TRAP.CAUSE htrap).trans (trapStop_cause d code addr)
    addr := (htrip.regs.rd GSQ_TRAP.ADDR htrap).trans (trapStop_addr d code addr)
    evq := htrip.evq
    pend := fun n hn h => htrip.pend n hn ((srcBit_of_ld n (hregs _
      (by simp only [ICU_PEND.addr, GSQ_TRAP.addr, List.mem_singleton]; omega))).trans h)
    safe := fun c hc _ => by
      obtain rfl : b = c := Option.some.inj (hb.symm.trans hc)
      exact htripped
    plain := fun h => absurd ⟨b, hb, hs⟩ h }

/-- A trap leaves what its structure says, where the EVQ has room and the halves of the source matrix agree. -/
theorem seqTrap_trapped (d : Dev) (codes : List Nat) (addr : Nat) (hevq : d.evq.length < 240)
    (htwin : ∀ n, n < 16 → d.twinOk (BAL_SRC.addr n) = true) :
    d.trapped (seqTrap d codes addr) (codes.foldl min 255) addr := by
  rw [seqTrap_eq]
  generalize codes.foldl min 255 = code
  have hregs := trapStop_regs d code addr
  by_cases h : d.isSafety
  · obtain ⟨b, hb, hs⟩ := h
    rw [safeTrip_safety _ b ((hregs.activeBank (by decide)).trans hb) ((hregs.bankImage b).1.trans hs),
      (hregs.bankImage b).2]
    exact galTrip_trapStop_trapped d code addr b hevq htwin hb hs
  · rw [safeTrip_other _ fun hs => h (hregs.isSafety.1 hs)]
    exact trapStop_trapped d code addr h

end Sys2Proof.Machine
end


section
/-!
Array time, what arrives in it, and the end of an instruction and of a budget.
-/

namespace Sys2Proof.Machine

/-! Array time. -/

theorem galTime_regs (d : Dev) (n : Nat) : Dev.sameRegs [GSQ_BCNT_NOW.addr] d (galTime d n) :=
  Dev.sameRegs_wr d GSQ_BCNT_NOW.NOW n (by decide)

theorem galTime_onlyFrame (d : Dev) (n : Nat) : d.onlyFrame (galTime d n) := rfl

@[simp] theorem galTime_gal (d : Dev) (n : Nat) : (galTime d n).gal = d.gal := rfl

@[simp] theorem galTime_evq (d : Dev) (n : Nat) : (galTime d n).evq = d.evq := rfl

theorem galTime_now (d : Dev) (n : Nat) : (galTime d n).now = max d.now (d.gal.frameAt + n * 5 / 4) := rfl

/-- The count holds 27 bits. -/
theorem galTime_bcnt (d : Dev) (n : Nat) (h : n < 2 ^ 27) : (galTime d n).bcnt = n :=
  (Dev.wr_rd d GSQ_BCNT_NOW.NOW n (by decide) (by decide)).trans (Nat.mod_eq_of_lt h)

theorem Dev.sameRegs.bcnt {xs : List Nat} {d e : Dev} (h : Dev.sameRegs xs d e) (hx : GSQ_BCNT_NOW.addr ∉ xs) :
    e.bcnt = d.bcnt := h.rd _ hx

/-- Array time has gone on to a count. -/
theorem State.spent_to {s t : State} {n : Nat} {xs : List Nat} (hle : s.dev.bcnt ≤ n) (hbcnt : t.dev.bcnt = n)
    (hnow : t.dev.now = max s.dev.now (s.dev.gal.frameAt + n * 5 / 4)) (hmode : t.dev.mode = s.dev.mode)
    (hregs : Dev.sameRegs (GSQ_BCNT_NOW.addr :: xs) s.dev t.dev) : s.spent t (n - s.dev.bcnt) xs := by
  have hn : s.dev.bcnt + (n - s.dev.bcnt) = n := by omega
  exact ⟨by rw [hn, hbcnt], by rw [hn, hnow], hmode, hregs⟩

/-! What arrives in array time. -/

theorem nextXfer_mem : ∀ {l : List Xfer} {x : Xfer}, nextXfer l = some x → x ∈ l
  | [], _, h => by simp [nextXfer] at h
  | y :: r, x, h => by
    unfold nextXfer at h
    split at h
    · next z hz =>
      have := nextXfer_mem hz
      split at h <;> simp_all
    · simp_all

/-- No transfer completes before its time. -/
theorem xfersUpTo_none (d : Dev) (n : Nat) (h : ∀ x ∈ d.gal.xfers, n < x.due) : ∀ k, xfersUpTo k n d = d
  | 0 => rfl
  | k + 1 => by
    unfold xfersUpTo
    split
    · rfl
    · next x hx => rw [if_neg (Nat.not_le.2 (h x (nextXfer_mem hx)))]

/-- No NWL result arrives before its time. -/
theorem nwlUpTo_none (n : Nat) (g : Gal) (h : ∀ y ∈ g.nwl, n < y.due) : nwlUpTo n g = g := by
  have hdue : g.nwl.filter (fun x => decide (x.due ≤ n)) = [] :=
    List.filter_eq_nil_iff.2 fun y hy => by simpa using h y hy
  have hrest : g.nwl.filter (fun x => !decide (x.due ≤ n)) = g.nwl :=
    List.filter_eq_self.2 fun y hy => by simpa using h y hy
  simp only [nwlUpTo, hdue, List.foldl_nil, hrest]

/-- Before anything falls due nothing arrives (R299). -/
theorem deliver_none (d : Dev) (n : Nat) (hx : ∀ x ∈ d.gal.xfers, n < x.due) (hn : ∀ y ∈ d.gal.nwl, n < y.due) :
    deliver d n = d := by
  rw [deliver, xfersUpTo_none d n hx, Dev.setGal, nwlUpTo_none n d.gal hn]

/-! The end of an instruction. -/

/-- Within its budget an instruction without traps goes on to the next address (R303). -/
theorem finish_advances (d : Dev) (hlimit : d.bcnt ≤ d.gal.limit) (hrun : d.gal.running = true) :
    finish d [] none = d.setGal Gal.advance := by
  have hlate : d.overLimit = false := decide_eq_false (Nat.not_lt.2 hlimit)
  unfold finish
  simp only [hlate, Bool.false_eq_true, if_false, List.append_nil, List.isEmpty_nil, Bool.not_true, hrun]
  rfl

/-- Within its budget an instruction that traps stops the sequencer at its own address (R283). -/
theorem finish_traps (d : Dev) (code : Nat) (jump : Option Nat) (hlimit : d.bcnt ≤ d.gal.limit) :
    finish d [code] jump = seqTrap d [code] d.gal.pc := by
  have hlate : d.overLimit = false := decide_eq_false (Nat.not_lt.2 hlimit)
  unfold finish
  simp only [hlate, Bool.false_eq_true, if_false, List.append_nil, List.isEmpty_cons, Bool.not_false, if_true]

/-- The Gallery's domain is on in RUN (Table ARC.3). -/
theorem Dev.galOn_of_run (d : Dev) (h : d.mode = .run) : d.galOn = true := by simp [Dev.galOn, h]

/-! An undefined word. -/

/-- An opcode that no table lists traps ILLEGAL (R295). -/
theorem wordWork_undefined (op : Nat) (x : BitVec 8) (d a b : BitVec 16) (v : Dev) (h : op ∉ galOpcodes) :
    wordWork op x d a b v = .trap tIllegal := by
  unfold wordWork
  split
  iterate 53 exact absurd (by decide) h
  rfl

/-- A trap in array time that has gone on to a count, with the pending bit of a source pulsed before it or not. -/
theorem trapped_traps (s : State) (e : Dev) (code : Nat) (hcode : code < 2 ^ 8) (hpc : s.dev.gal.pc < 16384)
    (hlimit : s.dev.bcnt + 1 < 2 ^ 27) (h : (galTime s.dev (s.dev.bcnt + 1)).trapped e code s.dev.gal.pc) :
    s.traps { s with dev := e } 1 code s.dev.gal := by
  have htime := galTime_regs s.dev (s.dev.bcnt + 1)
  have hbcnt := galTime_bcnt s.dev (s.dev.bcnt + 1) hlimit
  have hspent (xs : List Nat) (hregs : Dev.sameRegs xs (galTime s.dev (s.dev.bcnt + 1)) e) (hx : GSQ_BCNT_NOW.addr ∉ xs) :
      s.spent { s with dev := e } 1 xs := by
    have := State.spent_to (s := s) (t := { s with dev := e }) (n := s.dev.bcnt + 1) (xs := xs) (Nat.le_succ _)
      ((hregs.bcnt hx).trans hbcnt) (h.now.trans (galTime_now _ _)) h.only.mode
      ((htime.mono (by simp)).trans (hregs.mono (by simp)))
    rwa [Nat.add_sub_cancel_left] at this
  have hsafe (b : Nat) : (galTime s.dev (s.dev.bcnt + 1)).on (GSQ_BI_SAFE.SAFETY b) = s.dev.on (GSQ_BI_SAFE.SAFETY b) ∧
      (galTime s.dev (s.dev.bcnt + 1)).rd (GSQ_BI_SAFE.SAFEMASK b) = s.dev.rd (GSQ_BI_SAFE.SAFEMASK b) := by
    have hne : GSQ_BI_SAFE.addr b ∉ [GSQ_BCNT_NOW.addr] := by
      simp only [GSQ_BI_SAFE.addr, GSQ_BCNT_NOW.addr, List.mem_singleton]
      omega
    exact ⟨htime.on _ hne, htime.rd _ hne⟩
  have hbank : (galTime s.dev (s.dev.bcnt + 1)).activeBank = s.dev.activeBank := htime.activeBank (by decide)
  refine ⟨hspent trapRegs h.regs (by decide), ?_, ?_, ?_, ?_, ?_, ?_⟩
  · rw [h.gal, htime.on _ (by decide), galTime_gal]
  · rw [h.cause, Nat.mod_eq_of_lt hcode]
  · exact h.addr.trans (Nat.mod_eq_of_lt hpc)
  · exact h.only.sameBytes
  · intro b hb hs
    rw [h.safe b (hbank.trans hb) ((hsafe b).1.trans hs), (hsafe b).2, htime.rd _ (by decide),
      htime.srcMask_gtrip (by decide)]
  · intro hno
    obtain ⟨heq, hregs⟩ := h.plain fun ⟨b, hb, hs⟩ => by
      have hfalse := hno b (hbank.symm.trans hb)
      rw [← (hsafe b).1, hs] at hfalse
      exact Bool.noConfusion hfalse
    exact ⟨by rw [State.galOnly, heq]; rfl, hspent [GSQ_TRAP.addr] hregs (by decide)⟩

/-- The clauses of GAL_ILLEGAL: an undefined word traps ILLEGAL in its first cycle, a defined one is no event (R295). -/
theorem galIllegal_stops (word : BitVec 64) (s : State) (hquiet : s.dev.quiet) (hruns : s.dev.runs 1)
    (hill : (wordWork (word.toNat / 2 ^ 56) (word.extractLsb' 48 8) (word.extractLsb' 32 16) (word.extractLsb' 16 16)
      (word.extractLsb' 0 16) s.dev).illegal = true) : Stops (.galIllegal word) s 8 := by
  obtain ⟨hfaults, hevq, htwin, -⟩ := hquiet
  obtain ⟨-, hmode, hissue, hxfers, hnwl, hpc, hlimit, hmax⟩ := hruns
  have hexec : exec (.galIllegal word) s = fin s (issue s.dev (.trap tIllegal)) := by
    show execGalIllegal word s = _
    unfold execGalIllegal
    rw [if_pos hill]
    rfl
  have hbcnt := galTime_bcnt s.dev (s.dev.bcnt + 1) (by omega)
  have hwork : issue s.dev (.trap tIllegal) = seqTrap (galTime s.dev (s.dev.bcnt + 1)) [tIllegal] s.dev.gal.pc := by
    unfold issue
    simp only [hissue, Bool.not_true, Bool.false_eq_true, if_false]
    rw [deliver_none _ _ (fun x hx => hxfers x hx) (fun y hy => hnwl y hy), finish_traps _ _ _ (by rw [hbcnt]; exact hlimit)]
    rfl
  have htrap := seqTrap_trapped (galTime s.dev (s.dev.bcnt + 1)) [tIllegal] s.dev.gal.pc (by rw [galTime_evq]; omega)
    fun n hn => ((galTime_regs _ _).srcTwin (by decide) n hn).trans (htwin n hn)
  rw [← hwork] at htrap
  refine ⟨_, hexec.trans (fin_none _ _ (htrap.only.faults.trans hfaults)), ?_⟩
  exact trapped_traps s _ 8 (by decide) hpc (by omega) htrap

end Sys2Proof.Machine
end


section
/-!
BUDGET_EXCEEDED (R338, R304): a frame over its budget traps, and one that its last transfer completes in time does not.
-/

namespace Sys2Proof.Machine

/-- BUDGET_EXCEEDED ends in `fin`. -/
theorem exec_budgetExceeded (s : State) : exec .budgetExceeded s = fin s (budgetExceeded s.dev) := rfl

/-- A frame that is not complete when its last budgeted cycle has passed traps BUDGET (R338). -/
theorem budgetExceeded_over (d : Dev) (hon : d.galOn = true) (hopen : (d.gal.running || (d.gal.fend && !d.gal.ok)) = true)
    (hstall : d.gal.stall = none) (hnow : d.bcnt ≤ d.gal.limit) (hx : ∀ y ∈ d.gal.xfers, d.gal.limit < y.due)
    (hn : ∀ y ∈ d.gal.nwl, d.gal.limit < y.due) :
    budgetExceeded d = seqTrap ((galTime d (d.gal.limit + 1)).pulse 67) [tBudget]
      (if d.gal.fend then d.gal.fendPc else d.gal.pc) := by
  have hmax : max d.bcnt (d.gal.limit + 1) = d.gal.limit + 1 := by omega
  have hgal : ((galTime d (d.gal.limit + 1)).pulse 67).gal = d.gal := (pulse_frame _ 67).2.2.2.2.2.2.2.2.1
  unfold budgetExceeded
  simp only [hopen, hon, deliver_none d _ hx hn, Bool.not_true, Bool.or_self, Bool.false_eq_true, if_false, hmax,
    galTime_gal, hstall, Option.isSome_none]

/-- The clause of a frame over its budget. -/
theorem budgetExceeded_traps (s : State) (hquiet : s.dev.quiet) (hmode : s.dev.mode = .run)
    (hopen : s.dev.gal.running = true ∨ (s.dev.gal.fend = true ∧ s.dev.gal.ok = false)) (hstall : s.dev.gal.stall = none)
    (hnow : s.dev.bcnt ≤ s.dev.gal.limit) (hmax : s.dev.gal.limit + 1 < 2 ^ 27) (hpc : s.dev.gal.pc < 16384)
    (hfend : s.dev.gal.fendPc < 16384) (hx : ∀ y ∈ s.dev.gal.xfers, s.dev.gal.limit < y.due)
    (hn : ∀ y ∈ s.dev.gal.nwl, s.dev.gal.limit < y.due) :
    Completes .budgetExceeded s (fun t =>
      s.spent t (s.dev.gal.limit + 1 - s.dev.bcnt) trapRegs ∧ t.dev.gal = s.dev.gal.stopped (s.dev.on GSQ_REPCTL.ARMED) ∧
      t.dev.rd GSQ_TRAP.CAUSE = 10 ∧
      t.dev.rd GSQ_TRAP.ADDR = (if s.dev.gal.fend then s.dev.gal.fendPc else s.dev.gal.pc) ∧
      t.dev.srcBit ICU_PEND.addr 67 = true ∧ s.dev.sameBytes t.dev) := by
  obtain ⟨hfaults, hevq, htwin, -⟩ := hquiet
  have hopen' : (s.dev.gal.running || (s.dev.gal.fend && !s.dev.gal.ok)) = true := by
    rcases hopen with h | ⟨h, k⟩
    · simp [h]
    · simp [h, k]
  have heq := budgetExceeded_over s.dev (s.dev.galOn_of_run hmode) hopen' hstall hnow hx hn
  have hpulse := Dev.onlyRegs_pulse (galTime s.dev (s.dev.gal.limit + 1)) 67
  have hregs : Dev.sameRegs [GSQ_BCNT_NOW.addr, ICU_PEND.addr 2] s.dev ((galTime s.dev (s.dev.gal.limit + 1)).pulse 67) :=
    ((galTime_regs _ _).mono (by simp)).trans (Dev.sameRegs_pulse _ 67 (by decide))
  have hbcnt : ((galTime s.dev (s.dev.gal.limit + 1)).pulse 67).bcnt = s.dev.gal.limit + 1 :=
    ((Dev.sameRegs_pulse _ 67 (List.mem_singleton_self _)).bcnt (by decide)).trans (galTime_bcnt _ _ hmax)
  have htrap := seqTrap_trapped ((galTime s.dev (s.dev.gal.limit + 1)).pulse 67) [tBudget]
    (if s.dev.gal.fend then s.dev.gal.fendPc else s.dev.gal.pc) (by rw [hpulse, galTime_evq]; omega)
    fun n hn => (hregs.srcTwin (by decide) n hn).trans (htwin n hn)
  rw [← heq] at htrap
  have honly : s.dev.onlyFrame (budgetExceeded s.dev) :=
    ((galTime_onlyFrame _ _).trans hpulse.onlyFrame).trans htrap.only
  refine ⟨_, (exec_budgetExceeded s).trans (fin_none _ _ (honly.faults.trans hfaults)), ?_, ?_, htrap.cause, ?_, ?_,
    honly.sameBytes⟩
  · refine State.spent_to (by omega) ((htrap.regs.bcnt (by decide)).trans hbcnt) ?_ honly.mode
      ((hregs.mono ?_).trans (htrap.regs.mono (by simp)))
    · rw [htrap.now, hpulse]
      rfl
    · simp [trapRegs, tripRegs]
  · rw [htrap.gal, hregs.on _ (by decide), hpulse, galTime_gal]
  · refine htrap.addr.trans (Nat.mod_eq_of_lt ?_)
    split <;> assumption
  · exact htrap.pend 67 (by decide) (srcBit_pulse _ 67 rfl)

/-! A frame that its last transfer completes. -/

/-- The registers that a completed transfer may write. -/
def xferRegs : List Nat := [RSR_CNT.addr, RSR_ERR.addr, RSR_ERRINFO.addr, ICU_PEND.addr 2]

/-- A status of the Riser touches registers only (R346). -/
theorem rsrError_onlyRegs (d : Dev) (bits : Nat) (rin : Bool) (desc : Nat) :
    d.onlyRegs (rsrError d bits rin desc) ∧ Dev.sameRegs xferRegs d (rsrError d bits rin desc) := by
  unfold rsrError
  have hput := Dev.onlyRegs_put
  have hpulse := Dev.onlyRegs_pulse
  have hreg (d : Dev) (a : Nat) (v : Word) (ha : a ∈ xferRegs) := Dev.sameRegs_put d a v ha
  split
  · exact ⟨d.onlyRegs_refl, fun _ _ => rfl⟩
  · dsimp only
    split
    · exact ⟨((hput _ _ _).trans (hput _ _ _)).trans (hpulse _ 72),
        ((hreg _ _ _ (by decide)).trans (hreg _ _ _ (by decide))).trans (Dev.sameRegs_pulse _ 72 (by decide))⟩
    · exact ⟨(hput _ _ _).trans (hpulse _ 72), (hreg _ _ _ (by decide)).trans (Dev.sameRegs_pulse _ 72 (by decide))⟩

/-- Bay memory and the registers of transfers are all that changed. -/
structure Dev.moved (d e : Dev) : Prop where
  only : e = { d with regs := e.regs, gal := { d.gal with mem := e.gal.mem } }
  regs : Dev.sameRegs xferRegs d e

theorem Dev.moved_of_regs {d e : Dev} (h : d.onlyRegs e) (k : Dev.sameRegs xferRegs d e) : d.moved e :=
  ⟨by rw [h], k⟩

theorem Dev.moved_putField (d : Dev) (i : Nat) (vals : List Plane) : d.moved (d.setGal (fun g => putField g i vals)) :=
  ⟨rfl, fun _ _ => rfl⟩

theorem Dev.moved.trans {d e g : Dev} (h : d.moved e) (k : e.moved g) : d.moved g := by
  refine ⟨?_, h.regs.trans k.regs⟩
  rw [k.only, h.only]

theorem Dev.moved_bump (d : Dev) (f : Fld) (hf : f.addr ∈ xferRegs) : d.moved (d.bump f 1) :=
  Dev.moved_of_regs (d.onlyRegs_bump f 1) (Dev.sameRegs_bump d f 1 hf)

/-- A RIN without a lock whose elements all move in time writes its field, its ERRPLANE, its counts and its errors. -/
theorem xferCommit_moved (d : Dev) (x : Xfer) (hrin : x.rin = true) (hlock : x.lock = none) :
    d.moved (xferCommit d x none) := by
  have herrp (e : Dev) : e.moved (match x.errp with
      | some i => e.setGal (fun g => putField g i [x.failed])
      | none => e) := by
    split
    · exact e.moved_putField _ _
    · exact ⟨rfl, fun _ _ => rfl⟩
  have hcount (e : Dev) (f : Fld) (b : Prop) [Decidable b] (hf : f.addr ∈ xferRegs) :
      e.moved (if b then e.bump f 1 else e) := by
    split
    · exact e.moved_bump f hf
    · exact ⟨rfl, fun _ _ => rfl⟩
  have hcount' (e : Dev) : e.moved (if x.refused = true then e else e.bump RSR_CNT.XFERS 1) := by
    split
    · exact ⟨rfl, fun _ _ => rfl⟩
    · exact e.moved_bump _ (by decide)
  have herror (e : Dev) (b : Nat) : e.moved (rsrError e b x.rin x.desc) :=
    Dev.moved_of_regs (rsrError_onlyRegs e b x.rin x.desc).1 (rsrError_onlyRegs e b x.rin x.desc).2
  unfold xferCommit
  simp only [hrin, hlock, Option.map_none, if_true]
  rw [hrin] at herror
  exact (((d.moved_putField _ _).trans (herrp _)).trans (hcount' _)).trans ((hcount _ _ _ (by decide)).trans (herror _ _))

/-- With the one transfer of the queue started nothing else starts (R313). -/
theorem xferKick_started (d : Dev) (x : Xfer) (h : d.gal.xfers = [x]) (hx : x.refused = false) (hs : x.started = true) :
    xferKick d = d := by simp [xferKick, h, hx, hs]

theorem xferKick_empty (d : Dev) (h : d.gal.xfers = []) : xferKick d = d := by simp [xferKick, h]

/-- The last transfer of the frame has moved its elements. -/
def lastMoved (d : Dev) (x : Xfer) : Dev := (xferCommit d x none).setGal (fun g => { g with xfers := [] })

/-- The frame is complete (R304). -/
def frameClosed (d : Dev) (at_ : Nat) : Dev :=
  frameCompleted ((((d.wr GSQ_BCNT_LAST.LAST at_).wr GSQ_BCNT_MAX.MAX (max (d.rd GSQ_BCNT_MAX.MAX) at_)).setGal
    (fun g => { g with ok := true })).pulse 64)

theorem lastMoved_gal (d : Dev) (x : Xfer) (hrin : x.rin = true) (hlock : x.lock = none) :
    (lastMoved d x).gal = { d.gal with mem := (xferCommit d x none).gal.mem, xfers := [] } := by
  rw [lastMoved, Dev.setGal_gal, (xferCommit_moved d x hrin hlock).only]

theorem lastMoved_regs (d : Dev) (x : Xfer) (hrin : x.rin = true) (hlock : x.lock = none) :
    Dev.sameRegs xferRegs d (lastMoved d x) :=
  (xferCommit_moved d x hrin hlock).regs.trans (Dev.sameRegs_setGal _ _ _)

theorem lastMoved_onlyFrame (d : Dev) (x : Xfer) (hrin : x.rin = true) (hlock : x.lock = none) :
    d.onlyFrame (lastMoved d x) := by
  have hcommit : d.onlyFrame (xferCommit d x none) := by
    rw [(xferCommit_moved d x hrin hlock).only]
    rfl
  exact hcommit.trans (Dev.onlyFrame_setGal _ _)

/-- A frame that waits for its last transfer, within its budget, is complete with it (R304). -/
theorem frameDone_closes (d : Dev) (at_ : Nat) (hx : d.gal.xfers = []) (hfend : d.gal.fend = true) (hok : d.gal.ok = false)
    (hlimit : d.bcnt ≤ d.gal.limit) : frameDone d at_ = frameClosed d at_ := by
  have hlate : d.overLimit = false := decide_eq_false (Nat.not_lt.2 hlimit)
  have hout : d.outstanding = 0 := by simp [Dev.outstanding, hx]
  unfold frameDone frameClosed
  rw [if_pos ⟨hfend, by simp [hok], hout⟩, hlate, if_neg Bool.false_ne_true]

/-- The last transfer of a frame whose program has ended completes it in the cycle c_j, when that is within the budget. -/
theorem xferFinish_last (d : Dev) (x : Xfer) (h : d.gal.xfers = [x]) (hx : x.refused = false) (hs : x.started = true)
    (hrin : x.rin = true) (hlock : x.lock = none) (hfend : d.gal.fend = true) (hok : d.gal.ok = false)
    (hdue : x.due ≤ d.gal.limit) (hnow : d.bcnt ≤ d.gal.limit) (hmax : d.gal.limit < 2 ^ 27) :
    xferFinish d x none = frameClosed (galTime (lastMoved d x) (max d.bcnt x.due)) x.due := by
  have hgal := lastMoved_gal d x hrin hlock
  have herase : (xferCommit d x none).setGal (fun g => { g with xfers := g.xfers.erase x }) = lastMoved d x := by
    have : (xferCommit d x none).gal.xfers.erase x = [] := by rw [(xferCommit_moved d x hrin hlock).only]; simp [h]
    rw [lastMoved, Dev.setGal, this, Dev.setGal]
  have hnext : (d.gal.xfers.find? (fun y => !y.refused)).getD x = x := by simp [h, hx]
  have hbcnt : (lastMoved d x).bcnt = d.bcnt := (lastMoved_regs d x hrin hlock).bcnt (by decide)
  have hwaits : (lastMoved d x).gal.fend = true ∧ (!(lastMoved d x).gal.ok) = true := by simp [hgal, hfend, hok]
  unfold xferFinish
  simp only [xferKick_started d x h hx hs, hx, Bool.false_eq_true, if_false, hnext]
  rw [herase, xferKick_empty _ (by rw [hgal]), if_pos hwaits, hbcnt]
  refine frameDone_closes _ _ (by rw [galTime_gal, hgal]) hwaits.1 (by rw [galTime_gal, hgal]; exact hok) ?_
  rw [galTime_bcnt _ _ (by omega), galTime_gal, hgal]
  exact Nat.max_le.2 ⟨hnow, hdue⟩

/-- NWL results touch scalars, L and their own list only (R319). -/
theorem nwlUpTo_keeps (n : Nat) (g : Gal) :
    nwlUpTo n g = { g with s := (nwlUpTo n g).s, l := (nwlUpTo n g).l, nwl := (nwlUpTo n g).nwl } := by
  have hfold : ∀ (l : List NwlPend) (g : Gal), ∃ s b,
      l.foldl (fun g x => { g with s := setNth 0#32 g.s x.sd x.word, l := x.l }) g = { g with s := s, l := b } := by
    intro l
    induction l with
    | nil => exact fun g => ⟨g.s, g.l, rfl⟩
    | cons x r ih =>
      intro g
      obtain ⟨s, b, h⟩ := ih { g with s := setNth 0#32 g.s x.sd x.word, l := x.l }
      exact ⟨s, b, h⟩
  obtain ⟨s, b, h⟩ := hfold (g.nwl.filter (fun x => decide (x.due ≤ n))) g
  unfold nwlUpTo
  simp only [h]

/-- The registers that the end of a frame writes. -/
def frameRegs : List Nat := [GSQ_BCNT_LAST.addr, GSQ_BCNT_MAX.addr, BAL_WDSTAT.addr, ICU_PEND.addr 2]

theorem frameClosed_regs (d : Dev) (at_ : Nat) : Dev.sameRegs frameRegs d (frameClosed d at_) :=
  ((((Dev.sameRegs_wr d GSQ_BCNT_LAST.LAST _ (by decide)).trans (Dev.sameRegs_wr _ GSQ_BCNT_MAX.MAX _ (by decide))).trans
    (Dev.sameRegs_setGal _ _ _)).trans (Dev.sameRegs_pulse _ 64 (by decide))).trans
    ((Dev.sameRegs_wr _ BAL_WDSTAT.FMISS _ (by decide)).trans (Dev.sameRegs_wr _ BAL_WDSTAT.FWDACT _ (by decide)))

theorem frameClosed_onlyFrame (d : Dev) (at_ : Nat) : d.onlyFrame (frameClosed d at_) :=
  ((((Dev.onlyRegs_wr d _ _).trans (Dev.onlyRegs_wr _ _ _)).onlyFrame.trans (Dev.onlyFrame_setGal _ _)).trans
    (Dev.onlyRegs_pulse _ 64).onlyFrame).trans ((Dev.onlyRegs_wr _ _ _).trans (Dev.onlyRegs_wr _ _ _)).onlyFrame

theorem frameClosed_gal (d : Dev) (at_ : Nat) : (frameClosed d at_).gal = { d.gal with ok := true } := by
  rw [frameClosed, frameCompleted, Dev.wr_gal, Dev.wr_gal, Dev.onlyRegs_pulse]
  rfl

/-- The cycle of completion stands in GSQ_BCNT_LAST. -/
theorem frameClosed_last (d : Dev) (at_ : Nat) (h : at_ < 2 ^ 27) : (frameClosed d at_).rd GSQ_BCNT_LAST.LAST = at_ := by
  rw [frameClosed, frameCompleted, Dev.wr_rd_ne _ _ _ _ (by decide), Dev.wr_rd_ne _ _ _ _ (by decide),
    (Dev.sameRegs_pulse _ 64 (List.mem_singleton_self _)).rd _ (by decide), Dev.setGal_rd, Dev.wr_rd_ne _ _ _ _ (by decide),
    Dev.wr_rd _ _ _ (by decide) (by decide)]
  exact Nat.mod_eq_of_lt h

/-- Source 64 pulses at the completion (R304). -/
theorem frameClosed_pend (d : Dev) (at_ : Nat) : (frameClosed d at_).srcBit ICU_PEND.addr 64 = true := by
  rw [frameClosed, frameCompleted,
    srcBit_of_ld 64 ((Dev.wr_ld_ne _ _ _ _ (by decide)).trans (Dev.wr_ld_ne _ _ _ _ (by decide)))]
  exact srcBit_pulse _ 64 rfl

/-- The clause of a frame that its last transfer completes within the budget. -/
theorem budgetExceeded_completes (s : State) (y : Xfer) (hfaults : s.dev.faults = []) (hmode : s.dev.mode = .run)
    (hrun : s.dev.gal.running = false) (hfend : s.dev.gal.fend = true) (hok : s.dev.gal.ok = false)
    (hxfers : s.dev.gal.xfers = [y]) (href : y.refused = false) (hstarted : y.started = true) (hrin : y.rin = true)
    (hlock : y.lock = none) (hdue : y.due ≤ s.dev.gal.limit) (hnow : s.dev.bcnt ≤ s.dev.gal.limit)
    (hmax : s.dev.gal.limit < 2 ^ 27) :
    Completes .budgetExceeded s (fun t =>
      t.dev.gal.ok = true ∧ t.dev.gal.trapped = s.dev.gal.trapped ∧ t.dev.bcnt = max s.dev.bcnt y.due ∧
      t.dev.rd GSQ_BCNT_LAST.LAST = y.due ∧ t.dev.rd GSQ_TRAP.CAUSE = s.dev.rd GSQ_TRAP.CAUSE ∧
      t.dev.srcBit ICU_PEND.addr 64 = true ∧ s.dev.sameBytes t.dev) := by
  have hfinish := xferFinish_last s.dev y hxfers href hstarted hrin hlock hfend hok hdue hnow hmax
  have hmoved := lastMoved_gal s.dev y hrin hlock
  generalize he : frameClosed (galTime (lastMoved s.dev y) (max s.dev.bcnt y.due)) y.due = e at hfinish
  have hgal : e.gal = { s.dev.gal with mem := (xferCommit s.dev y none).gal.mem, xfers := [], ok := true } := by
    rw [← he, frameClosed_gal, galTime_gal, hmoved]
  have hdeliver : deliver s.dev s.dev.gal.limit = e.setGal (nwlUpTo s.dev.gal.limit) := by
    have hupto : xfersUpTo 1 s.dev.gal.limit s.dev = e := by
      simp only [xfersUpTo, hxfers, nextXfer, if_pos hdue, hfinish]
    rw [deliver, hxfers]
    exact congrArg (fun x : Dev => x.setGal (nwlUpTo s.dev.gal.limit)) hupto
  have hdone : budgetExceeded s.dev = e.setGal (nwlUpTo s.dev.gal.limit) := by
    have hkeeps := nwlUpTo_keeps s.dev.gal.limit e.gal
    unfold budgetExceeded
    simp only [hrun, hfend, hok, s.dev.galOn_of_run hmode, hdeliver, Dev.setGal_gal]
    rw [hkeeps]
    simp [hgal, hrun]
  have honly : s.dev.onlyFrame (e.setGal (nwlUpTo s.dev.gal.limit)) := by
    rw [← he]
    exact (((lastMoved_onlyFrame s.dev y hrin hlock).trans (galTime_onlyFrame _ _)).trans (frameClosed_onlyFrame _ _)).trans
      (Dev.onlyFrame_setGal _ _)
  refine ⟨_, (exec_budgetExceeded s).trans (fin_none _ _ (by rw [hdone]; exact honly.faults.trans hfaults)), ?_⟩
  rw [hdone]
  have hregs := frameClosed_regs (galTime (lastMoved s.dev y) (max s.dev.bcnt y.due)) y.due
  rw [he] at hregs
  refine ⟨?_, ?_, ?_, ?_, ?_, ?_, honly.sameBytes⟩
  · rw [Dev.setGal_gal, nwlUpTo_keeps, hgal]
  · rw [Dev.setGal_gal, nwlUpTo_keeps, hgal]
  · exact (hregs.bcnt (by decide)).trans (galTime_bcnt _ _ (by omega))
  · rw [Dev.setGal_rd, ← he, frameClosed_last _ _ (by omega)]
  · rw [Dev.setGal_rd, hregs.rd _ (by decide), (galTime_regs _ _).rd _ (by decide),
      (lastMoved_regs s.dev y hrin hlock).rd _ (by decide)]
  · rw [srcBit_of_ld 64 (Dev.setGal_ld _ _ _), ← he]
    exact frameClosed_pend _ _

end Sys2Proof.Machine
end


section
/-!
Cycles in which a frame may start, and the power-up clear.
-/

namespace Sys2Proof.Machine

/-! A cycle in which a frame may start. -/

/-- No command waits for the answer of a frame start. -/
theorem answerDue_none (d : Dev) (h : d.wl.due = []) : answerDue d = d := by
  unfold answerDue
  rw [h, List.foldl_nil, ← h]

theorem svcReport_none (d : Dev) (u : UnitId) (h : d.wl.svcSlot = []) : svcReport d u = d := by
  have htget : tget (fun _ => []) d.wl.svcSlot u.key = [] := by rw [h]; rfl
  have htdrop : tdrop (· == u.key) d.wl.svcSlot = d.wl.svcSlot := by rw [h]; rfl
  unfold svcReport
  simp only [htget, htdrop, List.foldl_nil, ite_self]

theorem lanesReport_none (d : Dev) (h : d.wl.svcSlot = []) : lanesReport d = d := by
  have hstep : ∀ (l : List Nat), l.foldl (fun d l =>
      if d.lstate l = 0 ∨ d.lstate l = 6 ∨ d.lstate l = 7 then
        (if d.svcOf (.lane l) = .draining then d else svcReport d (.lane l)) else d) d = d := by
    intro l
    induction l with
    | nil => rfl
    | cons k r ih => rw [List.foldl_cons, svcReport_none d _ h, ite_self, ite_self, ih]
  exact hstep _

/-- Where the device at the begin of the cycle stays as it is, nothing happens. -/
theorem frameCycle_idle (f : Dev → Dev) (d : Dev) (hfaults : d.faults = []) (hdue : d.wl.due = []) (hsvc : d.wl.svcSlot = [])
    (h : f d.cycleBegin = d.cycleBegin) : frameCycle f d = d := by
  have hsettle : settle (f d.cycleBegin) = d.cycleBegin := by rw [h]; exact settle_none _ hfaults
  have hcycle : oneCycle f d = d := by
    unfold Dev.cycleBegin at hsettle
    rw [oneCycle, inCycle_none _ d (by rw [hsettle]), hsettle]
  rw [frameCycle, hcycle, answerDue_none d hdue, lanesReport_none d hsvc]

/-- A cycle without faults and without answers does what its function does, and posts the events in their order. -/
theorem frameCycle_posts (f : Dev → Dev) (d : Dev) (hfaults : (f d.cycleBegin).faults = [])
    (hdue : (f d.cycleBegin).wl.due = []) (hsvc : (f d.cycleBegin).wl.svcSlot = [])
    (hroom : d.evq.length + (byBlock (f d.cycleBegin).evq).length ≤ 240) :
    Dev.posts { f d.cycleBegin with evq := d.evq, evGap := d.evGap } (frameCycle f d) (byBlock (f d.cycleBegin).evq) := by
  have hsettle : settle (f d.cycleBegin) = f d.cycleBegin := settle_none _ hfaults
  have hposts := inCycle_posts (fun d => settle (f d)) d (by rw [hsettle]; exact hroom)
  rw [hsettle] at hposts
  have hwl : (oneCycle f d).wl = (f d.cycleBegin).wl := by
    rw [oneCycle, hposts.only]
  rw [frameCycle, answerDue_none _ (by rw [hwl]; exact hdue), lanesReport_none _ (by rw [hwl]; exact hsvc)]
  exact hposts

theorem exec_frameStart (s : State) : exec .frameStart s = fin s (frameCycle frameStart s.dev) := rfl

/-- Outside RUN, and while the device goes to DOZE, no frame starts (R286, R47). -/
theorem frameStart_idle (s : State) (hfaults : s.dev.faults = []) (hdue : s.dev.wl.due = []) (hsvc : s.dev.wl.svcSlot = [])
    (h : s.dev.mode ≠ .run ∨ s.dev.wl.dozeWait.isSome = true) : exec .frameStart s = .next s := by
  have hstart : frameStart s.dev.cycleBegin = s.dev.cycleBegin := if_pos h
  rw [exec_frameStart, frameCycle_idle _ _ hfaults hdue hsvc hstart, fin_none _ _ hfaults]

/-! The power-up clear. -/

/-- A plane that no entry of bay memory names is 0. -/
theorem Gal.plane_of_mem_nil (g : Gal) (i : Nat) (h : g.mem = []) : g.plane i = p0 := by rw [Gal.plane, h]; rfl

/-- A field of planes that are 0 is 0 in every bay. -/
theorem bayVal_zero (vals : List Plane) (k : Nat) (h : ∀ p ∈ vals, p = p0) : bayVal vals k = 0 := by
  induction vals with
  | nil => rfl
  | cons p r ih =>
    have hp : p = p0 := h p (by simp)
    have hr := ih fun q hq => h q (by simp [hq])
    unfold bayVal at hr ⊢
    rw [List.foldr_cons, hr, hp, p0, BitVec.getLsbD_zero]
    rfl

/-- An accumulator of planes that are 0 holds 0. -/
theorem Gal.accAt_zero (g : Gal) (k : Nat) (h : g.acc = List.replicate 48 p0) : g.accAt k = 0 := by
  have hplanes : ∀ p ∈ g.accs, p = p0 := by
    intro p hp
    obtain ⟨i, hi, rfl⟩ := List.mem_map.1 hp
    rw [nth, h, List.getElem?_replicate, if_pos (List.mem_range.1 hi), Option.getD_some]
  rw [Gal.accAt, bayVal_zero _ k hplanes]
  rfl

/-- The clause of the power-up clear (R268): bay memory and accumulators read 0, and it happens once. -/
theorem galPowerUpClear_clears (s : State) (hfaults : s.dev.faults = []) (hon : s.dev.galOn = true)
    (hcleared : s.dev.gal.cleared = false) :
    Completes .galPowerUpClear s (fun t =>
      t = { s with dev := { s.dev with gal := t.dev.gal } } ∧
      t.dev.gal = { s.dev.gal with mem := t.dev.gal.mem, acc := t.dev.gal.acc, cleared := true } ∧
      (∀ i, t.dev.gal.plane i = p0) ∧ (∀ k, t.dev.gal.accAt k = 0) ∧ exec .galPowerUpClear t = .next t) := by
  have hclear : powerClear s.dev =
      s.dev.setGal (fun g => { g with mem := [], acc := List.replicate 48 p0, cleared := true }) :=
    if_pos ⟨hon, by simp [hcleared]⟩
  have hexec (u : State) : exec .galPowerUpClear u = fin u (powerClear u.dev) := rfl
  refine ⟨_, (hexec s).trans (fin_none _ _ (by rw [hclear]; exact hfaults)), ?_⟩
  rw [hclear]
  refine ⟨rfl, rfl, fun i => Gal.plane_of_mem_nil _ i rfl, fun k => Gal.accAt_zero _ k rfl, ?_⟩
  rw [hexec, powerClear, if_neg (by simp)]
  exact fin_none _ _ hfaults

end Sys2Proof.Machine
end


section
/-!
A frame start in RUN (R281, R286, R287, R333, R335, R342).
-/

namespace Sys2Proof.Machine

/-! The moment of a frame start. -/

/-- A frame may start: RUN, no stall, no program that still runs, nothing in flight, nothing of the group pending, and the
halves of the registers that a frame start uses agree. -/
structure Dev.frameReady (d : Dev) : Prop where
  mode : d.mode = .run
  doze : d.wl.dozeWait = none
  stall : d.gal.stall = none
  running : d.gal.running = false
  cleared : d.gal.cleared = true
  xfers : d.gal.xfers = []
  nwl : d.gal.nwl = []
  complete : d.bal.frames = false ∨ d.gal.ok = true
  update : d.rd CNC_GUPD.PENDING = 0
  group : d.wl.swGroup = none
  period : d.twinOk GSQ_FPER.addr = true
  seamLat : d.twinOk GSQ_SEAMLAT.addr = true
  anyLat : d.twinOk GSQ_ANYLAT.addr = true

/-- Frames have begun to fall due (R485). -/
def Dev.framesDue (d : Dev) : Dev := { d with bal := { d.bal with frames := true } }

/-- The frame number goes up by one, modulo 2^64 (R286). -/
def frameCounted (d : Dev) : Dev :=
  let n := d.rd GSQ_FCNTLO.FCNT + 1
  let e := d.framesDue.wr GSQ_FCNTLO.FCNT n
  if n = 2 ^ 32 then e.wr GSQ_FCNTHI.FCNT (e.rd GSQ_FCNTHI.FCNT + 1) else e

theorem Dev.onlyFrame_framesDue (d : Dev) : d.onlyFrame d.framesDue := rfl

/-- The count touches the two registers of the frame number. -/
theorem frameCounted_cases (d : Dev) :
    ∃ e, frameCounted d = e ∧ d.framesDue.onlyRegs e ∧ Dev.sameRegs [GSQ_FCNTLO.addr, GSQ_FCNTHI.addr] d e := by
  have hlo : Dev.sameRegs [GSQ_FCNTLO.addr, GSQ_FCNTHI.addr] d (d.framesDue.wr GSQ_FCNTLO.FCNT (d.rd GSQ_FCNTLO.FCNT + 1)) :=
    Dev.sameRegs_wr d.framesDue _ _ (by decide)
  refine ⟨_, rfl, ?_⟩
  unfold frameCounted
  dsimp only
  split
  · exact ⟨(Dev.onlyRegs_wr _ _ _).trans (Dev.onlyRegs_wr _ _ _), hlo.trans (Dev.sameRegs_wr _ GSQ_FCNTHI.FCNT _ (by decide))⟩
  · exact ⟨Dev.onlyRegs_wr _ _ _, hlo⟩

theorem frameCounted_regs (d : Dev) : Dev.sameRegs [GSQ_FCNTLO.addr, GSQ_FCNTHI.addr] d (frameCounted d) := by
  obtain ⟨e, he, -, hregs⟩ := frameCounted_cases d
  rw [he]; exact hregs

theorem frameCounted_onlyRegs (d : Dev) : d.framesDue.onlyRegs (frameCounted d) := by
  obtain ⟨e, he, hregs, -⟩ := frameCounted_cases d
  rw [he]; exact hregs

theorem frameCounted_lo (d : Dev) : (frameCounted d).rd GSQ_FCNTLO.FCNT = (d.rd GSQ_FCNTLO.FCNT + 1) % 2 ^ 32 := by
  have hlo : (d.framesDue.wr GSQ_FCNTLO.FCNT (d.rd GSQ_FCNTLO.FCNT + 1)).rd GSQ_FCNTLO.FCNT =
      (d.rd GSQ_FCNTLO.FCNT + 1) % 2 ^ 32 := Dev.wr_rd _ _ _ (by decide) (by decide)
  unfold frameCounted
  dsimp only
  split
  · rw [Dev.wr_rd_ne _ _ _ _ (by decide), hlo]
  · exact hlo

theorem frameCounted_hi (d : Dev) : (frameCounted d).rd GSQ_FCNTHI.FCNT =
    (d.rd GSQ_FCNTHI.FCNT + if (d.rd GSQ_FCNTLO.FCNT + 1) % 2 ^ 32 = 0 then 1 else 0) % 2 ^ 32 := by
  have hlt : d.rd GSQ_FCNTLO.FCNT < 2 ^ 32 := d.rd_lt GSQ_FCNTLO.FCNT
  have hhi : d.rd GSQ_FCNTHI.FCNT < 2 ^ 32 := d.rd_lt GSQ_FCNTHI.FCNT
  have hsame : (d.framesDue.wr GSQ_FCNTLO.FCNT (d.rd GSQ_FCNTLO.FCNT + 1)).rd GSQ_FCNTHI.FCNT = d.rd GSQ_FCNTHI.FCNT :=
    Dev.wr_rd_ne _ _ _ _ (by decide)
  unfold frameCounted
  dsimp only
  split
  · next h => rw [Dev.wr_rd _ _ _ (by decide) (by decide), hsame, if_pos (by omega)]; rfl
  · next h => rw [hsame, if_neg (by omega), Nat.add_zero, Nat.mod_eq_of_lt hhi]

/-- A frame start that finds the device ready counts the frame and begins it. -/
theorem frameStart_eq (d : Dev) (h : d.frameReady) : frameStart d = frameBegin (frameCounted d) := by
  have hclear : powerClear d = d := if_neg (by simp [h.cleared])
  have hdeliver (n : Nat) : deliver d n = d := deliver_none d n (by simp [h.xfers]) (by simp [h.nwl])
  have hmissed : ¬ ((!d.gal.ok) = true ∧ d.bal.frames = true) := by
    rcases h.complete with hf | hok
    · simp [hf]
    · simp [hok]
  have hmode : (frameCounted d).mode = .run := by rw [frameCounted_onlyRegs]; exact h.mode
  have hstall : (frameCounted d).gal.stall.isSome = false := by
    rw [frameCounted_onlyRegs]
    show d.gal.stall.isSome = false
    rw [h.stall]; rfl
  have hcount : frameStart d =
      if (frameCounted d).mode ≠ .run then frameCounted d
      else if (frameCounted d).gal.stall.isSome then (frameCounted d).setGal (fun g => { g with startDue := true })
      else frameBegin (frameCounted d) := by
    unfold frameStart
    rw [if_neg (by simp [h.mode, h.doze]), hclear]
    simp only [hdeliver, h.running, Bool.false_eq_true, if_false, if_neg hmissed]
    rfl
  rw [hcount, if_neg (by simp [hmode]), hstall, if_neg Bool.false_ne_true]

/-! The boundary. -/

/-- Array time at the boundary: what an overrun leaves, else 0. -/
def frameTurn (d : Dev) : Dev :=
  let g := d.gal
  let now := if g.running then d.bcnt - g.period else 0
  let at_ := if g.running then g.frameAt + g.period * 5 / 4 else max d.now (g.frameAt + g.period * 5 / 4)
  let late := g.period
  let d := d.setGal (fun g =>
    { g with p := p0, padHist := [], frameAt := at_, lastC := g.lastC - late,
             xfers := g.xfers.map (fun x => { x with due := x.due - late, start := x.start - late }),
             nwl := g.nwl.map (fun x => { x with due := x.due - late }) })
  let d := galTime (useTwin d GSQ_FPER.addr) now
  d.setGal (fun g => { g with period := d.acts GSQ_FPER.CYCLES })

/-- An armed repair takes effect where a frame has ended since it was armed (R348). -/
def frameRepaired (g : Gal) (d : Dev) : Dev :=
  if d.on GSQ_REPCTL.ARMED ∧ !g.running ∧ (g.repReady ∨ !(g.running || g.fend || g.trapped)) ∧ !g.fresh then applyRepair d
  else d

/-- An armed switch takes effect where no bank is active, or behind a frame that has ended, from its frame number on (R334). -/
def frameSwitched (g : Gal) (d : Dev) : Dev :=
  if d.activeBank.isNone ∨ ((g.running || g.fend || g.trapped) ∧ atOrAfter (d.rd GSQ_FCNTLO.FCNT) (d.rd GSQ_SWAT.AT)) then
    takeSwitch d
  else d

/-- What applies at a frame start, in its order. -/
theorem frameBegin_eq (d : Dev) : frameBegin d = frameSideband (groupSwitchCheck (startProgram (applyMap
    (frameSwitched d.gal (frameRepaired d.gal (applyUpdate (useTwin (useTwin (frameTurn d) GSQ_SEAMLAT.addr)
      GSQ_ANYLAT.addr))))))) := rfl

/-- Array time starts again, in the period that GSQ_FPER gives. -/
def frameTurned (d : Dev) : Dev :=
  (galTime (d.setGal (fun g => { g with
      p := p0, padHist := [], frameAt := max d.now (d.gal.frameAt + d.gal.period * 5 / 4), lastC := g.lastC - d.gal.period,
      xfers := [], nwl := [] })) 0).setGal (fun g => { g with period := d.acts GSQ_FPER.CYCLES })

theorem frameTurned_regs (d : Dev) : Dev.sameRegs [GSQ_BCNT_NOW.addr] d (frameTurned d) :=
  ((Dev.sameRegs_setGal d _ _).trans (galTime_regs _ 0)).trans (Dev.sameRegs_setGal _ _ _)

theorem frameTurned_onlyFrame (d : Dev) : d.onlyFrame (frameTurned d) :=
  ((Dev.onlyFrame_setGal d _).trans (galTime_onlyFrame _ 0)).trans (Dev.onlyFrame_setGal _ _)

/-- With nothing in flight, the boundary sets array time to 0. -/
theorem frameTurn_idle (d : Dev) (hrun : d.gal.running = false) (hxfers : d.gal.xfers = []) (hnwl : d.gal.nwl = [])
    (hfper : d.twinOk GSQ_FPER.addr = true) : frameTurn d = frameTurned d := by
  have hfper' (f : Gal → Gal) : useTwin (d.setGal f) GSQ_FPER.addr = d.setGal f := useTwin_ok _ _ hfper
  have hacts (f : Gal → Gal) : (galTime (d.setGal f) 0).acts GSQ_FPER.CYCLES = d.acts GSQ_FPER.CYCLES :=
    (galTime_regs (d.setGal f) 0).acts _ (by decide)
  unfold frameTurn
  dsimp only
  rw [hfper', hrun, if_neg Bool.false_ne_true, if_neg Bool.false_ne_true, hacts]
  simp only [frameTurned, Dev.setGal, hxfers, hnwl, List.map_nil]

end Sys2Proof.Machine
end


section
/-!
What applies at a frame start, one operation after the other: the switch of the bank, the map, the program, the sideband.
-/

namespace Sys2Proof.Machine

/-! The effective budget. -/

theorem setEff_cases (d : Dev) : ∃ n, setEff d = d.wr GSQ_BUDGET.EFF n := by
  unfold setEff
  cases d.activeBank with
  | none => exact ⟨_, rfl⟩
  | some b => exact ⟨_, rfl⟩

theorem setEff_regs (d : Dev) : Dev.sameRegs [GSQ_BUDGET.addr] d (setEff d) := by
  obtain ⟨n, hn⟩ := setEff_cases d
  rw [hn]; exact Dev.sameRegs_wr _ _ _ (by decide)

theorem setEff_onlyRegs (d : Dev) : d.onlyRegs (setEff d) := by
  obtain ⟨n, hn⟩ := setEff_cases d
  rw [hn]; exact Dev.onlyRegs_wr _ _ _

/-- The image registers of bank 0 and 1 lie outside what a list of registers changes. -/
def imageKept (xs : List Nat) : Prop := ∀ a ∈ xs, a < GSQ_BI_ENTRY.addr 0 ∨ GSQ_BI_ENTRY.addr 2 ≤ a

theorem Dev.sameRegs.rd_image {xs : List Nat} {d e : Dev} (h : Dev.sameRegs xs d e) (hx : imageKept xs) (f : Fld)
    (hlo : GSQ_BI_ENTRY.addr 0 ≤ f.addr) (hhi : f.addr < GSQ_BI_ENTRY.addr 2) : e.rd f = d.rd f := by
  refine h.rd f fun hmem => ?_
  rcases hx _ hmem with hlt | hle
  · omega
  · omega

/-- The entry of a bank of the two. -/
theorem Dev.sameRegs.entry {xs : List Nat} {d e : Dev} (h : Dev.sameRegs xs d e) (hx : imageKept xs) (b : Nat) (hb : b < 2) :
    e.rd (GSQ_BI_ENTRY.ENTRY b) = d.rd (GSQ_BI_ENTRY.ENTRY b) := by
  refine h.rd_image hx _ ?_ ?_ <;> simp only [GSQ_BI_ENTRY.ENTRY, GSQ_BI_ENTRY.addr] <;> omega

/-- The effective budget of a bank of the two. -/
theorem Dev.sameRegs.beff {xs : List Nat} {d e : Dev} (h : Dev.sameRegs xs d e) (hx : imageKept xs)
    (hs : GSQ_SEAMLAT.addr ∉ xs) (ha : GSQ_ANYLAT.addr ∉ xs) (b : Nat) (hb : b < 2) : e.beff b = d.beff b := by
  have hb0 : e.rd (GSQ_BI_B0.B0 b) = d.rd (GSQ_BI_B0.B0 b) := by
    refine h.rd_image hx _ ?_ ?_ <;> simp only [GSQ_BI_B0.B0, GSQ_BI_B0.addr, GSQ_BI_ENTRY.addr] <;> omega
  have hseam : e.rd (GSQ_BI_N.NSEAM b) = d.rd (GSQ_BI_N.NSEAM b) := by
    refine h.rd_image hx _ ?_ ?_ <;> simp only [GSQ_BI_N.NSEAM, GSQ_BI_N.addr, GSQ_BI_ENTRY.addr] <;> omega
  have hany : e.rd (GSQ_BI_N.NANY b) = d.rd (GSQ_BI_N.NANY b) := by
    refine h.rd_image hx _ ?_ ?_ <;> simp only [GSQ_BI_N.NANY, GSQ_BI_N.addr, GSQ_BI_ENTRY.addr] <;> omega
  rw [Dev.beff, Dev.beffWith, hb0, hseam, hany, h.acts GSQ_SEAMLAT.LAT hs, h.acts GSQ_ANYLAT.LAT ha]
  rfl

/-- The active bank is one of the two. -/
theorem Dev.activeBank_lt {d : Dev} {b : Nat} (h : d.activeBank = some b) : b < 2 := by
  unfold Dev.activeBank at h
  split at h
  · exact absurd h (by simp)
  · cases h
    exact d.rd_lt GSQ_BANK.ACTIVE

/-! The switch of the bank. -/

/-- The bank is active, and the switch is done (R334, R335). -/
def switchTaken (d : Dev) (b : Nat) : Dev :=
  let e := ((d.wr GSQ_BANK.ACTIVE b).wr GSQ_BANK.NONE 0).wr GSQ_SWCTL.ARMED 0
  (e.wr GSQ_SWREQ.DONE (e.rd GSQ_SWREQ.REQ)).wr CNC_GRP.SETTLED 1

theorem switchTaken_onlyRegs (d : Dev) (b : Nat) : d.onlyRegs (switchTaken d b) :=
  ((((Dev.onlyRegs_wr d GSQ_BANK.ACTIVE b).trans (Dev.onlyRegs_wr _ GSQ_BANK.NONE 0)).trans
    (Dev.onlyRegs_wr _ GSQ_SWCTL.ARMED 0)).trans (Dev.onlyRegs_wr _ GSQ_SWREQ.DONE _)).trans
    (Dev.onlyRegs_wr _ CNC_GRP.SETTLED 1)

theorem switchTaken_regs (d : Dev) (b : Nat) :
    Dev.sameRegs [GSQ_BANK.addr, GSQ_SWCTL.addr, GSQ_SWREQ.addr, CNC_GRP.addr] d (switchTaken d b) :=
  ((((Dev.sameRegs_wr d GSQ_BANK.ACTIVE b (by decide)).trans (Dev.sameRegs_wr _ GSQ_BANK.NONE 0 (by decide))).trans
    (Dev.sameRegs_wr _ GSQ_SWCTL.ARMED 0 (by decide))).trans (Dev.sameRegs_wr _ GSQ_SWREQ.DONE _ (by decide))).trans
    (Dev.sameRegs_wr _ CNC_GRP.SETTLED 1 (by decide))

theorem switchTaken_activeBank (d : Dev) (b : Nat) (hb : b < 2) : (switchTaken d b).activeBank = some b := by
  have hnone : (switchTaken d b).on GSQ_BANK.NONE = false := by
    refine Dev.on_false_of_zero _ _ ?_
    dsimp only [switchTaken]
    rw [Dev.wr_rd_ne _ _ _ _ (by decide), Dev.wr_rd_ne _ _ _ _ (by decide), Dev.wr_rd_ne _ _ _ _ (by decide),
      Dev.wr_rd _ _ _ (by decide) (by decide)]
    rfl
  have hactive : (switchTaken d b).rd GSQ_BANK.ACTIVE = b := by
    dsimp only [switchTaken]
    rw [Dev.wr_rd_ne _ _ _ _ (by decide), Dev.wr_rd_ne _ _ _ _ (by decide), Dev.wr_rd_ne _ _ _ _ (by decide),
      Dev.wr_rd_below _ GSQ_BANK.NONE GSQ_BANK.ACTIVE 0 (by decide) (by decide) (by decide) (by decide) rfl,
      Dev.wr_rd _ _ _ (by decide) (by decide)]
    exact Nat.mod_eq_of_lt hb
  rw [Dev.activeBank, hnone, if_neg Bool.false_ne_true, hactive]

theorem switchTaken_armed (d : Dev) (b : Nat) : (switchTaken d b).rd GSQ_SWCTL.ARMED = 0 := by
  dsimp only [switchTaken]
  rw [Dev.wr_rd_ne _ _ _ _ (by decide), Dev.wr_rd_ne _ _ _ _ (by decide), Dev.wr_rd _ _ _ (by decide) (by decide)]
  rfl

theorem switchTaken_done (d : Dev) (b : Nat) : (switchTaken d b).rd GSQ_SWREQ.DONE = d.rd GSQ_SWREQ.REQ := by
  dsimp only [switchTaken]
  rw [Dev.wr_rd_ne _ _ _ _ (by decide), Dev.wr_rd _ _ _ (by decide) (by decide), Dev.wr_rd_ne _ _ _ _ (by decide),
    Dev.wr_rd_ne _ _ _ _ (by decide), Dev.wr_rd_ne _ _ _ _ (by decide)]
  exact Nat.mod_eq_of_lt (d.rd_lt GSQ_SWREQ.REQ)

/-- Nothing is armed: no switch. -/
theorem takeSwitch_unarmed (d : Dev) (h : d.on GSQ_SWCTL.ARMED = false) : takeSwitch d = d := by
  have : d.armedBank = none := by rw [Dev.armedBank, h]; rfl
  rw [takeSwitch, this]

/-- What a switch to a bank does (R334, R335). -/
structure Dev.switched (d e : Dev) (b : Nat) : Prop where
  only : d.onlyFrame e
  regs : Dev.sameRegs [GSQ_BANK.addr, GSQ_SWCTL.addr, GSQ_SWREQ.addr, CNC_GRP.addr, ICU_PEND.addr 2, EVQ_NEXTSEQ.addr,
    GSQ_BUDGET.addr] d e
  gal : e.gal = d.gal
  now : e.now = d.now
  evq : ∃ v, e.evq = d.evq ++ [v] ∧ v.block = 0x0E
  bank : e.activeBank = some b
  armed : e.rd GSQ_SWCTL.ARMED = 0
  done : e.rd GSQ_SWREQ.DONE = d.rd GSQ_SWREQ.REQ
  pend : e.srcBit ICU_PEND.addr 66 = true

/-- An armed switch takes effect, and its event is posted. -/
theorem takeSwitch_eq (d : Dev) (b : Nat) (h : d.armedBank = some b) : ∃ v : Ev, v.block = 0x0E ∧
    takeSwitch d = setEff (evqAppend ((switchTaken d b).pulse 66) v.block v.code v.crit v.d0 v.d1) := by
  refine ⟨⟨0, 0x0E, (Config.evCode .bankSwitch).toNat, false, true, 0,
    w32 ((((d.wr GSQ_BANK.ACTIVE b).wr GSQ_BANK.NONE 0).wr GSQ_SWCTL.ARMED 0).rd GSQ_SWREQ.REQ),
    ((switchTaken d b).pulse 66).ld GSQ_FCNTLO.addr⟩, rfl, ?_⟩
  unfold takeSwitch
  rw [h]
  rfl

theorem takeSwitch_switched (d : Dev) (h : d.on GSQ_SWCTL.ARMED = true) (hevq : d.evq.length < 240) :
    d.switched (takeSwitch d) (d.rd GSQ_SWCTL.TARGET) := by
  have hb : d.rd GSQ_SWCTL.TARGET < 2 := d.rd_lt GSQ_SWCTL.TARGET
  have harmed : d.armedBank = some (d.rd GSQ_SWCTL.TARGET) := by rw [Dev.armedBank, h]; rfl
  generalize d.rd GSQ_SWCTL.TARGET = b at hb harmed
  obtain ⟨v, hblock, heq⟩ := takeSwitch_eq d b harmed
  have hpulse := Dev.onlyRegs_pulse (switchTaken d b) 66
  have hposts := evqAppend_posts ((switchTaken d b).pulse 66) v (by rw [hpulse, switchTaken_onlyRegs]; exact hevq)
  obtain ⟨us, hus, hcontent⟩ := hposts.evq
  have heff := setEff_onlyRegs (evqAppend ((switchTaken d b).pulse 66) v.block v.code v.crit v.d0 v.d1)
  have hrest : Dev.sameRegs [ICU_PEND.addr 2, EVQ_NEXTSEQ.addr, GSQ_BUDGET.addr] (switchTaken d b) (takeSwitch d) := by
    rw [heq]
    exact ((Dev.sameRegs_pulse _ 66 (by decide)).trans (hposts.regs.mono (by decide))).trans
      ((setEff_regs _).mono (by decide))
  have htaken := switchTaken_onlyRegs d b
  refine ⟨?_, ?_, ?_, ?_, ?_, ?_, ?_, ?_, ?_⟩
  · rw [heq]
    exact (((switchTaken_onlyRegs d b).onlyFrame.trans hpulse.onlyFrame).trans hposts.onlyFrame).trans heff.onlyFrame
  · exact ((switchTaken_regs d b).mono (by decide)).trans (hrest.mono (by decide))
  · rw [heq, heff, hposts.only, hpulse, htaken]
  · rw [heq, heff, hposts.only, hpulse, htaken]
  · obtain ⟨u, rfl⟩ : ∃ u, us = [u] := by
      rw [← List.length_eq_one_iff, ← List.length_map Ev.content, hcontent]; rfl
    have hu : u.block = v.block := congrArg Prod.fst (List.cons.inj hcontent).1
    refine ⟨u, ?_, hu.trans hblock⟩
    rw [heq, heff]
    show (evqAppend ((switchTaken d b).pulse 66) v.block v.code v.crit v.d0 v.d1).evq = _
    rw [hus, hpulse, htaken]
  · rw [hrest.activeBank (by decide), switchTaken_activeBank d b hb]
  · rw [hrest.rd _ (by decide), switchTaken_armed]
  · rw [hrest.rd _ (by decide), switchTaken_done]
  · have hkeep : Dev.sameRegs [EVQ_NEXTSEQ.addr, GSQ_BUDGET.addr] ((switchTaken d b).pulse 66) (takeSwitch d) := by
      rw [heq]
      exact (hposts.regs.mono (by decide)).trans ((setEff_regs _).mono (by decide))
    rw [srcBit_of_ld 66 (hkeep _ (by decide))]
    exact srcBit_pulse _ 66 (by decide)

/-! The map, the program and the group. -/

/-- The map that waits takes its place; the registers of it are RSR_MAPCTL (R342). -/
theorem applyMap_cases (d : Dev) : ∃ e, applyMap d = e ∧ d.onlyFrame e ∧ Dev.sameRegs [RSR_MAPCTL.addr] d e ∧
    e.gal = { d.gal with map := d.gal.map2.getD d.gal.map, map2 := none } ∧ e.evq = d.evq ∧ e.now = d.now ∧ e.svc = d.svc := by
  refine ⟨_, rfl, ?_⟩
  unfold applyMap
  cases hmap : d.gal.map2 with
  | none =>
    refine ⟨rfl, fun _ _ => rfl, ?_, rfl, rfl, rfl⟩
    show d.gal = _
    rw [Option.getD_none, ← hmap]
  | some m =>
    exact ⟨rfl, ((Dev.sameRegs_setGal d _ _).trans (Dev.sameRegs_wr _ RSR_MAPCTL.PEND 0 (by decide))).trans
      (Dev.sameRegs_wr _ RSR_MAPCTL.VALID 1 (by decide)), rfl, rfl, rfl, rfl⟩

/-- The state of Table GAL.1 at a frame start of a bank, or of none (R281). -/
def programState (g : Gal) (run : Option Nat) (fcnt entry limit : Nat) : Gal :=
  { g.setS 15 (w32 fcnt) with
    c := p0, a := p1, t := p0, stack := [], loops := [], calls := [], pc := entry % 16384, running := run.isSome,
    fend := false, ok := false, trapped := false, fendPc := 0, limit := limit, ord := 0, startDue := false,
    fresh := false, votes := g.votes.filter (fun v => v.2.1 / 65536 == fcnt % 2 ^ 16) }

theorem startProgram_eq (d : Dev) : startProgram d = setEff (d.setGal (fun g => programState g d.activeBank
    (d.rd GSQ_FCNTLO.FCNT) (match d.activeBank with | some b => d.rd (GSQ_BI_ENTRY.ENTRY b) | none => 0)
    (match d.activeBank with | some b => d.beff b | none => 0))) := rfl

theorem startProgram_regs (d : Dev) : Dev.sameRegs [GSQ_BUDGET.addr] d (startProgram d) := by
  rw [startProgram_eq]
  exact (Dev.sameRegs_setGal d _ _).trans (setEff_regs _)

theorem startProgram_onlyFrame (d : Dev) : d.onlyFrame (startProgram d) := by
  rw [startProgram_eq]
  exact (Dev.onlyFrame_setGal d _).trans (setEff_onlyRegs _).onlyFrame

theorem startProgram_frame (d : Dev) : (startProgram d).evq = d.evq ∧ (startProgram d).now = d.now ∧
    (startProgram d).svc = d.svc := by
  rw [startProgram_eq, setEff_onlyRegs]
  exact ⟨rfl, rfl, rfl⟩

theorem startProgram_gal (d : Dev) : (startProgram d).gal = programState d.gal d.activeBank
    (d.rd GSQ_FCNTLO.FCNT) (match d.activeBank with | some b => d.rd (GSQ_BI_ENTRY.ENTRY b) | none => 0)
    (match d.activeBank with | some b => d.beff b | none => 0) := by
  rw [startProgram_eq, setEff_onlyRegs]
  rfl

/-- Without a switch of the group there is nothing to disarm (R336). -/
theorem groupSwitchCheck_none (d : Dev) (h : d.wl.swGroup = none) : groupSwitchCheck d = d := by
  rw [groupSwitchCheck, h]

/-! The sideband at a frame start. -/

/-- What messages to the lanes change: the lanes, the group's notes, the last beacon's frame and the counts of votes. -/
structure Dev.sends (d e : Dev) : Prop where
  only : e = { d with regs := e.regs, lanes := e.lanes, grp := e.grp }
  regs : Dev.sameRegs (CNC_BEACON.addr :: (List.range 4).map CNC_SBCNT.addr) d e

theorem Dev.sends_refl (d : Dev) : d.sends d := ⟨rfl, fun _ _ => rfl⟩

theorem Dev.sends.trans {d e g : Dev} (h : d.sends e) (k : e.sends g) : d.sends g where
  only := by rw [k.only, h.only]
  regs := h.regs.trans k.regs

theorem Dev.sends.onlyFrame {d e : Dev} (h : d.sends e) : d.onlyFrame e := by
  rw [h.only]
  rfl

theorem sendSb_sends (d : Dev) (l : Nat) (m : SbMsg) (hl : l < 4) : d.sends (sendSb d l m) := by
  have hregs : Dev.sameRegs (CNC_BEACON.addr :: (List.range 4).map CNC_SBCNT.addr) d (sendSb d l m) := by
    unfold sendSb
    dsimp only
    split
    · refine (Dev.sameRegs_of_regs rfl _).trans (Dev.sameRegs_bump _ (CNC_SBCNT.VOTETX l) 1 ?_)
      exact List.mem_cons_of_mem _ (List.mem_map.2 ⟨l, List.mem_range.2 hl, rfl⟩)
    · exact Dev.sameRegs_of_regs rfl _
  refine ⟨?_, hregs⟩
  unfold sendSb
  dsimp only
  split <;> rfl

theorem floodSb_sends (d : Dev) (skip : Option Nat) (m : SbMsg) : d.sends (floodSb d skip m) := by
  refine foldl_relates (R := Dev.sends) Dev.sends_refl Dev.sends.trans _ _ d (fun l hl e => ?_)
  split
  · exact sendSb_sends e l m (List.mem_range.1 hl)
  · exact e.sends_refl

/-- The lead notes the frame of its beacon. -/
def beaconNoted (d : Dev) : Dev :=
  { d.wr CNC_BEACON.FCNT (d.rd GSQ_FCNTLO.FCNT) with grp := { d.grp with beaconMiss := 0, beaconFrame := false } }

/-- A member counts the frames without a beacon. -/
def beaconMissed (d : Dev) : Dev :=
  { d with grp := { d.grp with beaconMiss := if d.grp.beaconFrame then 0 else d.grp.beaconMiss + 1, beaconFrame := false } }

theorem beaconNoted_sends (d : Dev) : d.sends (beaconNoted d) :=
  ⟨rfl, Dev.sameRegs_wr d CNC_BEACON.FCNT _ (by decide)⟩

theorem beaconMissed_sends (d : Dev) : d.sends (beaconMissed d) := ⟨rfl, fun _ _ => rfl⟩

/-- The beacon of the lead (R367). -/
def beaconSent (d : Dev) : Dev :=
  if d.on CNC_GRP.ISLEAD then
    floodSb (beaconNoted d) none
      { type := 0x12, origin := d.pos, hops := 0, copy := false, payload := [d.rd GSQ_FCNTLO.FCNT, d.rd CNC_GRP.LEAD] }
  else beaconMissed d

theorem beaconSent_sends (d : Dev) : d.sends (beaconSent d) := by
  unfold beaconSent
  split
  · exact (beaconNoted_sends d).trans (floodSb_sends _ _ _)
  · exact beaconMissed_sends d

/-- The MARKERs of a frame (R366, R370). -/
def markersSent (d : Dev) : Dev :=
  (List.range 4).foldl (fun d l => if d.lstate l = 4 ∨ d.lstate l = 6 ∨ d.nearLoop l then
    sendSb d l { type := 0x02, origin := d.pos, hops := 0, copy := false, payload := [0] } else d) d

theorem markersSent_sends (d : Dev) : d.sends (markersSent d) := by
  refine foldl_relates (R := Dev.sends) Dev.sends_refl Dev.sends.trans _ _ d (fun l hl e => ?_)
  split
  · exact sendSb_sends e l _ (List.mem_range.1 hl)
  · exact e.sends_refl

theorem frameSideband_eq (d : Dev) : frameSideband d = floodSb (markersSent (beaconSent d)) none
    { type := 0x10, origin := (markersSent (beaconSent d)).pos, hops := 0, copy := false, late := true,
      payload := [(markersSent (beaconSent d)).gal.latches,
                  (65535 + (markersSent (beaconSent d)).grp.voteSeq) % 2 ^ 16] } := rfl

theorem frameSideband_sends (d : Dev) : d.sends (frameSideband d) := by
  rw [frameSideband_eq]
  exact ((beaconSent_sends d).trans (markersSent_sends _)).trans (floodSb_sends _ _ _)

end Sys2Proof.Machine
end


section
/-!
A frame start in RUN without an armed repair (R281, R286, R334, R335, R342).
-/

namespace Sys2Proof.Machine

/-! The whole frame start. -/

/-- The map, the program and the sideband of the frame. -/
def frameStarted (d : Dev) : Dev := frameSideband (startProgram (applyMap d))

/-- The registers that a frame writes at its start, but for its number and its switch. -/
def startedRegs : List Nat :=
  RSR_MAPCTL.addr :: GSQ_BUDGET.addr :: CNC_BEACON.addr :: (List.range 4).map CNC_SBCNT.addr

theorem frameStarted_regs (d : Dev) : Dev.sameRegs startedRegs d (frameStarted d) := by
  obtain ⟨e, he, -, hmap, -⟩ := applyMap_cases d
  rw [frameStarted, he]
  exact ((hmap.mono (by decide)).trans ((startProgram_regs e).mono (by decide))).trans
    ((frameSideband_sends _).regs.mono (by decide))

theorem frameStarted_onlyFrame (d : Dev) : d.onlyFrame (frameStarted d) := by
  obtain ⟨e, he, honly, -⟩ := applyMap_cases d
  rw [frameStarted, he]
  exact (honly.trans (startProgram_onlyFrame e)).trans (frameSideband_sends _).onlyFrame

theorem frameStarted_frame (d : Dev) : (frameStarted d).evq = d.evq ∧ (frameStarted d).now = d.now ∧
    (frameStarted d).svc = d.svc := by
  obtain ⟨e, he, -, -, -, hevq, hnow, hsvc⟩ := applyMap_cases d
  obtain ⟨kevq, know, ksvc⟩ := startProgram_frame e
  rw [frameStarted, he, (frameSideband_sends _).only]
  exact ⟨kevq.trans hevq, know.trans hnow, ksvc.trans hsvc⟩

/-- The entry of the program that starts. -/
def Dev.entryOf (d : Dev) (run : Option Nat) : Nat :=
  match run with | some b => d.rd (GSQ_BI_ENTRY.ENTRY b) | none => 0

/-- The limit of the frame that starts (R338). -/
def Dev.limitOf (d : Dev) (run : Option Nat) : Nat :=
  match run with | some b => d.beff b | none => 0

theorem Dev.sameRegs.entryOf {xs : List Nat} {d e : Dev} (h : Dev.sameRegs xs d e) (hx : imageKept xs) (run : Option Nat)
    (hrun : ∀ b, run = some b → b < 2) : e.entryOf run = d.entryOf run := by
  cases run with
  | none => rfl
  | some b => exact h.entry hx b (hrun b rfl)

theorem Dev.sameRegs.limitOf {xs : List Nat} {d e : Dev} (h : Dev.sameRegs xs d e) (hx : imageKept xs)
    (hs : GSQ_SEAMLAT.addr ∉ xs) (ha : GSQ_ANYLAT.addr ∉ xs) (run : Option Nat)
    (hrun : ∀ b, run = some b → b < 2) : e.limitOf run = d.limitOf run := by
  cases run with
  | none => rfl
  | some b => exact h.beff hx hs ha b (hrun b rfl)

/-- The state of the Gallery at the start of the frame. -/
theorem frameStarted_gal (d : Dev) : (frameStarted d).gal =
    programState { d.gal with map := d.gal.map2.getD d.gal.map, map2 := none } d.activeBank (d.rd GSQ_FCNTLO.FCNT)
      (d.entryOf d.activeBank) (d.limitOf d.activeBank) := by
  obtain ⟨e, he, -, hregs, hgal, -⟩ := applyMap_cases d
  have hbank : e.activeBank = d.activeBank := hregs.activeBank (by decide)
  have hentry : e.entryOf d.activeBank = d.entryOf d.activeBank :=
    hregs.entryOf (by unfold imageKept; decide) _ fun _ => Dev.activeBank_lt
  have hlimit : e.limitOf d.activeBank = d.limitOf d.activeBank :=
    hregs.limitOf (by unfold imageKept; decide) (by decide) (by decide) _ fun _ => Dev.activeBank_lt
  rw [frameStarted, he, (frameSideband_sends _).only]
  refine (startProgram_gal e).trans ?_
  rw [hgal, hregs.rd _ (by decide), hbank, ← hentry, ← hlimit]
  rfl

/-- A frame start that finds the device ready: the count, the boundary, the repair, the switch, and the start. -/
theorem frameStart_chain (d e : Dev) (h : d.frameReady)
    (he : frameSwitched d.gal (frameRepaired d.gal (frameTurned (frameCounted d))) = e) (hwl : e.wl.swGroup = none) :
    frameStart d = frameStarted e := by
  have hcount := frameCounted_regs d
  have hgal : (frameCounted d).gal = d.gal := by rw [frameCounted_onlyRegs]; rfl
  have hregs : Dev.sameRegs [GSQ_FCNTLO.addr, GSQ_FCNTHI.addr, GSQ_BCNT_NOW.addr] d (frameTurned (frameCounted d)) :=
    (hcount.mono (by decide)).trans ((frameTurned_regs _).mono (by decide))
  have hturn : frameTurn (frameCounted d) = frameTurned (frameCounted d) := by
    refine frameTurn_idle _ ?_ ?_ ?_ ((hcount.twinOk _ (by decide) (by decide)).trans h.period)
    · rw [hgal, h.running]
    · rw [hgal, h.xfers]
    · rw [hgal, h.nwl]
  have hseam : (frameTurned (frameCounted d)).twinOk GSQ_SEAMLAT.addr = true :=
    (hregs.twinOk _ (by decide) (by decide)).trans h.seamLat
  have hany : (frameTurned (frameCounted d)).twinOk GSQ_ANYLAT.addr = true :=
    (hregs.twinOk _ (by decide) (by decide)).trans h.anyLat
  have hpending : (frameTurned (frameCounted d)).on CNC_GUPD.PENDING = false :=
    Dev.on_false_of_zero _ _ ((hregs.rd _ (by decide)).trans h.update)
  have hupdate : applyUpdate (frameTurned (frameCounted d)) = frameTurned (frameCounted d) := by
    rw [applyUpdate, if_neg (by simp [hpending])]
  have hcheck : groupSwitchCheck (startProgram (applyMap e)) = startProgram (applyMap e) := by
    refine groupSwitchCheck_none _ ?_
    obtain ⟨m, hm, honly, -⟩ := applyMap_cases e
    rw [hm, (startProgram_onlyFrame m).wl, honly.wl, hwl]
  rw [frameStart_eq d h, frameBegin_eq, hturn, useTwin_ok _ _ hseam, useTwin_ok _ _ hany, hupdate, hgal, he, hcheck,
    frameStarted]

/-- The Gallery at the boundary: P and the history of the pads are 0, and array time starts again. -/
def Gal.turned (g : Gal) (now period : Nat) : Gal :=
  { g with p := p0, padHist := [], frameAt := max now (g.frameAt + g.period * 5 / 4), lastC := g.lastC - g.period,
           xfers := [], nwl := [], period := period }

theorem frameTurned_gal (d : Dev) : (frameTurned d).gal = d.gal.turned d.now (d.acts GSQ_FPER.CYCLES) := rfl

theorem frameTurned_evq (d : Dev) : (frameTurned d).evq = d.evq := rfl

theorem frameTurned_bcnt (d : Dev) : (frameTurned d).bcnt = 0 := galTime_bcnt _ 0 (by decide)

/-- The Gallery at the start of a frame that found nothing in flight. -/
theorem programState_turned (g : Gal) (now period : Nat) (run : Option Nat) (fcnt entry limit : Nat) (hx : g.xfers = [])
    (hn : g.nwl = []) : programState { g.turned now period with map := g.map2.getD g.map, map2 := none } run fcnt entry limit =
      { g with
        c := p0, a := p1, t := p0, p := p0, stack := [], loops := [], calls := [], s := setNth 0#32 g.s 15 (w32 fcnt),
        running := run.isSome, fend := false, ok := false, trapped := false, fendPc := 0, ord := 0,
        startDue := false, fresh := false, lastC := g.lastC - g.period, period := period,
        frameAt := max now (g.frameAt + g.period * 5 / 4),
        votes := g.votes.filter (fun v => v.2.1 / 65536 == fcnt % 2 ^ 16),
        pc := entry % 16384, limit := limit, padHist := [], map := g.map2.getD g.map, map2 := none } := by
  cases g
  subst hx hn
  rfl

/-! The clause of a frame start without a repair. -/

/-- The frame number of the frame that starts. -/
def Dev.nextFrame (d : Dev) : Nat := (d.rd GSQ_FCNTLO.FCNT + 1) % 2 ^ 32

/-- An armed switch takes effect at this frame start (R334). -/
def Dev.takes (d : Dev) : Prop :=
  d.rd GSQ_SWCTL.ARMED = 1 ∧ (d.activeBank = none ∨
    ((d.gal.fend = true ∨ d.gal.trapped = true) ∧ atOrAfter d.nextFrame (d.rd GSQ_SWAT.AT) = true))

/-- The registers of a switch of the bank. -/
def switchRegs : List Nat :=
  [GSQ_BANK.addr, GSQ_SWCTL.addr, GSQ_SWREQ.addr, CNC_GRP.addr, ICU_PEND.addr 2, EVQ_NEXTSEQ.addr, GSQ_BUDGET.addr]

/-- The boundary with or without a switch. -/
structure Dev.boundary (d e : Dev) (bank : Option Nat) (takes : Prop) : Prop where
  only : d.onlyFrame e
  regs : Dev.sameRegs switchRegs d e
  gal : e.gal = d.gal
  now : e.now = d.now
  evq : e.evq = d.evq ∨ ∃ v, e.evq = d.evq ++ [v] ∧ v.block = 0x0E
  bank : e.activeBank = bank
  switch : takes → e.rd GSQ_SWCTL.ARMED = 0 ∧ e.rd GSQ_SWREQ.DONE = d.rd GSQ_SWREQ.REQ ∧ e.srcBit ICU_PEND.addr 66 = true

theorem Dev.boundary_refl (d : Dev) (takes : Prop) (h : ¬ takes) : d.boundary d d.activeBank takes :=
  ⟨rfl, fun _ _ => rfl, rfl, rfl, .inl rfl, rfl, fun k => absurd k h⟩

theorem Dev.switched.boundary {d e : Dev} {b : Nat} (h : d.switched e b) (takes : Prop) : d.boundary e (some b) takes :=
  ⟨h.only, h.regs, h.gal, h.now, .inr h.evq, h.bank, fun _ => ⟨h.armed, h.done, h.pend⟩⟩

/-- The device at the boundary of a frame start: counted, with array time at 0. -/
def Dev.atBoundary (d : Dev) : Dev := frameTurned (frameCounted d)

/-- The registers of the count and of array time. -/
def boundaryRegs : List Nat := [GSQ_FCNTLO.addr, GSQ_FCNTHI.addr, GSQ_BCNT_NOW.addr]

theorem atBoundary_regs (d : Dev) : Dev.sameRegs boundaryRegs d d.atBoundary :=
  ((frameCounted_regs d).mono (by decide)).trans ((frameTurned_regs _).mono (by decide))

theorem atBoundary_onlyFrame (d : Dev) : d.onlyFrame d.atBoundary :=
  ((Dev.onlyFrame_framesDue d).trans (frameCounted_onlyRegs d).onlyFrame).trans (frameTurned_onlyFrame _)

theorem atBoundary_evq (d : Dev) : d.atBoundary.evq = d.evq := by
  rw [Dev.atBoundary, frameTurned_evq, frameCounted_onlyRegs]
  rfl

theorem atBoundary_lo (d : Dev) : d.atBoundary.rd GSQ_FCNTLO.FCNT = d.nextFrame := by
  rw [Dev.atBoundary, (frameTurned_regs _).rd _ (by decide), frameCounted_lo]
  rfl

theorem atBoundary_hi (d : Dev) : d.atBoundary.rd GSQ_FCNTHI.FCNT =
    (d.rd GSQ_FCNTHI.FCNT + if d.nextFrame = 0 then 1 else 0) % 2 ^ 32 := by
  rw [Dev.atBoundary, (frameTurned_regs _).rd _ (by decide), frameCounted_hi]
  rfl

theorem atBoundary_gal (d : Dev) : d.atBoundary.gal = d.gal.turned d.now (d.acts GSQ_FPER.CYCLES) := by
  rw [Dev.atBoundary, frameTurned_gal, (frameCounted_regs d).acts _ (by decide), frameCounted_onlyRegs]
  rfl

/-- An armed switch that is due takes effect, and no other (R334). -/
theorem frameSwitched_boundary (d : Dev) (bank : Option Nat) (hrun : d.gal.running = false) (hevq : d.evq.length < 240)
    (hbank : (d.takes ∧ bank = some (d.rd GSQ_SWCTL.TARGET)) ∨ (¬ d.takes ∧ bank = d.activeBank)) :
    d.atBoundary.boundary (frameSwitched d.gal d.atBoundary) bank d.takes := by
  have hregs := atBoundary_regs d
  have harmed : d.atBoundary.on GSQ_SWCTL.ARMED = d.on GSQ_SWCTL.ARMED := hregs.on _ (by decide)
  have hactive : d.atBoundary.activeBank = d.activeBank := hregs.activeBank (by decide)
  have hdue : (d.atBoundary.activeBank.isNone ∨ ((d.gal.running || d.gal.fend || d.gal.trapped) ∧
      atOrAfter (d.atBoundary.rd GSQ_FCNTLO.FCNT) (d.atBoundary.rd GSQ_SWAT.AT))) ↔
      (d.activeBank = none ∨ ((d.gal.fend = true ∨ d.gal.trapped = true) ∧
        atOrAfter d.nextFrame (d.rd GSQ_SWAT.AT) = true)) := by
    rw [hactive, atBoundary_lo, hregs.rd _ (by decide), hrun]
    simp
  rcases hbank with ⟨⟨hon, htakes⟩, rfl⟩ | ⟨hnot, rfl⟩
  · rw [frameSwitched, if_pos (hdue.2 htakes)]
    have hswitched := takeSwitch_switched d.atBoundary (by rw [harmed, Dev.on_iff, hon])
      (by rw [atBoundary_evq]; exact hevq)
    rw [hregs.rd _ (by decide)] at hswitched
    exact hswitched.boundary _
  · have hsame : frameSwitched d.gal d.atBoundary = d.atBoundary := by
      by_cases hon : d.rd GSQ_SWCTL.ARMED = 1
      · exact if_neg fun hk => hnot ⟨hon, hdue.1 hk⟩
      · unfold frameSwitched
        rw [takeSwitch_unarmed _ (by rw [harmed, Bool.eq_false_iff, ne_eq, Dev.on_iff]; exact hon), ite_self]
    rw [hsame, ← hactive]
    exact Dev.boundary_refl _ _ hnot

/-- What the start of a frame leaves behind, with the state of the Gallery that the repair may have changed. -/
structure Dev.frameBegun (d e : Dev) (bank : Option Nat) (takes : Prop) : Prop where
  lo : e.rd GSQ_FCNTLO.FCNT = d.nextFrame
  hi : e.rd GSQ_FCNTHI.FCNT = (d.rd GSQ_FCNTHI.FCNT + if d.nextFrame = 0 then 1 else 0) % 2 ^ 32
  bcnt : e.bcnt = 0
  active : e.activeBank = bank
  switch : takes → e.rd GSQ_SWCTL.ARMED = 0 ∧ e.rd GSQ_SWREQ.DONE = d.rd GSQ_SWREQ.REQ ∧ e.srcBit ICU_PEND.addr 66 = true
  gal : e.gal = programState { d.gal.turned d.now (d.acts GSQ_FPER.CYCLES) with
    map := d.gal.map2.getD d.gal.map, map2 := none } bank d.nextFrame (d.entryOf bank) (d.limitOf bank)

theorem frameStarted_begun (d e : Dev) (bank : Option Nat) (h : d.atBoundary.boundary e bank d.takes) :
    d.frameBegun (frameStarted e) bank d.takes := by
  have hregs := frameStarted_regs e
  have hall : Dev.sameRegs (boundaryRegs ++ switchRegs) d e :=
    ((atBoundary_regs d).mono (by decide)).trans (h.regs.mono (by decide))
  have hlo : e.rd GSQ_FCNTLO.FCNT = d.nextFrame := (h.regs.rd _ (by decide)).trans (atBoundary_lo d)
  have hrun : ∀ b, bank = some b → b < 2 := fun b hb => Dev.activeBank_lt (h.bank.trans hb)
  have hentry := hall.entryOf (by unfold imageKept; decide) bank hrun
  have hlimit := hall.limitOf (by unfold imageKept; decide) (by decide) (by decide) bank hrun
  refine ⟨?_, ?_, ?_, ?_, fun htakes => ?_, ?_⟩
  · rw [hregs.rd _ (by decide), hlo]
  · rw [hregs.rd _ (by decide), h.regs.rd _ (by decide), atBoundary_hi]
  · rw [hregs.bcnt (by decide), h.regs.bcnt (by decide)]
    exact frameTurned_bcnt _
  · rw [hregs.activeBank (by decide), h.bank]
  · obtain ⟨harmed, hdone, hpend⟩ := h.switch htakes
    rw [hregs.rd _ (by decide), hregs.rd _ (by decide), srcBit_of_ld 66 (hregs _ (by decide)), harmed, hdone, hpend,
      (atBoundary_regs d).rd _ (by decide)]
    exact ⟨rfl, rfl, rfl⟩
  · rw [frameStarted_gal, h.gal, atBoundary_gal, h.bank, hlo, hentry, hlimit]
    rfl

/-- A frame start with no repair armed. -/
theorem frameStart_boundary (d : Dev) (bank : Option Nat) (hready : d.frameReady) (hevq : d.evq.length < 240)
    (hrep : d.rd GSQ_REPCTL.ARMED = 0)
    (hbank : (d.takes ∧ bank = some (d.rd GSQ_SWCTL.TARGET)) ∨ (¬ d.takes ∧ bank = d.activeBank)) :
    ∃ e, frameStart d = frameStarted e ∧ d.atBoundary.boundary e bank d.takes := by
  have hboundary := frameSwitched_boundary d bank hready.running hevq hbank
  have harmed : d.atBoundary.on GSQ_REPCTL.ARMED = false :=
    Dev.on_false_of_zero _ _ (((atBoundary_regs d).rd _ (by decide)).trans hrep)
  have hnone : frameRepaired d.gal d.atBoundary = d.atBoundary := by rw [frameRepaired, if_neg (by simp [harmed])]
  have honly : d.onlyFrame (frameSwitched d.gal d.atBoundary) := (atBoundary_onlyFrame d).trans hboundary.only
  exact ⟨_, frameStart_chain d _ hready (congrArg (frameSwitched d.gal) hnone) (by rw [honly.wl]; exact hready.group),
    hboundary⟩

/-- The events of a cycle leave a frame's start as it is. -/
theorem Dev.frameBegun.posts {d e f : Dev} {bank : Option Nat} {takes : Prop} {vs q : List Ev} {gap : Bool}
    (h : d.frameBegun e bank takes) (hposts : Dev.posts { e with evq := q, evGap := gap } f vs) :
    d.frameBegun f bank takes where
  lo := (hposts.regs.rd _ (by decide)).trans h.lo
  hi := (hposts.regs.rd _ (by decide)).trans h.hi
  bcnt := (hposts.regs.bcnt (by decide)).trans h.bcnt
  active := (hposts.regs.activeBank (by decide)).trans h.active
  switch := fun htakes => by
    obtain ⟨harmed, hdone, hpend⟩ := h.switch htakes
    exact ⟨(hposts.regs.rd _ (by decide)).trans harmed, (hposts.regs.rd _ (by decide)).trans hdone,
      (srcBit_of_ld 66 (hposts.regs _ (by decide))).trans hpend⟩
  gal := hposts.gal.trans h.gal

theorem Dev.frameBegun.ofCycleBegin {d e : Dev} {bank : Option Nat}
    (h : d.cycleBegin.frameBegun e bank d.cycleBegin.takes) : d.frameBegun e bank d.takes :=
  ⟨h.lo, h.hi, h.bcnt, h.active, h.switch, h.gal⟩

theorem Dev.frameReady.cycleBegin {d : Dev} (h : d.frameReady) : d.cycleBegin.frameReady :=
  ⟨h.mode, h.doze, h.stall, h.running, h.cleared, h.xfers, h.nwl, h.complete, h.update, h.group, h.period, h.seamLat, h.anyLat⟩

theorem byBlock_nil : byBlock [] = [] := by simp [byBlock]

/-- The clause of a frame start with no repair armed (R281, R286, R334, R335, R342). -/
theorem frameStart_completes (s : State) (bank : Option Nat) (hfaults : s.dev.faults = []) (hevq : s.dev.evq.length < 200)
    (hdue : s.dev.wl.due = []) (hsvc : s.dev.wl.svcSlot = []) (hready : s.dev.frameReady)
    (hrep : s.dev.rd GSQ_REPCTL.ARMED = 0)
    (hbank : (s.dev.takes ∧ bank = some (s.dev.rd GSQ_SWCTL.TARGET)) ∨ (¬ s.dev.takes ∧ bank = s.dev.activeBank)) :
    Completes .frameStart s (fun t =>
      t.dev.mode = .run ∧ s.dev.sameBytes t.dev ∧ s.dev.frameBegun t.dev bank s.dev.takes) := by
  obtain ⟨e, hstart, hboundary⟩ := frameStart_boundary s.dev.cycleBegin bank hready.cycleBegin (Nat.zero_lt_succ _) hrep hbank
  have honly : s.dev.cycleBegin.onlyFrame (frameStart s.dev.cycleBegin) := by
    rw [hstart]
    exact ((atBoundary_onlyFrame _).trans hboundary.only).trans (frameStarted_onlyFrame e)
  have hevents : (byBlock (frameStart s.dev.cycleBegin).evq).length ≤ 1 := by
    rw [hstart, (frameStarted_frame e).1]
    have hevq := hboundary.evq
    rw [atBoundary_evq] at hevq
    rcases hevq with hnone | ⟨v, hone, hblock⟩
    · rw [hnone]
      exact (congrArg List.length byBlock_nil).le.trans (Nat.zero_le 1)
    · rw [hone]
      exact (congrArg List.length (byBlock_singleton v (by omega))).le
  have hposts := frameCycle_posts frameStart s.dev (honly.faults.trans hfaults) (by rw [honly.wl]; exact hdue)
    (by rw [honly.wl]; exact hsvc) (by omega)
  have hbegun : s.dev.cycleBegin.frameBegun (frameStart s.dev.cycleBegin) bank s.dev.cycleBegin.takes := by
    rw [hstart]
    exact frameStarted_begun _ e bank hboundary
  have hfinal : s.dev.onlyFrame (frameCycle frameStart s.dev) := by
    refine Dev.onlyFrame.trans ?_ hposts.onlyFrame
    rw [honly]
    rfl
  refine ⟨_, (exec_frameStart s).trans (fin_none _ _ (hfinal.faults.trans hfaults)), ?_, hfinal.sameBytes, ?_⟩
  · exact hfinal.mode.trans hready.mode
  · exact (hbegun.posts hposts).ofCycleBegin

end Sys2Proof.Machine
end


section
/-!
A frame start at which an armed repair takes effect (R348, R349, R350).
-/

namespace Sys2Proof.Machine

/-! Columns of planes. -/

/-- The plane of one logical column. -/
theorem getLsbD_colPlane (c k : Nat) (hk : k < 16384) :
    (colPlane (2 ^ c)).getLsbD k = decide (k % 128 = c) := by
  rw [colPlane, BitVec.getLsbD_setWidth, BitVec.getLsbD_replicate, BitVec.getLsbD_ofNat]
  simp only [hk, decide_true, Bool.true_and, Nat.mod_lt k (by decide : 0 < 128), Nat.testBit_two_pow]
  exact decide_eq_decide.2 eq_comm

/-- A cleared column reads 0 in every plane (R349). -/
theorem zeroCol_plane (g : Gal) (c i k : Nat) (hk : k < 16384) (h : k % 128 = c) :
    ((zeroCol g c).plane i).getLsbD k = false := by
  unfold Gal.plane tget
  split
  · next e he =>
    have hmem := List.mem_of_find?_eq_some he
    obtain ⟨x, -, rfl⟩ := List.mem_map.1 (List.mem_filter.1 hmem).1
    simp [BitVec.getLsbD_and, getLsbD_colPlane c k hk, h]
  · exact BitVec.getLsbD_zero

/-! The repair. -/

/-- The column map entry that a put changes. -/
theorem Dev.pcol_put (d : Dev) (c v : Nat) (hv : v < 256) : (d.put (GSQ_COLMAP.addr (c / 4))
    (setFld (d.ld (GSQ_COLMAP.addr (c / 4))) (8 * (c % 4) + 7) (8 * (c % 4)) v)).pcol c = v := by
  rw [Dev.pcol, Dev.put_ld, fld_setFld _ _ _ _ (by omega) (by omega), show 8 * (c % 4) + 7 + 1 - 8 * (c % 4) = 8 by omega]
  exact Nat.mod_eq_of_lt hv

theorem Dev.sameRegs.pcol {xs : List Nat} {d e : Dev} (h : Dev.sameRegs xs d e) (c : Nat)
    (hx : GSQ_COLMAP.addr (c / 4) ∉ xs) : e.pcol c = d.pcol c := by
  rw [Dev.pcol, h _ hx, Dev.pcol]

/-- The column map, and the service states of the two columns. -/
def colsMapped (d : Dev) (c sp : Nat) : Dev :=
  ((d.put (GSQ_COLMAP.addr (c / 4)) (setFld (d.ld (GSQ_COLMAP.addr (c / 4))) (8 * (c % 4) + 7) (8 * (c % 4)) sp)).setSvc
    (.col (d.pcol c)) .outOfService).setSvc (.col sp) .inService

/-- GSQ_REPSTAT of a repair that is done. -/
def repairNoted (d : Dev) (c sp : Nat) : Dev :=
  (((d.wr GSQ_REPCTL.ARMED 0).wr GSQ_REPSTAT.DONE 1).wr GSQ_REPSTAT.PCOL sp).wr GSQ_REPSTAT.LCOL c

/-- CLEARED of a repair that does not copy. -/
def clearNoted (d : Dev) (copy : Bool) : Dev := if copy then d else d.wr GSQ_REPSTAT.CLEARED 1

/-- The Gallery behind a repair. -/
def Gal.repaired (g : Gal) (c : Nat) (copy : Bool) : Gal :=
  { (if copy then g else zeroCol g c) with p := colPlane (2 ^ c), repReady := false }

/-- A repair copies the column where its cycles fit in the frame (R349). -/
def Dev.copies (d : Dev) : Bool :=
  d.on GSQ_REPCTL.COPY && decide (4160 + d.limitOf d.activeBank ≤ d.acts GSQ_FPER.CYCLES)

/-- The columns of a repair, in the map and in the Gallery. -/
def columnMoved (d : Dev) : Dev :=
  (colsMapped d (d.rd GSQ_REPCTL.LCOL) (128 + d.rd GSQ_REPCTL.SPARE)).setGal
    (fun g => g.repaired (d.rd GSQ_REPCTL.LCOL) d.copies)

/-- The device of a repair before its event. -/
def repairMade (d : Dev) : Dev :=
  (clearNoted (repairNoted (columnMoved d) (d.rd GSQ_REPCTL.LCOL) (128 + d.rd GSQ_REPCTL.SPARE)) d.copies).pulse 68

/-- REPAIR_COLUMN ends with the repair that waits for it (R140). -/
def repairAnswered (d : Dev) : Dev :=
  match d.wl.repSlot with
  | some n => { d with wl := { d.wl with
      repSlot := none, due := d.wl.due ++ [(n, 0, [b8 (Svc.inService).code, 0#8, 0#8, 0#8])] } }
  | none => d

/-- The event of a repair (R350). -/
def repairEvent (d : Dev) : Ev :=
  ⟨0, 0x0E, (Config.evCode .repair).toNat, false, true, 0, w32 (d.rd GSQ_REPCTL.LCOL),
    w32 (128 + d.rd GSQ_REPCTL.SPARE + 256 * bit (!d.copies))⟩

theorem applyRepair_eq (d : Dev) : applyRepair d = repairAnswered (evqAppend (repairMade d) (repairEvent d).block
    (repairEvent d).code (repairEvent d).crit (repairEvent d).d0 (repairEvent d).d1) := rfl

/-! What a repair leaves behind. -/

theorem colsMapped_regs (d : Dev) (c sp : Nat) : Dev.sameRegs [GSQ_COLMAP.addr (c / 4)] d (colsMapped d c sp) :=
  Dev.sameRegs_put d _ _ (List.mem_singleton_self _)

theorem colsMapped_pcol (d : Dev) (c sp : Nat) (h : sp < 256) : (colsMapped d c sp).pcol c = sp := d.pcol_put c sp h

theorem colsMapped_old (d : Dev) (c sp : Nat) (h : d.pcol c ≠ sp) :
    (colsMapped d c sp).svcOf (.col (d.pcol c)) = .outOfService := by
  refine (tget_tset_ne svcReset _ _ _ _ ?_).trans (tget_tset_same svcReset _ _ _)
  simpa only [UnitId.key, ne_eq, Nat.add_left_cancel_iff] using h

theorem colsMapped_new (d : Dev) (c sp : Nat) : (colsMapped d c sp).svcOf (.col sp) = .inService :=
  tget_tset_same svcReset _ _ _

theorem repairNoted_regs (d : Dev) (c sp : Nat) : Dev.sameRegs [GSQ_REPCTL.addr, GSQ_REPSTAT.addr] d (repairNoted d c sp) :=
  (((Dev.sameRegs_wr d GSQ_REPCTL.ARMED 0 (by decide)).trans (Dev.sameRegs_wr _ GSQ_REPSTAT.DONE 1 (by decide))).trans
    (Dev.sameRegs_wr _ GSQ_REPSTAT.PCOL sp (by decide))).trans (Dev.sameRegs_wr _ GSQ_REPSTAT.LCOL c (by decide))

theorem repairNoted_armed (d : Dev) (c sp : Nat) : (repairNoted d c sp).rd GSQ_REPCTL.ARMED = 0 := by
  rw [repairNoted, Dev.wr_rd_ne _ _ _ _ (by decide), Dev.wr_rd_ne _ _ _ _ (by decide), Dev.wr_rd_ne _ _ _ _ (by decide),
    Dev.wr_rd _ _ _ (by decide) (by decide)]
  rfl

theorem repairNoted_done (d : Dev) (c sp : Nat) : (repairNoted d c sp).rd GSQ_REPSTAT.DONE = 1 := by
  rw [repairNoted, Dev.wr_rd_above _ GSQ_REPSTAT.LCOL GSQ_REPSTAT.DONE c (by decide) (by decide) (by decide) rfl,
    Dev.wr_rd_above _ GSQ_REPSTAT.PCOL GSQ_REPSTAT.DONE sp (by decide) (by decide) (by decide) rfl,
    Dev.wr_rd _ _ _ (by decide) (by decide)]
  rfl

theorem repairNoted_pcol (d : Dev) (c sp : Nat) (h : sp < 256) : (repairNoted d c sp).rd GSQ_REPSTAT.PCOL = sp := by
  rw [repairNoted, Dev.wr_rd_above _ GSQ_REPSTAT.LCOL GSQ_REPSTAT.PCOL c (by decide) (by decide) (by decide) rfl,
    Dev.wr_rd _ _ _ (by decide) (by decide)]
  exact Nat.mod_eq_of_lt h

theorem repairNoted_lcol (d : Dev) (c sp : Nat) (h : c < 128) : (repairNoted d c sp).rd GSQ_REPSTAT.LCOL = c := by
  rw [repairNoted, Dev.wr_rd _ _ _ (by decide) (by decide)]
  exact Nat.mod_eq_of_lt h

theorem clearNoted_regs (d : Dev) (copy : Bool) : Dev.sameRegs [GSQ_REPSTAT.addr] d (clearNoted d copy) := by
  unfold clearNoted
  split
  · exact fun _ _ => rfl
  · exact Dev.sameRegs_wr _ GSQ_REPSTAT.CLEARED 1 (by decide)

theorem clearNoted_cleared (d : Dev) : (clearNoted d false).rd GSQ_REPSTAT.CLEARED = 1 :=
  Dev.wr_rd _ _ _ (by decide) (by decide)

/-- CLEARED stands above the columns and below DONE. -/
theorem clearNoted_rd (d : Dev) (copy : Bool) : (clearNoted d copy).rd GSQ_REPSTAT.DONE = d.rd GSQ_REPSTAT.DONE ∧
    (clearNoted d copy).rd GSQ_REPSTAT.PCOL = d.rd GSQ_REPSTAT.PCOL ∧
    (clearNoted d copy).rd GSQ_REPSTAT.LCOL = d.rd GSQ_REPSTAT.LCOL := by
  unfold clearNoted
  split
  · exact ⟨rfl, rfl, rfl⟩
  · exact ⟨Dev.wr_rd_above _ _ _ _ (by decide) (by decide) (by decide) rfl,
      Dev.wr_rd_below _ _ _ _ (by decide) (by decide) (by decide) (by decide) rfl,
      Dev.wr_rd_below _ _ _ _ (by decide) (by decide) (by decide) (by decide) rfl⟩

/-- A repair of logical column `c` by the physical column `sp`, as registers and service states show it. -/
structure Dev.repairShown (d e : Dev) (c sp : Nat) (copy : Bool) : Prop where
  armed : e.rd GSQ_REPCTL.ARMED = 0
  map : e.pcol c = sp
  old : e.svcOf (.col (d.pcol c)) = .outOfService
  spare : e.svcOf (.col sp) = .inService
  done : e.rd GSQ_REPSTAT.DONE = 1
  lcol : e.rd GSQ_REPSTAT.LCOL = c
  pcol : e.rd GSQ_REPSTAT.PCOL = sp
  cleared : copy = false → e.rd GSQ_REPSTAT.CLEARED = 1
  pend : e.srcBit ICU_PEND.addr 68 = true

/-- What does not write a register of the repair keeps what it shows. -/
theorem Dev.repairShown.mono {d e f : Dev} {c sp : Nat} {copy : Bool} {xs : List Nat} (h : d.repairShown e c sp copy)
    (hregs : Dev.sameRegs xs e f) (hsvc : f.svc = e.svc) (hctl : GSQ_REPCTL.addr ∉ xs) (hstat : GSQ_REPSTAT.addr ∉ xs)
    (hpend : f.srcBit ICU_PEND.addr 68 = e.srcBit ICU_PEND.addr 68) (hmap : GSQ_COLMAP.addr (c / 4) ∉ xs) :
    d.repairShown f c sp copy where
  armed := (hregs.rd _ hctl).trans h.armed
  map := (hregs.pcol c hmap).trans h.map
  old := by rw [Dev.svcOf, hsvc]; exact h.old
  spare := by rw [Dev.svcOf, hsvc]; exact h.spare
  done := (hregs.rd _ hstat).trans h.done
  lcol := (hregs.rd _ hstat).trans h.lcol
  pcol := (hregs.rd _ hstat).trans h.pcol
  cleared := fun hcopy => (hregs.rd _ hstat).trans (h.cleared hcopy)
  pend := hpend.trans h.pend

/-- The column map lies behind the registers of a frame start. -/
theorem colmap_not_mem {xs : List Nat} (h : ∀ a ∈ xs, a < GSQ_COLMAP.addr 0 ∨ GSQ_COLMAP.addr 32 ≤ a) (c : Nat)
    (hc : c < 128) :
    GSQ_COLMAP.addr (c / 4) ∉ xs := by
  intro hmem
  have := h _ hmem
  simp only [GSQ_COLMAP.addr] at this
  omega

theorem repairNoted_onlyRegs (d : Dev) (c sp : Nat) : d.onlyRegs (repairNoted d c sp) :=
  (((Dev.onlyRegs_wr d _ _).trans (Dev.onlyRegs_wr _ _ _)).trans (Dev.onlyRegs_wr _ _ _)).trans (Dev.onlyRegs_wr _ _ _)

theorem clearNoted_onlyRegs (d : Dev) (copy : Bool) : d.onlyRegs (clearNoted d copy) := by
  unfold clearNoted
  split
  · rfl
  · exact Dev.onlyRegs_wr _ _ _

theorem repairMade_onlyRegs (d : Dev) : (columnMoved d).onlyRegs (repairMade d) :=
  ((repairNoted_onlyRegs _ _ _).trans (clearNoted_onlyRegs _ _)).trans (Dev.onlyRegs_pulse _ 68)

theorem repairMade_onlyFrame (d : Dev) : d.onlyFrame (repairMade d) :=
  Dev.onlyFrame.trans (d := d) (e := columnMoved d) rfl (repairMade_onlyRegs d).onlyFrame

theorem repairMade_regs (d : Dev) :
    Dev.sameRegs [GSQ_REPCTL.addr, GSQ_REPSTAT.addr, ICU_PEND.addr 2] (columnMoved d) (repairMade d) :=
  (((repairNoted_regs _ _ _).mono (by decide)).trans ((clearNoted_regs _ _).mono (by decide))).trans
    (Dev.sameRegs_pulse _ 68 (by decide))

theorem repairMade_gal (d : Dev) : (repairMade d).gal = d.gal.repaired (d.rd GSQ_REPCTL.LCOL) d.copies := by
  rw [repairMade_onlyRegs]
  rfl

theorem repairMade_shown (d : Dev) (h : d.pcol (d.rd GSQ_REPCTL.LCOL) ≠ 128 + d.rd GSQ_REPCTL.SPARE) :
    d.repairShown (repairMade d) (d.rd GSQ_REPCTL.LCOL) (128 + d.rd GSQ_REPCTL.SPARE) d.copies := by
  have hc : d.rd GSQ_REPCTL.LCOL < 128 := d.rd_lt GSQ_REPCTL.LCOL
  have hsp : 128 + d.rd GSQ_REPCTL.SPARE < 256 := by
    have := d.rd_lt GSQ_REPCTL.SPARE
    simp only [GSQ_REPCTL.SPARE] at this ⊢
    omega
  have hpulse (e : Dev) : Dev.sameRegs [ICU_PEND.addr 2] e (e.pulse 68) := Dev.sameRegs_pulse e 68 (by decide)
  have hsvc : (repairMade d).svc = (colsMapped d (d.rd GSQ_REPCTL.LCOL) (128 + d.rd GSQ_REPCTL.SPARE)).svc := by
    rw [repairMade_onlyRegs]
    rfl
  obtain ⟨hdone, hpcol, hlcol⟩ := clearNoted_rd (repairNoted (columnMoved d) (d.rd GSQ_REPCTL.LCOL)
    (128 + d.rd GSQ_REPCTL.SPARE)) d.copies
  refine ⟨?_, ?_, ?_, ?_, ?_, ?_, ?_, fun hcopy => ?_, srcBit_pulse _ 68 (by decide)⟩
  · rw [repairMade, (hpulse _).rd _ (by decide), (clearNoted_regs _ _).rd _ (by decide), repairNoted_armed]
  · rw [(repairMade_regs d).pcol _ (colmap_not_mem (by decide) _ hc)]
    exact colsMapped_pcol d _ _ hsp
  · rw [Dev.svcOf, hsvc]
    exact colsMapped_old d _ _ h
  · rw [Dev.svcOf, hsvc]
    exact colsMapped_new d _ _
  · rw [repairMade, (hpulse _).rd _ (by decide), hdone, repairNoted_done]
  · rw [repairMade, (hpulse _).rd _ (by decide), hlcol, repairNoted_lcol _ _ _ hc]
  · rw [repairMade, (hpulse _).rd _ (by decide), hpcol, repairNoted_pcol _ _ _ hsp]
  · rw [repairMade, (hpulse _).rd _ (by decide), hcopy, clearNoted_cleared]

/-! The clause. -/

/-- A repair that no command waits for: the repair, and its event. -/
theorem applyRepair_posts (d : Dev) (h : d.wl.repSlot = none) (hevq : d.evq.length < 240) :
    (repairMade d).posts (applyRepair d) [repairEvent d] := by
  have hposts := evqAppend_posts (repairMade d) (repairEvent d) (by rw [repairMade_onlyRegs]; exact hevq)
  have hslot : (evqAppend (repairMade d) (repairEvent d).block (repairEvent d).code (repairEvent d).crit (repairEvent d).d0
      (repairEvent d).d1).wl.repSlot = none := by
    rw [(hposts.onlyFrame).wl, (repairMade_onlyFrame d).wl, h]
  rw [applyRepair_eq, repairAnswered, hslot]
  exact hposts

end Sys2Proof.Machine
end


section
/-!
The clause of a frame start at which an armed repair takes effect (R348, R349, R350).
-/

namespace Sys2Proof.Machine

/-- Whether a repair copies depends on registers that the boundary keeps. -/
theorem Dev.sameRegs.copies {xs : List Nat} {d e : Dev} (h : Dev.sameRegs xs d e) (hx : imageKept xs)
    (hctl : GSQ_REPCTL.addr ∉ xs) (hbank : GSQ_BANK.addr ∉ xs) (hper : GSQ_FPER.addr ∉ xs) (hs : GSQ_SEAMLAT.addr ∉ xs)
    (ha : GSQ_ANYLAT.addr ∉ xs) : e.copies = d.copies := by
  rw [Dev.copies, h.on _ hctl, h.activeBank hbank, h.acts _ hper, h.limitOf hx hs ha _ fun _ => Dev.activeBank_lt, Dev.copies]

theorem columnMoved_regs (d : Dev) : Dev.sameRegs [GSQ_COLMAP.addr (d.rd GSQ_REPCTL.LCOL / 4)] d (columnMoved d) :=
  (colsMapped_regs d _ _).trans (Dev.sameRegs_setGal _ _ _)

/-- The frame start of an armed repair: the repair at the boundary, no switch, and the start. -/
theorem frameStart_repair_chain (d : Dev) (hready : d.frameReady) (hevq : d.evq.length < 240)
    (hrep : d.rd GSQ_REPCTL.ARMED = 1) (hswitch : d.rd GSQ_SWCTL.ARMED = 0) (hfresh : d.gal.fresh = false)
    (hended : d.gal.repReady = true ∨ (d.gal.fend = false ∧ d.gal.trapped = false)) (hslot : d.wl.repSlot = none) :
    frameStart d = frameStarted (applyRepair d.atBoundary) := by
  have hregs := atBoundary_regs d
  have hposts := applyRepair_posts d.atBoundary (by rw [(atBoundary_onlyFrame d).wl]; exact hslot)
    (by rw [atBoundary_evq]; exact hevq)
  have hrepair : frameRepaired d.gal d.atBoundary = applyRepair d.atBoundary := by
    refine if_pos ⟨?_, ?_, ?_, ?_⟩
    · rw [hregs.on _ (by decide), Dev.on_iff, hrep]
    · simp [hready.running]
    · rcases hended with hr | ⟨hfend, htrapped⟩
      · exact .inl hr
      · exact .inr (by simp [hready.running, hfend, htrapped])
    · simp [hfresh]
  have hcolmap : GSQ_SWCTL.ARMED.addr ∉ [GSQ_COLMAP.addr (d.atBoundary.rd GSQ_REPCTL.LCOL / 4)] := by
    simp only [GSQ_SWCTL.ARMED, GSQ_SWCTL.addr, GSQ_COLMAP.addr, List.mem_singleton]
    omega
  have hunarmed : (applyRepair d.atBoundary).on GSQ_SWCTL.ARMED = false := by
    refine Dev.on_false_of_zero _ _ ?_
    rw [hposts.regs.rd _ (by decide), (repairMade_regs _).rd _ (by decide)]
    rw [(columnMoved_regs _).rd _ hcolmap, hregs.rd _ (by decide), hswitch]
  have hsame : frameSwitched d.gal (applyRepair d.atBoundary) = applyRepair d.atBoundary := by
    unfold frameSwitched
    rw [takeSwitch_unarmed _ hunarmed, ite_self]
  refine frameStart_chain d _ hready ((congrArg (frameSwitched d.gal) hrepair).trans hsame) ?_
  rw [hposts.onlyFrame.wl, (repairMade_onlyFrame _).wl, (atBoundary_onlyFrame d).wl]
  exact hready.group

/-- A frame start keeps the planes and P of the Gallery. -/
theorem frameStarted_planes (d : Dev) : (frameStarted d).gal.mem = d.gal.mem ∧ (frameStarted d).gal.p = d.gal.p := by
  rw [frameStarted_gal]
  exact ⟨rfl, rfl⟩

theorem Gal.turned_repaired (g : Gal) (now period c : Nat) (copy : Bool) :
    ((g.turned now period).repaired c copy).mem = (g.repaired c copy).mem := by
  cases copy <;> rfl

/-- A list of events with the content of one event is one event. -/
theorem exists_of_map_content {us : List Ev} {v : Ev} (h : us.map Ev.content = [v].map Ev.content) :
    ∃ u, us = [u] ∧ u.content = v.content := by
  obtain ⟨u, rfl⟩ : ∃ u, us = [u] := by
    rw [← List.length_eq_one_iff, ← List.length_map Ev.content, h]; rfl
  exact ⟨u, rfl, (List.cons.inj h).1⟩

theorem Dev.repairShown.of_pcol {d b e : Dev} {c sp : Nat} {copy : Bool} (h : b.repairShown e c sp copy)
    (hp : b.pcol c = d.pcol c) : d.repairShown e c sp copy :=
  ⟨h.armed, h.map, hp ▸ h.old, h.spare, h.done, h.lcol, h.pcol, h.cleared, h.pend⟩

/-- The started frame of a repair shows the repair, with its event as the only one of the cycle. -/
theorem frameStarted_repair (b : Dev) (hevq : b.evq = []) (hslot : b.wl.repSlot = none)
    (hpcol : b.pcol (b.rd GSQ_REPCTL.LCOL) ≠ 128 + b.rd GSQ_REPCTL.SPARE) :
    b.onlyFrame (frameStarted (applyRepair b)) ∧
    b.repairShown (frameStarted (applyRepair b)) (b.rd GSQ_REPCTL.LCOL) (128 + b.rd GSQ_REPCTL.SPARE) b.copies ∧
    (∃ u, (frameStarted (applyRepair b)).evq = [u] ∧ u.content = (repairEvent b).content) ∧
    (frameStarted (applyRepair b)).gal.mem = (b.gal.repaired (b.rd GSQ_REPCTL.LCOL) b.copies).mem ∧
    (frameStarted (applyRepair b)).gal.p = colPlane (2 ^ b.rd GSQ_REPCTL.LCOL) := by
  have hc : b.rd GSQ_REPCTL.LCOL < 128 := b.rd_lt GSQ_REPCTL.LCOL
  have hposts := applyRepair_posts b hslot (by rw [hevq]; exact Nat.zero_lt_succ _)
  have hstart := frameStarted_regs (applyRepair b)
  obtain ⟨kevq, -, ksvc⟩ := frameStarted_frame (applyRepair b)
  obtain ⟨kmem, kp⟩ := frameStarted_planes (applyRepair b)
  have hshown := (repairMade_shown b hpcol).mono hposts.regs hposts.svc (by decide) (by decide)
    (srcBit_of_ld 68 (hposts.regs _ (by decide))) (colmap_not_mem (by decide) _ hc)
  refine ⟨((repairMade_onlyFrame b).trans hposts.onlyFrame).trans (frameStarted_onlyFrame _), ?_, ?_, ?_, ?_⟩
  · exact hshown.mono hstart ksvc (by decide) (by decide) (srcBit_of_ld 68 (hstart _ (by decide)))
      (colmap_not_mem (by decide) _ hc)
  · obtain ⟨us, hus, hcontent⟩ := hposts.evq
    obtain ⟨u, rfl, hu⟩ := exists_of_map_content hcontent
    have hmade : (repairMade b).evq = b.evq := by rw [repairMade_onlyRegs]; rfl
    exact ⟨u, by rw [kevq, hus, hmade, hevq]; rfl, hu⟩
  · rw [kmem, hposts.gal, repairMade_gal]
  · rw [kp, hposts.gal, repairMade_gal]
    rfl

/-- The clause of a frame start with an armed repair. -/
theorem frameStart_repairs (s : State) (hfaults : s.dev.faults = []) (hevq : s.dev.evq.length < 200)
    (hdue : s.dev.wl.due = []) (hsvc : s.dev.wl.svcSlot = []) (hready : s.dev.frameReady)
    (hrep : s.dev.rd GSQ_REPCTL.ARMED = 1) (hswitch : s.dev.rd GSQ_SWCTL.ARMED = 0) (hfresh : s.dev.gal.fresh = false)
    (hended : s.dev.gal.repReady = true ∨ (s.dev.gal.fend = false ∧ s.dev.gal.trapped = false))
    (hpcol : s.dev.pcol (s.dev.rd GSQ_REPCTL.LCOL) ≠ 128 + s.dev.rd GSQ_REPCTL.SPARE) (hslot : s.dev.wl.repSlot = none) :
    Completes .frameStart s (fun t =>
      s.dev.repairShown t.dev (s.dev.rd GSQ_REPCTL.LCOL) (128 + s.dev.rd GSQ_REPCTL.SPARE) s.dev.copies ∧
      (∃ v, t.dev.evq = s.dev.evq ++ [v] ∧ v.content = (repairEvent s.dev).content) ∧
      t.dev.gal.p = colPlane (2 ^ s.dev.rd GSQ_REPCTL.LCOL) ∧
      t.dev.gal.mem = (s.dev.gal.repaired (s.dev.rd GSQ_REPCTL.LCOL) s.dev.copies).mem) := by
  have hc : s.dev.rd GSQ_REPCTL.LCOL < 128 := s.dev.rd_lt GSQ_REPCTL.LCOL
  have hchain := frameStart_repair_chain s.dev.cycleBegin hready.cycleBegin (Nat.zero_lt_succ _) hrep hswitch hfresh
    hended hslot
  have hregs : Dev.sameRegs boundaryRegs s.dev s.dev.cycleBegin.atBoundary := atBoundary_regs s.dev.cycleBegin
  have honly := atBoundary_onlyFrame s.dev.cycleBegin
  have hevqB : s.dev.cycleBegin.atBoundary.evq = [] := atBoundary_evq _
  have hgal : s.dev.cycleBegin.atBoundary.gal = s.dev.gal.turned s.dev.now (s.dev.acts GSQ_FPER.CYCLES) := atBoundary_gal _
  generalize s.dev.cycleBegin.atBoundary = b at *
  have hlcol : b.rd GSQ_REPCTL.LCOL = s.dev.rd GSQ_REPCTL.LCOL := hregs.rd _ (by decide)
  have hspare : b.rd GSQ_REPCTL.SPARE = s.dev.rd GSQ_REPCTL.SPARE := hregs.rd _ (by decide)
  have hmap : b.pcol (s.dev.rd GSQ_REPCTL.LCOL) = s.dev.pcol (s.dev.rd GSQ_REPCTL.LCOL) :=
    hregs.pcol _ (colmap_not_mem (by decide) _ hc)
  have hcopies : b.copies = s.dev.copies :=
    hregs.copies (by unfold imageKept; decide) (by decide) (by decide) (by decide) (by decide) (by decide)
  have hevent : repairEvent b = repairEvent s.dev := by rw [repairEvent, hlcol, hspare, hcopies, repairEvent]
  obtain ⟨konly, kshown, ⟨u, kevq, ku⟩, kmem, kp⟩ := frameStarted_repair b hevqB
    (by rw [honly.wl]; exact hslot) (by rw [hlcol, hspare, hmap]; exact hpcol)
  rw [hlcol, hspare, hcopies] at kshown
  rw [hlcol, hcopies, hgal, Gal.turned_repaired] at kmem
  rw [hlcol] at kp
  rw [hevent] at ku
  rw [← hchain] at konly kshown kevq kmem kp
  have hblock : u.block = 0x0E := congrArg Prod.fst ku
  have hbyBlock : byBlock (frameStart s.dev.cycleBegin).evq = [u] := by
    rw [kevq, byBlock_singleton u (by omega)]
  have hall : s.dev.cycleBegin.onlyFrame (frameStart s.dev.cycleBegin) := honly.trans konly
  have hposts := frameCycle_posts frameStart s.dev (hall.faults.trans hfaults) (by rw [hall.wl]; exact hdue)
    (by rw [hall.wl]; exact hsvc) (by rw [hbyBlock, List.length_singleton]; omega)
  rw [hbyBlock] at hposts
  have hfinal : s.dev.onlyFrame (frameCycle frameStart s.dev) := by
    refine Dev.onlyFrame.trans ?_ hposts.onlyFrame
    rw [hall]
    rfl
  refine ⟨_, (exec_frameStart s).trans (fin_none _ _ (hfinal.faults.trans hfaults)), ?_, ?_, ?_, ?_⟩
  · exact (kshown.of_pcol hmap).mono hposts.regs hposts.svc (by decide) (by decide)
      (srcBit_of_ld 68 (hposts.regs _ (by decide))) (colmap_not_mem (by decide) _ hc)
  · obtain ⟨us, hus, hcontent⟩ := hposts.evq
    obtain ⟨v, rfl, hv⟩ := exists_of_map_content hcontent
    exact ⟨v, hus, hv.trans ku⟩
  · exact (congrArg Gal.p hposts.gal).trans kp
  · exact (congrArg Gal.mem hposts.gal).trans kmem

end Sys2Proof.Machine
end


section
/-!
Planes: what a field of bay memory reads behind a write, and which bit of its source a shift gives a bay (R276, R277).
-/

namespace Sys2Proof.Machine

/-! Fields of bay memory. -/

/-- A field written reads as written, and no other plane changes. -/
theorem plane_putField (g : Gal) (i j : Nat) (vals : List Plane) :
    (putField g i vals).plane j = if i ≤ j ∧ j < i + vals.length then nth p0 vals (j - i) else g.plane j := by
  induction vals using List.reverseRecOn with
  | nil => rw [if_neg (by simp)]; rfl
  | append_singleton vs v ih =>
    have hstep : (putField g i (vs ++ [v])).mem = tset (fun _ => p0) (putField g i vs).mem (i + vs.length) v := by
      simp only [putField, List.length_append, List.length_singleton, List.range_succ,
        List.zip_append (List.length_range (n := vs.length)), List.foldl_append, List.zip_cons_cons, List.zip_nil_right,
        List.foldl_cons, List.foldl_nil]
    have hlen : (vs ++ [v]).length = vs.length + 1 := by simp
    rw [Gal.plane, hstep, hlen]
    by_cases hj : j = i + vs.length
    · rw [hj, tget_tset_same, if_pos (by omega), nth, Nat.add_sub_cancel_left, List.getElem?_concat_length]
      rfl
    · rw [tget_tset_ne _ _ _ _ _ hj]
      refine ih.trans ?_
      by_cases hin : i ≤ j ∧ j < i + vs.length
      · rw [if_pos hin, if_pos (by omega), nth, nth, List.getElem?_append_left (by omega)]
      · rw [if_neg hin, if_neg (by omega)]

theorem getLsbD_pSel (m a b : Plane) (k : Nat) (hk : k < 16384) :
    (pSel m a b).getLsbD k = if m.getLsbD k then a.getLsbD k else b.getLsbD k := by
  rw [pSel, BitVec.getLsbD_or, BitVec.getLsbD_and, BitVec.getLsbD_and, BitVec.getLsbD_not]
  cases m.getLsbD k <;> simp [hk]

/-- A field written in the active bays. -/
theorem plane_put_mem (g : Gal) (i j : Nat) (act : Plane) (vals : List Plane) :
    (g.put (.mem i) act vals).plane j =
      if i ≤ j ∧ j < i + vals.length then pSel act (nth p0 vals (j - i)) (g.plane j) else g.plane j := by
  rw [Gal.put, plane_putField]
  simp only [List.length_map, List.length_zip, List.length_range, Nat.min_self]
  split
  · next h =>
    have hlt : j - i < vals.length := by omega
    simp [nth, hlt, Nat.add_sub_cancel' h.1]
  · rfl

/-- The number that a field holds in a bay, bit by bit. -/
theorem bayVal_map (f : Nat → Plane) (w k : Nat) :
    bayVal ((List.range w).map f) k = (List.range w).foldr (fun j v => bit ((f j).getLsbD k) + 2 * v) 0 := List.foldr_map

theorem bayVal_eq (vals : List Plane) (k : Nat) :
    bayVal vals k = (List.range vals.length).foldr (fun j v => bit ((nth p0 vals j).getLsbD k) + 2 * v) 0 := by
  rw [← bayVal_map]
  congr 1
  refine List.ext_getElem (by simp) fun n h1 h2 => ?_
  simp [nth, h1]

/-- Two numbers with the same bits. -/
theorem foldr_bits_congr (w : Nat) (f g : Nat → Bool) (h : ∀ j, j < w → f j = g j) :
    (List.range w).foldr (fun j v => bit (f j) + 2 * v) 0 = (List.range w).foldr (fun j v => bit (g j) + 2 * v) 0 :=
  List.foldr_ext _ _ _ fun j hj v => by rw [h j (List.mem_range.1 hj)]

/-! Rows and columns. -/

theorem getLsbD_colsBelow (d k : Nat) (hk : k < 16384) :
    (colsBelow d).getLsbD k = decide (k % 128 < d) := by
  rw [colsBelow, colPlane, BitVec.getLsbD_setWidth, BitVec.getLsbD_replicate, BitVec.getLsbD_ofNat]
  simp only [hk, decide_true, Bool.true_and, Nat.mod_lt k (by decide : 0 < 128), Nat.testBit_two_pow_sub_one]

theorem getLsbD_rowsBelow (d k : Nat) (hk : k < 16384) : (rowsBelow d).getLsbD k = decide (k < 128 * d) := by
  rw [rowsBelow, BitVec.getLsbD_ofNat, Nat.testBit_two_pow_sub_one]
  simp [hk]

/-- The bays that a shift leaves without a source. -/
theorem getLsbD_vacant (dr d k : Nat) (hdr : dr < 4) (hd : d ≤ 128) (hk : k < 16384) :
    (vacant dr d).getLsbD k = (shiftSource dr d k false).isNone := by
  match dr, hdr with
  | 0, _ =>
    simp only [vacant, shiftSource, BitVec.getLsbD_not, getLsbD_rowsBelow _ _ hk, hk, Bool.false_or, decide_eq_true_eq]
    split <;> simp <;> omega
  | 1, _ =>
    simp only [vacant, shiftSource, getLsbD_colsBelow _ _ hk, Bool.false_or, decide_eq_true_eq]
    split <;> simp <;> omega
  | 2, _ =>
    simp only [vacant, shiftSource, getLsbD_rowsBelow _ _ hk, Bool.false_or, decide_eq_true_eq]
    split <;> simp <;> omega
  | 3, _ =>
    simp only [vacant, shiftSource, BitVec.getLsbD_not, getLsbD_colsBelow _ _ hk, hk, Bool.false_or,
      decide_eq_true_eq]
    split <;> simp <;> omega

/-- A plane moved: each bay takes the bit of its source in the device. -/
theorem getLsbD_moved (dr d k : Nat) (x : Plane) (hdr : dr < 4) (hd : d ≤ 128) (hk : k < 16384) :
    (moved dr d x).getLsbD k = (shiftSource dr d k false).elim false x.getLsbD := by
  match dr, hdr with
  | 0, _ =>
    simp only [moved, shiftSource, BitVec.getLsbD_ushiftRight, Bool.false_or, decide_eq_true_eq]
    split_ifs with h
    · exact congrArg x.getLsbD (by omega)
    · exact BitVec.getLsbD_of_ge _ _ (by omega)
  | 1, _ =>
    simp only [moved, shiftSource, BitVec.getLsbD_and, BitVec.getLsbD_shiftLeft, BitVec.getLsbD_not,
      getLsbD_colsBelow _ _ hk, hk, Bool.false_or, decide_eq_true_eq]
    split_ifs with h
    · have hm : 128 * (k / 128) + (k % 128 + 128 - d) % 128 = k - d := by omega
      simp [hm, show ¬ k < d by omega, show d ≤ k % 128 by omega]
    · simp [show k % 128 < d by omega]
  | 2, _ =>
    simp only [moved, shiftSource, BitVec.getLsbD_shiftLeft, hk, Bool.false_or, decide_eq_true_eq]
    split_ifs with h
    · have hm : 128 * ((k / 128 + 128 - d) % 128) + k % 128 = k - 128 * d := by omega
      simp [hm, show ¬ k < 128 * d by omega]
    · simp [show k < 128 * d by omega]
  | 3, _ =>
    simp only [moved, shiftSource, BitVec.getLsbD_and, BitVec.getLsbD_ushiftRight,
      getLsbD_colsBelow _ _ hk, Bool.false_or, decide_eq_true_eq]
    split_ifs with h
    · have hm : 128 * (k / 128) + (k % 128 + d) % 128 = d + k := by omega
      simp only [Option.elim_some, hm, show k % 128 < 128 - d by omega, decide_true, Bool.and_true]
    · simp [show ¬ k % 128 < 128 - d by omega]

/-- The bits that come in again at the opposite edge: the bays without a source in the device. -/
theorem getLsbD_wrapped (dr d k : Nat) (x : Plane) (hdr : dr < 4) (hd1 : 1 ≤ d) (hd : d ≤ 128) (hk : k < 16384) :
    (wrapped dr d x).getLsbD k =
      ((shiftSource dr d k false).isNone && (shiftSource dr d k true).elim false x.getLsbD) := by
  match dr, hdr with
  | 0, _ =>
    simp only [wrapped, shiftSource, BitVec.getLsbD_shiftLeft, hk, Bool.false_or, decide_eq_true_eq, Bool.true_or, if_true]
    split_ifs with h
    · simp [show k < 128 * (128 - d) by omega]
    · have hm : 128 * ((k / 128 + d) % 128) + k % 128 = k - 128 * (128 - d) := by omega
      simp only [Option.elim_some, Option.isNone_none, hm, show ¬ k < 128 * (128 - d) by omega, decide_true,
        decide_false, Bool.not_false, Bool.true_and]
  | 1, _ =>
    simp only [wrapped, shiftSource, BitVec.getLsbD_and, BitVec.getLsbD_ushiftRight, getLsbD_colsBelow _ _ hk,
      Bool.false_or, decide_eq_true_eq, Bool.true_or, if_true]
    split_ifs with h
    · simp [show ¬ k % 128 < d by omega]
    · have hm : 128 * (k / 128) + (k % 128 + 128 - d) % 128 = 128 - d + k := by omega
      simp only [Option.elim_some, Option.isNone_none, hm, show k % 128 < d by omega, decide_true, Bool.and_true,
        Bool.true_and]
  | 2, _ =>
    simp only [wrapped, shiftSource, BitVec.getLsbD_ushiftRight, Bool.false_or, decide_eq_true_eq, Bool.true_or, if_true]
    split_ifs with h
    · exact BitVec.getLsbD_of_ge _ _ (by omega)
    · exact (congrArg x.getLsbD (by omega)).trans (Bool.true_and _).symm
  | 3, _ =>
    simp only [wrapped, shiftSource, BitVec.getLsbD_and, BitVec.getLsbD_shiftLeft, BitVec.getLsbD_not,
      getLsbD_colsBelow _ _ hk, hk, Bool.false_or, decide_eq_true_eq, Bool.true_or, if_true]
    split_ifs with h
    · simp [show k % 128 < 128 - d by omega]
    · have hm : 128 * (k / 128) + (k % 128 + d) % 128 = k - (128 - d) := by omega
      simp only [Option.elim_some, Option.isNone_none, hm, show ¬ k < 128 - d by omega, show ¬ k % 128 < 128 - d by omega,
        decide_true, decide_false, Bool.not_false, Bool.true_and, Bool.and_true]

/-- A source inside the device is a source of the wrapped shift too. -/
theorem shiftSource_inside {dr d k m : Nat} (h : shiftSource dr d k false = some m) : shiftSource dr d k true = some m := by
  unfold shiftSource at h ⊢
  dsimp only at h ⊢
  split at h <;> simp only [Bool.false_or, Bool.true_or, if_true, Option.ite_none_right_eq_some] at h ⊢ <;> exact h.2

/-- A bay takes the bit of its source, inside the device or round it. -/
theorem getLsbD_shiftPlane_wrap (dr d k : Nat) (x : Plane) (hdr : dr < 4) (hd1 : 1 ≤ d) (hd : d ≤ 128) (hk : k < 16384) :
    (shiftPlane 2 dr d x).getLsbD k = (shiftSource dr d k true).elim false x.getLsbD := by
  rw [shiftPlane, BitVec.getLsbD_or, getLsbD_moved dr d k x hdr hd hk, getLsbD_wrapped dr d k x hdr hd1 hd hk]
  cases h : shiftSource dr d k false with
  | some m => rw [shiftSource_inside h, Option.isNone_some, Bool.false_and, Bool.or_false, Option.elim_some]
  | none => rw [Option.elim_none, Option.isNone_none, Bool.true_and, Bool.false_or]

/-! The bits of a seam. -/

/-- A fold that gathers planes. -/
theorem getLsbD_foldl_or {γ : Type} (f : γ → Plane) (k : Nat) : ∀ (l : List γ) (p : Plane),
    (l.foldl (fun p x => p ||| f x) p).getLsbD k = (p.getLsbD k || l.any (fun x => (f x).getLsbD k))
  | [], p => by simp
  | x :: r, p => by
    rw [List.foldl_cons, getLsbD_foldl_or f k r, BitVec.getLsbD_or, List.any_cons, Bool.or_assoc]

/-- At most one number of a range has a property. -/
theorem any_range_unique (n m : Nat) (p q : Nat → Bool) (hpq : ∀ j, j < n → p j = q j) (h : ∀ j, q j = true → j = m) :
    (List.range n).any p = (decide (m < n) && q m) := by
  rw [Bool.eq_iff_iff, List.any_eq_true, Bool.and_eq_true, decide_eq_true_eq]
  refine ⟨fun ⟨j, hj, hp⟩ => ?_, fun ⟨hm, hp⟩ => ⟨m, List.mem_range.2 hm, (hpq m hm).trans hp⟩⟩
  rw [hpq j (List.mem_range.1 hj)] at hp
  obtain rfl := h j hp
  exact ⟨List.mem_range.1 hj, hp⟩

/-- A bit-row in row `r`. -/
theorem getLsbD_rowAt (v : BitVec 128) (r k : Nat) (hk : k < 16384) :
    ((v.setWidth 16384) <<< (128 * r)).getLsbD k = (decide (k / 128 = r) && v.getLsbD (k % 128)) := by
  rw [BitVec.getLsbD_shiftLeft, BitVec.getLsbD_setWidth]
  by_cases hr : k / 128 = r
  · have hm : k - 128 * r = k % 128 := by omega
    simp [hk, hm, hr, show ¬ k < 128 * r by omega, show k % 128 < 16384 by omega]
  · by_cases hlt : k < 128 * r
    · simp [hlt, hr]
    · simp [hr, BitVec.getLsbD_of_ge v (k - 128 * r) (by omega)]

/-- A bit-column in column `c`. -/
def colAt (v : BitVec 128) (c : Nat) : Plane :=
  (List.range 128).foldl (fun p r => if v.getLsbD r then p ||| (1#16384 <<< (128 * r + c)) else p) p0

theorem getLsbD_colAt (v : BitVec 128) (c k : Nat) (hc : c < 128) (hk : k < 16384) :
    (colAt v c).getLsbD k = (decide (k % 128 = c) && v.getLsbD (k / 128)) := by
  have hcol : colAt v c =
      (List.range 128).foldl (fun p r => p ||| (if v.getLsbD r then 1#16384 <<< (128 * r + c) else p0)) p0 := by
    unfold colAt
    congr 1
    funext p r
    split <;> simp [p0]
  have hone (r : Nat) : (if v.getLsbD r then 1#16384 <<< (128 * r + c) else p0).getLsbD k =
      (decide (k = 128 * r + c) && v.getLsbD r) := by
    split
    · next h =>
      rw [BitVec.getLsbD_shiftLeft, BitVec.getLsbD_one, h]
      simp only [hk, decide_true, Bool.true_and, Bool.and_true, show (0 < 16384) by decide]
      by_cases hlt : k < 128 * r + c
      · simp [hlt, hlt.ne]
      · simp [hlt]; omega
    · next h => simp [p0, h]
  have hzero : p0.getLsbD k = false := BitVec.getLsbD_zero
  simp only [hcol, getLsbD_foldl_or, hzero, hone, Bool.false_or]
  rw [any_range_unique 128 (k / 128) _ _ (fun _ _ => rfl) (fun j hj => by simp at hj; omega)]
  simp only [show k / 128 < 128 by omega, decide_true, Bool.true_and]
  congr 1
  exact decide_eq_decide.2 (by omega)

theorem seamBit_eq (dr d k : Nat) (v : BitVec 128) : seamBit dr d k v =
    match dr with
    | 0 => (v.setWidth 16384) <<< (128 * (128 - d + k))
    | 1 => colAt v k
    | 2 => (v.setWidth 16384) <<< (128 * k)
    | _ => colAt v (128 - d + k) := by
  unfold seamBit colAt
  rfl

/-- The planes of a seam: each bay without a source takes its bit, and no other bay takes one. -/
theorem getLsbD_seamPlane (dr d j k : Nat) (bits : List (BitVec 128)) (hdr : dr < 4) (hd : d ≤ 128) (hk : k < 16384) :
    ((List.range d).foldl (fun p n => p ||| seamBit dr d n (nth 0#128 bits (j * d + n))) p0).getLsbD k =
      ((shiftSource dr d k false).isNone && seamInto dr d j k bits) := by
  have hzero : p0.getLsbD k = false := BitVec.getLsbD_zero
  rw [getLsbD_foldl_or, hzero, Bool.false_or]
  match dr, hdr with
  | 0, _ =>
    simp only [seamBit_eq, getLsbD_rowAt _ _ _ hk]
    rw [any_range_unique d (k / 128 + d - 128) _ _ (fun _ _ => rfl) (fun n hn => by simp at hn; omega)]
    simp only [shiftSource, seamInto, Bool.false_or, decide_eq_true_eq, ← Bool.and_assoc]
    congr 1
    split_ifs <;> simp <;> omega
  | 1, _ =>
    have hcols : ∀ n, n < d → (seamBit 1 d n (nth 0#128 bits (j * d + n))).getLsbD k =
        (decide (k % 128 = n) && (nth 0#128 bits (j * d + n)).getLsbD (k / 128)) := fun n hn => by
      rw [seamBit_eq]
      exact getLsbD_colAt _ _ _ (by omega) hk
    rw [any_range_unique d (k % 128) _ _ hcols (fun n hn => by simp at hn; omega)]
    simp only [shiftSource, seamInto, Bool.false_or, decide_eq_true_eq, ← Bool.and_assoc]
    congr 1
    split_ifs <;> simp <;> omega
  | 2, _ =>
    simp only [seamBit_eq, getLsbD_rowAt _ _ _ hk]
    rw [any_range_unique d (k / 128) _ _ (fun _ _ => rfl) (fun n hn => by simp at hn; omega)]
    simp only [shiftSource, seamInto, Bool.false_or, decide_eq_true_eq, ← Bool.and_assoc]
    congr 1
    split_ifs <;> simp <;> omega
  | 3, _ =>
    have hcols : ∀ n, n < d → (seamBit 3 d n (nth 0#128 bits (j * d + n))).getLsbD k =
        (decide (k % 128 = 128 - d + n) && (nth 0#128 bits (j * d + n)).getLsbD (k / 128)) := fun n hn => by
      rw [seamBit_eq]
      exact getLsbD_colAt _ _ _ (by omega) hk
    rw [any_range_unique d (k % 128 + d - 128) _ _ hcols (fun n hn => by simp at hn; omega)]
    simp only [shiftSource, seamInto, Bool.false_or, decide_eq_true_eq, ← Bool.and_assoc]
    congr 1
    split_ifs <;> simp <;> omega

end Sys2Proof.Machine
end


section
/-!
The field that a seam stall writes, and the end of the stall (R277, R341).
-/

namespace Sys2Proof.Machine

/-! The field. -/

/-- A field written in the active bays, as numbers. -/
theorem bayVal_put_field (g : Gal) (i k : Nat) (act : Plane) (vals : List Plane) (hk : k < 16384) :
    bayVal ((g.put (.mem i) act vals).field i vals.length) k =
      if act.getLsbD k then bayVal vals k else bayVal (g.field i vals.length) k := by
  have hbit : ∀ j, j < vals.length → ((g.put (.mem i) act vals).plane (i + j)).getLsbD k =
      if act.getLsbD k then (nth p0 vals j).getLsbD k else (g.plane (i + j)).getLsbD k := fun j hj => by
    rw [plane_put_mem, if_pos (by omega), getLsbD_pSel _ _ _ _ hk, Nat.add_sub_cancel_left]
  rw [Gal.field, Gal.field, bayVal_map, bayVal_map, bayVal_eq, foldr_bits_congr _ _ _ hbit]
  cases act.getLsbD k <;> rfl

/-- The field of a plane list of one width, plane by plane. -/
theorem bayVal_of_bits (vals : List Plane) (f : Nat → Bool) (w k : Nat) (hw : vals.length = w)
    (h : ∀ j, j < w → (nth p0 vals j).getLsbD k = f j) :
    bayVal vals k = (List.range w).foldr (fun j v => bit (f j) + 2 * v) 0 := by
  rw [bayVal_eq, hw]
  exact foldr_bits_congr w _ _ h

/-- The number that a seam gives a bay without a source. -/
def Stall.seamVal (st : Stall) (bits : List (BitVec 128)) (k : Nat) : Nat :=
  (List.range st.w).foldr (fun j v => bit (seamInto st.dir st.d j k bits) + 2 * v) 0

theorem seamPlanes_length (w d dr : Nat) (bits : List (BitVec 128)) : (seamPlanes w d dr bits).length = w := by
  simp [seamPlanes]

theorem seamVals_length (st : Stall) (bits : List (BitVec 128)) (hw : st.src.length = st.w) :
    (seamVals st.w st.d st.dir st.src bits).length = st.w := by
  rw [seamVals, List.length_zipWith, seamPlanes_length, hw, Nat.min_self]

/-- A bay takes the number of its source in the device, or what the seam gives it (R277). -/
theorem bayVal_seamVals (st : Stall) (bits : List (BitVec 128)) (k : Nat) (hw : st.src.length = st.w) (hdir : st.dir < 4)
    (hd : st.d ≤ 128) (hk : k < 16384) : bayVal (seamVals st.w st.d st.dir st.src bits) k =
      match shiftSource st.dir st.d k false with | some m => bayVal st.src m | none => st.seamVal bits k := by
  have hbit : ∀ j, j < st.w → (nth p0 (seamVals st.w st.d st.dir st.src bits) j).getLsbD k =
      ((shiftSource st.dir st.d k false).elim false (nth p0 st.src j).getLsbD ||
        ((shiftSource st.dir st.d k false).isNone && seamInto st.dir st.d j k bits)) := fun j hj => by
    have hnth : nth p0 (seamVals st.w st.d st.dir st.src bits) j = moved st.dir st.d (nth p0 st.src j) |||
        (List.range st.d).foldl (fun p n => p ||| seamBit st.dir st.d n (nth 0#128 bits (j * st.d + n))) p0 := by
      simp [nth, seamVals, seamPlanes, hj, hw]
    rw [hnth, BitVec.getLsbD_or, getLsbD_moved _ _ _ _ hdir hd hk, getLsbD_seamPlane _ _ _ _ _ hdir hd hk]
  rw [bayVal_of_bits _ _ _ _ (seamVals_length st bits hw) hbit]
  cases shiftSource st.dir st.d k false with
  | some m =>
    show _ = bayVal st.src m
    simp [bayVal_eq, hw]
  | none =>
    show _ = st.seamVal bits k
    simp [Stall.seamVal]

/-- Round the device, a bay takes the number of the source at the opposite edge (Table GAL.3). -/
theorem bayVal_wrap (st : Stall) (k : Nat) (hdir : st.dir < 4) (hd1 : 1 ≤ st.d) (hd : st.d ≤ 128) (hk : k < 16384) :
    bayVal (st.src.map (shiftPlane 2 st.dir st.d)) k =
      match shiftSource st.dir st.d k true with | some m => bayVal st.src m | none => 0 := by
  have hbit : ∀ j, j < st.src.length → (nth p0 (st.src.map (shiftPlane 2 st.dir st.d)) j).getLsbD k =
      (shiftSource st.dir st.d k true).elim false (nth p0 st.src j).getLsbD := fun j hj => by
    have hnth : nth p0 (st.src.map (shiftPlane 2 st.dir st.d)) j = shiftPlane 2 st.dir st.d (nth p0 st.src j) := by
      simp [nth, hj]
    rw [hnth, getLsbD_shiftPlane_wrap _ _ _ _ hdir hd1 hd hk]
  have htotal : shiftSource st.dir st.d k true ≠ none := by
    unfold shiftSource
    dsimp only
    split <;> simp
  rw [bayVal_of_bits _ _ _ _ (List.length_map _) hbit]
  cases h : shiftSource st.dir st.d k true with
  | some m => exact (bayVal_eq _ _).symm
  | none => exact absurd h htotal

/-- A stall has written its field: the active bays take their source, or what the edge gives them, and the rest of bay
memory is as before. -/
def Gal.stallWrote (g h : Gal) (st : Stall) (vacant : Nat → Nat) : Prop :=
  (∀ k, k < 16384 → bayVal (h.field st.dst st.w) k =
    if g.a.getLsbD k then
      match shiftSource st.dir st.d k false with | some m => bayVal st.src m | none => vacant k
    else bayVal (g.field st.dst st.w) k) ∧
  ∀ j, j < st.dst ∨ st.dst + st.w ≤ j → h.plane j = g.plane j

/-- Only bay memory counts. -/
theorem Gal.stallWrote.of_mem {g h m : Gal} {st : Stall} {vacant : Nat → Nat} (k : g.stallWrote h st vacant)
    (hm : m.mem = h.mem) : g.stallWrote m st vacant := by
  have hplane : m.plane = h.plane := by
    funext j
    rw [Gal.plane, hm, Gal.plane]
  have hfield : m.field = h.field := by
    funext i w
    rw [Gal.field, hplane, Gal.field]
  unfold Gal.stallWrote at *
  rwa [hfield, hplane]

/-- A write of the stall's field. -/
theorem put_stallWrote (g : Gal) (st : Stall) (vals : List Plane) (vacant : Nat → Nat) (hw : vals.length = st.w)
    (h : ∀ k, k < 16384 → bayVal vals k =
      match shiftSource st.dir st.d k false with | some m => bayVal st.src m | none => vacant k) :
    g.stallWrote (g.put (.mem st.dst) g.a vals) st vacant := by
  refine ⟨fun k hk => ?_, fun j hj => ?_⟩
  · rw [← hw, bayVal_put_field g _ _ _ _ hk, h k hk, hw]
  · rw [plane_put_mem, hw, if_neg (by omega)]

/-- The seam's bits arrive. -/
theorem put_seamVals (g : Gal) (st : Stall) (bits : List (BitVec 128)) (hw : st.src.length = st.w) (hdir : st.dir < 4)
    (hd : st.d ≤ 128) :
    g.stallWrote (g.put (.mem st.dst) g.a (seamVals st.w st.d st.dir st.src bits)) st (st.seamVal bits) :=
  put_stallWrote g st _ _ (seamVals_length st bits hw) fun k hk => bayVal_seamVals st bits k hw hdir hd hk

/-- The bits come round the device. -/
theorem put_wrap (g : Gal) (st : Stall) (hw : st.src.length = st.w) (hdir : st.dir < 4) (hd1 : 1 ≤ st.d) (hd : st.d ≤ 128) :
    g.stallWrote (g.put (.mem st.dst) g.a (st.src.map (shiftPlane 2 st.dir st.d))) st (fun k =>
      match shiftSource st.dir st.d k true with | some m => bayVal st.src m | none => 0) := by
  refine put_stallWrote g st _ _ ((List.length_map _).trans hw) fun k hk => ?_
  rw [bayVal_wrap st k hdir hd1 hd hk]
  cases h : shiftSource st.dir st.d k false with
  | some m => simp only [shiftSource_inside h]
  | none => rfl

end Sys2Proof.Machine
end


section
/-!
The end of a seam stall, and its abort (R341).
-/

namespace Sys2Proof.Machine

/-! The end of a stall. -/

/-- A frame start that fell due during a stall begins behind it; where none did, nothing more happens (R287). -/
theorem afterStall_none (d : Dev) (h : d.gal.startDue = false) : afterStall d = d := if_neg (by simp [h])

/-- A device at the end of its cycle, with the events that waited before it. -/
def Dev.withEvents (e d : Dev) : Dev := { e with evq := d.evq, evGap := d.evGap }

/-- A cycle without events and without answers does what its function does. -/
theorem frameCycle_quiet (f : Dev → Dev) (d : Dev) (hfaults : (f d.cycleBegin).faults = [])
    (hdue : (f d.cycleBegin).wl.due = []) (hsvc : (f d.cycleBegin).wl.svcSlot = []) (hevq : (f d.cycleBegin).evq = []) :
    frameCycle f d = (f d.cycleBegin).withEvents d := by
  have hsettle : settle (f d.cycleBegin) = f d.cycleBegin := settle_none _ hfaults
  have hcycle : oneCycle f d = (f d.cycleBegin).withEvents d := by
    rw [← hsettle] at hevq
    exact (inCycle_none (fun d => settle (f d)) d hevq).trans (congrArg (Dev.withEvents · d) hsettle)
  rw [frameCycle, hcycle, answerDue_none ((f d.cycleBegin).withEvents d) hdue,
    lanesReport_none ((f d.cycleBegin).withEvents d) hsvc]

/-- The instruction ends with its stall, and nothing of the frame falls due before array time `hi`. -/
structure Dev.stalled (d : Dev) (st : Stall) (hi : Nat) : Prop where
  stall : d.gal.stall = some st
  running : d.gal.running = true
  twin : d.twinOk GSQ_SEAMTO.addr = true
  xfers : ∀ y ∈ d.gal.xfers, hi ≤ y.due
  nwl : ∀ y ∈ d.gal.nwl, hi ≤ y.due
  limit : hi ≤ d.gal.limit
  range : d.gal.limit < 2 ^ 27

/-- The planes that end a stall (R277, Table CNC.7). -/
def Stall.planes (st : Stall) (seam : List (BitVec 128)) : List Plane :=
  if st.loop then st.src.map (shiftPlane 2 st.dir st.d) else seamVals st.w st.d st.dir st.src seam

/-- How many cycles a stall lasts that does not abort: over loop-back 4 as many as the lane's delay exceeds SEAMLAT (R341). -/
def Dev.stallCycles (d : Dev) (st : Stall) : Nat :=
  1 + (if st.loop then d.rd (CNC_LAT.PINNED st.dir) - d.acts GSQ_SEAMLAT.LAT - 1
    else (Config.freeWord d.seed).toNat) % max 1 (d.acts GSQ_SEAMTO.CYCLES - 1)

theorem stallCycles_pos (d : Dev) (st : Stall) : 1 ≤ d.stallCycles st := Nat.le_add_right 1 _

theorem stallCycles_le (d : Dev) (st : Stall) : d.stallCycles st ≤ max 1 (d.acts GSQ_SEAMTO.CYCLES - 1) := by
  have := Nat.mod_lt (if st.loop then d.rd (CNC_LAT.PINNED st.dir) - d.acts GSQ_SEAMLAT.LAT - 1
    else (Config.freeWord d.seed).toNat) (show 0 < max 1 (d.acts GSQ_SEAMTO.CYCLES - 1) by omega)
  unfold Dev.stallCycles
  omega

theorem stallCycles_loop (d : Dev) (st : Stall) (hloop : st.loop = true)
    (hlat : d.acts GSQ_SEAMLAT.LAT < d.rd (CNC_LAT.PINNED st.dir))
    (hlim : d.rd (CNC_LAT.PINNED st.dir) - d.acts GSQ_SEAMLAT.LAT < d.acts GSQ_SEAMTO.CYCLES) :
    d.stallCycles st = d.rd (CNC_LAT.PINNED st.dir) - d.acts GSQ_SEAMLAT.LAT := by
  rw [Dev.stallCycles, if_pos hloop, Nat.mod_eq_of_lt (by omega)]
  omega

/-- The Gallery with the field written and the stall at its end. -/
def Gal.unstalled (g : Gal) (st : Stall) (vals : List Plane) : Gal := { g.put (.mem st.dst) g.a vals with stall := none }

/-- The device behind a stall of `k` cycles. -/
def stallLeft (d : Dev) (st : Stall) (vals : List Plane) (k : Nat) : Dev :=
  galTime (d.draw.setGal (fun g => g.unstalled st vals)) (max d.bcnt (st.start + k))

theorem stallLeft_regs (d : Dev) (st : Stall) (vals : List Plane) (k : Nat) :
    Dev.sameRegs [GSQ_BCNT_NOW.addr] d (stallLeft d st vals k) :=
  (Dev.sameRegs_of_regs (d := d) (e := d.draw.setGal (fun g => g.unstalled st vals)) rfl _).trans (galTime_regs _ _)

/-- A stall that ends in array cycle `last`. -/
def stallStep (d : Dev) (st : Stall) (vals : List Plane) (last : Nat) : Dev :=
  finish (galTime (deliver ((deliver d (last - 1)).setGal (fun g => { g.put (.mem st.dst) d.gal.a vals with stall := none }))
    last) (last + 1)) [] none

theorem stallEnd_some (d : Dev) (seam : List (BitVec 128)) (st : Stall) (h : d.gal.stall = some st) :
    stallEnd d seam = stallStep (useTwin d GSQ_SEAMTO.addr).draw st (st.planes seam)
      (max (useTwin d GSQ_SEAMTO.addr).bcnt (st.start + (useTwin d GSQ_SEAMTO.addr).stallCycles st) - 1) := by
  unfold stallEnd
  rw [h]
  rfl

/-- The bits arrive in their cycle, and the instruction ends there (R341). -/
theorem stallEnd_eq (d : Dev) (seam : List (BitVec 128)) (st : Stall)
    (h : d.stalled st (max d.bcnt (st.start + max 1 (d.acts GSQ_SEAMTO.CYCLES)))) :
    stallEnd d seam = (stallLeft d st (st.planes seam) (d.stallCycles st)).setGal Gal.advance := by
  have hpos := stallCycles_pos d st
  have hle := stallCycles_le d st
  have hn : max d.bcnt (st.start + d.stallCycles st) ≤ max d.bcnt (st.start + max 1 (d.acts GSQ_SEAMTO.CYCLES)) := by omega
  have hdeliver (e : Dev) (n : Nat) (he : e.gal.xfers = d.gal.xfers) (hw : e.gal.nwl = d.gal.nwl)
      (hlt : n < max d.bcnt (st.start + d.stallCycles st)) : deliver e n = e :=
    deliver_none e n (fun x hx => by have := h.xfers x (he ▸ hx); omega) (fun y hy => by have := h.nwl y (hw ▸ hy); omega)
  have hcount : max d.bcnt (st.start + d.stallCycles st) - 1 + 1 = max d.bcnt (st.start + d.stallCycles st) := by omega
  have hend : stallEnd d seam = finish (stallLeft d st (st.planes seam) (d.stallCycles st)) [] none := by
    rw [stallEnd_some d seam st h.stall, useTwin_ok d _ h.twin, stallStep, hdeliver d.draw _ rfl rfl (by omega),
      hdeliver (d.draw.setGal _) _ rfl rfl (by omega), hcount]
    rfl
  have hbcnt : (stallLeft d st (st.planes seam) (d.stallCycles st)).bcnt = max d.bcnt (st.start + d.stallCycles st) :=
    galTime_bcnt _ _ (by have := h.limit; have := h.range; omega)
  rw [hend]
  exact finish_advances (stallLeft d st (st.planes seam) (d.stallCycles st)) (by rw [hbcnt]; exact hn.trans h.limit) h.running

theorem exec_seamStallEnd (s : State) (seam : List (BitVec 128)) : exec (.seamStallEnd seam) s =
    fin s (frameCycle (fun d => afterStall (stallEnd d seam)) s.dev) := rfl

theorem Dev.stalled.cycleBegin {d : Dev} {st : Stall} {hi : Nat} (h : d.stalled st hi) : d.cycleBegin.stalled st hi :=
  ⟨h.stall, h.running, h.twin, h.xfers, h.nwl, h.limit, h.range⟩

/-- The end of a stall in its cycle. -/
theorem seamStallEnd_next (s : State) (seam : List (BitVec 128)) (st : Stall) (hfaults : s.dev.faults = [])
    (hdue : s.dev.wl.due = []) (hsvc : s.dev.wl.svcSlot = []) (hstart : s.dev.gal.startDue = false)
    (h : s.dev.stalled st (max s.dev.bcnt (st.start + max 1 (s.dev.acts GSQ_SEAMTO.CYCLES)))) :
    exec (.seamStallEnd seam) s = .next { s with dev := ((stallLeft s.dev.cycleBegin st (st.planes seam)
      (s.dev.stallCycles st)).setGal Gal.advance).withEvents s.dev } := by
  have hend : stallEnd s.dev.cycleBegin seam =
      (stallLeft s.dev.cycleBegin st (st.planes seam) (s.dev.stallCycles st)).setGal Gal.advance :=
    stallEnd_eq s.dev.cycleBegin seam st h.cycleBegin
  have hafter : afterStall (stallEnd s.dev.cycleBegin seam) =
      (stallLeft s.dev.cycleBegin st (st.planes seam) (s.dev.stallCycles st)).setGal Gal.advance := by
    rw [hend]
    exact afterStall_none _ hstart
  have hcycle : frameCycle (fun d => afterStall (stallEnd d seam)) s.dev = ((stallLeft s.dev.cycleBegin st (st.planes seam)
      (s.dev.stallCycles st)).setGal Gal.advance).withEvents s.dev := by
    rw [← hafter]
    refine frameCycle_quiet (fun d => afterStall (stallEnd d seam)) s.dev ?_ ?_ ?_ ?_
    · show (afterStall (stallEnd s.dev.cycleBegin seam)).faults = []
      rw [hafter]; exact hfaults
    · show (afterStall (stallEnd s.dev.cycleBegin seam)).wl.due = []
      rw [hafter]; exact hdue
    · show (afterStall (stallEnd s.dev.cycleBegin seam)).wl.svcSlot = []
      rw [hafter]; exact hsvc
    · show (afterStall (stallEnd s.dev.cycleBegin seam)).evq = []
      rw [hafter]; rfl
  rw [exec_seamStallEnd, hcycle]
  exact fin_none _ _ hfaults

/-- The clause of the end of a seam stall (R277, R341). -/
theorem seamStallEnd_completes (s : State) (seam : List (BitVec 128)) (st : Stall) (hfaults : s.dev.faults = [])
    (hdue : s.dev.wl.due = []) (hsvc : s.dev.wl.svcSlot = []) (hstart : s.dev.gal.startDue = false)
    (h : s.dev.stalled st (max s.dev.bcnt (st.start + max 1 (s.dev.acts GSQ_SEAMTO.CYCLES))))
    (hw : st.src.length = st.w) (hdir : st.dir < 4) (hd1 : 1 ≤ st.d) (hd : st.d ≤ 128) :
    Completes (.seamStallEnd seam) s (fun t =>
      s.spent t (max s.dev.bcnt (st.start + s.dev.stallCycles st) - s.dev.bcnt) [] ∧
      (st.loop = false → s.dev.gal.stallWrote t.dev.gal st (st.seamVal seam)) ∧
      (st.loop = true → s.dev.gal.stallWrote t.dev.gal st (fun k =>
        match shiftSource st.dir st.d k true with | some m => bayVal st.src m | none => 0)) ∧
      s.dev.sameBytes t.dev ∧ t.dev.gal = { s.dev.gal.advance with stall := none, mem := t.dev.gal.mem }) := by
  have hle := stallCycles_le s.dev st
  have hrange : max s.dev.bcnt (st.start + s.dev.stallCycles st) < 2 ^ 27 := by
    have := h.limit
    have := h.range
    omega
  refine ⟨_, seamStallEnd_next s seam st hfaults hdue hsvc hstart h, ?_, fun hloop => ?_, fun hloop => ?_, ?_, rfl⟩
  · refine State.spent_to (Nat.le_max_left _ _) ?_ rfl rfl ?_
    · exact galTime_bcnt _ _ hrange
    · exact stallLeft_regs s.dev.cycleBegin st _ _
  · refine (put_seamVals s.dev.gal st seam hw hdir hd).of_mem ?_
    show (s.dev.gal.put (.mem st.dst) s.dev.gal.a (st.planes seam)).mem = _
    rw [Stall.planes, if_neg (by simp [hloop])]
  · refine (put_wrap s.dev.gal st hw hdir hd1 hd).of_mem ?_
    show (s.dev.gal.put (.mem st.dst) s.dev.gal.a (st.planes seam)).mem = _
    rw [Stall.planes, if_pos hloop]
  · exact ⟨fun _ => rfl, fun _ => rfl, fun _ => rfl⟩

end Sys2Proof.Machine
end


section
/-!
The abort of a seam stall (R341, R351).
-/

namespace Sys2Proof.Machine

/-- The Gallery with the missing bits counted as 0, and E set in every bay that draws on the seam. -/
def Gal.aborted (g : Gal) (st : Stall) (vals : List Plane) : Gal :=
  { g.put (.mem st.dst) g.a vals with stall := none, e := g.e ||| vacant st.dir st.d }

/-- The event of an abort (R351). -/
def abortEvent (d : Dev) (st : Stall) : Ev :=
  ⟨0, 0x0E, (Config.evCode .seamAbort).toNat, false, true, 0, Config.evData .seamAbort st.addr 0,
    Config.evData .seamAbort (d.rd GSQ_FCNTLO.FCNT) 1⟩

/-- The device with the field of an aborted stall written, and its event posted. -/
def abortNoted (d : Dev) (st : Stall) (vals : List Plane) : Dev :=
  evqAppend (d.setGal (fun g => g.aborted st vals)) (abortEvent d st).block (abortEvent d st).code (abortEvent d st).crit
    (abortEvent d st).d0 (abortEvent d st).d1

/-- An abort in the array cycle before `n`. -/
def abortStep (d : Dev) (st : Stall) (vals : List Plane) (last : Nat) : Dev :=
  finish (galTime (deliver (abortNoted (deliver d (last - 1)) st vals) last) (last + 1)) [tSeam] none

/-- The planes of an aborted stall (R341). -/
def Stall.missed (st : Stall) (miss : List (Option (BitVec 128))) : List Plane :=
  seamVals st.w st.d st.dir st.src (miss.map (fun b => b.getD 0#128))

theorem stallAbort_some (d : Dev) (miss : List (Option (BitVec 128))) (st : Stall) (h : d.gal.stall = some st)
    (htwin : d.twinOk GSQ_SEAMTO.addr = true)
    (hfirst : deliver d (max d.bcnt (st.start + d.acts GSQ_SEAMTO.CYCLES) - 1 - 1) = d) :
    stallAbort d miss = abortStep d st (st.missed miss) (max d.bcnt (st.start + d.acts GSQ_SEAMTO.CYCLES) - 1) := by
  rw [abortStep, hfirst]
  unfold stallAbort
  simp only [h, useTwin_ok d _ htwin, hfirst]
  rfl

/-- The device of an abort when its trap is taken. -/
def abortLeft (d : Dev) (st : Stall) (vals : List Plane) : Dev :=
  galTime (abortNoted d st vals) (max d.bcnt (st.start + d.acts GSQ_SEAMTO.CYCLES))

/-- An abort posts its event and writes its field. -/
theorem abortNoted_posts (d : Dev) (st : Stall) (vals : List Plane) (h : d.evq.length < 240) :
    (d.setGal (fun g => g.aborted st vals)).posts (abortNoted d st vals) [abortEvent d st] :=
  evqAppend_posts (d.setGal (fun g => g.aborted st vals)) (abortEvent d st) h

theorem abortNoted_gal (d : Dev) (st : Stall) (vals : List Plane) (h : d.evq.length < 240) :
    (abortNoted d st vals).gal = d.gal.aborted st vals := (abortNoted_posts d st vals h).gal

theorem abortLeft_regs (d : Dev) (st : Stall) (vals : List Plane) (h : d.evq.length < 240) :
    Dev.sameRegs [GSQ_BCNT_NOW.addr, EVQ_NEXTSEQ.addr] d (abortLeft d st vals) :=
  ((Dev.sameRegs_setGal d (fun g => g.aborted st vals) _).trans
    ((abortNoted_posts d st vals h).regs.mono (by decide))).trans ((galTime_regs _ _).mono (by decide))

theorem abortLeft_onlyFrame (d : Dev) (st : Stall) (vals : List Plane) (h : d.evq.length < 240) :
    d.onlyFrame (abortLeft d st vals) :=
  ((Dev.onlyFrame_setGal d (fun g => g.aborted st vals)).trans (abortNoted_posts d st vals h).onlyFrame).trans
    (galTime_onlyFrame _ _)

theorem abortLeft_gal (d : Dev) (st : Stall) (vals : List Plane) (h : d.evq.length < 240) :
    (abortLeft d st vals).gal = d.gal.aborted st vals := (galTime_gal _ _).trans (abortNoted_gal d st vals h)

theorem abortLeft_now (d : Dev) (st : Stall) (vals : List Plane) (h : d.evq.length < 240) :
    (abortLeft d st vals).now =
      max d.now (d.gal.frameAt + max d.bcnt (st.start + d.acts GSQ_SEAMTO.CYCLES) * 5 / 4) := by
  rw [abortLeft, galTime_now, abortNoted_gal d st vals h, (abortNoted_posts d st vals h).now]
  rfl

/-- The stall reaches SEAMTO, and its trap ends the frame (R341). -/
theorem stallAbort_eq (d : Dev) (miss : List (Option (BitVec 128))) (st : Stall)
    (h : d.stalled st (max d.bcnt (st.start + max 1 (d.acts GSQ_SEAMTO.CYCLES)))) (hlim : 1 ≤ d.acts GSQ_SEAMTO.CYCLES)
    (hevq : d.evq.length < 240) :
    stallAbort d miss = seqTrap (abortLeft d st (st.missed miss)) [tSeam] d.gal.pc := by
  have hmax : max 1 (d.acts GSQ_SEAMTO.CYCLES) = d.acts GSQ_SEAMTO.CYCLES := Nat.max_eq_right hlim
  rw [hmax] at h
  have hdeliver (e : Dev) (n : Nat) (he : e.gal.xfers = d.gal.xfers) (hw : e.gal.nwl = d.gal.nwl)
      (hlt : n < max d.bcnt (st.start + d.acts GSQ_SEAMTO.CYCLES)) : deliver e n = e :=
    deliver_none e n (fun x hx => by have := h.xfers x (he ▸ hx); omega) (fun y hy => by have := h.nwl y (hw ▸ hy); omega)
  have hgal := abortNoted_gal d st (st.missed miss) hevq
  have hcount : max d.bcnt (st.start + d.acts GSQ_SEAMTO.CYCLES) - 1 + 1 =
      max d.bcnt (st.start + d.acts GSQ_SEAMTO.CYCLES) := by omega
  have hfirst := hdeliver d (max d.bcnt (st.start + d.acts GSQ_SEAMTO.CYCLES) - 1 - 1) rfl rfl (by omega)
  have hbcnt : (abortLeft d st (st.missed miss)).bcnt = max d.bcnt (st.start + d.acts GSQ_SEAMTO.CYCLES) :=
    galTime_bcnt _ _ (by have := h.limit; have := h.range; omega)
  have hleft := abortLeft_gal d st (st.missed miss) hevq
  rw [stallAbort_some d miss st h.stall h.twin hfirst, abortStep, hfirst,
    hdeliver (abortNoted d st (st.missed miss)) _ (by rw [hgal]; rfl) (by rw [hgal]; rfl) (by omega), hcount]
  refine (finish_traps (abortLeft d st (st.missed miss)) tSeam none ?_).trans ?_
  · rw [hbcnt, hleft]
    exact h.limit
  · rw [hleft]
    rfl

/-- An abort, before the events of its cycle reach the EVQ. -/
theorem stallAbort_trapped (d : Dev) (miss : List (Option (BitVec 128))) (st : Stall)
    (h : d.stalled st (max d.bcnt (st.start + max 1 (d.acts GSQ_SEAMTO.CYCLES)))) (hlim : 1 ≤ d.acts GSQ_SEAMTO.CYCLES)
    (hevq : d.evq = []) (htwin : ∀ n, n < 16 → d.twinOk (BAL_SRC.addr n) = true) :
    (abortLeft d st (st.missed miss)).trapped (stallAbort d miss) 9 d.gal.pc ∧
    ∃ v, (abortLeft d st (st.missed miss)).evq = [v] ∧ v.content = (abortEvent d st).content := by
  have hroom : d.evq.length < 240 := by rw [hevq]; exact Nat.zero_lt_succ _
  obtain ⟨us, hus, hcontent⟩ := (abortNoted_posts d st (st.missed miss) hroom).evq
  obtain ⟨v, rfl, hv⟩ := exists_of_map_content hcontent
  have hone : (abortLeft d st (st.missed miss)).evq = [v] := by
    rw [abortLeft, galTime_evq, hus]
    show d.evq ++ [v] = [v]
    rw [hevq, List.nil_append]
  refine ⟨?_, v, hone, hv⟩
  rw [stallAbort_eq d miss st h hlim hroom]
  exact seqTrap_trapped _ [tSeam] _ (by rw [hone, List.length_singleton]; omega)
    fun n hn => ((abortLeft_regs d st _ hroom).srcTwin (by decide) n hn).trans (htwin n hn)

/-- The events of an abort in their order: a trip's, and then its own (R166). -/
theorem byBlock_abort (v : Ev) (r : List Ev) (hv : v.block = 0x0E) (hlen : r.length ≤ 1) (hr : ∀ u ∈ r, u.block = 0x09) :
    byBlock ([v] ++ r) = r ++ [v] := by
  match r, hlen, hr with
  | [], _, _ => exact byBlock_singleton v (by omega)
  | [u], _, hr =>
    have hu := hr u (by simp)
    exact byBlock_swap v u (by omega) (by omega)

/-- Events with the content of a list of events of one block and one more event. -/
theorem exists_append_of_map_content {us r : List Ev} {v : Ev} {b : Nat}
    (h : us.map Ev.content = (r ++ [v]).map Ev.content) (hr : ∀ u ∈ r, u.block = b) :
    ∃ q w, us = q ++ [w] ∧ w.content = v.content ∧ ∀ u ∈ q, u.block = b := by
  rw [List.map_append, List.map_eq_append_iff] at h
  obtain ⟨q, ws, rfl, hq, hws⟩ := h
  obtain ⟨w, rfl, hw⟩ := exists_of_map_content hws
  refine ⟨q, w, rfl, hw, fun u hu => ?_⟩
  obtain ⟨x, hx, hcontent⟩ := List.mem_map.1 (hq ▸ List.mem_map_of_mem hu)
  exact (congrArg Prod.fst hcontent).symm.trans (hr x hx)

theorem exec_seamAbort (s : State) (miss : List (Option (BitVec 128))) : exec (.seamAbort miss) s =
    fin s (frameCycle (fun d => afterStall (stallAbort d miss)) s.dev) := rfl

/-- The clause of the abort of a seam stall (R341, R351). -/
theorem seamAbort_completes (s : State) (miss : List (Option (BitVec 128))) (st : Stall) (hquiet : s.dev.quiet)
    (hdue : s.dev.wl.due = []) (hsvc : s.dev.wl.svcSlot = []) (hstart : s.dev.gal.startDue = false)
    (h : s.dev.stalled st (max s.dev.bcnt (st.start + max 1 (s.dev.acts GSQ_SEAMTO.CYCLES))))
    (hlim : 1 ≤ s.dev.acts GSQ_SEAMTO.CYCLES) (hpc : s.dev.gal.pc < 16384) (hw : st.src.length = st.w) (hdir : st.dir < 4)
    (hd : st.d ≤ 128) :
    Completes (.seamAbort miss) s (fun t =>
      s.spent t (max s.dev.bcnt (st.start + s.dev.acts GSQ_SEAMTO.CYCLES) - s.dev.bcnt) (EVQ_NEXTSEQ.addr :: trapRegs) ∧
      s.dev.gal.stallWrote t.dev.gal st (st.seamVal (miss.map (fun b => b.getD 0#128))) ∧
      s.dev.sameBytes t.dev ∧ t.dev.rd GSQ_TRAP.CAUSE = 9 ∧ t.dev.rd GSQ_TRAP.ADDR = s.dev.gal.pc ∧
      t.dev.gal = { (s.dev.gal.stopped (s.dev.on GSQ_REPCTL.ARMED)) with mem := t.dev.gal.mem, e := t.dev.gal.e } ∧
      (∀ k, k < 16384 →
        t.dev.gal.e.getLsbD k = (s.dev.gal.e.getLsbD k || (shiftSource st.dir st.d k false).isNone)) ∧
      ∃ r v, t.dev.evq = s.dev.evq ++ r ++ [v] ∧ v.block = 0x0E ∧ v.crit = true ∧ ∀ u ∈ r, u.block = 0x09) := by
  obtain ⟨hfaults, hevq, htwin, -⟩ := hquiet
  obtain ⟨htrap, v, hone, hv⟩ := stallAbort_trapped s.dev.cycleBegin miss st h.cycleBegin hlim rfl htwin
  have hroom : s.dev.cycleBegin.evq.length < 240 := Nat.zero_lt_succ _
  have hregs := abortLeft_regs s.dev.cycleBegin st (st.missed miss) hroom
  have hgal : (stallAbort s.dev.cycleBegin miss).gal =
      (s.dev.gal.aborted st (st.missed miss)).stopped (s.dev.on GSQ_REPCTL.ARMED) := by
    rw [htrap.gal, abortLeft_gal _ _ _ hroom, hregs.on _ (by decide)]
    rfl
  have hafter : afterStall (stallAbort s.dev.cycleBegin miss) = stallAbort s.dev.cycleBegin miss :=
    afterStall_none _ (by rw [hgal]; exact hstart)
  have honly : s.dev.cycleBegin.onlyFrame (stallAbort s.dev.cycleBegin miss) :=
    (abortLeft_onlyFrame s.dev.cycleBegin st _ hroom).trans htrap.only
  obtain ⟨r, hr, hlen, hblock⟩ := htrap.evq
  rw [hone] at hr
  have hvblock : v.block = 0x0E := congrArg Prod.fst hv
  have hevents := byBlock_abort v r hvblock hlen hblock
  rw [← hr] at hevents
  have hposts : Dev.posts { stallAbort s.dev.cycleBegin miss with evq := s.dev.evq, evGap := s.dev.evGap }
      (frameCycle (fun d => afterStall (stallAbort d miss)) s.dev) (r ++ [v]) := by
    have := frameCycle_posts (fun d => afterStall (stallAbort d miss)) s.dev
    simp only [hafter, hevents] at this
    refine this (honly.faults.trans hfaults) (by rw [honly.wl]; exact hdue) (by rw [honly.wl]; exact hsvc) ?_
    rw [List.length_append, List.length_singleton]
    omega
  have hfinal : s.dev.onlyFrame (frameCycle (fun d => afterStall (stallAbort d miss)) s.dev) := by
    refine Dev.onlyFrame.trans ?_ hposts.onlyFrame
    rw [honly]
    rfl
  have htgal := hposts.gal.trans hgal
  have hbcnt : (abortLeft s.dev.cycleBegin st (st.missed miss)).bcnt =
      max s.dev.bcnt (st.start + s.dev.acts GSQ_SEAMTO.CYCLES) := by
    have hrange : max s.dev.bcnt (st.start + s.dev.acts GSQ_SEAMTO.CYCLES) < 2 ^ 27 := by
      have := h.limit
      have := h.range
      omega
    exact galTime_bcnt _ _ hrange
  have hnow := abortLeft_now s.dev.cycleBegin st (st.missed miss) hroom
  obtain ⟨us, hus, hcontent⟩ := hposts.evq
  obtain ⟨q, w, rfl, hw', hq⟩ := exists_append_of_map_content hcontent hblock
  have hwv : w.content = (abortEvent s.dev st).content := hw'.trans hv
  refine ⟨_, (exec_seamAbort s miss).trans (fin_none _ _ (hfinal.faults.trans hfaults)), ?_, ?_, hfinal.sameBytes, ?_, ?_,
    ?_, fun k hk => ?_, q, w, ?_, congrArg Prod.fst hwv, congrArg (fun c => c.2.2.1) hwv, hq⟩
  · refine State.spent_to (Nat.le_max_left _ _) ?_ ?_ hfinal.mode ?_
    · exact (hposts.regs.bcnt (by decide)).trans ((htrap.regs.bcnt (by decide)).trans hbcnt)
    · exact hposts.now.trans (htrap.now.trans hnow)
    · exact ((hregs.mono (by simp)).trans (htrap.regs.mono (by simp))).trans (hposts.regs.mono (by simp))
  · refine (put_seamVals s.dev.gal st _ hw hdir hd).of_mem ?_
    show (frameCycle (fun d => afterStall (stallAbort d miss)) s.dev).gal.mem = _
    rw [htgal]
    rfl
  · exact (hposts.regs.rd _ (by decide)).trans htrap.cause
  · exact (hposts.regs.rd _ (by decide)).trans (htrap.addr.trans (Nat.mod_eq_of_lt hpc))
  · show (frameCycle (fun d => afterStall (stallAbort d miss)) s.dev).gal = _
    rw [htgal]
    rfl
  · have he : (frameCycle (fun d => afterStall (stallAbort d miss)) s.dev).gal.e =
        s.dev.gal.e ||| vacant st.dir st.d := by rw [htgal]; rfl
    show (frameCycle (fun d => afterStall (stallAbort d miss)) s.dev).gal.e.getLsbD k = _
    rw [he, BitVec.getLsbD_or, getLsbD_vacant _ _ _ hdir hd hk]
  · rw [List.append_assoc]
    exact hus

end Sys2Proof.Machine
end


section
/-!
The plane window reads and writes bay memory byte by byte (R26, R347).
-/

namespace Sys2Proof.Machine

/-! Little-endian bytes. -/

theorem leBytes_eq_map (n v : Nat) : leBytes n v = (List.range n).map (fun b => b8 (v / 256 ^ b)) := by
  induction n generalizing v with
  | zero => rfl
  | succ n ih =>
    rw [leBytes, ih, List.range_succ_eq_map, List.map_cons, List.map_map, pow_zero, Nat.div_one]
    congr 1
    refine List.map_congr_left fun b _ => ?_
    rw [Function.comp_apply, Nat.pow_succ', ← Nat.div_div_eq_div_mul]

/-- Each bit of a number stands in its byte. -/
theorem testBit_leNat (bs : List Byte) (b i : Nat) (hi : i < 8) :
    (leNat bs).testBit (8 * b + i) = (nth 0#8 bs b).getLsbD i := by
  induction bs generalizing b with
  | nil => simp [leNat, nth]
  | cons x r ih =>
    have hx : x.toNat < 2 ^ 8 := x.isLt
    rw [leNat, Nat.add_comm, show 256 = 2 ^ 8 from rfl, Nat.testBit_two_pow_mul_add _ hx]
    cases b with
    | zero => rw [if_pos (by omega), Nat.mul_zero, Nat.zero_add]; rfl
    | succ b => rw [if_neg (by omega), show 8 * (b + 1) + i - 8 = 8 * b + i by omega, ih]; rfl

/-! Bytes of planes. -/

/-- A byte of a plane made of 2048 bytes. -/
theorem planeByte_ofNat (bs : List Byte) (b : Nat) (hb : b < 2048) :
    ((BitVec.ofNat 16384 (leNat bs) : Plane) >>> (8 * b)).setWidth 8 = nth 0#8 bs b := by
  refine BitVec.eq_of_getLsbD_eq fun i hi => ?_
  rw [BitVec.getLsbD_setWidth, BitVec.getLsbD_ushiftRight, BitVec.getLsbD_ofNat, testBit_leNat _ _ _ hi]
  simp [hi, show 8 * b + i < 16384 by omega]

/-- A byte of a plane as the number of the plane gives it. -/
theorem b8_div (x : Plane) (b : Nat) : b8 (x.toNat / 256 ^ b) = (x >>> (8 * b)).setWidth 8 := by
  refine BitVec.eq_of_toNat_eq ?_
  rw [b8, BitVec.toNat_ofNat, BitVec.toNat_setWidth, BitVec.toNat_ushiftRight, Nat.shiftRight_eq_div_pow, pow_mul]
  rfl

/-- The bytes of the planes from plane `i` on. -/
theorem planeBytes_eq_map (g : Gal) (i n : Nat) :
    planeBytes g i n = (List.range (2048 * n)).map (fun m => g.windowByte (2048 * i + m)) := by
  induction n with
  | zero => rfl
  | succ n ih =>
    have hlast : leBytes 2048 (g.plane (i + n)).toNat =
        (List.range 2048).map (fun b => g.windowByte (2048 * i + (2048 * n + b))) := by
      rw [leBytes_eq_map]
      refine List.map_congr_left fun b hb => ?_
      have hb := List.mem_range.1 hb
      rw [b8_div, Gal.windowByte, show (2048 * i + (2048 * n + b)) / 2048 = i + n by omega,
        show (2048 * i + (2048 * n + b)) % 2048 = b by omega]
    rw [Nat.mul_succ, List.range_add, List.map_append, List.map_map, ← ih]
    unfold planeBytes
    rw [List.range_succ, List.flatMap_append, List.flatMap_singleton, hlast]
    rfl

/-- A slice of a list of bytes that a function gives. -/
theorem sliceB_map_range (f : Nat → Byte) (m o len : Nat) (h : o + len ≤ m) :
    sliceB ((List.range m).map f) o len = (List.range len).map (fun k => f (o + k)) := by
  have hlen : (((List.range m).map f).drop o |>.take len).length = len := by simp; omega
  unfold sliceB
  simp only [hlen, Nat.sub_self, List.replicate_zero, List.append_nil]
  refine List.ext_getElem (by simp; omega) fun k h1 h2 => by simp

/-- The planes that an access of the window touches. -/
def windowPlanes (off len : Nat) : Nat := (off + len + 2047) / 2048 - off / 2048

/-- The bytes of a write in their place among the old ones. -/
theorem written_eq_map (f : Nat → Byte) (m o : Nat) (data : List Byte) (h : o + data.length ≤ m) :
    ((List.range m).map f).take o ++ sliceB data 0 data.length ++ ((List.range m).map f).drop (o + data.length) =
      (List.range m).map (fun k => if o ≤ k ∧ k < o + data.length then nth 0#8 data (k - o) else f k) := by
  have hslice : sliceB data 0 data.length = data := by simp [sliceB]
  rw [hslice]
  refine List.ext_getElem (by simp; omega) fun k h1 h2 => ?_
  simp only [List.length_map, List.length_range] at h2
  simp only [List.getElem_map, List.getElem_range, nth]
  by_cases hlo : k < o
  · rw [List.getElem_append_left (by simp; omega), List.getElem_append_left (by simp; omega), if_neg (by omega)]
    simp
  · by_cases hhi : k < o + data.length
    · rw [List.getElem_append_left (by simp; omega), List.getElem_append_right (by simp; omega), if_pos (by omega)]
      simp [show min o m = o by omega, show k - o < data.length by omega]
    · rw [List.getElem_append_right (by simp; omega), if_neg (by omega)]
      simp [show min o m = o by omega]
      congr 1
      omega

/-! The clauses of the plane window. -/

theorem planeAccess_faults (d : Dev) (write : Bool) (off len : Nat) (data : List Byte) :
    (planeAccess d write off len data).2.faults = d.faults := by
  unfold planeAccess
  split
  · rfl
  · dsimp only
    split <;> rfl

/-- An access in the window is one of bay memory, by its offset. -/
theorem exec_planeWindowAccess (write : Bool) (addr len off : Nat) (data : List Byte) (s : State)
    (h : 0x31000000 ≤ addr ∧ 0 < len ∧ addr + len ≤ 0x31800000) (hoff : addr - 0x31000000 = off)
    (hfaults : s.dev.faults = []) :
    exec (.planeWindowAccess write addr len data) s = .next { s with dev :=
      { (planeAccess s.dev write off len data).2 with resp := (planeAccess s.dev write off len data).1 } } := by
  have hkept : { (planeAccess s.dev write off len data).2 with
      resp := (planeAccess s.dev write off len data).1 }.faults = [] :=
    (planeAccess_faults s.dev write off len data).trans hfaults
  rw [← fin_none s _ hkept]
  show execPlaneWindowAccess write addr len data s = _
  rw [execPlaneWindowAccess, if_pos h, hoff]

/-- A read of the window gives the bytes of bay memory (R26). -/
theorem planeAccess_read (d : Dev) (off len : Nat) (data : List Byte) (hon : d.galOn = true) :
    planeAccess d false off len data = (.ok ((List.range len).map (fun k => d.gal.windowByte (off + k))), d) := by
  have hslice : sliceB (planeBytes d.gal (off / 2048) (windowPlanes off len)) (off % 2048) len =
      (List.range len).map (fun k => d.gal.windowByte (off + k)) := by
    rw [planeBytes_eq_map, sliceB_map_range _ _ _ _ (by unfold windowPlanes; omega)]
    refine List.map_congr_left fun k _ => congrArg d.gal.windowByte ?_
    omega
  unfold planeAccess
  rw [hon]
  exact congrArg (fun bs => (Resp.ok bs, d)) hslice

/-- The planes that a write of the window stores. -/
def windowWrite (g : Gal) (off : Nat) (data : List Byte) : List Plane :=
  let old := planeBytes g (off / 2048) (windowPlanes off data.length)
  let new := old.take (off % 2048) ++ sliceB data 0 data.length ++ old.drop (off % 2048 + data.length)
  (List.range (windowPlanes off data.length)).map (fun k => BitVec.ofNat 16384 (leNat ((new.drop (2048 * k)).take 2048)))

theorem planeAccess_write (d : Dev) (off : Nat) (data : List Byte) (hon : d.galOn = true) :
    planeAccess d true off data.length data =
      (.ok [], d.setGal (fun g => putField g (off / 2048) (windowWrite d.gal off data))) := by
  unfold planeAccess
  rw [hon]
  rfl

/-- A byte of a stored plane. -/
theorem windowWrite_byte (g : Gal) (off j b : Nat) (data : List Byte) (hj : j < windowPlanes off data.length) (hb : b < 2048) :
    (nth p0 (windowWrite g off data) j >>> (8 * b)).setWidth 8 =
      if off ≤ 2048 * (off / 2048 + j) + b ∧ 2048 * (off / 2048 + j) + b < off + data.length then
        nth 0#8 data (2048 * (off / 2048 + j) + b - off)
      else g.windowByte (2048 * (off / 2048 + j) + b) := by
  have hroom : off % 2048 + data.length ≤ 2048 * windowPlanes off data.length := by unfold windowPlanes; omega
  unfold windowWrite
  dsimp only
  rw [planeBytes_eq_map, written_eq_map _ _ _ _ hroom]
  have hnth (bs : Nat → List Byte) : nth p0 ((List.range (windowPlanes off data.length)).map
      (fun k => (BitVec.ofNat 16384 (leNat (bs k)) : Plane))) j = BitVec.ofNat 16384 (leNat (bs j)) := by
    simp [nth, hj]
  rw [hnth, planeByte_ofNat _ _ hb]
  have hm : 2048 * j + b < 2048 * windowPlanes off data.length := by omega
  have hcond : (off % 2048 ≤ 2048 * j + b ∧ 2048 * j + b < off % 2048 + data.length) ↔
      (off ≤ 2048 * (off / 2048 + j) + b ∧ 2048 * (off / 2048 + j) + b < off + data.length) := by omega
  simp only [nth, List.getElem?_take, hb, if_true, List.getElem?_drop, List.getElem?_map, List.getElem?_range hm,
    Option.map_some, Option.getD_some, hcond]
  split
  · next h => rw [show 2048 * j + b - off % 2048 = 2048 * (off / 2048 + j) + b - off by omega]
  · rw [show 2048 * (off / 2048) + (2048 * j + b) = 2048 * (off / 2048 + j) + b by omega]

theorem windowWrite_length (g : Gal) (off : Nat) (data : List Byte) :
    (windowWrite g off data).length = windowPlanes off data.length := by
  simp [windowWrite]

/-- A write of the window changes its bytes, and no other (R26). -/
theorem windowByte_windowWrite (g : Gal) (off o : Nat) (data : List Byte) :
    (putField g (off / 2048) (windowWrite g off data)).windowByte o =
      if off ≤ o ∧ o < off + data.length then nth 0#8 data (o - off) else g.windowByte o := by
  rw [Gal.windowByte, plane_putField, windowWrite_length]
  by_cases hin : off / 2048 ≤ o / 2048 ∧ o / 2048 < off / 2048 + windowPlanes off data.length
  · have ho : 2048 * (off / 2048 + (o / 2048 - off / 2048)) + o % 2048 = o := by omega
    rw [if_pos hin, windowWrite_byte g off _ _ data (by omega) (by omega), ho]
  · have hout : ¬ (off ≤ o ∧ o < off + data.length) := by
      unfold windowPlanes at hin
      omega
    rw [if_neg hin, if_neg hout, Gal.windowByte]

/-- The clause of a read of the window. -/
theorem planeWindow_reads (addr len : Nat) (data : List Byte) (s : State)
    (h : 0x31000000 ≤ addr ∧ 0 < len ∧ addr + len ≤ 0x31800000) (hfaults : s.dev.faults = []) (hon : s.dev.galOn = true) :
    Completes (.planeWindowAccess false addr len data) s (fun t =>
      t = { s with dev := { s.dev with resp := t.dev.resp } } ∧
      t.dev.resp = .ok ((List.range len).map (fun k => s.dev.gal.windowByte (addr - 0x31000000 + k)))) := by
  refine ⟨_, exec_planeWindowAccess false addr len _ data s h rfl hfaults, ?_⟩
  generalize addr - 0x31000000 = off
  rw [planeAccess_read _ _ _ _ hon]
  exact ⟨rfl, rfl⟩

/-- A write of the window changes bay memory alone. -/
theorem putField_only (s : State) (i : Nat) (vals : List Plane) :
    ({ s with dev := { s.dev.setGal (fun g => putField g i vals) with resp := .ok [] } } : State) =
      { s with dev := { s.dev with
        resp := .ok [], gal := { s.dev.gal with mem := (putField s.dev.gal i vals).mem } } } := rfl

theorem exec_planeWindow_write (addr off : Nat) (data : List Byte) (s : State)
    (h : 0x31000000 ≤ addr ∧ 0 < data.length ∧ addr + data.length ≤ 0x31800000) (hoff : addr - 0x31000000 = off)
    (hfaults : s.dev.faults = []) (hon : s.dev.galOn = true) :
    exec (.planeWindowAccess true addr data.length data) s = .next { s with dev :=
      { s.dev.setGal (fun g => putField g (off / 2048) (windowWrite s.dev.gal off data)) with resp := .ok [] } } := by
  rw [exec_planeWindowAccess true addr data.length off data s h hoff hfaults, planeAccess_write _ _ _ hon]

/-- The clause of a write of the window. -/
theorem planeWindow_writes (addr off : Nat) (data : List Byte) (s : State)
    (h : 0x31000000 ≤ addr ∧ 0 < data.length ∧ addr + data.length ≤ 0x31800000) (hoff : addr - 0x31000000 = off)
    (hfaults : s.dev.faults = []) (hon : s.dev.galOn = true) :
    Completes (.planeWindowAccess true addr data.length data) s (fun t =>
      t = { s with dev := { s.dev with resp := .ok [], gal := { s.dev.gal with mem := t.dev.gal.mem } } } ∧
      ∀ o, t.dev.gal.windowByte o = if off ≤ o ∧ o < off + data.length then
        nth 0#8 data (o - off) else s.dev.gal.windowByte o) :=
  ⟨_, exec_planeWindow_write addr off data s h hoff hfaults hon, putField_only s _ _,
    fun o => windowByte_windowWrite s.dev.gal off o data⟩

/-- The clause of the window while the Gallery is off (R109). -/
theorem planeWindow_offline (write : Bool) (addr len : Nat) (data : List Byte) (s : State)
    (h : 0x31000000 ≤ addr ∧ 0 < len ∧ addr + len ≤ 0x31800000) (hfaults : s.dev.faults = []) (hoff : s.dev.galOn = false) :
    exec (.planeWindowAccess write addr len data) s = .next { s with dev := { s.dev with resp := .err .offline } } := by
  have haccess (off : Nat) : planeAccess s.dev write off len data = (.err .offline, s.dev) := by
    unfold planeAccess
    rw [hoff]
    rfl
  rw [exec_planeWindowAccess write addr len _ data s h rfl hfaults, haccess]

/-- The clause of an access outside the window. -/
theorem planeWindow_decode (write : Bool) (addr len : Nat) (data : List Byte) (s : State)
    (h : addr < 0x31000000 ∨ len = 0 ∨ 0x31800000 < addr + len) (hfaults : s.dev.faults = []) :
    exec (.planeWindowAccess write addr len data) s = .next { s with dev := { s.dev with resp := .err .decode } } := by
  have hexec : exec (.planeWindowAccess write addr len data) s = fin s { s.dev with resp := .err .decode } := by
    show execPlaneWindowAccess write addr len data s = _
    rw [execPlaneWindowAccess, if_neg (by omega)]
  rw [hexec]
  exact fin_none _ _ hfaults

end Sys2Proof.Machine
end


section
/-!
The statement about the frames of the Gallery, assembled from its clauses.
-/

namespace Sys2Proof.Machine

/-- A word with a meaning is no GAL_ILLEGAL. -/
theorem galIllegal_legal (word : BitVec 64) (s : State)
    (h : (wordWork (word.toNat / 2 ^ 56) (word.extractLsb' 48 8) (word.extractLsb' 32 16) (word.extractLsb' 16 16)
      (word.extractLsb' 0 16) s.dev).illegal = false) : exec (.galIllegal word) s = .next s := by
  show execGalIllegal word s = _
  unfold execGalIllegal
  dsimp only
  rw [h, if_neg Bool.false_ne_true]

/-- The Gallery at the start of a frame, field by field (R281). -/
theorem Dev.frameBegun.gal_eq {d e : Dev} {bank : Option Nat} {takes : Prop} (h : d.frameBegun e bank takes)
    (hx : d.gal.xfers = []) (hn : d.gal.nwl = []) :
    e.gal = { d.gal with
      c := p0, a := p1, t := p0, p := p0, stack := [], loops := [], calls := [],
      s := setNth 0#32 d.gal.s 15 (w32 d.nextFrame), running := bank.isSome, fend := false, ok := false, trapped := false,
      fendPc := 0, ord := 0, startDue := false, fresh := false, lastC := d.gal.lastC - d.gal.period,
      period := d.acts GSQ_FPER.CYCLES, frameAt := max d.now (d.gal.frameAt + d.gal.period * 5 / 4),
      votes := e.gal.votes,
      pc := bank.elim 0 (fun b => d.rd (GSQ_BI_ENTRY.ENTRY b) % 16384), limit := d.limitOf bank, padHist := [],
      map := d.gal.map2.getD d.gal.map, map2 := none } := by
  have hgal := h.gal
  rw [programState_turned _ _ _ _ _ _ _ hx hn] at hgal
  rw [hgal]
  cases bank <;> rfl

/-- What a repair that copies leaves of the planes, and what one that clears (R349). -/
theorem repaired_plane (g h : Gal) (c : Nat) (copy : Bool) (hm : h.mem = (g.repaired c copy).mem) :
    (copy = true → ∀ i, h.plane i = g.plane i) ∧
    (copy = false → ∀ i k, k < 16384 → k % 128 = c → (h.plane i).getLsbD k = false) := by
  refine ⟨?_, ?_⟩ <;> rintro rfl
  · intro i
    rw [Gal.plane, hm]
    rfl
  · intro i k hk hkc
    rw [Gal.plane, hm]
    exact zeroCol_plane g c i k hk hkc

/-- A repair copies where COPY is set and its cycles fit in the frame (R349). -/
theorem copies_iff (d : Dev) : d.copies = true ↔
    d.rd GSQ_REPCTL.COPY = 1 ∧ 4160 + d.limitOf d.activeBank ≤ d.acts GSQ_FPER.CYCLES := by
  rw [Dev.copies, Bool.and_eq_true, Dev.on_iff, decide_eq_true_eq]

/-- The event of a repair names the two columns, and whether the column was cleared (R350). -/
theorem repairEvent_data (d : Dev) :
    (repairEvent d).d0 = w32 (d.rd GSQ_REPCTL.LCOL) ∧
    (d.copies = true → (repairEvent d).d1 = w32 (128 + d.rd GSQ_REPCTL.SPARE)) ∧
    (d.copies = false → (repairEvent d).d1 = w32 (128 + d.rd GSQ_REPCTL.SPARE + 256)) := by
  refine ⟨rfl, fun h => ?_, fun h => ?_⟩ <;> rw [repairEvent, h] <;> rfl

/-- Settles O55, clause by clause. -/
theorem framesStartStallAndEnd : Obligations.FramesStartStallAndEnd := by
  intro word seam miss addr len data s hquiet
  obtain ⟨hfaults, hevq, -, -⟩ := id hquiet
  refine ⟨?_, ?_, ?_, ?_, ?_, ?_, ?_, ?_, ?_⟩
  · rintro ⟨hdue, hsvc⟩ h
    exact frameStart_idle s hfaults hdue hsvc h
  · intro fcnt takes bank
    rintro ⟨hdue, hsvc⟩ hmode hdoze hstall hrunning hcleared hxfers hnwl hcomplete hupdate hgroup hfper hseamlat hanylat
    have hready : s.dev.frameReady := ⟨hmode, hdoze, hstall, hrunning, hcleared, hxfers, hnwl, hcomplete, hupdate, hgroup,
      hfper, hseamlat, hanylat⟩
    refine ⟨fun hrep => ?_, ?_⟩
    · have hbank : (s.dev.takes ∧ bank = some (s.dev.rd GSQ_SWCTL.TARGET)) ∨ (¬ s.dev.takes ∧ bank = s.dev.activeBank) := by
        by_cases htakes : s.dev.takes
        · exact .inl ⟨htakes, if_pos htakes⟩
        · exact .inr ⟨htakes, if_neg htakes⟩
      clear_value bank
      obtain ⟨t, ht, kmode, kbytes, kbegun⟩ := frameStart_completes s bank hfaults hevq hdue hsvc hready hrep hbank
      refine ⟨t, ht, kmode, kbegun.lo, kbegun.hi, kbegun.bcnt, kbegun.active, kbytes, kbegun.switch, ?_⟩
      have hgal := kbegun.gal_eq hxfers hnwl
      cases bank <;> exact hgal
    · intro c sp used copy hrep hswitch hfresh hended hpcol hslot
      obtain ⟨t, ht, kshown, ⟨v, kevq, kv⟩, kp, kmem⟩ :=
        frameStart_repairs s hfaults hevq hdue hsvc hready hrep hswitch hfresh hended hpcol hslot
      obtain ⟨hd0, hd1, hd1'⟩ := repairEvent_data s.dev
      obtain ⟨hkept, hclear⟩ := repaired_plane s.dev.gal t.dev.gal _ _ kmem
      have hcopy : s.dev.copies = true ↔ copy := copies_iff s.dev
      have hclears (h : ¬copy) : s.dev.copies = false := Bool.eq_false_iff.2 fun k => h (hcopy.1 k)
      exact ⟨t, ht, kshown.armed, kshown.map, kshown.old, kshown.spare, kshown.done, kshown.lcol, kshown.pcol, kshown.pend,
        ⟨v, kevq, congrArg Prod.fst kv, congrArg (fun e => e.2.2.1) kv, (congrArg (fun e => e.2.2.2.1) kv).trans hd0,
          fun h => (congrArg (fun e => e.2.2.2.2) kv).trans (hd1 (hcopy.2 h)),
          fun h => (congrArg (fun e => e.2.2.2.2) kv).trans (hd1' (hclears h))⟩,
        fun k hk => kp ▸ getLsbD_colPlane c k hk, fun h => hkept (hcopy.2 h),
        fun h => ⟨kshown.cleared (hclears h), hclear (hclears h)⟩⟩
  · exact galPowerUpClear_clears s hfaults
  · intro st hstall hmode hrunning hstart ⟨hdue, hsvc⟩ hw hd1 hd hdir htwin lim upTo hi hx hn hlimit hrange hpc wrote seamVal
    have hstalled : s.dev.stalled st (max s.dev.bcnt (st.start + max 1 (s.dev.acts GSQ_SEAMTO.CYCLES))) :=
      ⟨hstall, hrunning, htwin, hx, hn, hlimit, hrange⟩
    refine ⟨?_, fun hlim => ?_⟩
    · obtain ⟨t, ht, hspent, hseam, hloop, hbytes, hgal⟩ :=
        seamStallEnd_completes s seam st hfaults hdue hsvc hstart hstalled hw hdir hd1 hd
      exact ⟨t, ht, ⟨s.dev.stallCycles st, stallCycles_pos s.dev st, stallCycles_le s.dev st, hspent,
        stallCycles_loop s.dev st⟩, hseam, hloop, hbytes, hgal⟩
    · exact seamAbort_completes s miss st hquiet hdue hsvc hstart hstalled hlim hpc hw hdir hd
  · exact ⟨fun h => by rw [wordWork_undefined _ _ _ _ _ _ h]; rfl, galIllegal_stops word s hquiet, galIllegal_legal word s⟩
  · exact budgetExceeded_traps s hquiet
  · intro y hmode hrun hfend hok hxfers href hstarted hrin hlock hdue hnow hmax
    exact budgetExceeded_completes s y hfaults hmode hrun hfend hok hxfers href hstarted hrin hlock hdue hnow hmax
  · intro off hlo hpos hhi
    refine ⟨fun hon => ⟨planeWindow_reads addr len data s ⟨hlo, hpos, hhi⟩ hfaults hon, ?_⟩,
      fun hoff write => planeWindow_offline write addr len data s ⟨hlo, hpos, hhi⟩ hfaults hoff⟩
    rintro rfl
    obtain ⟨t, ht, honly, hbytes⟩ := planeWindow_writes addr off data s ⟨hlo, hpos, hhi⟩ rfl hfaults hon
    exact ⟨t, ht, honly, fun o _ => hbytes o⟩
  · intro h write
    exact planeWindow_decode write addr len data s h hfaults

end Sys2Proof.Machine
end


section
/-!
Every step takes the faults of its own cycle, and what reset leaves of the orphan flags.
-/

namespace Sys2Proof.Machine

/-! Faults of an idle cycle. -/

theorem sendSb_faults (d : Dev) (l : Nat) (m : SbMsg) : (sendSb d l m).faults = d.faults := by
  unfold sendSb
  split <;> rfl

theorem helloTick_faults (d : Dev) (l : Nat) : (helloTick d l).faults = d.faults := by
  unfold helloTick
  split
  · exact sendSb_faults _ l _
  · rfl

theorem prbsTick_faults (d : Dev) (l : Nat) : (prbsTick d l).faults = d.faults := by
  unfold prbsTick
  dsimp only
  split_ifs <;> rfl

theorem laneCycle_faults (d : Dev) (l : Nat) : (laneCycle d l).faults = d.faults := by
  have hticks : (prbsTick (helloTick d l) l).faults = d.faults := (prbsTick_faults _ l).trans (helloTick_faults d l)
  unfold laneCycle
  dsimp only
  split
  · exact hticks
  · exact hticks

/-- Time that passes raises no integrity fault. -/
theorem idleCycle_faults (d : Dev) : (idleCycle d).faults = d.faults := by
  unfold idleCycle
  dsimp only
  split
  · split
    · exact foldl_keep Dev.faults laneCycle laneCycle_faults _ _
    · rfl
  · rfl

/-- A command leaves no fault of its own cycle, whatever stood before it (R489, R168). -/
theorem exec_settled (c : Instr) (s t : State) (hs : s.settled) (h : exec c s = .next t) : t.settled := by
  obtain hnext | ⟨d, hfin⟩ := exec_ends c s
  · obtain rfl : s = t := by simpa [hnext] using h
    exact hs
  · obtain ⟨u, hu, -, hsettled⟩ := fin_next s d
    obtain rfl : u = t := by simpa [hfin, hu] using h
    exact hsettled

/-- Settles O3: a command takes its faults at its end, and an idle cycle raises none. -/
theorem everyStepTakesItsFaults : Obligations.EveryStepTakesItsFaults := by
  intro s t hs hstep
  cases hp : s.pending with
  | nil =>
    obtain rfl : { s with dev := idleCycle s.dev } = t := by simpa [step, hp] using hstep
    intro f hf
    exact hs f ((idleCycle_faults s.dev).subst (motive := (f ∈ ·)) hf)
  | cons c r =>
    rw [stepRunsFrontCommand c r s hp] at hstep
    exact exec_settled c { s with pending := r } t hs hstep

/-- Where the orphan flag of a number that names no lock would stand, BAL_STATE stands: every channel is TRIPPED after a
reset, so bit 0 of that register is 1. -/
theorem reset_orphan_of_no_lock : State.reset.dev.orphan (32 * 3068) = true := by decide

/-- Refutes O5: the statement says "no orphan flag" of every number n, not of the 64 locks; for n = 98176 the flag would
stand in BAL_STATE, which reset leaves at 0xFFFF. -/
theorem not_resetLeavesManualValues : ¬ Obligations.ResetLeavesManualValues := by
  rintro ⟨-, -, -, horphan, -⟩
  exact absurd (horphan (32 * 3068)) (by rw [reset_orphan_of_no_lock]; decide)

end Sys2Proof.Machine
end


section
/-!
What the work of the units leaves alone, part one: the traffic of the memories and the pools, the sideband, the events and the
responses. Each touches its own registers and fields only.
-/

namespace Sys2Proof.Machine

/-! Registers that traffic leaves alone. -/

/-- The registers that only a command, a mode change or a trip writes: those of SYS but SYS_INTEG, of PSV and of PIO,
VST_FWSTAT, the orphan flags and the trip states. -/
def watched (a : Nat) : Bool :=
  (a / 0x1000 == 0x40000 && a != SYS_INTEG.addr) || a / 0x1000 == 0x4000A || a / 0x1000 == 0x4000B ||
    [VST_FWSTAT.addr, NWL_ORPHAN.addr 0, NWL_ORPHAN.addr 1, BAL_STATE.addr].contains a

theorem ne_of_watched {a b : Nat} (ha : watched a = true) (hb : watched b = false) : a ≠ b := by
  rintro rfl
  exact Bool.false_ne_true (hb.symm.trans ha)

/-- The blocks that hold a watched register. -/
theorem not_watched_of_block {a : Nat}
    (h : a / 0x1000 ∉ [0x40000, 0x40003, 0x40006, 0x40009, 0x4000A, 0x4000B]) : watched a = false := by
  simp only [List.mem_cons, List.not_mem_nil, or_false, not_or] at h
  obtain ⟨h0, h3, h6, h9, hA, hB⟩ := h
  simp [watched, h0, hA, hB, VST_FWSTAT.addr, NWL_ORPHAN.addr, BAL_STATE.addr]
  omega

/-- No watched register stands in the register blocks of the ports, of the lanes or of the interrupts. -/
theorem not_watched_pend (n : Nat) (h : n < 192) : watched (ICU_PEND.addr (n / 32)) = false :=
  not_watched_of_block (by simp [ICU_PEND.addr]; omega)

/-! Accesses of the memories. -/

/-- `e` is `d` after accesses of the memories over the Corridor. -/
structure Dev.accessed (d e : Dev) : Prop where
  only : e = { d with seed := e.seed, regs := e.regs, vst := e.vst, noc := e.noc, atr := e.atr, atrKnown := e.atrKnown,
                      atrErr := e.atrErr, atrFix := e.atrFix }
  regs : ∀ a, watched a = true → e.ld a = d.ld a

theorem Dev.accessed_refl (d : Dev) : d.accessed d := ⟨rfl, fun _ _ => rfl⟩

theorem Dev.accessed.trans {d e g : Dev} (h : d.accessed e) (k : e.accessed g) : d.accessed g where
  only := by rw [k.only, h.only]
  regs := fun a ha => (k.regs a ha).trans (h.regs a ha)

/-- The later part of a chain first: it says where the earlier part ends. -/
theorem Dev.accessed.after {d e g : Dev} (k : e.accessed g) (h : d.accessed e) : d.accessed g := h.trans k

theorem Dev.accessed_put (d : Dev) (a : Nat) (v : Word) (h : watched a = false) : d.accessed (d.put a v) :=
  ⟨rfl, fun _ hb => d.put_ld_ne a _ v (ne_of_watched hb h)⟩

theorem Dev.accessed_wr (d : Dev) (f : Fld) (v : Nat) (h : watched f.addr = false) : d.accessed (d.wr f v) :=
  d.accessed_put f.addr _ h

theorem Dev.accessed_bump (d : Dev) (f : Fld) (n : Nat) (h : watched f.addr = false) : d.accessed (d.bump f n) :=
  d.accessed_put f.addr _ h

theorem tracePut_accessed (d : Dev) (e : List Word) : d.accessed (tracePut d e) := by
  have hfull (d : Dev) : d.accessed (d.wr NOC_TRSTAT.FULL 1) := d.accessed_wr _ _ (by decide)
  unfold tracePut
  dsimp only
  split_ifs
  · exact (hfull _).after ⟨rfl, fun _ _ => rfl⟩
  · exact ⟨rfl, fun _ _ => rfl⟩
  · exact ⟨rfl, fun _ _ => rfl⟩
  · exact hfull d

theorem probes_accessed (d : Dev) (q : ProbeReq) : d.accessed (probes d q) := by
  refine foldl_relates (R := Dev.accessed) Dev.accessed_refl Dev.accessed.trans _ _ d fun k hk d => ?_
  have hcount : watched (NOC_PRBCNT.addr k) = false :=
    not_watched_of_block (by simp [NOC_PRBCNT.addr]; have := List.mem_range.1 hk; omega)
  have hhit (d : Dev) (v : Nat) : d.accessed (d.wr NOC_PRBSTAT.HIT v) := d.accessed_wr _ _ (by decide)
  have hdraw (d : Dev) : d.accessed d.draw := ⟨rfl, fun _ _ => rfl⟩
  dsimp only
  split_ifs
  · exact ((d.accessed_wr _ _ hcount).trans (hhit _ _)).trans ((hdraw _).trans (tracePut_accessed _ _))
  · exact (d.accessed_wr _ _ hcount).trans (hhit _ _)
  · exact (d.accessed_wr _ _ hcount).trans ((hdraw _).trans (tracePut_accessed _ _))
  · exact d.accessed_wr _ _ hcount
  · exact d.accessed_refl

theorem decodeFail_accessed (d : Dev) (init a : Nat) : d.accessed (decodeFail d init a) := by
  have hflag : d.accessed (d.wr NOC_ERR.DECODE 1) := d.accessed_wr _ _ (by decide)
  unfold decodeFail
  dsimp only
  split
  · exact (hflag.trans (Dev.accessed_wr _ _ _ (by decide))).trans (Dev.accessed_put _ _ _ (by decide))
  · exact hflag

theorem nocIssue_accessed (d : Dev) (init : Nat) (write : Bool) (a len : Nat) (twin : Bool) (origin : Nat) :
    d.accessed (nocIssue d init write a len twin origin).2 := by
  have hp := probes_accessed d
  unfold nocIssue
  dsimp only
  split
  · split
    · exact hp _
    · exact (hp _).trans (decodeFail_accessed _ _ _)
  · exact (hp _).trans (decodeFail_accessed _ _ _)

theorem statAccess_accessed (d : Dev) (ni moved : Nat) : d.accessed (statAccess d ni moved) := ⟨rfl, fun _ _ => rfl⟩

theorem eccReads_accessed (d : Dev) (ws : List Nat) : d.accessed (eccReads d ws) := by
  refine foldl_relates (R := Dev.accessed) Dev.accessed_refl Dev.accessed.trans _ _ d fun w _ d => ?_
  split
  · exact d.accessed_refl
  · exact ((d.accessed_wr ATC_ERR.CORR _ (by decide)).trans (Dev.accessed_bump _ ATC_ECCCNT.CORR 1 (by decide))).trans
      ⟨rfl, fun _ _ => rfl⟩
  · have hflag : d.accessed ((d.wr ATC_ERR.UNC 1).bump ATC_ECCCNT.UNC 1) :=
      (d.accessed_wr _ _ (by decide)).trans (Dev.accessed_bump _ _ _ (by decide))
    dsimp only
    split
    · exact hflag.trans (Dev.accessed_put _ _ _ (by decide))
    · exact hflag

theorem meetWords_accessed (d : Dev) (ws : List Nat) : d.accessed (meetWords d ws) := by
  unfold meetWords
  split
  · refine foldl_relates (R := Dev.accessed) Dev.accessed_refl Dev.accessed.trans _ _ d fun w _ d => ?_
    unfold meetWord
    split
    · exact d.accessed_refl
    · exact ⟨rfl, fun _ _ => rfl⟩
  · exact d.accessed_refl

theorem windowReject_accessed (d : Dev) (init : Nat) (write : Bool) (a : Nat) : d.accessed (windowReject d init write a) := by
  have hflag : d.accessed (d.wr ATC_ERR.WINDOW 1) := d.accessed_wr _ _ (by decide)
  unfold windowReject
  dsimp only
  split
  · exact (hflag.trans (Dev.accessed_put _ _ _ (by decide))).trans (Dev.accessed_put _ _ _ (by decide))
  · exact hflag

theorem hostTouch_accessed (d : Dev) (init a len : Nat) : d.accessed (hostTouch d init a len) := by
  unfold hostTouch
  dsimp only
  split_ifs
  · exact d.accessed_refl
  · exact d.accessed_refl
  · exact ⟨rfl, fun _ _ => rfl⟩

/-- An access at the Atrium, once its windows have been used. -/
theorem atriumServe_accessed (d : Dev) (init : Nat) (write : Bool) (a len : Nat) (data : List Byte) :
    (useWindows d init).accessed (atriumServe d init write a len data).2 := by
  have hread (d : Dev) (ws vs : List Nat) : d.accessed (eccReads (meetWords d ws) vs) :=
    (meetWords_accessed d ws).trans (eccReads_accessed _ vs)
  have hwrite (d : Dev) (t : List Host.Cell) (errs : Table Nat) (fix : List Nat) :
      d.accessed (hostTouch { d with atr := t, atrErr := errs, atrFix := fix } init a len) :=
    (hostTouch_accessed _ _ _ _).after ⟨rfl, fun _ _ => rfl⟩
  unfold atriumServe
  dsimp only
  generalize useWindows d init = e
  split_ifs
  · exact e.accessed_refl
  · exact windowReject_accessed _ _ _ _
  · exact e.accessed_refl
  · exact hread _ _ _
  · exact (hread _ _ _).trans (hwrite _ _ _ _)
  · exact hread _ _ _
  · exact hread _ _ _

/-- An access of Wailith uses no window, so it raises no fault (R425). -/
theorem atriumAccess_accessed (d : Dev) (write : Bool) (a len : Nat) (data : List Byte) :
    d.accessed (atriumAccess d 0 write a len data).2 := by
  have hissue := nocIssue_accessed d 0 write a len false 0
  unfold atriumAccess atriumAccessFor
  generalize nocIssue d 0 write a len false 0 = r at hissue
  obtain ⟨t, e⟩ := r
  have hserve : e.accessed (atriumServe e 0 write a len data).2 := atriumServe_accessed e 0 write a len data
  split
  · next h =>
    obtain ⟨rfl, rfl⟩ := Prod.mk.inj h
    exact (hissue.trans hserve).trans (statAccess_accessed _ _ _)
  · next h =>
    obtain ⟨rfl, rfl⟩ := Prod.mk.inj h
    exact hissue.trans (statAccess_accessed _ _ _)
  · next h =>
    obtain ⟨rfl, rfl⟩ := Prod.mk.inj h
    exact hissue

/-! The work of the units that leaves locks, trips and Wailith alone. -/

/-- `e` is `d` after accesses, events, faults, responses and work of the pools, the ports and the sideband. -/
structure Dev.tended (d e : Dev) : Prop where
  only : e = { d with seed := e.seed, regs := e.regs, svc := e.svc, evq := e.evq, evGap := e.evGap, faults := e.faults,
                      vst := e.vst, ports := e.ports, bpm := e.bpm, lanes := e.lanes, grp := e.grp, noc := e.noc,
                      atr := e.atr, atrKnown := e.atrKnown, atrErr := e.atrErr, atrFix := e.atrFix, tlb := e.tlb }
  regs : ∀ a, watched a = true → e.ld a = d.ld a

theorem Dev.tended_refl (d : Dev) : d.tended d := ⟨rfl, fun _ _ => rfl⟩

theorem Dev.tended.trans {d e g : Dev} (h : d.tended e) (k : e.tended g) : d.tended g where
  only := by rw [k.only, h.only]
  regs := fun a ha => (k.regs a ha).trans (h.regs a ha)

theorem Dev.tended.after {d e g : Dev} (k : e.tended g) (h : d.tended e) : d.tended g := h.trans k

theorem Dev.accessed.tended {d e : Dev} (h : d.accessed e) : d.tended e where
  only := by rw [h.only]
  regs := h.regs

theorem Dev.tended_put (d : Dev) (a : Nat) (v : Word) (h : watched a = false) : d.tended (d.put a v) :=
  (d.accessed_put a v h).tended

theorem Dev.tended_wr (d : Dev) (f : Fld) (v : Nat) (h : watched f.addr = false) : d.tended (d.wr f v) :=
  d.tended_put f.addr _ h

theorem Dev.tended_bump (d : Dev) (f : Fld) (n : Nat) (h : watched f.addr = false) : d.tended (d.bump f n) :=
  d.tended_put f.addr _ h

theorem Dev.tended_pulse (d : Dev) (n : Nat) (h : n < 192) : d.tended (d.pulse n) := by
  unfold Dev.pulse
  split
  · exact d.tended_refl
  · exact d.tended_put _ _ (not_watched_pend n h)

/-- Registers that lie in no watched block return to their reset values. -/
theorem Dev.tended_resetRegs (d : Dev) (p : Nat → Bool) (h : ∀ a, watched a = true → p a = false) :
    d.tended (d.resetRegs p) where
  only := rfl
  regs := fun a ha => by
    unfold Dev.resetRegs Dev.ld
    dsimp only
    rw [tget_tdrop, h a ha]
    rfl

theorem foldl_tended {γ : Type} (f : Dev → γ → Dev) (l : List γ) (d : Dev) (h : ∀ x ∈ l, ∀ d : Dev, d.tended (f d x)) :
    d.tended (l.foldl f d) := foldl_relates Dev.tended_refl Dev.tended.trans f l d h

/-- A fold that carries a device along with other things. -/
theorem foldl_carried {γ δ : Type} {R : Dev → Dev → Prop} (hrefl : ∀ d, R d d) (htrans : ∀ {a b c}, R a b → R b c → R a c)
    (p : δ → Dev) (f : δ → γ → δ) (h : ∀ a x, R (p a) (p (f a x))) : ∀ (l : List γ) (a : δ), R (p a) (p (l.foldl f a))
  | [], a => hrefl (p a)
  | x :: r, a => htrans (h a x) (foldl_carried hrefl @htrans p f h r (f a x))

/-! Events, faults and responses. -/

theorem evqAppend_tended (d : Dev) (b c : Nat) (k : Bool) (x y : Word) : d.tended (evqAppend d b c k x y) where
  only := by
    unfold evqAppend
    dsimp only
    split_ifs <;> rfl
  regs := fun a ha => evqAppend_ld_ne d b c k x y a (ne_of_watched ha (by decide)) (ne_of_watched ha (by decide))

/-- The events of a cycle reach the EVQ behind what the cycle did. -/
theorem inCycle_tended (f : Dev → Dev) (d : Dev) : (f d.cycleBegin).tended (inCycle f d) := by
  unfold inCycle
  dsimp only
  split
  · exact ⟨rfl, fun _ _ => rfl⟩
  · exact ((Dev.tended_wr _ _ _ (by decide)).trans (foldl_tended _ _ _ fun v _ d => evqAppend_tended d _ _ _ _ _)).after
      ⟨rfl, fun _ _ => rfl⟩

theorem Dev.tended_cycleBegin (d : Dev) : d.tended d.cycleBegin := ⟨rfl, fun _ _ => rfl⟩

theorem raiseFault_tended (d : Dev) (code : Nat) : d.tended (raiseFault d code) := ⟨rfl, fun _ _ => rfl⟩

theorem twinFault_tended (d : Dev) (cause a : Nat) : d.tended (twinFault d cause a) := by
  have hflag (v : Nat) : d.tended (d.wr TWN_ERR.CAUSE v) := d.tended_wr _ _ (by decide)
  have hcount (d : Dev) : d.tended ((d.bump TWN_CNT.COUNT 1).pulse 78) :=
    (d.tended_bump _ _ (by decide)).trans (Dev.tended_pulse _ 78 (by decide))
  unfold twinFault
  dsimp only
  refine Dev.tended.trans ?_ (Dev.tended.trans (hcount _) ⟨rfl, fun _ _ => rfl⟩)
  split
  · exact (hflag _).trans (Dev.tended_put _ _ _ (by decide))
  · exact hflag _

theorem useTwin_tended (d : Dev) (a : Nat) : d.tended (useTwin d a) := by
  unfold useTwin
  split
  · exact d.tended_refl
  · exact twinFault_tended d 5 a

/-- A response stands in the words of its slot. -/
theorem putRsp_tended : ∀ (bs : List Byte) (d : Dev) (w : Nat), 4 * w + bs.length ≤ 0x400 → d.tended (putRsp d w bs)
  | [], d, w, _ => by unfold putRsp; exact d.tended_refl
  | [a], d, w, h => d.tended_put _ _ (not_watched_rsp w (by simp at h; omega))
  | [a, b], d, w, h => d.tended_put _ _ (not_watched_rsp w (by simp at h; omega))
  | [a, b, c], d, w, h => d.tended_put _ _ (not_watched_rsp w (by simp at h; omega))
  | a :: b :: c :: e :: r, d, w, h => by
    simp only [List.length_cons] at h
    exact (d.tended_put _ _ (not_watched_rsp w (by omega))).trans (putRsp_tended r _ (w + 1) (by omega))
where
  not_watched_rsp (w : Nat) (h : w < 0x100) : watched (VST_RSP.addr w) = false := by
    simp [watched, VST_RSP.addr, VST_FWSTAT.addr, NWL_ORPHAN.addr, BAL_STATE.addr]
    omega

theorem respond_tended (d : Dev) (slot status evseq : Nat) (pl : List Byte) (deferred : Bool) (hs : slot < 4)
    (hpl : pl.length ≤ 248) : d.tended (respond d slot status evseq pl deferred) := by
  have hput : d.tended (putRsp d (64 * slot) (d.rspHeader slot status pl.length evseq ++ pl)) :=
    putRsp_tended _ _ _ (by simp [Dev.rspHeader, leBytes]; omega)
  have hdone (d : Dev) : d.tended ((d.setSlot slot 3).bump VST_CNT.DONE 1) :=
    (Dev.tended_bump (d.setSlot slot 3) _ _ (by decide)).after ⟨rfl, fun _ _ => rfl⟩
  have hcount (d : Dev) (f : Fld) (hf : watched f.addr = false) (c : Prop) [Decidable c] :
      d.tended (if c then d.bump f 1 else d) := by
    split
    · exact d.tended_bump f 1 hf
    · exact d.tended_refl
  have htime (d : Dev) (t m : Nat) :
      d.tended (if deferred then d.wr VST_SVCTIME.LAST t else (d.wr VST_SVCTIME.LAST t).wr VST_SVCTIME.MAX m) := by
    split
    · exact d.tended_wr _ _ (by decide)
    · exact (d.tended_wr _ _ (by decide)).trans (Dev.tended_wr _ _ _ (by decide))
  exact (hput.trans (hdone _)).trans (((hcount _ VST_CNT.REJECT (by decide) (2 ≤ status)).trans
    (hcount _ VST_CNT.ABORT (by decide) (status = 0x0D))).trans (htime _ _ _))

end Sys2Proof.Machine
end


section
/-!
What the work of the units leaves alone, part two: the buffer pools, the ports and the lanes.
-/

namespace Sys2Proof.Machine

/-! The pools. -/

theorem useWindows_tended (d : Dev) (init : Nat) : d.tended (useWindows d init) := by
  unfold useWindows
  split
  · exact d.tended_refl
  · exact foldl_tended _ _ _ fun a _ d => twinFault_tended d 5 a

/-- Any access of the Atrium over the Corridor. -/
theorem atriumAccess_tended (d : Dev) (init : Nat) (write : Bool) (a len : Nat) (data : List Byte) :
    d.tended (atriumAccess d init write a len data).2 := by
  have hissue := (nocIssue_accessed d init write a len false 0).tended
  unfold atriumAccess atriumAccessFor
  generalize nocIssue d init write a len false 0 = r at hissue
  obtain ⟨t, e⟩ := r
  have hserve : e.tended (atriumServe e init write a len data).2 :=
    (useWindows_tended e init).trans (atriumServe_accessed e init write a len data).tended
  split
  · next h =>
    obtain ⟨rfl, rfl⟩ := Prod.mk.inj h
    exact (hissue.trans hserve).trans (statAccess_accessed _ _ _).tended
  · next h =>
    obtain ⟨rfl, rfl⟩ := Prod.mk.inj h
    exact hissue.trans (statAccess_accessed _ _ _).tended
  · next h =>
    obtain ⟨rfl, rfl⟩ := Prod.mk.inj h
    exact hissue

theorem Dev.tended_setPool (d : Dev) (p : Nat) (x : Pool) : d.tended (d.setPool p x) := ⟨rfl, fun _ _ => rfl⟩

theorem Dev.tended_setOwner (d : Dev) (key o : Nat) : d.tended (d.setOwner key o) := ⟨rfl, fun _ _ => rfl⟩

theorem bpmCapture_tended (d : Dev) (cause addr pool target req : Nat) :
    d.tended (bpmCapture d cause addr pool target req) := by
  have hflag (v : Nat) : d.tended (d.wr BPM_FAULT.CAUSE v) := d.tended_wr _ _ (by decide)
  unfold bpmCapture
  dsimp only
  split
  · exact ((hflag _).trans (Dev.tended_put _ _ _ (by decide))).trans (Dev.tended_put _ _ _ (by decide))
  · exact hflag _

theorem bpmReject_tended (d : Dev) (cause addr pool target req : Nat) : d.tended (bpmReject d cause addr pool target req) :=
  (bpmCapture_tended d _ _ _ _ _).trans (Dev.tended_bump _ _ _ (by decide))

theorem faultPool_tended (d : Dev) (p : Nat) : d.tended (faultPool d p) := d.tended_wr _ _ (by decide)

theorem ringFail_tended (d : Dev) (p addr : Nat) : d.tended (ringFail d p addr) :=
  ((bpmCapture_tended d _ _ _ _ _).trans (faultPool_tended _ p)).trans (raiseFault_tended _ _)

theorem ringLost_tended (d : Dev) (p key : Nat) : d.tended (ringLost d p key) := by
  unfold ringLost
  dsimp only
  split
  · exact d.tended_setPool _ _
  · exact d.tended_refl

theorem readOwner_tended (d : Dev) (p key : Nat) : d.tended (readOwner d p key) := by
  have hlost (e : Dev) : e.tended (raiseFault (faultPool (e.setOwner key lost) p) 0x30) :=
    ((e.tended_setOwner key lost).trans (faultPool_tended _ p)).trans (raiseFault_tended _ _)
  unfold readOwner
  split
  · exact (hlost _).after ((ringLost_tended _ p key).after ⟨rfl, fun _ _ => rfl⟩)
  · exact d.tended_refl

theorem ringWrite_tended (d : Dev) (p k : Nat) (xs : List Nat) : d.tended (ringWrite d p k xs).2 := by
  refine foldl_carried Dev.tended_refl Dev.tended.trans (δ := Option Nat × Dev × List Nat) (fun x => x.2.1) _
    (fun x s => ?_) _ (none, d, xs)
  obtain ⟨o, e, r⟩ := x
  cases o with
  | some a => exact e.tended_refl
  | none =>
    have haccess := atriumAccess_tended e 5 true (e.poolRing p + 4 * s.1) (4 * s.2)
      ((r.take s.2).flatMap (fun x => leBytes 4 x))
    dsimp only
    split
    · next h => rw [h] at haccess; exact haccess
    · next h => rw [h] at haccess; exact haccess

theorem writeBack8_tended (d : Dev) (p : Nat) : d.tended (writeBack8 d p) := by
  unfold writeBack8
  dsimp only
  generalize pickOut 8 d.seed (d.pool p).cache = picked
  obtain ⟨m, s⟩ := picked
  have hring (e : Dev) (k : Nat) : e.tended (ringWrite e p k m).2 := ringWrite_tended e p k m
  dsimp only
  split
  · next h => exact (((congrArg Prod.snd h ▸ hring _ _ :)).after ⟨rfl, fun _ _ => rfl⟩).trans (Dev.tended_setPool _ _ _)
  · next h => exact (((congrArg Prod.snd h ▸ hring _ _ :)).after ⟨rfl, fun _ _ => rfl⟩).trans (ringFail_tended _ _ _)

theorem freeBuf_tended (d : Dev) (p i : Nat) : d.tended (freeBuf d p i) := by
  unfold freeBuf
  dsimp only
  have hback (e : Dev) (c : Bool) : e.tended (if c then writeBack8 e p else e) := by
    split
    · exact writeBack8_tended e p
    · exact e.tended_refl
  have hcache (e : Dev) : e.tended (if 32 ≤ (e.pool p).cache.length then e else
      e.setPool p { e.pool p with cache := (e.pool p).cache ++ [e.poolBase p + i * bufSize p] }) := by
    split
    · exact e.tended_refl
    · exact e.tended_setPool _ _
  exact (hcache _).after ((hback _ _).after (d.tended_setOwner _ _))

theorem reclaimOwner_tended (d : Dev) (o : Nat) : d.tended (reclaimOwner d o) := by
  unfold reclaimOwner
  split
  · exact d.tended_refl
  · refine foldl_tended _ _ _ fun x _ e => ?_
    dsimp only
    split
    · exact readOwner_tended e _ _
    · exact (readOwner_tended e _ _).trans (freeBuf_tended _ _ _)

theorem checkBuf_tended (d : Dev) (o a : Nat) (chain : Bool) (give : Option Nat) :
    d.tended (checkBuf d o a chain give).2 := by
  unfold checkBuf
  split
  · exact d.tended_refl
  · next p _ =>
    have hread := readOwner_tended d p (bufKey p ((a - d.poolBase p) / bufSize p))
    dsimp only
    split_ifs
    · exact d.tended_refl
    · exact d.tended_refl
    all_goals exact hread

theorem walkChain_tended : ∀ (n : Nat) (d : Dev) (o a : Nat) (give : Option Nat) (done : List (Nat × Nat)),
    d.tended (walkChain n d o a give done).2
  | 0, d, _, _, _, _ => d.tended_refl
  | n + 1, d, o, a, give, done => by
    have hcheck := checkBuf_tended d o a true give
    unfold walkChain
    generalize checkBuf d o a true give = c at hcheck
    obtain ⟨c | k, e⟩ := c
    · exact hcheck
    · have haccess := atriumAccess_tended e 5 false (a + 28) 4 []
      dsimp only
      generalize atriumAccess e 5 false (a + 28) 4 [] = r at haccess
      obtain ⟨bs | c, g⟩ := r
      · dsimp only
        split_ifs
        · exact hcheck.trans haccess
        · exact hcheck.trans haccess
        · exact (hcheck.trans haccess).trans (walkChain_tended n g o _ give _)
      · exact hcheck.trans haccess

/-- The buffers of a move become FREE, or go to their new owner. -/
theorem moveAll_tended (give : Option Nat) (d : Dev) (ks : List (Nat × Nat)) :
    d.tended (ks.foldl (fun d k => match give with
      | some t => d.setOwner (bufKey k.1 k.2) t
      | none => freeBuf d k.1 k.2) d) :=
  foldl_tended _ _ _ fun _ _ e => match give with
    | some t => e.tended_setOwner _ t
    | none => freeBuf_tended e _ _

theorem bpmMove_tended (d : Dev) (own : Option Nat) (data : Word) (give : Option Nat) :
    d.tended (bpmMove d own data give).2 := by
  unfold bpmMove
  split
  · exact d.tended_refl
  · cases own with
    | none => exact bpmReject_tended d _ _ _ _ _
    | some o =>
      have hwalk := walkChain_tended 256 d o (fld data 31 5 * 32) give []
      have hcheck := checkBuf_tended d o (fld data 31 5 * 32) false give
      by_cases hchain : data.getLsbD 0 = true
      · simp only [hchain, if_true]
        generalize walkChain 256 d o (fld data 31 5 * 32) give [] = r at hwalk
        obtain ⟨f | ks, e⟩ := r
        · exact hwalk.trans (bpmReject_tended _ _ _ _ _ _)
        · exact hwalk.trans (moveAll_tended give e ks)
      · simp only [hchain]
        generalize checkBuf d o (fld data 31 5 * 32) false give = r at hcheck
        obtain ⟨f | k, e⟩ := r
        · exact hcheck.trans (bpmReject_tended _ _ _ _ _ _)
        · exact hcheck.trans (moveAll_tended give e [k])

end Sys2Proof.Machine
end


section
/-!
What the work of the units leaves alone, part three: port banks that go out of service, and the lanes and their group.
-/

namespace Sys2Proof.Machine

/-- No watched register stands above PIO. -/
theorem not_watched_of_le {a : Nat} (h : 0x4000C000 ≤ a) : watched a = false :=
  not_watched_of_block (by simp only [List.mem_cons, List.not_mem_nil, or_false, not_or]; omega)

theorem watched_lt {a : Nat} (h : watched a = true) : a < 0x4000C000 := by
  by_contra hle
  exact Bool.false_ne_true ((not_watched_of_le (Nat.le_of_not_lt hle)).symm.trans h)

/-! Port banks. -/

theorem Dev.tended_setPort (d : Dev) (n : Nat) (x : Port) : d.tended (d.setPort n x) := ⟨rfl, fun _ _ => rfl⟩

theorem Dev.tended_setSvc (d : Dev) (u : UnitId) (x : Svc) : d.tended (d.setSvc u x) := ⟨rfl, fun _ _ => rfl⟩

theorem freeChain_tended (d : Dev) (word : Word) : d.tended (freeChain d word) := by
  unfold freeChain
  dsimp only
  split
  · exact d.tended_refl
  · split
    · exact d.tended_refl
    · exact bpmMove_tended d _ _ _

theorem freePort_tended (d : Dev) (n : Nat) : d.tended (freePort d n) :=
  ((foldl_tended freeChain _ _ fun w _ e => freeChain_tended e w).trans
    (foldl_tended _ _ _ fun _ _ e => bpmMove_tended e _ _ _)).trans (reclaimOwner_tended _ _)

theorem bankBlk_tended (d : Dev) (b : Nat) : d.tended (bankBlk d b) := by
  refine (d.tended_resetRegs _ fun a ha => ?_).trans (foldl_tended _ _ _ fun n _ e => e.tended_setPort n _)
  have := watched_lt ha
  exact beq_false_of_ne (by omega)

theorem bankOut_tended (d : Dev) (b : Nat) : d.tended (bankOut d b) :=
  (((foldl_tended freePort _ _ fun n _ e => freePort_tended e n).trans (bankBlk_tended _ b)).trans
    (Dev.tended_setSvc _ _ _)).trans
    (Dev.tended_wr _ _ _ (not_watched_of_le (by simp [PBK_BCAUSE.DRAINED, PBK_BCAUSE.addr]; omega)))

theorem clearLoops_tended (d : Dev) : d.tended (clearLoops d) := by
  have hctrl (e : Dev) (l : Nat) (f : Nat → Fld) (v : Nat) (hf : (f l).addr = CNC_CTRL.addr l) : e.tended (e.wr (f l) v) :=
    e.tended_wr _ _ (not_watched_of_le (by rw [hf, CNC_CTRL.addr]; omega))
  refine Dev.tended.trans (foldl_tended _ _ _ fun n _ e => ?_) (foldl_tended _ _ _ fun l _ e => ?_)
  · dsimp only
    split
    · exact (e.tended_wr _ _ (not_watched_of_le (by simp [PBK_LOOP.DEPTH, PBK_LOOP.addr]; omega))).trans
        (Dev.tended_setPort _ _ _)
    · exact e.tended_refl
  · split
    · exact ((hctrl e l CNC_CTRL.LOOP 0 rfl).trans (hctrl _ l CNC_CTRL.FARLOOP 0 rfl)).trans (hctrl _ l CNC_CTRL.PRBS 0 rfl)
    · exact e.tended_refl

/-! The sideband. -/

theorem sendSb_tended (d : Dev) (l : Nat) (m : SbMsg) : d.tended (sendSb d l m) := by
  unfold sendSb
  dsimp only
  split
  · exact (Dev.tended_bump _ _ _ (not_watched_of_le (by simp [CNC_SBCNT.VOTETX, CNC_SBCNT.addr]; omega))).after
      ⟨rfl, fun _ _ => rfl⟩
  · exact ⟨rfl, fun _ _ => rfl⟩

theorem floodSb_tended (d : Dev) (skip : Option Nat) (m : SbMsg) : d.tended (floodSb d skip m) := by
  refine foldl_tended _ _ _ fun l _ e => ?_
  split
  · exact sendSb_tended e l m
  · exact e.tended_refl

theorem sendLinkstate_tended (d : Dev) : d.tended (sendLinkstate d) := (floodSb_tended _ _ _).after ⟨rfl, fun _ _ => rfl⟩

theorem groupError_tended (d : Dev) (f : Fld) (h : watched f.addr = false) : d.tended (groupError d f) :=
  (d.tended_wr f 1 h).trans (Dev.tended_pulse _ 60 (by decide))

theorem raGone_tended (d : Dev) (p : Nat) : d.tended (raGone d p) := by
  unfold raGone
  dsimp only
  split
  · exact (groupError_tended _ _ (by decide)).after (Dev.tended.after ⟨rfl, fun _ _ => rfl⟩
      ((d.tended_wr CNC_RARES.RES 4 (by decide)).trans (Dev.tended_wr _ CNC_RACTL.GO 0 (by decide))))
  · exact d.tended_refl

theorem pendUpdate_tended (d : Dev) (at_ lat anylat : Nat) (join : Bool) : d.tended (pendUpdate d at_ lat anylat join) :=
  (Dev.tended_wr _ CNC_GUPD.PENDING _ (by decide)).after ((Dev.tended_wr _ CNC_GUPD.ANYLAT _ (by decide)).after
    ((Dev.tended_wr _ CNC_GUPD.LAT _ (by decide)).after ((Dev.tended_put _ CNC_GUPDAT.addr _ (by decide)).after
      ⟨rfl, fun _ _ => rfl⟩)))

theorem sendUpdate_tended (d : Dev) (lat anylat : Nat) (join : Bool) : d.tended (sendUpdate d lat anylat join) := by
  refine ((pendUpdate_tended d _ lat anylat join).trans (floodSb_tended _ _ _)).trans (foldl_tended _ _ _ fun l _ e => ?_)
  split
  · exact sendSb_tended e l _
  · exact e.tended_refl

theorem maxPinned_tended (d : Dev) (ok : Nat → Bool) : d.tended (d.maxPinned ok).2 := by
  unfold Dev.maxPinned
  dsimp only
  split
  · exact ⟨rfl, fun _ _ => rfl⟩
  · exact d.tended_refl

theorem groupLatencies_tended (d : Dev) : d.tended d.groupLatencies.2 := maxPinned_tended d _

theorem leadUpdate_tended (d : Dev) : d.tended (leadUpdate d) := by
  have hlat := groupLatencies_tended d
  unfold leadUpdate
  split
  · dsimp only
    split
    · exact (hlat.trans (sendUpdate_tended _ _ _ _)).trans (groupError_tended _ _ (by decide))
    · exact hlat.trans (sendUpdate_tended _ _ _ _)
  · exact d.tended_refl

theorem dropUpdate_tended (d : Dev) : d.tended (dropUpdate d) := by
  have hdrop : d.tended { d.wr CNC_GUPD.PENDING 0 with grp := { d.grp with updJoin := false } } :=
    Dev.tended.after ⟨rfl, fun _ _ => rfl⟩ (d.tended_wr CNC_GUPD.PENDING 0 (by decide))
  unfold dropUpdate
  dsimp only
  split
  · exact hdrop
  · exact (leadUpdate_tended _).after hdrop

theorem withdrawUpdate_tended (d : Dev) : d.tended (withdrawUpdate d) := by
  unfold withdrawUpdate
  split
  · exact (floodSb_tended d _ _).trans (dropUpdate_tended _)
  · exact d.tended_refl

theorem forcedOut_tended (d : Dev) (u : UnitId) (block cause : Nat) : d.tended (forcedOut d u block cause) :=
  (evqAppend_tended _ _ _ _ _ _).after (d.tended_setSvc u _)

theorem laneBlk_tended (d : Dev) (l : Nat) : d.tended (laneBlk d l) := by
  refine d.tended_resetRegs _ fun a ha => ?_
  have := watched_lt ha
  rw [decide_eq_false (by omega), Bool.false_and]

end Sys2Proof.Machine
end


section
/-!
What the work of the units leaves alone, part four: the release of locks, trips, faults, and lanes that go down.
-/

namespace Sys2Proof.Machine

section
variable {d e : Dev} (h : d.tended e)
include h

theorem Dev.tended.rd (f : Fld) (hf : watched f.addr = true) : e.rd f = d.rd f := by
  rw [Dev.rd, h.regs _ hf, Dev.rd]

theorem Dev.tended.mode : e.mode = d.mode := by rw [h.only]

theorem Dev.tended.prev : e.prev = d.prev := by rw [h.only]

theorem Dev.tended.wl : e.wl = d.wl := by rw [h.only]

theorem Dev.tended.log : e.log = d.log := by rw [h.only]

theorem Dev.tended.holder (n : Nat) : e.holder n = d.holder n := by rw [h.only]; rfl

end

/-! Locks. -/

/-- The orphan flag of a lock is a bit of its register. -/
theorem Dev.orphan_eq (d : Dev) (n : Nat) : d.orphan n = (d.ld (NWL_ORPHAN.addr (n / 32))).getLsbD (n % 32) := by
  simp [Dev.orphan, Dev.rd, fld, NWL_ORPHAN.ORPHAN, BitVec.getLsbD, Nat.mod_eq_of_lt (BitVec.isLt _)]

theorem watched_orphan (n : Nat) (hn : n < 64) : watched (NWL_ORPHAN.addr (n / 32)) = true := by
  have : n / 32 = 0 ∨ n / 32 = 1 := by omega
  rcases this with h | h <;> rw [h] <;> decide

theorem Dev.tended.orphan {d e : Dev} (h : d.tended e) (n : Nat) (hn : n < 64) : e.orphan n = d.orphan n := by
  rw [Dev.orphan_eq, Dev.orphan_eq, h.regs _ (watched_orphan n hn)]

/-- The locks of a mask are free. -/
def Dev.dropLocks (d : Dev) (mask : Nat) : Dev := { d with holders := tdrop (fun n => mask.testBit n) d.holders }

/-- The orphan flags of a mask are set. -/
def Dev.markOrphans (d : Dev) (mask : Nat) : Dev :=
  let d := d.put (NWL_ORPHAN.addr 0) (d.ld (NWL_ORPHAN.addr 0) ||| w32 mask)
  d.put (NWL_ORPHAN.addr 1) (d.ld (NWL_ORPHAN.addr 1) ||| w32 (mask / 2 ^ 32))

theorem Dev.dropLocks_holder (d : Dev) (mask n : Nat) :
    (d.dropLocks mask).holder n = if mask.testBit n then 0 else d.holder n := tget_tdrop _ _ _ _

theorem Dev.markOrphans_orphan (d : Dev) (mask n : Nat) (hn : n < 64) :
    (d.markOrphans mask).orphan n = (d.orphan n || mask.testBit n) := by
  have hlt : n % 32 < 32 := Nat.mod_lt _ (by decide)
  rw [Dev.orphan_eq, Dev.orphan_eq, Dev.markOrphans]
  rcases (by omega : n / 32 = 0 ∨ n / 32 = 1) with hk | hk
  · rw [hk, Dev.put_ld_ne _ _ _ _ (by decide), Dev.put_ld, BitVec.getLsbD_or, w32, BitVec.getLsbD_ofNat,
      show n % 32 = n by omega]
    simp [show n < 32 by omega]
  · rw [hk, Dev.put_ld, Dev.put_ld_ne _ _ _ _ (by decide), BitVec.getLsbD_or, w32,
      BitVec.getLsbD_ofNat, Nat.testBit_div_two_pow, show n % 32 + 32 = n by omega]
    simp [hlt]

/-- One orphaning step: the locks become free, their flags are set, and an event tells so (R174). -/
theorem orphanStep_eq (d : Dev) (mask code : Nat) (h : mask ≠ 0) :
    ((d.dropLocks mask).markOrphans mask).tended (orphanStep d mask code) := by
  have hflag (e : Dev) (n : Nat) : e.tended ((e.wr NWL_ERR.ORPH 1).bump NWL_CNT.ORPHREL n) :=
    (e.tended_wr _ _ (by decide)).trans (Dev.tended_bump _ _ _ (by decide))
  have heq : orphanStep d mask code = evqAppend ((((d.dropLocks mask).markOrphans mask).wr NWL_ERR.ORPH 1).bump
      NWL_CNT.ORPHREL (bitsOf 64 mask).length) 0x06 code true (w32 mask) (w32 (mask / 2 ^ 32)) := by
    rw [orphanStep, if_neg h]
    rfl
  rw [heq]
  exact (hflag _ _).trans (evqAppend_tended _ _ _ _ _ _)

theorem orphanStep_holder (d : Dev) (mask code n : Nat) :
    (orphanStep d mask code).holder n = if mask.testBit n then 0 else d.holder n := by
  by_cases h : mask = 0
  · simp [orphanStep, h]
  · rw [(orphanStep_eq d mask code h).holder, ← Dev.dropLocks_holder]
    rfl

theorem orphanStep_orphan (d : Dev) (mask code n : Nat) (hn : n < 64) :
    (orphanStep d mask code).orphan n = (d.orphan n || mask.testBit n) := by
  by_cases h : mask = 0
  · simp [orphanStep, h]
  · rw [(orphanStep_eq d mask code h).orphan n hn, Dev.markOrphans_orphan _ _ _ hn]
    rfl

/-- The locks of a holder are free after its release, with their orphan flags set (R174). -/
theorem releaseHolder_frees (d : Dev) (id n : Nat) (hid : id ≠ 0) (hn : n < 64) (h : d.holder n = id) :
    (releaseHolder d id).holder n = 0 ∧ (releaseHolder d id).orphan n = true := by
  have hbit : (d.heldMask id).testBit n = true := by simp [Dev.heldMask, testBit_maskFrom, hn, h, hid]
  rw [releaseHolder, orphanStep_holder, orphanStep_orphan _ _ _ _ hn, hbit]
  simp

/-! The work of the units, with locks, trips, LIMP causes and Wailith's bookkeeping. -/

/-- Watched registers that the work of the units leaves as they are. -/
def steady (a : Nat) : Bool :=
  watched a && !([SYS_LIMP.addr, NWL_ORPHAN.addr 0, NWL_ORPHAN.addr 1, BAL_STATE.addr].contains a)

theorem watched_of_steady {a : Nat} (h : steady a = true) : watched a = true := by
  rw [steady, Bool.and_eq_true] at h
  exact h.1

theorem ne_of_steady {a b : Nat} (ha : steady a = true) (hb : steady b = false) : a ≠ b := by
  rintro rfl
  exact Bool.false_ne_true (hb.symm.trans ha)

/-- `e` is `d` after work of the units within its mode: a free lock stays free, an orphan flag set, a channel TRIPPED and a
LIMP cause recorded. -/
structure Dev.workedOn (d e : Dev) : Prop where
  only : e = { d with seed := e.seed, regs := e.regs, svc := e.svc, evq := e.evq, evGap := e.evGap, faults := e.faults,
                      holders := e.holders, vst := e.vst, wl := e.wl, ports := e.ports, bpm := e.bpm, lanes := e.lanes,
                      grp := e.grp, noc := e.noc, atr := e.atr, atrKnown := e.atrKnown, atrErr := e.atrErr,
                      atrFix := e.atrFix, tlb := e.tlb, dge := e.dge, bal := e.bal }
  wl : e.wl.imgLen = d.wl.imgLen ∧ e.wl.logIndex = d.wl.logIndex
  keys : e.dge.keys = d.dge.keys
  regs : ∀ a, steady a = true → e.ld a = d.ld a
  limp : e.rd SYS_LIMP.REASON = d.rd SYS_LIMP.REASON ∧ e.rd SYS_LIMP.DETAIL = d.rd SYS_LIMP.DETAIL
  freed : ∀ n, d.holder n = 0 → e.holder n = 0
  orphan : ∀ n, n < 64 → d.orphan n = true → e.orphan n = true
  tripped : ∀ n, (d.rd BAL_STATE.TRIPPED).testBit n = true → (e.rd BAL_STATE.TRIPPED).testBit n = true

theorem Dev.workedOn_refl (d : Dev) : d.workedOn d :=
  ⟨rfl, ⟨rfl, rfl⟩, rfl, fun _ _ => rfl, ⟨rfl, rfl⟩, fun _ h => h, fun _ _ h => h, fun _ h => h⟩

theorem Dev.workedOn.trans {d e g : Dev} (h : d.workedOn e) (k : e.workedOn g) : d.workedOn g where
  only := by rw [k.only, h.only]
  wl := ⟨k.wl.1.trans h.wl.1, k.wl.2.trans h.wl.2⟩
  keys := k.keys.trans h.keys
  regs := fun a ha => (k.regs a ha).trans (h.regs a ha)
  limp := ⟨k.limp.1.trans h.limp.1, k.limp.2.trans h.limp.2⟩
  freed := fun n hn => k.freed n (h.freed n hn)
  orphan := fun n hn ho => k.orphan n hn (h.orphan n hn ho)
  tripped := fun n hn => k.tripped n (h.tripped n hn)

theorem Dev.workedOn.after {d e g : Dev} (k : e.workedOn g) (h : d.workedOn e) : d.workedOn g := h.trans k

theorem Dev.tended.workedOn {d e : Dev} (h : d.tended e) : d.workedOn e where
  only := by rw [h.only]
  wl := by rw [h.only]; exact ⟨rfl, rfl⟩
  keys := by rw [h.only]
  regs := fun a ha => h.regs a (watched_of_steady ha)
  limp := ⟨h.rd _ (by decide), h.rd _ (by decide)⟩
  freed := fun n hn => (h.holder n).trans hn
  orphan := fun n hn ho => (h.orphan n hn).trans ho
  tripped := fun n hn => by rw [h.rd _ (by decide)]; exact hn

section
variable {d e : Dev} (h : d.workedOn e)
include h

theorem Dev.workedOn.mode : e.mode = d.mode := by rw [h.only]

theorem Dev.workedOn.prev : e.prev = d.prev := by rw [h.only]

theorem Dev.workedOn.gal : e.gal = d.gal := by rw [h.only]

theorem Dev.workedOn.log : e.log = d.log := by rw [h.only]

theorem Dev.workedOn.priv : e.priv = d.priv := by rw [h.only]

theorem Dev.workedOn.rd (f : Fld) (hf : steady f.addr = true) : e.rd f = d.rd f := by
  rw [Dev.rd, h.regs _ hf, Dev.rd]

end

theorem foldl_workedOn {γ : Type} (f : Dev → γ → Dev) (l : List γ) (d : Dev) (h : ∀ x ∈ l, ∀ d : Dev, d.workedOn (f d x)) :
    d.workedOn (l.foldl f d) := foldl_relates Dev.workedOn_refl Dev.workedOn.trans f l d h

/-- A fact about the bookkeeping alone: nothing of the registers, the locks and the trips changed. -/
theorem Dev.workedOn_of_regs {d e : Dev}
    (only : e = { d with evq := e.evq, vst := e.vst, wl := e.wl, grp := e.grp, tlb := e.tlb, dge := e.dge, bal := e.bal })
    (wl : e.wl.imgLen = d.wl.imgLen ∧ e.wl.logIndex = d.wl.logIndex) (keys : e.dge.keys = d.dge.keys) : d.workedOn e where
  only := by rw [only]
  wl := wl
  keys := keys
  regs := fun _ _ => by rw [only]; rfl
  limp := by rw [only]; exact ⟨rfl, rfl⟩
  freed := fun _ hn => by rw [only]; exact hn
  orphan := fun _ _ ho => by rw [only]; exact ho
  tripped := fun _ hn => by rw [only]; exact hn

theorem orphanStep_workedOn (d : Dev) (mask code : Nat) : d.workedOn (orphanStep d mask code) := by
  by_cases h : mask = 0
  · rw [orphanStep, if_pos h]
    exact d.workedOn_refl
  · have htended := orphanStep_eq d mask code h
    have hld (a : Nat) (ha : watched a = true) (h0 : a ≠ NWL_ORPHAN.addr 0) (h1 : a ≠ NWL_ORPHAN.addr 1) :
        (orphanStep d mask code).ld a = d.ld a := by
      rw [htended.regs a ha, Dev.markOrphans, Dev.put_ld_ne _ _ _ _ h1, Dev.put_ld_ne _ _ _ _ h0]
      rfl
    have hrd (f : Fld) (hf : watched f.addr = true) (h0 : f.addr ≠ NWL_ORPHAN.addr 0) (h1 : f.addr ≠ NWL_ORPHAN.addr 1) :
        (orphanStep d mask code).rd f = d.rd f := by rw [Dev.rd, hld _ hf h0 h1, Dev.rd]
    exact {
      only := by rw [htended.only]; rfl
      wl := by rw [htended.only]; exact ⟨rfl, rfl⟩
      keys := by rw [htended.only]; rfl
      regs := fun a ha => hld a (watched_of_steady ha) (ne_of_steady ha (by decide)) (ne_of_steady ha (by decide))
      limp := ⟨hrd _ (by decide) (by decide) (by decide), hrd _ (by decide) (by decide) (by decide)⟩
      freed := fun n hn => by
        rw [orphanStep_holder, hn, ite_self]
      orphan := fun n hn ho => by
        rw [orphanStep_orphan _ _ _ _ hn, ho, Bool.true_or]
      tripped := fun n hn => by
        rw [hrd _ (by decide) (by decide) (by decide)]
        exact hn }

theorem releaseHolder_workedOn (d : Dev) (id : Nat) : d.workedOn (releaseHolder d id) := orphanStep_workedOn d _ _

/-! Trips. -/

theorem tripCauses_tended (d : Dev) (f : Nat → Nat) : d.tended (tripCauses d f) := by
  refine foldl_tended _ _ _ fun n hn e => ?_
  have hlt := List.mem_range.1 hn
  split
  · exact e.tended_put _ _ (by simp [watched, BAL_TCAUSE.addr, VST_FWSTAT.addr, NWL_ORPHAN.addr, BAL_STATE.addr]; omega)
  · exact e.tended_refl

theorem tripPins_workedOn (d : Dev) (new : Nat) (hnew : new < 2 ^ 16) : d.workedOn (tripPins d new) := by
  have hne (a : Nat) (ha : watched a = true) (hs : a ≠ BAL_STATE.addr) : (tripPins d new).ld a = d.ld a :=
    tripPins_regs d new a (by
      simp only [List.mem_cons, List.not_mem_nil, or_false, not_or]
      exact ⟨hs, ne_of_watched ha (by decide), ne_of_watched ha (by decide)⟩)
  have hrd (f : Fld) (hf : watched f.addr = true) (hs : f.addr ≠ BAL_STATE.addr) : (tripPins d new).rd f = d.rd f := by
    rw [Dev.rd, hne _ hf hs, Dev.rd]
  have honly : tripPins d new = { d with regs := (tripPins d new).regs, bal := (tripPins d new).bal } := by
    conv_lhs => rw [tripPins, Dev.onlyRegs_pulse]
    rfl
  exact {
    only := by rw [honly]
    wl := by rw [honly]; exact ⟨rfl, rfl⟩
    keys := by rw [honly]
    regs := fun a ha => hne a (watched_of_steady ha) (ne_of_steady ha (by decide))
    limp := ⟨hrd _ (by decide) (by decide), hrd _ (by decide) (by decide)⟩
    freed := fun n hn => by rw [honly]; exact hn
    orphan := fun n hn ho => by
      rw [Dev.orphan_eq, hne _ (watched_orphan n hn) (by simp [NWL_ORPHAN.addr, BAL_STATE.addr]; omega), ← Dev.orphan_eq]
      exact ho
    tripped := fun n hn => by
      rw [tripPins_tripped d new hnew, Nat.testBit_or, hn, Bool.true_or] }

theorem tripWith_workedOn (d : Dev) (f : Nat → Nat) : d.workedOn (tripWith d f) := by
  obtain ⟨causes, heq⟩ := tripWith_eq d f
  have hcauses := (tripCauses_tended d f).workedOn
  rw [heq]
  split
  · exact hcauses
  · exact (hcauses.trans (tripPins_workedOn _ _ (maskFrom_lt _ _))).trans (evqAppend_tended _ _ _ _ _ _).workedOn

theorem srcUse_workedOn (d : Dev) (mask : Nat) : d.workedOn (srcUse d mask) := by
  unfold srcUse
  dsimp only
  split
  · exact d.workedOn_refl
  · exact (foldl_tended _ _ _ fun n _ e => twinFault_tended e 5 (BAL_SRC.addr n)).workedOn.trans (tripWith_workedOn _ _)

theorem balEval_workedOn (d : Dev) : d.workedOn (balEval d) := by
  have hpol (e : Dev) : e.tended (if e.peerpolUsed then useTwin e CNC_GCFG.addr else e) := by
    split
    · exact useTwin_tended e _
    · exact e.tended_refl
  exact ((srcUse_workedOn d 0xFFFF).trans (hpol _).workedOn).trans (tripWith_workedOn _ _)

/-! The group and its lanes. -/

theorem peerGone_workedOn (d : Dev) (p : Nat) : d.workedOn (peerGone d p) :=
  (raGone_tended _ p).workedOn.after (Dev.workedOn.after (Dev.workedOn_of_regs rfl ⟨rfl, rfl⟩ rfl)
    (releaseHolder_workedOn d (8 + p)))

theorem electLead_workedOn (d : Dev) (members : Nat) : d.workedOn (electLead d members) := by
  have hlead (n : Nat) : d.tended ((d.wr CNC_GRP.LEAD n).wr CNC_GRP.ISLEAD (bit (n == d.pos))) :=
    (d.tended_wr _ _ (by decide)).trans (Dev.tended_wr _ _ _ (by decide))
  have hpend (e : Dev) : e.tended { e.wr CNC_GUPD.PENDING 0 with grp := { e.grp with updJoin := false } } :=
    Dev.tended.after ⟨rfl, fun _ _ => rfl⟩ (e.tended_wr CNC_GUPD.PENDING 0 (by decide))
  have hswitch (e : Dev) : e.workedOn (if e.wl.swGroup.isSome then
      { e.wr GSQ_SWCTL.ARMED 0 with wl := { e.wl with swGroup := none } } else e) := by
    split
    · exact Dev.workedOn.after (Dev.workedOn_of_regs rfl ⟨rfl, rfl⟩ rfl)
        (e.tended_wr GSQ_SWCTL.ARMED 0 (by decide)).workedOn
    · exact e.workedOn_refl
  exact (groupError_tended _ CNC_GERR.LEADCHG (by decide)).workedOn.after
    ((hswitch _).after ((hpend _).workedOn.after (hlead (lowestPos members)).workedOn))

theorem regroup_workedOn (d : Dev) : d.workedOn (regroup d) := by
  have hpeers (e : Dev) (ps : List Nat) (new : Nat) :
      e.workedOn (ps.foldl (fun d p => if new.testBit p then d else peerGone d p) e) := by
    refine foldl_workedOn _ _ _ fun p _ e => ?_
    split
    · exact e.workedOn_refl
    · exact peerGone_workedOn e p
  have hlead (e : Dev) (new : Nat) : e.workedOn (if new.testBit (e.rd CNC_GRP.LEAD) then e else electLead e new) := by
    split
    · exact e.workedOn_refl
    · exact electLead_workedOn e new
  have hgrp : d.workedOn ((d.wr CNC_GRP.MEMBERS d.reach).wr CNC_GRP.DIAM (d.diameter d.reach)) :=
    ((d.tended_wr _ _ (by decide)).trans (Dev.tended_wr _ _ _ (by decide))).workedOn
  exact (balEval_workedOn _).after ((leadUpdate_tended _).workedOn.after ((hlead _ _).after ((hpeers _ _ _).after hgrp)))

theorem laneDown_workedOn (d : Dev) (l cause : Nat) : d.workedOn (laneDown d l cause) := by
  have hwithdraw (e : Dev) (c : Bool) : e.tended (if c then withdrawUpdate e else e) := by
    split
    · exact withdrawUpdate_tended e
    · exact e.tended_refl
  have hflags (e : Dev) : e.tended ((e.wr (CNC_LSTAT.DOWNCAUSE l) cause).wr (CNC_ERR.DOWN l) 1) :=
    (e.tended_wr _ _ (not_watched_of_le (by simp [CNC_LSTAT.DOWNCAUSE, CNC_LSTAT.addr]; omega))).trans
      (Dev.tended_wr _ _ _ (not_watched_of_le (by simp [CNC_ERR.DOWN, CNC_ERR.addr]; omega)))
  have halign (e : Dev) (c : Bool) : e.tended (if c then { e with grp := { e.grp with alignTo := none } } else e) := by
    split
    · exact ⟨rfl, fun _ _ => rfl⟩
    · exact e.tended_refl
  have hgroup (e : Dev) (c : Bool) : e.workedOn (if c then regroup (sendLinkstate e) else e) := by
    split
    · exact (sendLinkstate_tended e).workedOn.trans (regroup_workedOn _)
    · exact e.workedOn_refl
  have hout (e : Dev) : e.tended (reclaimOwner (forcedOut e (.lane l) (0x20 + l) cause) (8 + l)) :=
    (forcedOut_tended e _ _ _).trans (reclaimOwner_tended _ _)
  have hlane (v : Lane) : d.tended ((laneBlk d l).setLane l v) :=
    Dev.tended.after ⟨rfl, fun _ _ => rfl⟩ (laneBlk_tended d l)
  unfold laneDown
  split
  · exact d.workedOn_refl
  · dsimp only
    refine (hgroup _ _).after (Dev.tended.workedOn ?_)
    refine (halign _ _).after ((hout _).after ((hflags _).after ((hwithdraw _ _).after (hlane _))))

end Sys2Proof.Machine
end


section
/-!
What the work of the units leaves alone, part five: what a LIMP cause ends, and the integrity faults.
-/

namespace Sys2Proof.Machine

theorem evqKind_tended (d : Dev) (b : Nat) (k : EvKind) (c : Bool) (x y : Nat) : d.tended (evqKind d b k c x y) :=
  evqAppend_tended d _ _ _ _ _

theorem Dev.tended_draw (d : Dev) : d.tended d.draw := ⟨rfl, fun _ _ => rfl⟩

theorem Dev.orphan_wr_ne (d : Dev) (f : Fld) (v n : Nat) (h : f.addr ≠ NWL_ORPHAN.addr (n / 32)) :
    (d.wr f v).orphan n = d.orphan n := by rw [Dev.orphan_eq, Dev.wr_ld_ne _ _ _ _ h.symm, ← Dev.orphan_eq]

/-- A register of SYS_LIMP alone is written, REASON and DETAIL as they were. -/
theorem limpCause_workedOn (d : Dev) (r e : Nat) (h : d.mode = .limp) : d.workedOn (limpCause d r e) := by
  have hne (a : Nat) (ha : a ≠ SYS_LIMP.addr) : (d.wr SYS_LIMP.MORE 1).ld a = d.ld a := d.wr_ld_ne _ _ _ ha
  rw [limpCause, if_pos (.inl h)]
  exact {
    only := rfl
    wl := ⟨rfl, rfl⟩
    keys := rfl
    regs := fun a ha => hne a (ne_of_steady ha (by decide))
    limp := ⟨d.wr_rd_below SYS_LIMP.MORE SYS_LIMP.REASON 1 (by decide) (by decide) (by decide) (by decide) rfl,
      d.wr_rd_above SYS_LIMP.MORE SYS_LIMP.DETAIL 1 (by decide) (by decide) (by decide) rfl⟩
    freed := fun _ hn => hn
    orphan := fun n hn ho => by
      rw [d.orphan_wr_ne _ _ _ (by simp only [NWL_ORPHAN.addr, SYS_LIMP.MORE, SYS_LIMP.addr]; omega)]
      exact ho
    tripped := fun n hn => by
      rw [Dev.wr_rd_ne _ _ _ _ (by decide)]
      exact hn }

theorem abortBusy_workedOn (d : Dev) : d.workedOn (abortBusy d) := by
  have hslots : d.tended ((List.range 4).foldl (fun d n => if d.slot n = 2 then respond d n 0x0D 0 [] true else d) d) := by
    refine foldl_tended _ _ _ fun n hn e => ?_
    split
    · exact respond_tended e n _ _ _ _ (List.mem_range.1 hn) (by decide)
    · exact e.tended_refl
  have hkept (e : Dev) : e.workedOn { e with wl := { e.wl with
      dozeWait := none, swSlot := none, svcSlot := [], testSlot := [], repSlot := none, due := [], cfgSlot := none } } :=
    Dev.workedOn_of_regs rfl ⟨rfl, rfl⟩ rfl
  exact hslots.workedOn.trans (hkept _)

theorem dgeFail_workedOn (d : Dev) (c cause : Nat) (hc : c < 8) : d.workedOn (dgeFail d c cause) := by
  have haddr : watched (DGE_CSTAT.addr c) = false :=
    not_watched_of_block (by simp [DGE_CSTAT.addr]; omega)
  have hstat : d.tended ((((d.wr (DGE_CSTAT.BUSY c) 0).wr (DGE_CSTAT.ERR c) 1).wr (DGE_CSTAT.CAUSE c) cause).wr
      (DGE_CSTAT.SPACE c) 16) :=
    (Dev.tended_wr _ _ _ haddr).after ((Dev.tended_wr _ _ _ haddr).after ((Dev.tended_wr _ _ _ haddr).after
      (d.tended_wr (DGE_CSTAT.BUSY c) 0 haddr)))
  have hctx (e : Dev) (ctx : List DgeCtx) (wait : List (Nat × Word)) :
      e.workedOn { e with dge := { e.dge with ctx := ctx, katWait := wait } } := Dev.workedOn_of_regs rfl ⟨rfl, rfl⟩ rfl
  exact (hctx _ _ _).after hstat.workedOn

theorem dgeAbortS_workedOn (d : Dev) : d.workedOn (dgeAbortS d) := by
  unfold dgeAbortS
  split
  · exact dgeFail_workedOn d 0 8 (by decide)
  · exact d.workedOn_refl

/-! Integrity faults. -/

/-- The count, the trip and the event of an integrity fault: all of it but the LIMP that may follow. -/
def integCount (d : Dev) (code : Nat) (d0 : Word) : Dev :=
  let d := if code = 0x15 ∧ fld d0 23 16 = 0x09 then d else srcUse d 0xFFFF
  let d := tripMask d (d.srcMask BAL_SRC.INTEG) cInteg
  let old := d.rd SYS_INTEG.COUNT
  let new := if old < 255 then old + 1 else (Config.freeWord d.seed).toNat % 256
  let d := if old < 255 then d else d.draw
  let d := (d.wr SYS_INTEG.COUNT new).wr BAL_INTCAUSE.LAST code
  let d := evqAppend d 0x09 code true d0 0#32
  if code = 0x15 ∧ d0 = 0x2C#32 then d else useTwin d SYS_INTEG.addr

theorem integCount_workedOn (d : Dev) (code : Nat) (d0 : Word) : d.workedOn (integCount d code d0) := by
  have hsrc (e : Dev) (c : Prop) [Decidable c] : e.workedOn (if c then e else srcUse e 0xFFFF) := by
    split
    · exact e.workedOn_refl
    · exact srcUse_workedOn e _
  have hdraw (e : Dev) (c : Prop) [Decidable c] : e.tended (if c then e else e.draw) := by
    split
    · exact e.tended_refl
    · exact e.tended_draw
  have hcount (e : Dev) (n : Nat) : e.tended ((e.wr SYS_INTEG.COUNT n).wr BAL_INTCAUSE.LAST code) :=
    (e.tended_wr _ _ (by decide)).trans (Dev.tended_wr _ _ _ (by decide))
  have htwin (e : Dev) (c : Prop) [Decidable c] : e.tended (if c then e else useTwin e SYS_INTEG.addr) := by
    split
    · exact e.tended_refl
    · exact useTwin_tended e _
  unfold integCount
  dsimp only
  exact (htwin _ _).workedOn.after ((evqAppend_tended _ _ _ _ _ _).workedOn.after ((hcount _ _).workedOn.after
    ((hdraw _ _).workedOn.after ((tripWith_workedOn _ _).after (hsrc d _)))))

/-- An integrity fault counts, and leads to LIMP or is a further cause there (R489, R53). -/
theorem integCore_cases (d : Dev) (code : Nat) (d0 : Word) :
    integCore d code d0 = integCount d code d0 ∨
      (((integCount d code d0).mode = .run ∨ (integCount d code d0).mode = .doze ∨ (integCount d code d0).mode = .limp) ∧
        integCore d code d0 = limpEntry (integCount d code d0) 8 code) := by
  unfold integCore
  extract_lets a b old new e f g h limit
  have hg : integCount d code d0 = h := rfl
  rw [hg]
  clear_value h
  split
  · split
    · next h => exact .inr ⟨.inl h, rfl⟩
    · next h => exact .inr ⟨.inr (.inl h), rfl⟩
    · next h => exact .inr ⟨.inr (.inr h), rfl⟩
    · exact .inl rfl
  · exact .inl rfl

theorem limpEntry_limp (d : Dev) (r e : Nat) (h : d.mode = .limp) : limpEntry d r e = limpCause d r e := by
  rw [limpEntry, h]

/-- Outside RUN and DOZE an integrity fault leads to no LIMP. -/
theorem integCore_workedOn (d : Dev) (code : Nat) (d0 : Word) (hr : d.mode ≠ .run) (hd : d.mode ≠ .doze) :
    d.workedOn (integCore d code d0) := by
  have hcount := integCount_workedOn d code d0
  rcases integCore_cases d code d0 with heq | ⟨hmode, heq⟩
  · rw [heq]
    exact hcount
  · rw [hcount.mode] at hmode
    have hlimp : d.mode = .limp := (hmode.resolve_left hr).resolve_left hd
    rw [heq, limpEntry_limp _ _ _ (hcount.mode.trans hlimp)]
    exact hcount.trans (limpCause_workedOn _ _ _ (hcount.mode.trans hlimp))

/-- A field of the waiting faults alone changes. -/
theorem Dev.tended_faults (d : Dev) (fs : List (Nat × Word)) : d.tended { d with faults := fs } := ⟨rfl, fun _ _ => rfl⟩

theorem settleN_workedOn (n : Nat) : ∀ d : Dev, d.mode ≠ .run → d.mode ≠ .doze → d.workedOn (settleN n d) := by
  induction n with
  | zero => exact fun d _ _ => (d.tended_faults _).workedOn
  | succ n ih =>
    intro d hr hd
    rw [settleN]
    split
    · exact d.workedOn_refl
    · next f _ =>
      have hstep := (d.tended_faults (d.faults.erase f)).workedOn.trans
        (integCore_workedOn { d with faults := d.faults.erase f } f.1 f.2 hr hd)
      exact hstep.trans (ih _ (by rw [hstep.mode]; exact hr) (by rw [hstep.mode]; exact hd))

theorem settle_workedOn (d : Dev) (hr : d.mode ≠ .run) (hd : d.mode ≠ .doze) : d.workedOn (settle d) := by
  have hcycle : d.workedOn (inCycle (settleN 4096) d) :=
    (d.tended_cycleBegin.workedOn.trans (settleN_workedOn 4096 d.cycleBegin hr hd)).trans (inCycle_tended _ d).workedOn
  unfold settle
  split
  · exact d.workedOn_refl
  · exact ((Dev.tended_faults _ _).workedOn.after (settleN_workedOn 1024 _ (by rw [hcycle.mode]; exact hr)
      (by rw [hcycle.mode]; exact hd))).after hcycle

end Sys2Proof.Machine
end


section
/-!
Entry to LIMP (R50): what every entry leaves, wherever the device comes from.
-/

namespace Sys2Proof.Machine

/-- `e` keeps what only a reset takes away: the SYS registers but SYS_LIMP and SYS_INTEG, free locks free, and orphan flags
set. -/
structure Dev.carried (d e : Dev) : Prop where
  regs : ∀ a, a / 0x1000 = 0x40000 → a ≠ SYS_LIMP.addr → a ≠ SYS_INTEG.addr → e.ld a = d.ld a
  freed : ∀ n, d.holder n = 0 → e.holder n = 0
  orphan : ∀ n, n < 64 → d.orphan n = true → e.orphan n = true

theorem Dev.carried.trans {d e g : Dev} (h : d.carried e) (k : e.carried g) : d.carried g where
  regs := fun a ha hl hi => (k.regs a ha hl hi).trans (h.regs a ha hl hi)
  freed := fun n hn => k.freed n (h.freed n hn)
  orphan := fun n hn ho => k.orphan n hn (h.orphan n hn ho)

theorem Dev.carried.after {d e g : Dev} (k : e.carried g) (h : d.carried e) : d.carried g := h.trans k

theorem Dev.carried.rd {d e : Dev} (h : d.carried e) (f : Fld) (hf : f.addr / 0x1000 = 0x40000) (hl : f.addr ≠ SYS_LIMP.addr)
    (hi : f.addr ≠ SYS_INTEG.addr) : e.rd f = d.rd f := by rw [Dev.rd, h.regs _ hf hl hi, Dev.rd]

theorem steady_of_sys {a : Nat} (h : a / 0x1000 = 0x40000) (hl : a ≠ SYS_LIMP.addr) (hi : a ≠ SYS_INTEG.addr) :
    steady a = true := by
  have hb (b : Nat) (hb : b / 0x1000 ≠ 0x40000) : a ≠ b := by rintro rfl; exact hb h
  simp [steady, watched, h, hl, hi, hb (NWL_ORPHAN.addr 0) (by decide), hb (NWL_ORPHAN.addr 1) (by decide),
    hb BAL_STATE.addr (by decide)]

theorem steady_gout {x : Nat} (h : x < 4) : steady (PIO_GOUT.addr x) = true := by
  simp [steady, watched, PIO_GOUT.addr, SYS_LIMP.addr, NWL_ORPHAN.addr, BAL_STATE.addr]
  omega

theorem Dev.workedOn.carried {d e : Dev} (h : d.workedOn e) : d.carried e where
  regs := fun a ha hl hi => h.regs a (steady_of_sys ha hl hi)
  freed := h.freed
  orphan := h.orphan

/-- A device with the same registers and locks. -/
theorem Dev.carried_of_eq {d e : Dev} (hr : e.regs = d.regs) (hh : e.holders = d.holders) : d.carried e where
  regs := fun a _ _ _ => by rw [Dev.ld, hr, Dev.ld]
  freed := fun n hn => by rw [Dev.holder, hh]; exact hn
  orphan := fun n _ ho => by rw [Dev.orphan_eq, Dev.ld, hr]; rwa [Dev.orphan_eq] at ho

/-- A write outside SYS and the orphan flags. -/
theorem Dev.carried_wr (d : Dev) (f : Fld) (v : Nat) (h : f.addr / 0x1000 ≠ 0x40000 ∨ f.addr = SYS_LIMP.addr)
    (ho : ∀ n, n < 64 → f.addr ≠ NWL_ORPHAN.addr (n / 32)) : d.carried (d.wr f v) where
  regs := fun a ha hl _ => d.wr_ld_ne f v a (by
    rintro rfl
    exact h.elim (· ha) hl)
  freed := fun _ hn => hn
  orphan := fun n hn h => (d.orphan_wr_ne f v n (ho n hn)).trans h

/-- A mode change posts its event. -/
theorem setMode_tended (d : Dev) (m : Mode) (h : d.mode ≠ m) :
    ({ d with prev := d.mode, mode := m } : Dev).tended (setMode d m) := by
  rw [setMode, if_neg h]
  exact evqKind_tended _ _ _ _ _ _

theorem setMode_carried (d : Dev) (m : Mode) : d.carried (setMode d m) := by
  by_cases h : d.mode = m
  · rw [setMode, if_pos h]
    exact Dev.carried_of_eq rfl rfl
  · exact (setMode_tended d m h).workedOn.carried.after (Dev.carried_of_eq rfl rfl)

/-! The units at the entry. -/

/-- The sequencer and the Riser in reset, their outputs zero. -/
def limpStop (d : Dev) : Dev :=
  (List.range 4).foldl (fun d x => d.wr (PIO_GOUT.GOUT x) 0) { d with gal := d.gal.seqReset }

theorem limpStop_regs (d : Dev) (a : Nat) (h : ∀ x, x < 4 → a ≠ PIO_GOUT.addr x) : (limpStop d).ld a = d.ld a := by
  have hwr (e : Dev) (x : Nat) (hx : x < 4) : (e.wr (PIO_GOUT.GOUT x) 0).ld a = e.ld a := e.wr_ld_ne _ _ _ (h x hx)
  refine foldl_relates (R := fun d e : Dev => e.ld a = d.ld a) (fun _ => rfl) (fun h k => k.trans h) _ _ _ fun x hx e => ?_
  exact hwr e x (List.mem_range.1 hx)

theorem limpStop_gout (d : Dev) (x : Nat) (h : x < 4) : (limpStop d).rd (PIO_GOUT.GOUT x) = 0 := by
  have hzero (e : Dev) (k : Nat) : (e.wr (PIO_GOUT.GOUT k) 0).rd (PIO_GOUT.GOUT k) = 0 :=
    Dev.wr_rd e (PIO_GOUT.GOUT k) 0 (Nat.zero_le 15) (by simp [PIO_GOUT.GOUT])
  have hkeep (e : Dev) (k : Nat) (hk : PIO_GOUT.addr x ≠ PIO_GOUT.addr k) :
      (e.wr (PIO_GOUT.GOUT k) 0).rd (PIO_GOUT.GOUT x) = e.rd (PIO_GOUT.GOUT x) := Dev.wr_rd_ne e _ _ 0 hk
  have hchain : limpStop d = ((((({ d with gal := d.gal.seqReset } : Dev).wr (PIO_GOUT.GOUT 0) 0).wr (PIO_GOUT.GOUT 1) 0).wr
      (PIO_GOUT.GOUT 2) 0).wr (PIO_GOUT.GOUT 3) 0) := rfl
  rw [hchain]
  interval_cases x
  · rw [hkeep _ 3 (by decide), hkeep _ 2 (by decide), hkeep _ 1 (by decide), hzero]
  · rw [hkeep _ 3 (by decide), hkeep _ 2 (by decide), hzero]
  · rw [hkeep _ 3 (by decide), hzero]
  · exact hzero _ 3

theorem limpStop_carried (d : Dev) : d.carried (limpStop d) where
  regs := fun a ha _ _ => limpStop_regs d a fun x hx h => by
    rw [h, PIO_GOUT.addr] at ha
    omega
  freed := fun _ hn => hn
  orphan := fun n hn ho => by
    rw [Dev.orphan_eq, limpStop_regs d _ fun x hx => by simp only [NWL_ORPHAN.addr, PIO_GOUT.addr]; omega]
    rwa [Dev.orphan_eq] at ho

theorem limpUnits_workedOn (d : Dev) (tests : Nat) : (limpStop d).workedOn (limpUnits d tests) := by
  have hlanes (e : Dev) : e.workedOn ((List.range 4).foldl (fun d l => laneDown d l 7) e) :=
    foldl_workedOn _ _ _ fun l _ e => laneDown_workedOn e l 7
  have hbanks (e : Dev) : e.tended ((List.range 6).foldl (fun d b =>
      if d.svcOf (.bank b) = .outOfService ∨ tests.testBit b then d
      else evqKind (bankOut d b) (0x10 + b) .forced false b 0) e) := by
    refine foldl_tended _ _ _ fun b _ e => ?_
    split
    · exact e.tended_refl
    · exact (bankOut_tended e b).trans (evqKind_tended _ _ _ _ _ _)
  exact (hlanes (limpStop d)).trans (hbanks _).workedOn

/-! The entry itself. -/

/-- The cause, the mode and the server of an entry. -/
def limpServed (d : Dev) (reason detail : Nat) : Dev :=
  (clearLoops (setMode (limpCause (noneTaken d) reason detail) .limp)).wr VST_FWSTAT.SERVER 2

theorem limpCore_stages (d : Dev) (reason detail : Nat) : ∃ m, (limpServed d reason detail).workedOn m ∧
    (limpStop m).workedOn (limpCore d reason detail) := by
  have hends (e : Dev) : e.workedOn (releaseHolder (releaseHolder (releaseHolder (dgeAbortS (abortBusy e)) 1) 3) 4) :=
    (releaseHolder_workedOn _ 4).after ((releaseHolder_workedOn _ 3).after ((releaseHolder_workedOn _ 1).after
      ((dgeAbortS_workedOn _).after (abortBusy_workedOn e))))
  exact ⟨_, hends _, (limpUnits_workedOn _ _).trans (balEval_workedOn _)⟩

/-- `t` is `d` after the entry to LIMP with a cause. -/
structure Dev.limped (d : Dev) (reason detail : Nat) (t : Dev) : Prop where
  mode : t.mode = .limp
  prev : t.prev = d.mode
  cause : d.rd SYS_LIMP.REASON = 0 → t.rd SYS_LIMP.REASON = reason % 2 ^ 8 ∧ t.rd SYS_LIMP.DETAIL = detail % 2 ^ 22
  server : t.rd VST_FWSTAT.SERVER = 2
  stopped : t.gal.running = false
  gout : ∀ x, x < 4 → t.rd (PIO_GOUT.GOUT x) = 0
  logIndex : t.wl.logIndex = d.wl.logIndex
  carried : d.carried t

theorem Dev.limped.workedOn {d t u : Dev} {reason detail : Nat} (h : d.limped reason detail t) (k : t.workedOn u) :
    d.limped reason detail u where
  mode := k.mode.trans h.mode
  prev := k.prev.trans h.prev
  cause := fun h0 => by rw [k.limp.1, k.limp.2]; exact h.cause h0
  server := by rw [k.rd _ (by decide)]; exact h.server
  stopped := by rw [k.gal]; exact h.stopped
  gout := fun x hx => by
    rw [k.rd _ (steady_gout hx)]
    exact h.gout x hx
  logIndex := k.wl.2.trans h.logIndex
  carried := h.carried.trans k.carried

theorem noneTaken_ld (d : Dev) (a : Nat) (h : a ≠ VST_FWSTAT.addr) : (noneTaken d).ld a = d.ld a := by
  unfold noneTaken
  split
  · exact d.wr_ld_ne _ _ _ h
  · rfl

theorem limpCause_ld (d : Dev) (r e a : Nat) (h : a ≠ SYS_LIMP.addr) : (limpCause d r e).ld a = d.ld a := by
  unfold limpCause
  split
  · exact d.wr_ld_ne _ _ _ h
  · rw [Dev.wr_ld_ne _ _ _ _ h, Dev.wr_ld_ne _ _ _ _ h]

theorem limpCause_records (d : Dev) (r e : Nat) (hm : d.mode ≠ .limp) (h : d.rd SYS_LIMP.REASON = 0) :
    (limpCause d r e).rd SYS_LIMP.REASON = r % 2 ^ 8 ∧ (limpCause d r e).rd SYS_LIMP.DETAIL = e % 2 ^ 22 := by
  rw [limpCause, if_neg (by simp [hm, h])]
  refine ⟨?_, ?_⟩
  · rw [Dev.wr_rd_below _ SYS_LIMP.DETAIL SYS_LIMP.REASON _ (by decide) (by decide) (by decide) (by decide) rfl]
    exact Dev.wr_rd _ _ _ (by decide) (by decide)
  · exact Dev.wr_rd _ _ _ (by decide) (by decide)

theorem noneTaken_carried (d : Dev) : d.carried (noneTaken d) := by
  unfold noneTaken
  split
  · exact d.carried_wr _ _ (.inl (by decide)) fun n _ => by simp only [VST_FWSTAT.TAKEN, VST_FWSTAT.addr, NWL_ORPHAN.addr]; omega
  · exact Dev.carried_of_eq rfl rfl

theorem limpCause_carried (d : Dev) (r e : Nat) : d.carried (limpCause d r e) where
  regs := fun a _ hl _ => limpCause_ld d r e a hl
  freed := fun n hn => by
    have hh : (limpCause d r e).holder n = d.holder n := by unfold limpCause; split <;> rfl
    rw [hh, hn]
  orphan := fun n hn ho => by
    rw [Dev.orphan_eq, limpCause_ld _ _ _ _ (by simp only [NWL_ORPHAN.addr, SYS_LIMP.addr]; omega), ← Dev.orphan_eq]
    exact ho

theorem limpCause_same (d : Dev) (r e : Nat) :
    (limpCause d r e).mode = d.mode ∧ (limpCause d r e).prev = d.prev ∧ (limpCause d r e).wl = d.wl := by
  unfold limpCause
  split <;> exact ⟨rfl, rfl, rfl⟩

theorem noneTaken_same (d : Dev) : (noneTaken d).mode = d.mode ∧ (noneTaken d).prev = d.prev ∧ (noneTaken d).wl = d.wl := by
  unfold noneTaken
  split <;> exact ⟨rfl, rfl, rfl⟩

/-- The device with its cause, in LIMP, before the mode event. -/
theorem limpServed_tended (d : Dev) (r e : Nat) (h : d.mode ≠ .limp) :
    ({ limpCause (noneTaken d) r e with prev := d.mode, mode := .limp } : Dev).tended
      (clearLoops (setMode (limpCause (noneTaken d) r e) .limp)) := by
  obtain ⟨hcm, _, _⟩ := limpCause_same (noneTaken d) r e
  obtain ⟨hnm, _, _⟩ := noneTaken_same d
  have hset := setMode_tended (limpCause (noneTaken d) r e) .limp (by rw [hcm, hnm]; exact h)
  rw [hcm, hnm] at hset
  exact hset.trans (clearLoops_tended _)

theorem limpServed_carried (d : Dev) (r e : Nat) : d.carried (limpServed d r e) := by
  have hserver (d : Dev) : d.carried (d.wr VST_FWSTAT.SERVER 2) := d.carried_wr _ _ (.inl (by decide)) fun n _ => by
    simp only [VST_FWSTAT.SERVER, VST_FWSTAT.addr, NWL_ORPHAN.addr]; omega
  exact (hserver _).after ((clearLoops_tended _).workedOn.carried.after ((setMode_carried _ _).after
    ((limpCause_carried _ r e).after (noneTaken_carried d))))

theorem limpCore_limped (d : Dev) (r e : Nat) (h : d.mode ≠ .limp) : d.limped r e (limpCore d r e) := by
  obtain ⟨m, hm, ht⟩ := limpCore_stages d r e
  have hserved := limpServed_tended d r e h
  have hwr (x : Dev) : (x.wr VST_FWSTAT.SERVER 2).mode = x.mode ∧ (x.wr VST_FWSTAT.SERVER 2).prev = x.prev ∧
      (x.wr VST_FWSTAT.SERVER 2).wl = x.wl := ⟨rfl, rfl, rfl⟩
  obtain ⟨hmode, hprev, hwl⟩ := hwr (clearLoops (setMode (limpCause (noneTaken d) r e) .limp))
  have hrdt (f : Fld) (hs : steady f.addr = true) (hg : ∀ x, x < 4 → f.addr ≠ PIO_GOUT.addr x) :
      (limpCore d r e).rd f = m.rd f := by
    rw [ht.rd f hs, Dev.rd, limpStop_regs m _ hg, Dev.rd]
  have hcause (f : Fld) (hf : f = SYS_LIMP.REASON ∨ f = SYS_LIMP.DETAIL) :
      (limpCore d r e).rd f = (limpCause (noneTaken d) r e).rd f := by
    have haddr : f.addr = SYS_LIMP.addr := by rcases hf with rfl | rfl <;> rfl
    have hworked {d e : Dev} (h : d.workedOn e) : e.rd f = d.rd f := by
      rcases hf with rfl | rfl
      · exact h.limp.1
      · exact h.limp.2
    have hstop : (limpStop m).rd f = m.rd f := by
      rw [Dev.rd, limpStop_regs m _ (by intro x _; simp only [haddr, SYS_LIMP.addr, PIO_GOUT.addr]; omega), Dev.rd]
    have hserver : (limpServed d r e).rd f = _ := Dev.wr_rd_ne _ VST_FWSTAT.SERVER f 2 (by rw [haddr]; decide)
    exact (hworked ht).trans (hstop.trans ((hworked hm).trans (hserver.trans (hserved.rd f (by rw [haddr]; decide)))))
  exact {
    mode := by rw [ht.mode]; exact hm.mode.trans (hmode.trans hserved.mode)
    prev := by rw [ht.prev]; exact hm.prev.trans (hprev.trans hserved.prev)
    cause := fun h0 => by
      rw [hcause _ (.inl rfl), hcause _ (.inr rfl)]
      refine limpCause_records _ r e (by rw [(noneTaken_same d).1]; exact h) ?_
      rw [Dev.rd, noneTaken_ld d _ (by decide)]
      exact h0
    server := by
      have hgout (x : Nat) : VST_FWSTAT.addr ≠ PIO_GOUT.addr x := by
        simp only [VST_FWSTAT.addr, PIO_GOUT.addr]
        omega
      rw [hrdt _ (by decide) (fun x _ => hgout x), hm.rd _ (by decide)]
      exact Dev.wr_rd _ _ _ (by decide) (by decide)
    stopped := by rw [ht.gal]; rfl
    gout := fun x hx => by
      rw [ht.rd _ (steady_gout hx)]
      exact limpStop_gout m x hx
    logIndex := by
      rw [ht.wl.2]
      exact hm.wl.2.trans (congrArg _ (hwl.trans (hserved.wl.trans ((limpCause_same _ r e).2.2.trans (noneTaken_same d).2.2))))
    carried := by
      exact (ht.carried.after (limpStop_carried m)).after (hm.carried.after (limpServed_carried d r e)) }

/-- Entry from BOOT, RUN or DOZE. -/
theorem limpEntry_limped (d : Dev) (r e : Nat) (h : d.mode = .boot ∨ d.mode = .run ∨ d.mode = .doze) :
    d.limped r e (limpEntry d r e) := by
  have hcycle : d.limped r e (inCycle (fun d => limpCore d r e) d) := by
    have hne : d.mode ≠ .limp := by rcases h with h | h | h <;> rw [h] <;> decide
    have hcore := (limpCore_limped d.cycleBegin r e hne).workedOn (inCycle_tended (fun d => limpCore d r e) d).workedOn
    exact ⟨hcore.mode, hcore.prev, hcore.cause, hcore.server, hcore.stopped, hcore.gout, hcore.logIndex,
      hcore.carried.regs, hcore.carried.freed, hcore.carried.orphan⟩
  unfold limpEntry
  rcases h with h | h | h <;> rw [h] <;> exact hcycle

theorem limpEntry_carried (d : Dev) (r e : Nat) : d.carried (limpEntry d r e) := by
  cases hm : d.mode with
  | boot => exact (limpEntry_limped d r e (.inl hm)).carried
  | run => exact (limpEntry_limped d r e (.inr (.inl hm))).carried
  | doze => exact (limpEntry_limped d r e (.inr (.inr hm))).carried
  | limp =>
    rw [limpEntry_limp d r e hm]
    exact limpCause_carried d r e
  | landing =>
    rw [limpEntry, hm]
    exact d.workedOn_refl.carried
  | resting =>
    rw [limpEntry, hm]
    exact d.workedOn_refl.carried

/-! Integrity faults in any mode. -/

theorem integCore_carried (d : Dev) (code : Nat) (d0 : Word) : d.carried (integCore d code d0) := by
  have hcount := (integCount_workedOn d code d0).carried
  rcases integCore_cases d code d0 with heq | ⟨-, heq⟩
  · rw [heq]
    exact hcount
  · rw [heq]
    exact hcount.trans (limpEntry_carried _ _ _)

theorem settleN_carried (n : Nat) : ∀ d : Dev, d.carried (settleN n d) := by
  induction n with
  | zero => exact fun d => (d.tended_faults _).workedOn.carried
  | succ n ih =>
    intro d
    rw [settleN]
    split
    · exact d.workedOn_refl.carried
    · exact (ih _).after ((integCore_carried _ _ _).after (d.tended_faults _).workedOn.carried)

theorem inCycle_carried (f : Dev → Dev) (hf : ∀ d : Dev, d.carried (f d)) (d : Dev) : d.carried (inCycle f d) :=
  (inCycle_tended f d).workedOn.carried.after ((hf _).after d.tended_cycleBegin.workedOn.carried)

theorem settle_carried (d : Dev) : d.carried (settle d) := by
  unfold settle
  split
  · exact d.workedOn_refl.carried
  · exact (Dev.tended_faults _ _).workedOn.carried.after ((settleN_carried 1024 _).after
      (inCycle_carried _ (settleN_carried 4096) d))

end Sys2Proof.Machine
end


section
/-!
What Wailith does in boot step 0x8 before its check of VHOLD: the save of a Landing, the BOOT record, SYS_LIMP (Table MOD.9).
-/

namespace Sys2Proof.Machine

theorem stewardWrite_accessed : ∀ (n : Nat) (d : Dev) (a : Nat) (bs : List Byte), d.accessed (stewardWrite n d a bs)
  | 0, d, _, _ => d.accessed_refl
  | _ + 1, d, _, [] => d.accessed_refl
  | n + 1, d, _, _ :: _ => (stewardWrite_accessed n _ _ _).after (atriumAccess_accessed d true _ _ _)

theorem restoreRegions_accessed (d : Dev) : d.accessed (restoreRegions d) :=
  foldl_carried Dev.accessed_refl Dev.accessed.trans Prod.fst _ (fun _ _ => stewardWrite_accessed _ _ _ _) _ (d, 0)

/-- `e` is `d` after accesses, at most one event, and writes of the Logbook. -/
structure Dev.restored (d e : Dev) : Prop where
  mode : e.mode = d.mode
  wl : e.wl = d.wl
  regs : ∀ a, watched a = true → e.ld a = d.ld a
  header : ∀ k, k < 64 → e.logByte k = d.logByte k
  room : d.evq.length < 240 → e.faults = d.faults ∧ e.evq.length ≤ d.evq.length + 1

theorem landingRestore_restored (d : Dev) : d.restored (landingRestore d) := by
  have hregions (c : Bool) : d.accessed (if c then restoreRegions d else d) := by
    split
    · exact restoreRegions_accessed d
    · exact d.accessed_refl
  unfold landingRestore
  split
  · exact ⟨rfl, rfl, fun _ _ => rfl, fun _ _ => rfl, fun _ => ⟨rfl, Nat.le_succ _⟩⟩
  · dsimp only
    have hacc := hregions d.saveValid
    generalize (if d.saveValid = true then restoreRegions d else d) = e at hacc
    have hlog : e.log = d.log ∧ e.evq = d.evq ∧ e.faults = d.faults ∧ e.mode = d.mode ∧ e.wl = d.wl := by
      rw [hacc.only]
      exact ⟨rfl, rfl, rfl, rfl, rfl⟩
    obtain ⟨hl, hevq, hfaults, hmode, hwl⟩ := hlog
    generalize w32 (d.saveWord 4) = x
    generalize (if d.saveValid = true then w32 (d.saveWord 16) else 0#32) = y
    have hev := evqAppend_tended e 0x80 0x03 false x y
    exact {
      mode := hev.mode.trans hmode
      wl := hev.wl.trans hwl
      regs := fun a ha =>
        (Dev.wr_ld_ne _ EVQ_POSTSEQ.SEQ _ a (ne_of_watched ha (by decide))).trans ((hev.regs a ha).trans (hacc.regs a ha))
      header := fun k hk => by
        rw [logWrite_header _ _ _ _ hk]
        exact congrArg (fun l => tget logDflt l k) (hev.log.trans hl)
      room := fun h => by
        rw [← hevq] at h
        rw [← hfaults, ← hevq]
        exact ⟨evqAppend_faults e _ _ _ _ _ h, (evqAppend_length e _ _ _ _ _ h).le⟩ }

/-! Records. -/

theorem recordPart_only (d : Dev) (kind evseq : Nat) (body : List Word) (k : Nat) :
    recordPart d kind evseq body k =
      { d with log := (recordPart d kind evseq body k).log, logErr := (recordPart d kind evseq body k).logErr } := by
  unfold recordPart
  dsimp only
  split <;> split <;> rfl

theorem recordPart_header (d : Dev) (kind evseq : Nat) (body : List Word) (k a : Nat) (h : a < 64) :
    (recordPart d kind evseq body k).logByte a = d.logByte a := by
  unfold recordPart
  dsimp only
  split <;> split <;> simp only [logWrite_header _ _ _ _ h]

theorem logAppend_only (d : Dev) (kind evseq : Nat) (soon : Bool) (body : List Word) :
    logAppend d kind evseq soon body =
      { d with log := (logAppend d kind evseq soon body).log, logErr := (logAppend d kind evseq soon body).logErr,
               wl := (logAppend d kind evseq soon body).wl } := by
  unfold logAppend
  split
  · rfl
  · dsimp only
    rw [recordPart_only]
    rfl

theorem logAppend_header (d : Dev) (kind evseq : Nat) (soon : Bool) (body : List Word) (a : Nat) (h : a < 64) :
    (logAppend d kind evseq soon body).logByte a = d.logByte a := by
  have hwl (e : Dev) (w : Wail) : ({ e with wl := w } : Dev).logByte a = e.logByte a := rfl
  unfold logAppend
  split
  · rfl
  · dsimp only
    rw [hwl, logWrite_header _ _ _ _ h, recordPart_header d _ _ _ _ _ h]

theorem logAppend_index (d : Dev) (kind evseq : Nat) (soon : Bool) (body : List Word) (h : d.wl.logStop = false) :
    (logAppend d kind evseq soon body).wl.logIndex = (d.wl.logIndex + 1) % 2 ^ 32 := by
  simp only [logAppend, h, Bool.false_eq_true, if_false]

/-! The BOOT record. -/

/-- `e` is `d` after the save, the BOOT record and the clear of SYS_LIMP. -/
structure Dev.bootRecorded (d e : Dev) : Prop where
  mode : e.mode = d.mode
  limp : e.ld SYS_LIMP.addr = 0#32
  regs : ∀ a, watched a = true → a ≠ SYS_LIMP.addr → e.ld a = d.ld a
  header : ∀ k, k < 64 → e.logByte k = d.logByte k
  index : d.wl.logStop = false → e.wl.logIndex = (d.wl.logIndex + 1) % 2 ^ 32
  room : d.evq.length < 240 → e.faults = d.faults ∧ e.evq.length ≤ d.evq.length + 1

theorem bootRecord_recorded (d : Dev) : d.bootRecorded (bootRecord d) := by
  have hrest := landingRestore_restored d
  unfold bootRecord
  dsimp only
  generalize landingRestore d = e at hrest
  have honly := logAppend_only e 0x01 0 true e.bootBody
  have hheader := logAppend_header e 0x01 0 true e.bootBody
  have hindex := logAppend_index e 0x01 0 true e.bootBody
  generalize logAppend e 0x01 0 true e.bootBody = g at honly hheader hindex
  exact {
    mode := by rw [← hrest.mode, honly]; rfl
    limp := Dev.put_ld _ _ _
    regs := fun a ha hl => by
      rw [Dev.put_ld_ne _ _ _ _ hl, ← hrest.regs a ha, honly]
      rfl
    header := fun k hk => (hheader k hk).trans (hrest.header k hk)
    index := fun h => by
      rw [← hrest.wl] at h ⊢
      exact hindex h
    room := fun h => by
      obtain ⟨hf, hl⟩ := hrest.room h
      rw [honly]
      exact ⟨hf, hl⟩ }

end Sys2Proof.Machine
end


section
/-!
The statements about LIMP and about the Steward reset: O15, O16, O18.
-/

namespace Sys2Proof.Machine

theorem exec_limpEntry (r e : Nat) (s : State) : exec (.limpEntry r e) s = fin s (limpEntry s.dev r e) := rfl

theorem exec_bootDeadlineExpiry (s : State) : exec .bootDeadlineExpiry s = fin s (deadlineExpiry s.dev) := rfl

theorem exec_sysLimpClr (data : Word) (c : Option (Nat × Nat)) (s : State) :
    exec (.sysLimpClr data c) s = fin s (if s.dev.niOpen 0 then limpWrite s.dev data c else s.dev) := rfl

theorem exec_stewardReset (cause : Nat) (s : State) : exec (.stewardReset cause) s = fin s (stewardReset s.dev cause) := rfl

/-- A command that raises no fault answers its device. -/
theorem completes_fin {c : Instr} {s : State} {d : Dev} {p : State → Prop} (hexec : exec c s = fin s d) (hf : d.faults = [])
    (h : p { s with dev := d }) : Completes c s p := ⟨_, hexec.trans (fin_none s d hf), h⟩

/-- The state after an entry to LIMP: faults that the entry raises lead no further. -/
theorem Dev.limped.settle {d t : Dev} {r e : Nat} (h : d.limped r e t) : d.limped r e (settle t) :=
  h.workedOn (settle_workedOn t (by rw [h.mode]; decide) (by rw [h.mode]; decide))

/-- A further cause in LIMP (R52). -/
theorem limpCause_more (d : Dev) (r e : Nat) (h : d.mode = .limp) : limpCause d r e = d.wr SYS_LIMP.MORE 1 := by
  rw [limpCause, if_pos (.inl h)]

theorem wr_limpMore (d : Dev) (v : Nat) :
    (d.wr SYS_LIMP.MORE v).rd SYS_LIMP.MORE = v % 2 ∧ (d.wr SYS_LIMP.MORE v).rd SYS_LIMP.REASON = d.rd SYS_LIMP.REASON ∧
      (d.wr SYS_LIMP.MORE v).rd SYS_LIMP.DETAIL = d.rd SYS_LIMP.DETAIL :=
  ⟨d.wr_rd SYS_LIMP.MORE v (by decide) (by decide),
    d.wr_rd_below SYS_LIMP.MORE SYS_LIMP.REASON v (by decide) (by decide) (by decide) (by decide) rfl,
    d.wr_rd_above SYS_LIMP.MORE SYS_LIMP.DETAIL v (by decide) (by decide) (by decide) rfl⟩

/-- The deadline of BOOT without VHOLD: the BOOT record, and LIMP with CAP_LOW (R506). -/
theorem deadlineExpiry_limped (d : Dev) (hm : d.mode = .boot) (hs : d.rd SYS_BOOTSTAT.STEP = 8) (hv : d.vready = false) :
    ∃ b, d.bootRecorded b ∧ b.limped 7 (d.rd PSV_VHOLD.VNOW) (deadlineExpiry d) := by
  have hrec := bootRecord_recorded (d.until (d.epoch + 10000000 * d.acts PSV_CAPCFG.DEADLINE))
  rw [deadlineExpiry, if_neg (by simp [hm, hs, hv])]
  dsimp only
  generalize bootRecord (d.until (d.epoch + 10000000 * d.acts PSV_CAPCFG.DEADLINE)) = b at hrec
  have hnow : b.rd PSV_VHOLD.VNOW = d.rd PSV_VHOLD.VNOW := by
    rw [Dev.rd, hrec.regs _ (by decide) (by decide)]
    rfl
  rw [hnow]
  exact ⟨b, ⟨hrec.mode, hrec.limp, hrec.regs, hrec.header, hrec.index, hrec.room⟩,
    limpEntry_limped b 7 _ (.inl (hrec.mode.trans hm))⟩

/-- Settles O15: every entry to LIMP leaves what `Dev.limped` says, and the integrity faults of its cycle lead no further. -/
theorem limpEntryRecordsCause : Obligations.LimpEntryRecordsCause := by
  intro reason detail s hquiet
  obtain ⟨hfaults, -, -, -⟩ := hquiet
  refine ⟨fun hmode h0 => ?_, fun hmode => ?_, fun hmode hstep hready => ?_⟩
  · have h := (limpEntry_limped s.dev reason detail hmode).settle
    obtain ⟨hreason, hdetail⟩ := h.cause h0
    exact ⟨_, exec_limpEntry _ _ s, h.mode, h.prev, hreason, hdetail, h.server, h.stopped, h.gout⟩
  · obtain ⟨hmore, hreason, -⟩ := wr_limpMore s.dev 1
    refine completes_fin (d := s.dev.wr SYS_LIMP.MORE 1) ?_ hfaults
      ⟨hmode, hmore, hreason, fun a ha => s.dev.wr_ld_ne _ _ a (List.ne_of_not_mem_cons ha),
        fun _ => rfl, fun _ => rfl, fun _ => rfl⟩
    rw [exec_limpEntry, limpEntry_limp _ _ _ hmode, limpCause_more _ _ _ hmode]
  · obtain ⟨b, hb, hlimped⟩ := deadlineExpiry_limped s.dev hmode hstep hready
    have h := hlimped.settle
    have h0 : b.rd SYS_LIMP.REASON = 0 := by
      rw [Dev.rd, show SYS_LIMP.REASON.addr = SYS_LIMP.addr from rfl, hb.limp]
      decide
    obtain ⟨hreason, hdetail⟩ := h.cause h0
    have hnow : s.dev.rd PSV_VHOLD.VNOW < 2 ^ 22 := (s.dev.rd_lt PSV_VHOLD.VNOW).trans (by decide)
    refine ⟨_, exec_bootDeadlineExpiry s, h.mode, hreason, hdetail.trans (Nat.mod_eq_of_lt hnow), fun hstop => ?_⟩
    exact h.logIndex.trans (hb.index hstop)

/-! The write of SYS_LIMP. -/

/-- What a write of SYS_LIMP clears (R52). -/
def limpCleared (d : Dev) (data : Word) : Dev :=
  if data.getLsbD 9 then d.put SYS_LIMP.addr 0#32 else if data.getLsbD 8 then d.wr SYS_LIMP.MORE 0 else d

theorem limpWrite_none (d : Dev) (data : Word) : limpWrite d data none = limpCleared d data := rfl

theorem limpWrite_some (d : Dev) (data : Word) (r e : Nat) :
    limpWrite d data (some (r, e)) = limpEntry (limpCleared d data) r e := rfl

/-- Nothing but SYS_LIMP changes. -/
theorem limpCleared_only (d : Dev) (data : Word) :
    limpCleared d data = { d with regs := (limpCleared d data).regs } ∧
      Dev.sameRegs [SYS_LIMP.addr] d (limpCleared d data) := by
  have hput (v : Word) : Dev.sameRegs [SYS_LIMP.addr] d (d.put SYS_LIMP.addr v) :=
    fun a ha => d.put_ld_ne _ a v (List.ne_of_not_mem_cons ha)
  unfold limpCleared
  split
  · exact ⟨rfl, hput _⟩
  · split
    · exact ⟨rfl, hput _⟩
    · exact ⟨rfl, fun _ _ => rfl⟩

theorem limpCleared_clr (d : Dev) (data : Word) (h : data.getLsbD 9 = true) : (limpCleared d data).ld SYS_LIMP.addr = 0#32 := by
  rw [limpCleared, if_pos h]
  exact Dev.put_ld _ _ _

theorem limpCleared_keeps (d : Dev) (data : Word) (h : data.getLsbD 9 = false) :
    (limpCleared d data).rd SYS_LIMP.REASON = d.rd SYS_LIMP.REASON ∧
      (limpCleared d data).rd SYS_LIMP.DETAIL = d.rd SYS_LIMP.DETAIL ∧
      (limpCleared d data).rd SYS_LIMP.MORE = if data.getLsbD 8 then 0 else d.rd SYS_LIMP.MORE := by
  obtain ⟨hmore, hreason, hdetail⟩ := wr_limpMore d 0
  rw [limpCleared, if_neg (by rw [h]; decide)]
  split
  · exact ⟨hreason, hdetail, hmore⟩
  · exact ⟨rfl, rfl, rfl⟩

/-- Settles O16: the write clears first, and a cause of its cycle is recorded after it. -/
theorem limpClearKeepsNewCause : Obligations.LimpClearKeepsNewCause := by
  intro data r e s hfaults hopen
  obtain ⟨honly, hregs⟩ := limpCleared_only s.dev data
  have hmode : (limpCleared s.dev data).mode = s.dev.mode := by rw [honly]
  have hnofault : (limpCleared s.dev data).faults = [] := by rw [honly]; exact hfaults
  have hexec (c : Option (Nat × Nat)) : exec (.sysLimpClr data c) s = fin s (limpWrite s.dev data c) := by
    rw [exec_sysLimpClr, if_pos hopen]
  refine ⟨?_, fun hm => ?_, fun hm hclr => ?_⟩
  · refine completes_fin (hexec none) hnofault ?_
    rw [limpWrite_none]
    exact ⟨limpCleared_clr s.dev data, limpCleared_keeps s.dev data, hregs,
      ⟨fun _ => by rw [honly]; rfl, fun _ => by rw [honly]; rfl, fun _ => by rw [honly]⟩, hmode⟩
  · have hwrite : limpWrite s.dev data (some (r, e)) = (limpCleared s.dev data).wr SYS_LIMP.MORE 1 := by
      rw [limpWrite_some, limpEntry_limp _ _ _ (hmode.trans hm), limpCause_more _ _ _ (hmode.trans hm)]
    exact completes_fin (d := (limpCleared s.dev data).wr SYS_LIMP.MORE 1) ((hexec _).trans (by rw [hwrite])) hnofault
      (wr_limpMore _ 1).1
  · rw [← hmode] at hm
    have h0 : (limpCleared s.dev data).rd SYS_LIMP.REASON = 0 := by
      rw [Dev.rd, show SYS_LIMP.REASON.addr = SYS_LIMP.addr from rfl, limpCleared_clr s.dev data hclr]
      decide
    have h := (limpEntry_limped _ r e hm).settle
    obtain ⟨hreason, hdetail⟩ := h.cause h0
    exact ⟨_, hexec _, h.mode, hreason, hdetail⟩

/-! The Steward reset. -/

theorem Dev.carried_refl (d : Dev) : d.carried d := d.workedOn_refl.carried

theorem logStart_carried (d : Dev) : d.carried (logStart d) := by
  unfold logStart
  dsimp only
  split
  · exact Dev.carried_of_eq rfl rfl
  · split
    · exact Dev.carried_of_eq rfl rfl
    · exact Dev.carried_of_eq rfl rfl

theorem wailithSources_tended (d : Dev) : d.tended (wailithSources d) := by
  have hicu (e : Dev) (a : Nat) (v : Word) (ha : a / 0x1000 = 0x40004) : e.tended (e.put a v) :=
    e.tended_put a v (not_watched_of_block (by simp [ha]))
  have henables (e : Dev) : e.tended ((List.range 4).foldl ownEnables e) := foldl_tended _ _ _ fun k hk e =>
    (hicu _ _ _ (by have := List.mem_range.1 hk; simp only [ICU_EN.addr]; omega)).after e.tended_draw
  have hpriorities (e : Dev) : e.tended ((List.range 28).foldl ownPriorities e) := foldl_tended _ _ _ fun k hk e =>
    (hicu _ _ _ (by have := List.mem_range.1 hk; simp only [ICU_CFG.addr]; omega)).after e.tended_draw
  exact (hicu _ _ _ (by decide)).after ((hicu _ _ _ (by decide)).after ((hpriorities _).after (henables d)))

theorem wailithRestart_carried (d : Dev) : d.carried (wailithRestart d) :=
  (abortBusy_workedOn _).carried.after ((wailithSources_tended _).workedOn.carried.after
    ((reclaimOwner_tended _ 1).workedOn.carried.after (logStart_carried d)))

theorem niDrop_carried (d : Dev) (ni : Nat) : d.carried (niDrop d ni) := by
  unfold niDrop
  dsimp only
  split
  · exact d.carried_refl
  · exact Dev.carried_of_eq rfl rfl

/-- The counters and the event of a Steward reset. -/
def stewardCounted (d : Dev) (cause : Nat) : Dev :=
  evqKind ((d.bump SYS_STWRST.COUNT 1).wr SYS_STWRST.CAUSE cause) 0x00 .stewardReset true cause 0

theorem stewardCounted_rd (d : Dev) (cause : Nat) : (stewardCounted d cause).rd SYS_STWRST.CAUSE = cause % 4 ∧
    (stewardCounted d cause).rd SYS_STWRST.COUNT = min 0xFFFF (d.rd SYS_STWRST.COUNT + 1) := by
  have hev := evqKind_tended ((d.bump SYS_STWRST.COUNT 1).wr SYS_STWRST.CAUSE cause) 0x00 .stewardReset true cause 0
  rw [stewardCounted, hev.rd _ (by decide), hev.rd _ (by decide)]
  exact ⟨Dev.wr_rd _ _ _ (by decide) (by decide),
    (Dev.wr_rd_below _ SYS_STWRST.CAUSE SYS_STWRST.COUNT _ (by decide) (by decide) (by decide) (by decide) rfl).trans
      (d.bump_rd SYS_STWRST.COUNT 1 (by decide) (by decide))⟩

theorem stewardCounted_holder (d : Dev) (cause n : Nat) : (stewardCounted d cause).holder n = d.holder n :=
  (evqKind_tended _ _ _ _ _ _).holder n

theorem niDrop_holder (d : Dev) (ni n : Nat) : (niDrop d ni).holder n = d.holder n := by
  unfold niDrop
  dsimp only
  split <;> rfl

/-- After the count, a Steward reset releases the locks of holder 0x1, and what follows carries them (R61, R77). -/
theorem stewardResetCore_carried (d : Dev) (cause : Nat) (hl : d.mode ≠ .landing) (hr : d.mode ≠ .resting) :
    ∃ b, (stewardCounted d cause).carried b ∧ (∀ n, b.holder n = d.holder n) ∧
      (releaseHolder b 1).carried (stewardResetCore d cause) := by
  have hwd (e : Dev) : e.carried ((e.wr BAL_WDSTAT.SWDACT 1).wr BAL_WDSTAT.SNEXT 0) :=
    ((e.tended_wr _ _ (by decide)).trans (Dev.tended_wr _ _ _ (by decide))).workedOn.carried
  have hbal (e : Dev) : e.carried (balEval { e with bal := { e.bal with swdLast := e.now, swdHalf := false } }) :=
    (balEval_workedOn _).carried.after (Dev.carried_of_eq rfl rfl)
  have hends (e : Dev) : e.carried (dgeAbortS (clearLoops e)) :=
    (dgeAbortS_workedOn _).carried.after (clearLoops_tended e).workedOn.carried
  rw [stewardResetCore, if_neg (by simp [hl, hr])]
  extract_lets start counted rs _ dropped ended stopped _ e
  have hdropped : (stewardCounted d cause).carried dropped := (niDrop_carried _ 0).after (Dev.carried_of_eq rfl rfl)
  have hholder (n : Nat) : dropped.holder n = d.holder n := (niDrop_holder _ 0 n).trans (stewardCounted_holder d cause n)
  have he : (releaseHolder dropped 1).carried e := (hbal _).after ((hwd _).after (hends _))
  clear_value e
  refine ⟨dropped, hdropped, hholder, he.trans ?_⟩
  split
  · exact limpEntry_carried e 9 cause
  · split
    · split
      · exact wailithRestart_carried e
      · exact limpEntry_carried e 1 0
    · split
      · exact limpEntry_carried e 1 0
      · exact e.carried_refl
    · exact (abortBusy_workedOn e).carried
    · exact e.carried_refl

/-- Settles O18: the locks are free once holder 0x1 is released, and nothing after it takes a lock or clears a flag. -/
theorem stewardResetOrphansLocks : Obligations.StewardResetOrphansLocks := by
  intro cause s _ hl hr
  obtain ⟨b, hb, hholder, hcore⟩ := stewardResetCore_carried s.dev.cycleBegin cause hl hr
  have hdone : (releaseHolder b 1).carried (settle (stewardReset s.dev cause)) :=
    (settle_carried _).after ((inCycle_tended _ s.dev).workedOn.carried.after hcore)
  have hcount := hdone.after ((releaseHolder_workedOn b 1).carried.after hb)
  obtain ⟨hcause, hcounted⟩ := stewardCounted_rd s.dev.cycleBegin cause
  refine ⟨_, exec_stewardReset cause s, ?_, ?_, fun n hn hheld => ?_⟩
  · exact (hcount.rd _ (by decide) (by decide) (by decide)).trans hcause
  · exact (hcount.rd _ (by decide) (by decide) (by decide)).trans hcounted
  · obtain ⟨hfree, horphan⟩ := releaseHolder_frees b 1 n (by decide) hn ((hholder n).trans hheld)
    exact ⟨hdone.freed n hfree, hdone.orphan n hn horphan⟩

end Sys2Proof.Machine
end


section
/-!
LANDING, the save and RESTING: O21.
-/

namespace Sys2Proof.Machine

/-! Bytes of the Logbook. -/

/-- A byte outside the written range of the Logbook reads as before. -/
theorem logPut_outside : ∀ (bs : List Byte) (t : List Host.Cell) (a k : Nat), k < a ∨ a + bs.length ≤ k →
    tget logDflt (logPut t a bs) k = tget logDflt t k
  | [], _, _, _, _ => rfl
  | b :: r, t, a, k, h => by
    simp only [List.length_cons] at h
    rw [logPut, logPut_outside r _ (a + 1) k (by omega)]
    split
    · rfl
    · exact tget_tset_ne _ _ _ _ _ (by omega)

/-- A byte of the written range that no rule fixes reads as written. -/
theorem logPut_inside : ∀ (bs : List Byte) (t : List Host.Cell) (a i : Nat) (h : i < bs.length), logFixed (a + i) = false →
    tget logDflt (logPut t a bs) (a + i) = bs[i]
  | b :: r, t, a, 0, _, hf => by
    rw [logPut, if_neg (by simpa using hf), logPut_outside r _ (a + 1) _ (.inl (by omega))]
    exact tget_tset_same _ _ _ _
  | b :: r, t, a, i + 1, h, hf => by
    have hi : i < r.length := by simpa using h
    rw [logPut, show a + (i + 1) = a + 1 + i by omega]
    exact logPut_inside r _ (a + 1) i hi (by rwa [show a + 1 + i = a + (i + 1) by omega])

theorem not_logFixed {a : Nat} (h : 0x1000 ≤ a) : logFixed a = false := by
  simp [logFixed]
  omega

theorem logWrite_outside (d : Dev) (a : Nat) (bs : List Byte) (k : Nat) (h : k < a ∨ a + bs.length ≤ k) :
    (d.logWrite a bs).logByte k = d.logByte k := logPut_outside bs d.log a k h

theorem logWrite_inside (d : Dev) (a : Nat) (bs : List Byte) (i : Nat) (h : i < bs.length) (hf : logFixed (a + i) = false) :
    (d.logWrite a bs).logByte (a + i) = bs[i] := logPut_inside bs d.log a i h hf

/-! The save. -/

/-- Writes of the Logbook one after the other. -/
def logWrites (ps : List (Nat × List Byte)) (d : Dev) : Dev := ps.foldl (fun d p => d.logWrite p.1 p.2) d

theorem logWrites_below : ∀ (ps : List (Nat × List Byte)) (d : Dev) (k : Nat), (∀ p ∈ ps, k < p.1) →
    (logWrites ps d).logByte k = d.logByte k
  | [], _, _, _ => rfl
  | p :: r, d, k, h =>
    (logWrites_below r (d.logWrite p.1 p.2) k fun q hq => h q (List.mem_cons_of_mem p hq)).trans
      (logWrite_outside d p.1 p.2 k (.inl (h p List.mem_cons_self)))

theorem logWrites_only : ∀ (ps : List (Nat × List Byte)) (d : Dev),
    logWrites ps d = { d with log := (logWrites ps d).log, logErr := (logWrites ps d).logErr }
  | [], _ => rfl
  | p :: r, d => logWrites_only r (d.logWrite p.1 p.2)

/-- A save writes nothing but the save area, its MAGIC first (R508). -/
theorem writeSave_writes (d : Dev) (status : Nat) (state : List Word) (regions : List (Nat × Nat)) (datas : List Byte) :
    ∃ bs ps, (∀ p ∈ ps, saveBase + 4 ≤ p.1) ∧ writeSave d status state regions datas =
      logWrites ((saveBase, leBytes 4 0x4B4E4C53 ++ bs) :: ps) d := by
  refine ⟨leBytes 4 status ++ leBytes 4 (d.saveCount + 1), [(saveBase + 0x14, leBytes 4 0xFFFFFFFF ++ List.replicate 40 0#8),
    (saveBase + 0x40, state.flatMap wordBytes), (saveBase + 0x100, regions.flatMap (fun r => leBytes 4 r.1 ++ leBytes 4 r.2)),
    (saveBase + 0x120, List.replicate 736 0#8), (saveBase + 0x400, datas)], ?_, ?_⟩
  · simp only [List.forall_mem_cons, List.not_mem_nil, false_implies, implies_true, and_true]
    omega
  · rw [writeSave, ← List.append_assoc]
    rfl

theorem writeSave_only (d : Dev) (status : Nat) (state : List Word) (regions : List (Nat × Nat)) (datas : List Byte) :
    writeSave d status state regions datas = { d with log := (writeSave d status state regions datas).log,
                                                      logErr := (writeSave d status state regions datas).logErr } := by
  obtain ⟨bs, ps, -, heq⟩ := writeSave_writes d status state regions datas
  rw [heq]
  exact logWrites_only _ d

theorem writeSave_rd (d : Dev) (status : Nat) (state : List Word) (regions : List (Nat × Nat)) (datas : List Byte) (f : Fld) :
    (writeSave d status state regions datas).rd f = d.rd f := by
  have honly := writeSave_only d status state regions datas
  generalize writeSave d status state regions datas = u at *
  rw [honly]
  rfl

theorem writeSave_below (d : Dev) (status : Nat) (state : List Word) (regions : List (Nat × Nat)) (datas : List Byte) (k : Nat)
    (h : k < saveBase) : (writeSave d status state regions datas).logByte k = d.logByte k := by
  obtain ⟨bs, ps, hps, heq⟩ := writeSave_writes d status state regions datas
  rw [heq]
  refine logWrites_below _ d k fun p hp => ?_
  rcases List.mem_cons.1 hp with rfl | hp
  · exact h
  · have := hps p hp
    omega

/-- MAGIC stands in the Logbook once four bytes from `saveBase` on are its bytes. -/
theorem saveMagic_of_bytes (d : Dev) (h : ∀ i (hi : i < 4), d.logByte (saveBase + i) = (leBytes 4 0x4B4E4C53)[i]'hi) :
    d.saveMagic = true := by
  have hbytes : d.logBytes saveBase 4 = leBytes 4 0x4B4E4C53 :=
    List.ext_getElem (by simp [Dev.logBytes, leBytes]) fun i hi _ => by
      simp only [Dev.logBytes, List.length_map, List.length_range] at hi
      simp only [Dev.logBytes, List.getElem_map, List.getElem_range]
      exact h i hi
  rw [Dev.saveMagic, Dev.saveWord, Nat.add_zero, hbytes]
  decide

theorem writeSave_magic (d : Dev) (status : Nat) (state : List Word) (regions : List (Nat × Nat)) (datas : List Byte) :
    (writeSave d status state regions datas).saveMagic = true := by
  obtain ⟨bs, ps, hps, heq⟩ := writeSave_writes d status state regions datas
  refine saveMagic_of_bytes _ fun i hi => ?_
  have hlen : i < (leBytes 4 0x4B4E4C53 ++ bs).length := by
    rw [List.length_append]
    exact Nat.lt_add_right _ hi
  have hfirst : (d.logWrite saveBase (leBytes 4 0x4B4E4C53 ++ bs)).logByte (saveBase + i) = (leBytes 4 0x4B4E4C53)[i]'hi := by
    rw [logWrite_inside d saveBase _ i hlen (not_logFixed (by simp only [saveBase]; omega))]
    exact List.getElem_append_left hi
  rw [heq]
  exact (logWrites_below ps _ _ fun p hp => by have := hps p hp; omega).trans hfirst

/-! The trip of every channel. -/

/-- A channel with an active cause is TRIPPED afterwards, whatever room the EVQ has. -/
theorem tripWith_sets (d : Dev) (f : Nat → Nat) (n : Nat) (hn : n < 16) (h : f n ≠ 0) :
    ((tripWith d f).rd BAL_STATE.TRIPPED).testBit n = true := by
  obtain ⟨causes, heq⟩ := tripWith_eq d f
  have hcauses := tripCauses_tended d f
  have hlt : newTrips d f < 2 ^ 16 := maskFrom_lt _ _
  have hnew : (newTrips d f).testBit n = !(d.rd BAL_STATE.TRIPPED).testBit n := by
    rw [newTrips, testBit_maskFrom]
    simp [hn, h]
  rw [heq]
  split
  · next h0 =>
    rw [h0, Nat.zero_testBit] at hnew
    rw [hcauses.rd _ (by decide)]
    simpa using hnew.symm
  · rw [(evqAppend_tended _ _ _ _ _ _).rd _ (by decide), tripPins_tripped _ _ hlt, Nat.testBit_or, hnew,
      hcauses.rd _ (by decide), Bool.or_not_self]

/-- In LANDING every channel has a cause (Table BAL.1). -/
theorem balEval_landing (d : Dev) (h : d.mode = .landing) (n : Nat) (hn : n < 16) :
    ((balEval d).rd BAL_STATE.TRIPPED).testBit n = true := by
  unfold balEval
  extract_lets e g
  have he : e.mode = .landing := (srcUse_workedOn d 0xFFFF).mode.trans h
  have hg : g.mode = .landing := by
    unfold g
    split
    · exact (useTwin_tended e _).mode.trans he
    · exact he
  refine tripWith_sets g _ n hn ?_
  simp [Dev.levels, hg, bit, cLand]

/-! The trigger. -/

/-- `t` is `d` in LANDING: every channel tripped, the keys erased, the drivers off, the records of the Logbook as they were. -/
structure Dev.landed (d t : Dev) : Prop where
  mode : t.mode = .landing
  prev : t.prev = d.mode
  tripped : ∀ n, n < 16 → (t.rd BAL_STATE.TRIPPED).testBit n = true
  keys : t.dge.keys = List.replicate 7 none
  twin : t.twin = []
  undriven : t.pins.undriven = true
  log : ∀ a, a < saveBase → t.logByte a = d.logByte a

theorem Dev.landed.workedOn {d t u : Dev} (h : d.landed t) (k : t.workedOn u) : d.landed u where
  mode := k.mode.trans h.mode
  prev := k.prev.trans h.prev
  tripped := fun n hn => k.tripped n (h.tripped n hn)
  keys := k.keys.trans h.keys
  twin := by rw [k.only]; exact h.twin
  undriven := by rw [k.only]; exact h.undriven
  log := fun a ha => by rw [Dev.logByte, k.log]; exact h.log a ha

/-- What ends at once, before the lanes go down and the matrix is evaluated (Table PWR.3). -/
def landingEnds (d : Dev) : Dev :=
  let d := { d with twin := [], dge := { d.dge with keys := List.replicate 7 none },
                    wl := { d.wl with dozeWait := none, wakeHeld := false },
                    pins := { d.pins with undriven := true } }
  galOff (((d.wr DGE_KEYSTAT.LOADED 1).wr PSV_STAT.CHGON 0).wr VST_FWSTAT.SERVER 0)

theorem landingEnds_fields (d : Dev) : (landingEnds d).mode = d.mode ∧ (landingEnds d).prev = d.prev ∧
    (landingEnds d).dge.keys = List.replicate 7 none ∧ (landingEnds d).twin = [] ∧ (landingEnds d).pins.undriven = true ∧
    (landingEnds d).log = d.log := by simp [landingEnds, galOff]

theorem landingEffects_landed {d b : Dev} (hm : b.mode = .landing) (hp : b.prev = d.mode) (hl : b.log = d.log) :
    d.landed (landingEffects b) := by
  obtain ⟨hmode, hprev, hkeys, htwin, hpins, hlog⟩ := landingEnds_fields b
  have heq : landingEffects b = balEval ((List.range 4).foldl (fun d l => laneDown d l 7) (landingEnds b)) := rfl
  generalize landingEnds b = e at *
  have hlanes : e.workedOn ((List.range 4).foldl (fun d l => laneDown d l 7) e) :=
    foldl_workedOn _ _ _ fun l _ e => laneDown_workedOn e l 7
  generalize (List.range 4).foldl (fun d l => laneDown d l 7) e = g at *
  have hall := hlanes.trans (balEval_workedOn g)
  rw [heq]
  exact {
    mode := hall.mode.trans (hmode.trans hm)
    prev := hall.prev.trans (hprev.trans hp)
    tripped := balEval_landing g (hlanes.mode.trans (hmode.trans hm))
    keys := hall.keys.trans hkeys
    twin := by rw [hall.only]; exact htwin
    undriven := by rw [hall.only]; exact hpins
    log := fun a _ => by rw [Dev.logByte, hall.log, hlog, hl, Dev.logByte] }

/-- The save status on entry, from its parts (Table PWR.5). -/
theorem statusWord_result (result from_ vtrig : Nat) (nvmwr capwarn overwr trunc : Bool) (seq : Nat) (hr : result < 8)
    (hf : from_ < 8) : statusWord result from_ vtrig nvmwr capwarn overwr trunc seq % 2 ^ 32 / 2 ^ 28 = result := by
  have hbit (b : Bool) : bit b ≤ 1 := by cases b <;> decide
  have h1 := hbit nvmwr
  have h2 := hbit capwarn
  have h3 := hbit overwr
  have h4 := hbit trunc
  unfold statusWord
  omega

/-- The status register in LANDING takes its value, and all else stays. -/
theorem Dev.landed.status {d t : Dev} (h : d.landed t) (v : Nat) : d.landed (t.wr PSV_SAVESTAT.STATUS v) where
  mode := h.mode
  prev := h.prev
  tripped := fun n hn => by rw [Dev.wr_rd_ne _ _ _ _ (by decide)]; exact h.tripped n hn
  keys := h.keys
  twin := h.twin
  undriven := h.undriven
  log := h.log

theorem Dev.landed.writeSave {d t : Dev} (h : d.landed t) (status : Nat) (state : List Word) (regions : List (Nat × Nat))
    (datas : List Byte) : d.landed (writeSave t status state regions datas) := by
  have honly := writeSave_only t status state regions datas
  have hbelow := writeSave_below t status state regions datas
  generalize Machine.writeSave t status state regions datas = u at *
  exact {
    mode := by rw [honly]; exact h.mode
    prev := by rw [honly]; exact h.prev
    tripped := by rw [honly]; exact h.tripped
    keys := by rw [honly]; exact h.keys
    twin := by rw [honly]; exact h.twin
    undriven := by rw [honly]; exact h.undriven
    log := fun a ha => (hbelow a ha).trans (h.log a ha) }

/-- The trigger in its cycle: LANDING, the status, and the save (R507, R45). -/
theorem landingCore_landed (d : Dev) (mv : Nat) (cut : Bool) (cause : Option (Nat × Nat)) (h : d.mode ≠ .landing) :
    d.landed (landingCore d mv cut cause) ∧
      (landingCore d mv cut cause).rd PSV_SAVESTAT.STATUS / 2 ^ 28 = (if d.mode = .boot then 2 else 4) ∧
      (d.mode ≠ .boot → (landingCore d mv cut cause).saveMagic = true) := by
  unfold landingCore
  extract_lets m boot state regions datas count status c pins b e f
  have hc : c.mode = d.mode ∧ c.log = d.log := by
    unfold c
    split
    · rw [limpCause]
      split <;> exact ⟨rfl, rfl⟩
    · exact ⟨rfl, rfl⟩
  obtain ⟨hcm, hcl⟩ := hc
  have hset := setMode_tended (b.bump PSV_CNT.LANDINGS 1) .landing (by rw [Dev.bump_mode]; exact hcm ▸ h)
  have he : d.landed e := landingEffects_landed hset.mode (hset.prev.trans hcm) (hset.log.trans hcl)
  have hf : d.landed f := he.status status
  have hresult : f.rd PSV_SAVESTAT.STATUS / 2 ^ 28 = if d.mode = .boot then 2 else 4 := by
    have hcode : m.code < 8 := by cases m <;> decide
    have hboot : (if boot = true then 2 else 4) = if d.mode = .boot then 2 else 4 := by simp [boot, m]
    rw [← hboot]
    exact (congrArg (· / 2 ^ 28) (Dev.wr_rd e _ _ (by decide) (by decide))).trans
      (statusWord_result _ _ _ _ _ _ _ _ (by split <;> decide) hcode)
  clear_value f
  by_cases hb : d.mode = .boot
  · rw [if_pos (by simp [boot, m, hb])]
    exact ⟨hf, hresult, fun hn => absurd hb hn⟩
  · rw [if_neg (by simp [boot, m, hb])]
    refine ⟨hf.writeSave _ _ _ _, ?_, fun _ => writeSave_magic _ _ _ _ _⟩
    rw [writeSave_rd]
    exact hresult

theorem exec_landingTrigger (mv : Nat) (nvmwr : Option Nat) (cause : Option (Nat × Nat)) (s : State) :
    exec (.landingTrigger mv nvmwr cause) s = fin s (landingTrigger s.dev mv nvmwr cause) := rfl

theorem exec_landingSaveComplete (vend : Nat) (s : State) :
    exec (.landingSaveComplete vend) s = fin s (landingDone s.dev vend) := rfl

theorem exec_aonShutdown (s : State) : exec .aonShutdown s = fin s (aonShutdown s.dev) := rfl

/-- Sixteen bits that are all set. -/
theorem eq_of_low_bits {n : Nat} (hn : n < 2 ^ 16) (h : ∀ i, i < 16 → n.testBit i = true) : n = 0xFFFF := by
  refine Nat.eq_of_testBit_eq fun i => ?_
  rw [show 0xFFFF = 2 ^ 16 - 1 from rfl, Nat.testBit_two_pow_sub_one]
  by_cases hi : i < 16
  · simp [hi, h i hi]
  · simp [hi, Nat.testBit_lt_two_pow (hn.trans_le (Nat.pow_le_pow_right (by decide) (Nat.not_lt.1 hi)))]

theorem logCut_mode (d : Dev) (k : Nat) : (logCut d k).mode = d.mode := by
  unfold logCut
  split
  · rfl
  · split
    · rw [recordPart_only]
    · rfl

theorem logCut_off (d : Dev) (k : Nat) (h : d.mode ≠ .run) : logCut d k = d := by
  rw [logCut, if_pos (.inl h)]

/-- The Logbook as the trigger finds it. -/
def landingFrom (d : Dev) (nvmwr : Option Nat) : Dev :=
  match nvmwr with
  | some k => logCut d k
  | none => d

theorem landingFrom_mode (d : Dev) (nvmwr : Option Nat) : (landingFrom d nvmwr).mode = d.mode := by
  cases nvmwr with
  | none => rfl
  | some k => exact logCut_mode d k

theorem landingFrom_whole (d : Dev) (nvmwr : Option Nat) (h : nvmwr = none ∨ d.mode ≠ .run) : landingFrom d nvmwr = d := by
  cases nvmwr with
  | none => rfl
  | some k => exact logCut_off d k (h.resolve_left (by simp))

theorem landingTrigger_eq (d : Dev) (mv : Nat) (nvmwr : Option Nat) (cause : Option (Nat × Nat)) (hl : d.mode ≠ .landing)
    (hr : d.mode ≠ .resting) : landingTrigger d mv nvmwr cause =
      inCycle (fun d => settle (landingCore d mv nvmwr.isSome cause)) (landingFrom d nvmwr) := by
  unfold landingTrigger
  split
  · exact absurd ‹_› hl
  · exact absurd ‹_› hr
  · rfl

theorem settle_landing {d t : Dev} (h : d.landed t) : t.workedOn (settle t) :=
  settle_workedOn t (by rw [h.mode]; decide) (by rw [h.mode]; decide)

/-- A landing as a whole: all that follows the core of the trigger is work within LANDING. -/
theorem landingTrigger_workedOn (d : Dev) (mv : Nat) (nvmwr : Option Nat) (cause : Option (Nat × Nat)) (hl : d.mode ≠ .landing)
    (hr : d.mode ≠ .resting) : ∃ e, e.log = (landingFrom d nvmwr).log ∧ e.mode = d.mode ∧
      e.landed (landingCore e mv nvmwr.isSome cause) ∧
      (landingCore e mv nvmwr.isSome cause).workedOn (settle (landingTrigger d mv nvmwr cause)) := by
  have hmode := landingFrom_mode d nvmwr
  rw [landingTrigger_eq d mv nvmwr cause hl hr]
  generalize landingFrom d nvmwr = e at *
  have hland := (landingCore_landed e.cycleBegin mv nvmwr.isSome cause (fun h => hl (hmode.symm.trans h))).1
  have hcycle := (settle_landing hland).trans
    (inCycle_tended (fun d => settle (landingCore d mv nvmwr.isSome cause)) e).workedOn
  exact ⟨e.cycleBegin, rfl, hmode, hland, hcycle.trans (settle_landing (hland.workedOn hcycle))⟩

/-! The end of the save. -/

/-- The end of the save before RESTING (R507, R509). -/
def saveEnded (d : Dev) (vend : Nat) : Dev :=
  let status := d.rd PSV_SAVESTAT.STATUS
  let d := { d with pins := { d.pins with vhold := 100 * vend } }
  if status / 2 ^ 28 = 4 ∧ 50 ≤ vend then
    let len := (List.range 4).foldl (fun m k => m + d.saveWord (0x104 + 8 * k)) 0
    let d := d.logWrite (saveBase + 0x0C) (leBytes 4 len)
    let d := d.logWrite (saveBase + 0x10) (leBytes 4 (crc32 d.saveCovered))
    let final := 2 ^ 28 + status % 2 ^ 28 + 2 ^ 8 * (vend % 256)
    (d.logWrite (saveBase + 4) (leBytes 4 final)).wr PSV_SAVESTAT.STATUS final
  else d

theorem landingDone_eq (d : Dev) (vend : Nat) (h : d.mode = .landing) :
    landingDone d vend = setMode (saveEnded d vend) .resting := by
  rw [landingDone, if_neg (not_not.2 h)]
  rfl

theorem saveEnded_fields (d : Dev) (vend : Nat) :
    (saveEnded d vend).mode = d.mode ∧ (saveEnded d vend).pins.vhold = 100 * vend ∧
      ∀ a, a < saveBase → (saveEnded d vend).logByte a = d.logByte a := by
  have hbelow (e : Dev) (k : Nat) (bs : List Byte) (a : Nat) (h : a < saveBase) :
      (e.logWrite (saveBase + k) bs).logByte a = e.logByte a := logWrite_outside e _ bs a (.inl (by omega))
  have hwr (e : Dev) (v a : Nat) : (e.wr PSV_SAVESTAT.STATUS v).logByte a = e.logByte a := rfl
  have hmode (e : Dev) (a : Nat) (bs : List Byte) : (e.logWrite a bs).mode = e.mode := rfl
  have hpins (e : Dev) (a : Nat) (bs : List Byte) : (e.logWrite a bs).pins = e.pins := rfl
  unfold saveEnded
  dsimp only
  split
  · refine ⟨by rw [Dev.wr_mode, hmode, hmode, hmode], by rw [Dev.wr_pins, hpins, hpins, hpins], fun a ha => ?_⟩
    rw [hwr, hbelow _ _ _ _ ha, hbelow _ _ _ _ ha, hbelow _ _ _ _ ha]
    rfl
  · exact ⟨rfl, rfl, fun _ _ => rfl⟩

theorem saveEnded_status (d : Dev) (vend : Nat) : (saveEnded d vend).rd PSV_SAVESTAT.STATUS =
    if d.rd PSV_SAVESTAT.STATUS / 2 ^ 28 = 4 ∧ 50 ≤ vend
    then 2 ^ 28 + d.rd PSV_SAVESTAT.STATUS % 2 ^ 28 + 2 ^ 8 * (vend % 256) else d.rd PSV_SAVESTAT.STATUS := by
  unfold saveEnded
  dsimp only
  split
  · rw [Dev.wr_rd _ _ _ (by decide) (by decide)]
    exact Nat.mod_eq_of_lt (by simp only [PSV_SAVESTAT.STATUS]; omega)
  · rfl

/-- Settles O21: the trigger, the end of the save, and the end of the AON supply. -/
theorem landingSavesAndRests : Obligations.LandingSavesAndRests := by
  intro mv vend nvmwr cause s hquiet
  obtain ⟨hfaults, -, -, -⟩ := hquiet
  refine ⟨fun hl hr => ?_, fun hl => ?_, fun hr => ?_⟩
  · obtain ⟨e, hlog, hmode, hland, hwork⟩ := landingTrigger_workedOn s.dev mv nvmwr cause hl hr
    obtain ⟨-, hstatus, hmagic⟩ := landingCore_landed e mv nvmwr.isSome cause (by rw [hmode]; exact hl)
    have ht := hland.workedOn hwork
    have hbytes (a : Nat) (ha : a < 0xF0000) :
        (settle (landingTrigger s.dev mv nvmwr cause)).logByte a = (landingFrom s.dev nvmwr).logByte a := by
      rw [ht.log a ha, Dev.logByte, hlog, Dev.logByte]
    refine ⟨_, exec_landingTrigger mv nvmwr cause s, ht.mode, ht.prev.trans hmode,
      eq_of_low_bits (Dev.rd_lt _ BAL_STATE.TRIPPED) ht.tripped, ht.keys, ht.twin, ht.undriven, ?_, fun hb => ?_,
      fun hn a ha => ?_, fun k hk a ha => ?_⟩
    · rw [hwork.rd _ (by decide), hstatus, hmode]
    · rw [Dev.saveMagic, Dev.saveWord, Dev.logBytes]
      simp only [Dev.logByte, hwork.log]
      exact hmagic (by rw [hmode]; exact hb)
    · rw [hbytes a ha, landingFrom_whole s.dev nvmwr hn]
    · rw [hbytes a ha, hk, landingFrom]
  · obtain ⟨hmode, hvhold, hlog⟩ := saveEnded_fields s.dev vend
    have hset := setMode_tended (saveEnded s.dev vend) .resting (by rw [hmode, hl]; decide)
    have hresting : (setMode (saveEnded s.dev vend) .resting).mode = .resting := hset.mode
    have hrest := hset.workedOn.trans (settle_workedOn _ (by rw [hresting]; decide) (by rw [hresting]; decide))
    refine ⟨_, exec_landingSaveComplete vend s, ?_⟩
    rw [landingDone_eq s.dev vend hl]
    refine ⟨hrest.mode, hrest.prev.trans (hmode.trans hl), ?_, (hrest.rd _ (by decide)).trans (saveEnded_status s.dev vend),
      fun a ha => ?_⟩
    · rw [hrest.only]
      exact hvhold
    · rw [Dev.logByte, hrest.log]
      exact hlog a ha
  · have hdone : aonShutdown s.dev =
        { s.dev with modeKnown := false, pins := { s.dev.pins with vaon := false, vhold := min s.dev.pins.vhold 4999 } } := by
      rw [aonShutdown, if_pos hr]
    refine completes_fin (exec_aonShutdown s) (by rw [hdone]; exact hfaults) ?_
    rw [hdone]
    refine ⟨rfl, rfl, ?_, fun _ _ => rfl⟩
    simp only [Dev.aonOn, Bool.false_or, decide_eq_false_iff_not]
    omega

end Sys2Proof.Machine
end


section
/-!
The resets: O13.
-/

namespace Sys2Proof.Machine

/-- A field of one bit is that bit. -/
theorem fld_bit (w : Word) (k : Nat) : fld w k k = (w.getLsbD k).toNat := by
  rw [fld, BitVec.getLsbD, Nat.toNat_testBit, show k + 1 - k = 1 by omega, pow_one]

/-! The registers after a reset. -/

/-- The registers in which a restart shows: orphan flags, trip states and trip causes. -/
def restartRegs : List Nat :=
  [NWL_ORPHAN.addr 0, NWL_ORPHAN.addr 1, BAL_STATE.addr] ++ (List.range 16).map BAL_TCAUSE.addr

theorem restartRegs_class : ∀ a ∈ restartRegs, regClass a ≠ some .aon := by decide

/-- A register after the registers of other classes than AON return to their reset values. -/
theorem tget_aonRegs (d : Dev) (a : Nat) : tget regReset (d.regs.filter (fun e => regClass e.1 == some .aon)) a =
    if regClass a = some .aon then d.ld a else regReset a := by
  have hdrop : d.regs.filter (fun e => regClass e.1 == some .aon) = tdrop (fun a => regClass a != some .aon) d.regs := by
    simp [tdrop, bne]
  rw [hdrop, tget_tdrop]
  by_cases h : regClass a = some .aon
  · simp [h, Dev.ld]
  · simp [h]

/-- `e` is `d` after what a reset does to its registers and units. -/
structure Dev.resetTo (d e : Dev) : Prop where
  mode : e.mode = .boot
  epoch : e.epoch = d.now
  holders : e.holders = []
  outs : e.bal.outA = 0 ∧ e.bal.outB = 0
  log : e.log = d.log
  faults : e.faults = []
  regs : ∀ a ∈ restartRegs, e.ld a = regReset a

theorem Dev.resetTo.put {d e : Dev} (h : d.resetTo e) (a : Nat) (v : Word) (ha : a ∉ restartRegs) : d.resetTo (e.put a v) where
  mode := h.mode
  epoch := h.epoch
  holders := h.holders
  outs := h.outs
  log := h.log
  faults := h.faults
  regs := fun b hb => (e.put_ld_ne a b v (by rintro rfl; exact ha hb)).trans (h.regs b hb)

theorem chargerStart_ld (d : Dev) (a : Nat) (h : a ≠ PSV_STAT.addr) : (chargerStart d).ld a = d.ld a :=
  (Dev.wr_ld_ne _ PSV_STAT.IOWARN _ a h).trans (Dev.wr_ld_ne _ PSV_STAT.CHGON _ a h)

theorem Dev.resetTo.charger {d e : Dev} (h : d.resetTo e) : d.resetTo (chargerStart e) where
  mode := h.mode
  epoch := h.epoch
  holders := h.holders
  outs := h.outs
  log := h.log
  faults := h.faults
  regs := fun a ha => (chargerStart_ld e a (by rintro rfl; revert ha; decide)).trans (h.regs a ha)

/-- Straps and step of the restart, and the charger. -/
def startBoot (d : Dev) (straps : Nat) : Dev := chargerStart ((d.put SYS_STRAP.addr (strapWord straps)).wr SYS_BOOTSTAT.STEP 1)

theorem Dev.resetTo.startBoot {d e : Dev} (h : d.resetTo e) (straps : Nat) : d.resetTo (startBoot e straps) :=
  ((h.put _ _ (by decide)).put _ _ (by decide)).charger

theorem startBoot_ld (d : Dev) (straps a : Nat) (h : a ∉ [PSV_STAT.addr, SYS_BOOTSTAT.addr, SYS_STRAP.addr]) :
    (startBoot d straps).ld a = d.ld a := by
  simp only [List.mem_cons, List.not_mem_nil, or_false, not_or] at h
  obtain ⟨hp, hb, hs⟩ := h
  rw [startBoot, chargerStart_ld _ _ hp, Dev.wr_ld_ne _ _ _ _ hb, Dev.put_ld_ne _ _ _ _ hs]

theorem startBoot_step (d : Dev) (straps : Nat) : (startBoot d straps).rd SYS_BOOTSTAT.STEP = 1 := by
  rw [startBoot, Dev.rd, chargerStart_ld _ _ (by decide)]
  exact Dev.wr_rd _ _ _ (by decide) (by decide)

theorem startBoot_strap (d : Dev) (straps : Nat) : (startBoot d straps).ld SYS_STRAP.addr = strapWord straps := by
  rw [startBoot, chargerStart_ld _ _ (by decide), Dev.wr_ld_ne _ _ _ _ (by decide), Dev.put_ld]

/-- What the mode event of a restart leaves. -/
theorem Dev.resetTo.event {d e : Dev} (h : d.resetTo e) (hroom : e.evq = []) (x y : Nat) :
    d.resetTo (evqKind e 0x00 .modeChange true x y) where
  mode := (evqKind_tended _ _ _ _ _ _).mode.trans h.mode
  epoch := by rw [(evqKind_tended e _ _ _ _ _).only]; exact h.epoch
  holders := by rw [(evqKind_tended e _ _ _ _ _).only]; exact h.holders
  outs := by rw [(evqKind_tended e _ _ _ _ _).only]; exact h.outs
  log := (evqKind_tended _ _ _ _ _ _).log.trans h.log
  faults := (evqAppend_faults e _ _ _ _ _ (by rw [hroom]; decide)).trans h.faults
  regs := fun a ha => (evqAppend_ld_ne e _ _ _ _ _ a (by rintro rfl; revert ha; decide) (by rintro rfl; revert ha; decide)).trans
    (h.regs a ha)

theorem Dev.resetTo.restarted {d e : Dev} (h : d.resetTo e) (hstep : e.rd SYS_BOOTSTAT.STEP = 1) : d.restarted e := by
  have hlocks : ∀ k, k < 2 → regReset (NWL_ORPHAN.addr k) = 0#32 := by decide
  have horphan : ∀ k, k < 2 → NWL_ORPHAN.addr k ∈ restartRegs := by decide
  have hcause : ∀ n, n < 16 → BAL_TCAUSE.addr n ∈ restartRegs ∧
      fld (regReset (BAL_TCAUSE.addr n)) (BAL_TCAUSE.RESET n).hi (BAL_TCAUSE.RESET n).lo = 1 := by decide
  refine ⟨h.mode, hstep, h.epoch, fun n => by rw [Dev.holder, h.holders]; rfl, fun n hn => ?_, ?_, fun n hn => ?_,
    h.outs.1, h.outs.2, fun a => by rw [Dev.logByte, h.log]; rfl⟩
  · rw [Dev.orphan_eq, h.regs _ (horphan _ (by omega)), hlocks _ (by omega)]
    simp
  · rw [Dev.rd, h.regs _ (by decide)]
    decide
  · obtain ⟨hmem, hval⟩ := hcause n hn
    rw [Dev.rd, show (BAL_TCAUSE.RESET n).addr = BAL_TCAUSE.addr n from rfl, h.regs _ hmem]
    exact hval

/-! The DEV reset (R59, R60). -/

/-- The device with its registers and units reset, before straps and step. -/
def devBase (d : Dev) (c : RstCause) (straps : Nat) : Dev :=
  let n : Dev := { Dev.init with
    now := d.now, epoch := d.now, seed := d.seed, mode := .boot, modeKnown := d.modeKnown,
    regs := d.regs.filter (fun e => regClass e.1 == some .aon),
    iptOut := d.iptOut, iptDriven := d.iptDriven, wl := d.wl.kept,
    log := d.log, logErr := d.logErr, pins := { d.pins with straps := straps, undriven := false } }
  n.put SYS_RSTCAUSE.addr (rstCauseWord (d.ld SYS_RSTCAUSE.addr) c)

theorem devReset_eq (d : Dev) (c : RstCause) (straps : Nat) : devReset d c straps =
    if d.mode = .boot then startBoot (devBase d c straps) straps
    else evqKind (startBoot (devBase d c straps) straps) 0x00 .modeChange true d.mode.code Mode.boot.code := rfl

theorem devBase_ld (d : Dev) (c : RstCause) (straps a : Nat) (h : a ≠ SYS_RSTCAUSE.addr) :
    (devBase d c straps).ld a = if regClass a = some .aon then d.ld a else regReset a := by
  rw [devBase, Dev.put_ld_ne _ _ _ _ h]
  exact tget_aonRegs d a

theorem devBase_resetTo (d : Dev) (c : RstCause) (straps : Nat) : d.resetTo (devBase d c straps) where
  mode := rfl
  epoch := rfl
  holders := rfl
  outs := ⟨rfl, rfl⟩
  log := rfl
  faults := rfl
  regs := fun a ha => by
    rw [devBase_ld _ _ _ _ (by rintro rfl; revert ha; decide), if_neg (restartRegs_class a ha)]

/-- A watched register after a DEV reset, but those that the reset itself writes. -/
theorem devReset_ld (d : Dev) (c : RstCause) (straps a : Nat) (hw : watched a = true) :
    (devReset d c straps).ld a = (startBoot (devBase d c straps) straps).ld a := by
  rw [devReset_eq]
  split
  · rfl
  · exact (evqKind_tended _ _ _ _ _ _).regs a hw

theorem devReset_resetTo (d : Dev) (c : RstCause) (straps : Nat) : d.resetTo (devReset d c straps) := by
  have hstart := (devBase_resetTo d c straps).startBoot straps
  rw [devReset_eq]
  split
  · exact hstart
  · exact hstart.event rfl _ _

theorem devReset_limp (d : Dev) (c : RstCause) (straps : Nat) : (devReset d c straps).ld SYS_LIMP.addr = d.ld SYS_LIMP.addr := by
  rw [devReset_ld _ _ _ _ (by decide), startBoot_ld _ _ _ (by decide), devBase_ld _ _ _ _ (by decide), if_pos (by decide)]

theorem devReset_strap (d : Dev) (c : RstCause) (straps : Nat) :
    (devReset d c straps).ld SYS_STRAP.addr = strapWord straps := by
  rw [devReset_ld _ _ _ _ (by decide), startBoot_strap]

theorem devReset_restarted (d : Dev) (c : RstCause) (straps : Nat) : d.restarted (devReset d c straps) := by
  refine (devReset_resetTo d c straps).restarted ?_
  rw [Dev.rd, devReset_ld _ _ _ _ (by decide)]
  exact startBoot_step _ _

/-- The cause flags after a DEV reset. -/
theorem devReset_cause (d : Dev) (c : RstCause) (straps : Nat) :
    (devReset d c straps).ld SYS_RSTCAUSE.addr = rstCauseWord (d.ld SYS_RSTCAUSE.addr) c := by
  rw [devReset_ld _ _ _ _ (by decide), startBoot_ld _ _ _ (by decide), devBase, Dev.put_ld]

/-- The flag of a DEV reset's own source. -/
def RstCause.flag : RstCause → Fld
  | .pin => SYS_RSTCAUSE.PIN
  | .resting => SYS_RSTCAUSE.RESTING
  | .hostReq => SYS_RSTCAUSE.HOSTREQ
  | .vst => SYS_RSTCAUSE.VST

theorem devReset_flag (d : Dev) (c : RstCause) (straps : Nat) : (devReset d c straps).rd c.flag = 1 := by
  have haddr : c.flag.addr = SYS_RSTCAUSE.addr := by cases c <;> rfl
  have hbit : c.flag.hi = c.flag.lo ∧ (rstCauseWord (d.ld SYS_RSTCAUSE.addr) c).getLsbD c.flag.lo = true := by
    cases c <;> exact ⟨rfl, by rw [rstCauseWord, BitVec.getLsbD_or]; simp [RstCause.flag, SYS_RSTCAUSE.PIN,
      SYS_RSTCAUSE.RESTING, SYS_RSTCAUSE.HOSTREQ, SYS_RSTCAUSE.VST]⟩
  obtain ⟨hhi, hset⟩ := hbit
  rw [Dev.rd, haddr, devReset_cause, hhi, fld_bit, hset]
  rfl

theorem completes_devReset {c : Instr} {s : State} {d : Dev} {r : RstCause} {straps : Nat} {p : State → Prop}
    (hexec : exec c s = fin s (devReset d r straps)) (h : p { s with dev := devReset d r straps }) : Completes c s p :=
  completes_fin hexec (devReset_resetTo d r straps).faults h

/-- A restart is one of every device with the same time and the same Logbook. -/
theorem Dev.restarted.of_same {d e t : Dev} (h : e.restarted t) (hn : e.now = d.now) (hl : e.log = d.log) : d.restarted t := by
  obtain ⟨hm, hs, hep, hh, ho, ht, hc, ha, hb, hlog⟩ := h
  exact ⟨hm, hs, hep.trans hn, hh, ho, ht, hc, ha, hb, fun a => (hlog a).trans (by rw [Dev.logByte, hl, Dev.logByte])⟩

/-! Power-up of VDD_AON. -/

/-- The device with everything but the Logbook as at a power-up, before straps and step. -/
def aonBase (d : Dev) (straps : Nat) : Dev :=
  { Dev.init with
    now := d.now, epoch := d.now, seed := d.seed, log := d.log, logErr := d.logErr,
    wl := { d.wl.kept with resets := [], iptSeen := 0 },
    pins := { d.pins with straps := straps, undriven := false, vaon := true, jtagIr := 0, jtagDr := [], tdo := [] } }

theorem aonBase_resetTo (d : Dev) (straps : Nat) : d.resetTo (aonBase d straps) :=
  ⟨rfl, rfl, rfl, ⟨rfl, rfl⟩, rfl, rfl, fun _ _ => rfl⟩

theorem aonReset_ld (d : Dev) (straps a : Nat) (h : a ∉ [PSV_STAT.addr, SYS_BOOTSTAT.addr, SYS_STRAP.addr]) :
    (aonReset d straps).ld a = regReset a := startBoot_ld (aonBase d straps) straps a h

/-! The commands. -/

theorem exec_powerUpAon (straps : Nat) (s : State) : exec (.powerUpAon straps) s = fin s (aonReset s.dev straps) := rfl

theorem exec_rstNReset (straps : Nat) (c : Option (Nat × Nat)) (s : State) :
    exec (.rstNReset straps c) s = fin s (rstN s.dev straps c) := rfl

theorem exec_restingExit (straps : Nat) (s : State) : exec (.restingExit straps) s = fin s (restingExit s.dev straps) := rfl

theorem exec_sysRstreq (init : Nat) (data : Word) (s : State) : exec (.sysRstreq init data) s =
    fin s { (rstreqWrite s.dev data).2 with resp := (rstreqWrite s.dev data).1 } := rfl

theorem powerUpAon_completes (straps : Nat) (s : State) : Completes (.powerUpAon straps) s (fun t =>
    s.dev.restarted t.dev ∧ t.dev.ld SYS_STRAP.addr = strapWord straps ∧ t.dev.rd SYS_RSTCAUSE.POR = 1 ∧
      t.dev.ld SYS_LIMP.addr = 0#32) := by
  have hstart := (aonBase_resetTo s.dev straps).startBoot straps
  refine completes_fin (exec_powerUpAon straps s) hstart.faults ?_
  refine ⟨hstart.restarted (startBoot_step _ _), startBoot_strap _ _, ?_, ?_⟩
  · rw [Dev.rd, aonReset_ld _ _ _ (by decide)]
    decide
  · rw [aonReset_ld _ _ _ (by decide)]
    decide

/-- The device that RST_N resets: with the LIMP cause of its cycle, if there is one. -/
def withCause (d : Dev) (c : Option (Nat × Nat)) : Dev :=
  match c with
  | some c => limpCause d c.1 c.2
  | none => d

theorem rstN_pin (d : Dev) (straps : Nat) (c : Option (Nat × Nat)) (hl : d.mode ≠ .landing) (hr : d.mode ≠ .resting) :
    rstN d straps c = devReset (withCause d c) .pin straps := by
  unfold rstN
  split
  · exact absurd ‹_› hl
  · exact absurd ‹_› hr
  · rfl

theorem withCause_same (d : Dev) (c : Option (Nat × Nat)) : (withCause d c).now = d.now ∧ (withCause d c).log = d.log := by
  cases c with
  | none => exact ⟨rfl, rfl⟩
  | some c =>
    rw [withCause, limpCause]
    split <;> exact ⟨rfl, rfl⟩

/-- A cause that falls where one stands (R52). -/
theorem limpCause_further (d : Dev) (r e : Nat) (h : d.mode = .limp ∨ d.rd SYS_LIMP.REASON ≠ 0) :
    (limpCause d r e).rd SYS_LIMP.MORE = 1 ∧ (limpCause d r e).rd SYS_LIMP.REASON = d.rd SYS_LIMP.REASON := by
  obtain ⟨hmore, hreason, -⟩ := wr_limpMore d 1
  rw [limpCause, if_pos h]
  exact ⟨hmore, hreason⟩

theorem rstNReset_pin (straps : Nat) (c : Option (Nat × Nat)) (s : State) (hl : s.dev.mode ≠ .landing)
    (hr : s.dev.mode ≠ .resting) : Completes (.rstNReset straps c) s (fun t =>
      s.dev.restarted t.dev ∧ t.dev.ld SYS_STRAP.addr = strapWord straps ∧ t.dev.rd SYS_RSTCAUSE.PIN = 1 ∧
      (c = none → t.dev.ld SYS_LIMP.addr = s.dev.ld SYS_LIMP.addr) ∧
      ∀ r e, c = some (r, e) →
        (s.dev.mode = .limp ∨ s.dev.rd SYS_LIMP.REASON ≠ 0 → t.dev.rd SYS_LIMP.MORE = 1 ∧
          t.dev.rd SYS_LIMP.REASON = s.dev.rd SYS_LIMP.REASON) ∧
        (s.dev.mode ≠ .limp → s.dev.rd SYS_LIMP.REASON = 0 → t.dev.rd SYS_LIMP.REASON = r % 2 ^ 8 ∧
          t.dev.rd SYS_LIMP.DETAIL = e % 2 ^ 22)) := by
  obtain ⟨hnow, hlog⟩ := withCause_same s.dev c
  have hlimp := devReset_limp (withCause s.dev c) .pin straps
  have hrd (f : Fld) (hf : f.addr = SYS_LIMP.addr) :
      (devReset (withCause s.dev c) .pin straps).rd f = (withCause s.dev c).rd f := by rw [Dev.rd, hf, hlimp, ← hf, Dev.rd]
  refine completes_devReset ((exec_rstNReset straps c s).trans (by rw [rstN_pin s.dev straps c hl hr]))
    ⟨(devReset_restarted _ _ _).of_same hnow hlog, devReset_strap _ _ _, devReset_flag _ .pin _, ?_, ?_⟩
  · rintro rfl
    exact hlimp
  · rintro r e rfl
    refine ⟨fun h => ?_, fun hm h0 => ?_⟩
    · obtain ⟨hmore, hreason⟩ := limpCause_further s.dev r e h
      exact ⟨(hrd _ rfl).trans hmore, (hrd _ rfl).trans hreason⟩
    · obtain ⟨hreason, hdetail⟩ := limpCause_records s.dev r e hm h0
      exact ⟨(hrd _ rfl).trans hreason, (hrd _ rfl).trans hdetail⟩

theorem rstNReset_resting (straps : Nat) (c : Option (Nat × Nat)) (s : State) (hr : s.dev.mode = .resting)
    (ha : s.dev.aonOn = true) : Completes (.rstNReset straps c) s (fun t =>
      s.dev.restarted t.dev ∧ t.dev.ld SYS_STRAP.addr = strapWord straps ∧ t.dev.rd SYS_RSTCAUSE.RESTING = 1) := by
  have heq : rstN s.dev straps c = devReset s.dev .resting straps := by
    simp only [rstN, hr, ha, if_true]
  exact completes_devReset ((exec_rstNReset straps c s).trans (by rw [heq]))
    ⟨devReset_restarted _ _ _, devReset_strap _ _ _, devReset_flag _ .resting _⟩

/-- The fields of the response of a device. -/
theorem Dev.restarted.resp {d t : Dev} (h : d.restarted t) (r : Resp) : d.restarted { t with resp := r } := h

theorem sysRstreq_resets (init : Nat) (data : Word) (s : State) (hl : s.dev.mode ≠ .landing) (hr : s.dev.mode ≠ .resting)
    (hkey : fld data 31 24 = 0xA5) (hdev : data.getLsbD 0 = true) : Completes (.sysRstreq init data) s (fun t =>
      s.dev.restarted t.dev ∧ t.dev.rd SYS_RSTCAUSE.HOSTREQ = 1 ∧ t.dev.ld SYS_LIMP.addr = s.dev.ld SYS_LIMP.addr) := by
  have hwrite : rstreqWrite s.dev data = (.ok [], devReset s.dev .hostReq s.dev.pins.straps) := by
    rw [rstreqWrite, if_neg (by simp [hl, hr]), if_pos ⟨hkey, hdev⟩]
  refine completes_fin (exec_sysRstreq init data s) (by rw [hwrite]; exact (devReset_resetTo _ _ _).faults) ?_
  rw [hwrite]
  exact ⟨(devReset_restarted s.dev .hostReq _).resp _, devReset_flag s.dev .hostReq _, devReset_limp s.dev .hostReq _⟩

/-- The exit from RESTING is a DEV reset with the rails in range. -/
theorem restingExit_eq (d : Dev) (straps : Nat) (hr : d.mode = .resting) (ha : d.aonOn = true) :
    ∃ p, restingExit d straps = devReset { d with pins := p } .resting straps := by
  rw [restingExit, if_pos ⟨hr, ha⟩]
  exact ⟨_, rfl⟩

theorem restingExit_completes (straps : Nat) (s : State) (hr : s.dev.mode = .resting) (ha : s.dev.aonOn = true) :
    Completes (.restingExit straps) s (fun t =>
      s.dev.restarted t.dev ∧ t.dev.ld SYS_STRAP.addr = strapWord straps ∧ t.dev.rd SYS_RSTCAUSE.RESTING = 1 ∧
      t.dev.ld SYS_LIMP.addr = s.dev.ld SYS_LIMP.addr) := by
  obtain ⟨p, heq⟩ := restingExit_eq s.dev straps hr ha
  refine completes_devReset (d := { s.dev with pins := p }) ((exec_restingExit straps s).trans (by rw [heq]))
    ⟨(devReset_restarted _ _ _).of_same rfl rfl, devReset_strap _ _ _, devReset_flag _ .resting _, ?_⟩
  exact devReset_limp _ _ _

/-- Settles O13: each source resets the device as `Dev.resetTo` says, with its own flag; the others write nothing. -/
theorem resetSourcesRestartInBoot : Obligations.ResetSourcesRestartInBoot := by
  intro straps init cause data s
  refine ⟨powerUpAon_completes straps s, rstNReset_pin straps cause s, rstNReset_resting straps cause s,
    sysRstreq_resets init data s, restingExit_completes straps s, fun hf hl => ?_, fun hf hl hr hkey => ?_, fun hf hm => ?_⟩
  · refine completes_fin (d := s.dev.wr SYS_RSTCAUSE.PIN_IGN 1) ?_ hf ⟨hl, Dev.wr_rd _ _ _ (by decide) (by decide),
      fun a ha => s.dev.wr_ld_ne _ _ a (List.ne_of_not_mem_cons ha), fun _ => rfl, fun _ => rfl, fun _ => rfl⟩
    rw [exec_rstNReset]
    simp only [rstN, hl]
  · rw [exec_sysRstreq, rstreqWrite, if_neg (by simp [hl, hr]), if_neg hkey]
    exact fin_none s _ hf
  · refine ⟨.target, ?_⟩
    rw [exec_sysRstreq, rstreqWrite, if_pos hm]
    exact fin_none s _ hf

end Sys2Proof.Machine
end


section
/-!
The boot sequence: O14.
-/

namespace Sys2Proof.Machine

/-! From PLL lock to step 0x5. -/

/-- The device at the end of step 0x3: tests passed, memory and arbiters clear, the save looked at (Table MOD.9). -/
def bootCleared (d : Dev) : Dev :=
  let d := bootClear (((d.wr SYS_BOOTSTAT.STEP 2).wr DGE_KAT.PASS 1).wr SYS_BOOTSTAT.STEP 3)
  d.wr SYS_BOOTSTAT.SAVED (bit d.saveValid)

theorem bootFrom2_none (d : Dev) : bootFrom2 d none =
    if (bootCleared d).on SYS_STRAP.BOOTSEL then ((bootCleared d).wr SYS_BOOTSTAT.STEP 4).wr SYS_BOOTSTAT.STEP 5
    else (bootCleared d).wr SYS_BOOTSTAT.STEP 5 := rfl

theorem saveValid_of_log {d e : Dev} (h : e.log = d.log) : e.saveValid = d.saveValid := by
  have hbytes : e.logBytes = d.logBytes := by
    funext a n
    simp only [Dev.logBytes, Dev.logByte, h]
  unfold Dev.saveValid Dev.saveMagic Dev.saveWord Dev.saveCovered Dev.saveWord
  rw [hbytes]

theorem bootCleared_fields (d : Dev) : (bootCleared d).mode = d.mode ∧ (bootCleared d).atr = [] ∧ (bootCleared d).evq = [] ∧
    (bootCleared d).holders = [] ∧ (bootCleared d).log = d.log ∧ (bootCleared d).faults = d.faults := by
  simp [bootCleared, bootClear]

theorem resetRegs_ld (d : Dev) (p : Nat → Bool) (a : Nat) : (d.resetRegs p).ld a = if p a then regReset a else d.ld a :=
  tget_tdrop _ _ _ _

/-- The clear of step 0x3 leaves the registers outside ICU, EVQ and Newel. -/
theorem bootClear_ld (d : Dev) (a : Nat) (h4 : a / 0x1000 ≠ 0x40004) (h5 : a / 0x1000 ≠ 0x40005) (h6 : a / 0x1000 ≠ 0x40006) :
    (bootClear d).ld a = d.ld a := by
  rw [show (bootClear d).ld a = (d.resetRegs (fun a => a / 0x1000 == 0x40004 || a / 0x1000 == 0x40005 ||
    a / 0x1000 == 0x40006)).ld a from rfl, resetRegs_ld, if_neg (by simp [h4, h5, h6])]

theorem bootCleared_regs (d : Dev) : (bootCleared d).rd DGE_KAT.PASS = 1 ∧
    (bootCleared d).rd SYS_BOOTSTAT.SAVED = bit d.saveValid := by
  refine ⟨?_, ?_⟩
  · refine (Dev.wr_rd_ne _ _ _ _ (by decide)).trans ?_
    rw [Dev.rd, bootClear_ld _ _ (by decide) (by decide) (by decide)]
    exact (Dev.wr_rd_ne _ _ _ _ (by decide)).trans (Dev.wr_rd _ _ _ (by decide) (by decide))
  · rw [bootCleared]
    refine (Dev.wr_rd _ _ _ (by decide) (by decide)).trans ?_
    rw [saveValid_of_log (d := d) (by simp [bootClear])]
    cases d.saveValid <;> rfl

/-- The steps that follow write SYS_BOOTSTAT.STEP only. -/
theorem bootFrom2_steps (d : Dev) : ∃ b : Dev, bootFrom2 d none = b.wr SYS_BOOTSTAT.STEP 5 ∧
    b = { bootCleared d with regs := b.regs } ∧ (∀ a, a ≠ SYS_BOOTSTAT.addr → b.ld a = (bootCleared d).ld a) ∧
    b.rd SYS_BOOTSTAT.SAVED = (bootCleared d).rd SYS_BOOTSTAT.SAVED := by
  rw [bootFrom2_none]
  generalize bootCleared d = c
  split
  · exact ⟨_, rfl, rfl, fun a ha => c.wr_ld_ne SYS_BOOTSTAT.STEP 4 a ha,
      c.wr_rd_above SYS_BOOTSTAT.STEP SYS_BOOTSTAT.SAVED 4 (by decide) (by decide) (by decide) rfl⟩
  · exact ⟨_, rfl, rfl, fun _ _ => rfl, rfl⟩

theorem exec_pllLock (s : State) : exec (.pllLock none) s = fin s (pllLock s.dev none) := rfl

theorem pllLock_completes (s : State) (hf : s.dev.faults = []) (hm : s.dev.mode = .boot)
    (hstep : s.dev.rd SYS_BOOTSTAT.STEP ≤ 1) :
    Completes (.pllLock none) s (fun t =>
      t.dev.mode = .boot ∧ t.dev.rd SYS_BOOTSTAT.STEP = 5 ∧ (∀ a, t.dev.atrByte a = 0#8) ∧ t.dev.evq = [] ∧
      (∀ n, t.dev.holder n = 0) ∧ t.dev.rd DGE_KAT.PASS = 1 ∧ t.dev.rd SYS_BOOTSTAT.SAVED = bit s.dev.saveValid ∧
      ∀ a, t.dev.logByte a = s.dev.logByte a) := by
  have hlock : pllLock s.dev none = bootFrom2 s.dev none := by rw [pllLock, if_neg (by simp [hm]; omega)]
  obtain ⟨b, hb, honly, hregs, hsaved⟩ := bootFrom2_steps s.dev
  obtain ⟨hmode, hatr, hevq, hholders, hlog, hfaults⟩ := bootCleared_fields s.dev
  obtain ⟨hpass, hsave⟩ := bootCleared_regs s.dev
  refine completes_fin (d := b.wr SYS_BOOTSTAT.STEP 5) ((exec_pllLock s).trans (by rw [hlock, hb]))
    (by rw [Dev.wr_faults, honly, hfaults, hf]) ⟨?_, Dev.wr_rd _ _ _ (by decide) (by decide), fun a => ?_, ?_, fun n => ?_, ?_,
      ?_, fun a => ?_⟩
  · rw [Dev.wr_mode, honly, hmode, hm]
  · rw [Dev.atrByte, Dev.wr_atr, honly, hatr]
    rfl
  · rw [Dev.wr_evq, honly, hevq]
  · rw [Dev.holder, Dev.wr_holders, honly, hholders]
    rfl
  · rw [Dev.wr_rd_ne _ _ _ _ (by decide), Dev.rd, hregs _ (by decide)]
    exact hpass
  · exact (b.wr_rd_above SYS_BOOTSTAT.STEP SYS_BOOTSTAT.SAVED 5 (by decide) (by decide) (by decide) rfl).trans
      (hsaved.trans hsave)
  · rw [Dev.logByte, Dev.wr_log, honly, hlog, Dev.logByte]

/-! From step 0x8 to RUN. -/

theorem setMode_room (d : Dev) (m : Mode) (h : d.evq.length < 240) : (setMode d m).faults = d.faults := by
  unfold setMode
  split
  · rfl
  · exact evqAppend_faults _ _ _ _ _ _ h

/-- Entry to RUN: the mode, the server, and the watchdogs afresh. -/
structure Dev.running (d e : Dev) : Prop where
  mode : e.mode = .run
  prev : d.mode ≠ .run → e.prev = d.mode
  server : e.rd VST_FWSTAT.SERVER = 1
  wl : e.wl = d.wl
  gal : e.gal = d.gal
  bytes : e.atr = d.atr ∧ e.log = d.log ∧ e.priv = d.priv
  faults : d.evq.length < 240 → e.faults = d.faults
  regs : ∀ a, a ∉ [EVQ_NEXTSEQ.addr, EVQ_LOST.addr, VST_FWSTAT.addr, BAL_WDSTAT.addr] → e.ld a = d.ld a

/-- What a mode change leaves besides the mode. -/
theorem setMode_frame (d : Dev) (m : Mode) : (setMode d m).mode = m ∧ (setMode d m).atr = d.atr ∧ (setMode d m).log = d.log ∧
    (setMode d m).priv = d.priv ∧ (setMode d m).gal = d.gal ∧ (setMode d m).wl = d.wl ∧ (setMode d m).svc = d.svc ∧
    (d.mode ≠ m → (setMode d m).prev = d.mode) := by
  by_cases h : d.mode = m
  · rw [setMode, if_pos h]
    exact ⟨h, rfl, rfl, rfl, rfl, rfl, rfl, absurd h⟩
  · have hset := setMode_tended d m h
    obtain ⟨hmode, hsvc, hatr, hlog, hpriv, -, hgal, -⟩ := evqAppend_frame { d with prev := d.mode, mode := m } 0x00
      (Config.evCode .modeChange).toNat true (Config.evData .modeChange d.mode.code 0) (Config.evData .modeChange m.code 1)
    refine ⟨hset.mode, ?_, hset.log, ?_, ?_, hset.wl, ?_, fun _ => hset.prev⟩
    · rw [setMode, if_neg h]
      exact hatr
    · rw [setMode, if_neg h]
      exact hpriv
    · rw [setMode, if_neg h]
      exact hgal
    · rw [setMode, if_neg h]
      exact hsvc

theorem setMode_ld (d : Dev) (m : Mode) (a : Nat) (hn : a ≠ EVQ_NEXTSEQ.addr) (hl : a ≠ EVQ_LOST.addr) :
    (setMode d m).ld a = d.ld a := by
  unfold setMode
  split
  · rfl
  · exact evqAppend_ld_ne _ _ _ _ _ _ a hn hl

theorem enterRun_running (d : Dev) : d.running (enterRun d) := by
  obtain ⟨hmode, hatr, hlog, hpriv, hgal, hwl, -, hprev⟩ := setMode_frame d .run
  have hld := setMode_ld d .run
  have hfaults := setMode_room d .run
  unfold enterRun
  extract_lets e g _
  have hregs (a : Nat) (hne : a ≠ BAL_WDSTAT.addr) : g.ld a = e.ld a := by
    unfold g
    rw [Dev.wr_ld_ne _ _ _ _ hne, Dev.wr_ld_ne _ _ _ _ hne, Dev.wr_ld_ne _ _ _ _ hne, Dev.wr_ld_ne _ _ _ _ hne]
  have hserver : e.rd VST_FWSTAT.SERVER = 1 := Dev.wr_rd _ _ _ (by decide) (by decide)
  have hg : g.mode = (setMode d .run).mode ∧ g.prev = (setMode d .run).prev ∧ g.wl = (setMode d .run).wl ∧
      g.gal = (setMode d .run).gal ∧ g.atr = (setMode d .run).atr ∧ g.log = (setMode d .run).log ∧
      g.priv = (setMode d .run).priv ∧ g.faults = (setMode d .run).faults := by simp [g, e]
  obtain ⟨gmode, gprev, gwl, ggal, gatr, glog, gpriv, gfaults⟩ := hg
  have hkept (a : Nat) (ha : a ∉ [EVQ_NEXTSEQ.addr, EVQ_LOST.addr, VST_FWSTAT.addr, BAL_WDSTAT.addr]) : g.ld a = d.ld a := by
    simp only [List.mem_cons, List.not_mem_nil, or_false, not_or] at ha
    obtain ⟨hn, hl, hs, hd⟩ := ha
    exact (hregs a hd).trans ((Dev.wr_ld_ne _ _ _ a hs).trans (hld a hn hl))
  have hshows : g.rd VST_FWSTAT.SERVER = 1 := by
    rw [Dev.rd, hregs _ (by decide)]
    exact hserver
  clear_value g
  exact {
    mode := gmode.trans hmode
    prev := fun h => gprev.trans (hprev h)
    server := hshows
    wl := gwl.trans hwl
    gal := ggal.trans hgal
    bytes := ⟨gatr.trans hatr, glog.trans hlog, gpriv.trans hpriv⟩
    faults := fun h => gfaults.trans (hfaults h)
    regs := hkept }

/-- The registers of a group of one. -/
theorem groupAlone_only (d : Dev) : groupAlone d = { d with regs := (groupAlone d).regs } := rfl

theorem groupAlone_ld (d : Dev) (a : Nat) (h : a ≠ CNC_GRP.addr) : (groupAlone d).ld a = d.ld a :=
  (Dev.wr_ld_ne _ CNC_GRP.DIAM _ _ h).trans ((Dev.wr_ld_ne _ CNC_GRP.ISLEAD _ _ h).trans
    ((Dev.wr_ld_ne _ CNC_GRP.LEAD _ _ h).trans (Dev.wr_ld_ne _ CNC_GRP.MEMBERS _ _ h)))

theorem noneTaken_only (d : Dev) : noneTaken d = { d with regs := (noneTaken d).regs } := by
  unfold noneTaken
  split <;> rfl

theorem exec_bootVholdReady (s : State) : exec .bootVholdReady s = fin s (vholdReady s.dev) := rfl

theorem bootVholdReady_completes (s : State) (hf : s.dev.faults = []) (hevq : s.dev.evq.length < 200) (hm : s.dev.mode = .boot)
    (hstep : s.dev.rd SYS_BOOTSTAT.STEP = 8) (hready : s.dev.vready = true) : Completes .bootVholdReady s (fun t =>
      t.dev.mode = .run ∧ t.dev.ld SYS_LIMP.addr = 0#32 ∧ t.dev.rd VST_FWSTAT.SERVER = 1 ∧
      (s.dev.wl.logStop = false → t.dev.wl.logIndex = (s.dev.wl.logIndex + 1) % 2 ^ 32) ∧
      ∀ a, a < 64 → t.dev.logByte a = s.dev.logByte a) := by
  have hready : vholdReady s.dev = groupAlone (enterRun (noneTaken (bootRecord s.dev))) := by
    rw [vholdReady, if_neg (by simp [hm, hstep, hready])]
  have hrec := bootRecord_recorded s.dev
  obtain ⟨hfaults, hlen⟩ := hrec.room (by omega)
  generalize bootRecord s.dev = b at *
  have hnone := noneTaken_only b
  have hnoneld := noneTaken_ld b
  generalize noneTaken b = c at *
  have hrun := enterRun_running c
  have hroom : c.evq.length < 240 := by rw [hnone]; show b.evq.length < 240; omega
  have hcf := hrun.faults hroom
  generalize enterRun c = g at *
  have honly := groupAlone_only g
  have hld := groupAlone_ld g
  generalize groupAlone g = u at *
  refine completes_fin (d := u) ((exec_bootVholdReady s).trans (by rw [hready])) ?_
    ⟨?_, ?_, ?_, fun hstop => ?_, fun a ha => ?_⟩
  · rw [honly]
    exact hcf.trans (by rw [hnone]; exact hfaults.trans hf)
  · rw [honly]
    exact hrun.mode
  · exact (hld _ (by decide)).trans ((hrun.regs _ (by decide)).trans ((hnoneld _ (by decide)).trans hrec.limp))
  · rw [Dev.rd, hld _ (by decide)]
    exact hrun.server
  · rw [honly]
    refine (congrArg Wail.logIndex hrun.wl).trans ?_
    rw [hnone]
    exact hrec.index hstop
  · rw [Dev.logByte, honly, ← hrec.header a ha]
    refine (congrArg (fun l => tget logDflt l a) hrun.bytes.2.1).trans ?_
    rw [hnone]
    rfl

/-! The bundle (R73, R558). -/

/-- The check of a bundle looks at the Atrium and at the two registers that place it. -/
theorem bundleCheck_congr {d e : Dev} (ha : e.atr = d.atr) (haddr : e.rd SYS_BOOTADDR.ADDR = d.rd SYS_BOOTADDR.ADDR)
    (hlen : e.rd SYS_BOOTLEN.LEN = d.rd SYS_BOOTLEN.LEN) : bundleCheck e = bundleCheck d := by
  have hbytes : e.atrBytes = d.atrBytes := by
    funext a n
    simp only [Dev.atrBytes, Dev.atrByte, ha]
  unfold bundleCheck
  rw [hbytes, haddr, hlen]

/-! The Steward's memory. -/

theorem privPut_outside : ∀ (bs : List Byte) (t : List Host.Cell) (a k : Nat), k < a →
    tget privDflt (privPut t a bs) k = tget privDflt t k
  | [], _, _, _, _ => rfl
  | b :: r, t, a, k, h => by
    rw [privPut, privPut_outside r _ (a + 1) k (by omega)]
    exact tget_tset_ne _ _ _ _ _ (by omega)

theorem privPut_inside : ∀ (bs : List Byte) (t : List Host.Cell) (a i : Nat) (h : i < bs.length),
    tget privDflt (privPut t a bs) (a + i) = bs[i]
  | b :: r, t, a, 0, _ => by
    rw [privPut, privPut_outside r _ (a + 1) _ (by omega)]
    exact tget_tset_same _ _ _ _
  | b :: r, t, a, i + 1, h => by
    rw [privPut, show a + (i + 1) = a + 1 + i by omega]
    exact privPut_inside r _ (a + 1) i (by simpa using h)

/-- The image is what was copied to the Steward's memory. -/
theorem image_of_priv {d : Dev} {t : List Host.Cell} {w : List Byte} (hp : d.priv = privPut t 0 w) (hl : d.wl.imgLen = w.length) :
    d.image = w := by
  rw [Dev.image, Dev.privBytes, hl]
  refine List.ext_getElem (by simp) fun i hi hw => ?_
  rw [List.getElem_map, List.getElem_range, hp]
  exact privPut_inside w t 0 i hw

/-- The walk of the Logbook changes what Wailith knows of the Logbook. -/
theorem logStart_keeps (d : Dev) : ∃ w, logStart d = { d with wl := w } ∧ w.imgLen = d.wl.imgLen := by
  unfold logStart
  dsimp only
  split
  · exact ⟨_, rfl, rfl⟩
  · split
    · exact ⟨_, rfl, rfl⟩
    · exact ⟨_, rfl, rfl⟩

/-- Wailith in the Steward's memory, started. -/
structure Dev.wailithIn (d : Dev) (w : List Byte) (e : Dev) : Prop where
  mode : e.mode = d.mode
  image : e.image = w
  regs : ∀ a, watched a = true → a ≠ SYS_GEN.addr → e.ld a = d.ld a

theorem wailithStart_in (d : Dev) (w : List Byte) : d.wailithIn w (wailithStart d w) := by
  have hgen (e : Dev) (x y z : Nat) (a : Nat) (ha : a ≠ SYS_GEN.addr) :
      (((e.wr SYS_GEN.WLGEN x).wr SYS_GEN.PEERMIN y).wr SYS_GEN.PEERMAX z).ld a = e.ld a := by
    rw [Dev.wr_ld_ne _ _ _ _ ha, Dev.wr_ld_ne _ _ _ _ ha, Dev.wr_ld_ne _ _ _ _ ha]
  have htended (e : Dev) : e.tended (wailithSources (reclaimOwner e 1)) :=
    (wailithSources_tended _).after (reclaimOwner_tended e 1)
  unfold wailithStart
  extract_lets peers _ started gen ready
  have hstarted : started.mode = d.mode ∧ started.regs = d.regs ∧ started.priv = privPut d.priv 0 w ∧
      started.wl.imgLen = w.length := by
    unfold started
    obtain ⟨v, heq, himg⟩ := logStart_keeps { d with priv := privPut d.priv 0 w, wl := { d.wl with
      imgLen := w.length, imgDigest := sha384 w, scPartners := recRanges w 3, peerRanges := peers } }
    rw [heq]
    exact ⟨rfl, rfl, rfl, himg⟩
  obtain ⟨hmode, hregs, hpriv, himg⟩ := hstarted
  have hready : ready.mode = started.mode ∧ ready.priv = started.priv ∧ ready.wl = started.wl := by simp [ready, gen]
  have hld (a : Nat) (ha : a ≠ SYS_GEN.addr) : ready.ld a = d.ld a := by
    rw [hgen started _ _ _ a ha, Dev.ld, hregs, Dev.ld]
  obtain ⟨rmode, rpriv, rwl⟩ := hready
  have ht := htended ready
  clear_value ready
  exact {
    mode := ht.mode.trans (rmode.trans hmode)
    image := image_of_priv (t := d.priv) (by rw [ht.only]; exact rpriv.trans hpriv) (by rw [ht.wl, rwl]; exact himg)
    regs := fun a ha hg => (ht.regs a ha).trans (hld a hg) }

/-- How a bundle ends: refused with one of the reasons of an image, or in step 0x8 with its two images in place. -/
inductive BundleEnd (d : Dev) : Dev → Prop
  | refused (x : Dev) (r detail : Nat) (hmode : x.mode = .boot) (hreason : x.rd SYS_LIMP.REASON = 0)
      (hgo : x.rd SYS_BOOTCTL.GO = 0) (hr : 1 ≤ r ∧ r ≤ 5) : BundleEnd d (limpEntry x r detail)
  | ready (e : Dev) (w sc : List Byte) (hmode : e.mode = .boot) (hstep : e.rd SYS_BOOTSTAT.STEP = 8)
      (hgo : e.rd SYS_BOOTCTL.GO = 0) (hcheck : bundleCheck d = .ok (w, sc)) (hwl : e.ld SYS_VER_WL.addr = recVersion w)
      (hsc : e.ld SYS_VER_SC.addr = recVersion sc) (himage : e.image = w) : BundleEnd d e

/-- What follows a bundle that passes its check: signatures, generations, and the two images (R65, R67, R71). -/
def bundleImages (d : Dev) (w sc : List Byte) : Dev :=
  let wg := leAt w 1 1
  let sg := leAt sc 1 1
  if !imageSigned w then limpEntry d 1 0
  else if !imageSigned sc then limpEntry d 3 0
  else if wg < d.rd SYS_VER_BOOT.WLMIN ∨ d.rd SYS_VER_BOOT.WLMAX < wg then limpEntry d 2 wg
  else
    let d := wailithStart (((d.put SYS_VER_WL.addr (recVersion w)).put SYS_VER_SC.addr (recVersion sc)).wr SYS_BOOTSTAT.STEP 7) w
    if !(d.wl.scPartners.any (fun r => decide (r.1 ≤ sg) && decide (sg ≤ r.2))) then limpEntry d 4 sg
    else d.wr SYS_BOOTSTAT.STEP 8

/-- The images of the bundle shown in the version words, and Wailith started. -/
theorem bundleStarted_fields (e : Dev) (w sc : List Byte) (hm : e.mode = .boot) :
    let d := wailithStart (((e.put SYS_VER_WL.addr (recVersion w)).put SYS_VER_SC.addr (recVersion sc)).wr SYS_BOOTSTAT.STEP 7) w
    d.mode = .boot ∧ d.rd SYS_LIMP.REASON = e.rd SYS_LIMP.REASON ∧ d.rd SYS_BOOTCTL.GO = e.rd SYS_BOOTCTL.GO ∧
      d.ld SYS_VER_WL.addr = recVersion w ∧ d.ld SYS_VER_SC.addr = recVersion sc ∧ d.image = w := by
  intro d
  have hin := wailithStart_in
    (((e.put SYS_VER_WL.addr (recVersion w)).put SYS_VER_SC.addr (recVersion sc)).wr SYS_BOOTSTAT.STEP 7) w
  have hkept (f : Fld) (hw : watched f.addr = true) (hg : f.addr ≠ SYS_GEN.addr) (h7 : f.addr ≠ SYS_BOOTSTAT.addr)
      (hsc : f.addr ≠ SYS_VER_SC.addr) (hwl : f.addr ≠ SYS_VER_WL.addr) : d.rd f = e.rd f := by
    rw [Dev.rd, hin.regs _ hw hg, Dev.wr_ld_ne _ _ _ _ h7, Dev.put_ld_ne _ _ _ _ hsc, Dev.put_ld_ne _ _ _ _ hwl, Dev.rd]
  refine ⟨hin.mode.trans hm, hkept _ (by decide) (by decide) (by decide) (by decide) (by decide),
    hkept _ (by decide) (by decide) (by decide) (by decide) (by decide), ?_, ?_, hin.image⟩
  · rw [hin.regs _ (by decide) (by decide), Dev.wr_ld_ne _ _ _ _ (by decide), Dev.put_ld_ne _ _ _ _ (by decide), Dev.put_ld]
  · rw [hin.regs _ (by decide) (by decide), Dev.wr_ld_ne _ _ _ _ (by decide), Dev.put_ld]

theorem bundleImages_ends (d e : Dev) (w sc : List Byte) (hcheck : bundleCheck d = .ok (w, sc)) (hm : e.mode = .boot)
    (h0 : e.rd SYS_LIMP.REASON = 0) (hgo : e.rd SYS_BOOTCTL.GO = 0) : BundleEnd d (bundleImages e w sc) := by
  obtain ⟨hmode, hreason, hgo', hwl, hsc, himage⟩ := bundleStarted_fields e w sc hm
  unfold bundleImages
  dsimp only
  generalize wailithStart _ w = started at *
  split
  · exact .refused e 1 0 hm h0 hgo (by decide)
  · split
    · exact .refused e 3 0 hm h0 hgo (by decide)
    · split
      · exact .refused e 2 _ hm h0 hgo (by decide)
      · split
        · exact .refused started 4 _ hmode (hreason.trans h0) (hgo'.trans hgo) (by decide)
        · refine .ready _ w sc ((Dev.wr_mode _ _ _).trans hmode) (Dev.wr_rd _ _ _ (by decide) (by decide)) ?_ hcheck ?_ ?_ ?_
          · exact (Dev.wr_rd_ne _ _ _ _ (by decide)).trans (hgo'.trans hgo)
          · exact (Dev.wr_ld_ne _ _ _ _ (by decide)).trans hwl
          · exact (Dev.wr_ld_ne _ _ _ _ (by decide)).trans hsc
          · rw [Dev.image, Dev.wr_wl, Dev.privBytes, Dev.wr_priv]
            exact himage

/-- The device whose bundle is checked. -/
def bundleBegun (d : Dev) : Dev := (d.wr SYS_BOOTCTL.GO 1).wr SYS_BOOTSTAT.STEP 6

theorem bootBundle_eq (d : Dev) : bootBundle d = match bundleCheck (bundleBegun d) with
    | .error o => limpEntry ((bundleBegun d).wr SYS_BOOTCTL.GO 0) 5 o
    | .ok (w, sc) =>
      bundleImages { (bundleBegun d).wr SYS_BOOTCTL.GO 0 with wl := { (bundleBegun d).wl with stepcode := sc } } w sc := by
  rfl

theorem bootBundle_ends (d : Dev) (hm : d.mode = .boot) (h0 : d.rd SYS_LIMP.REASON = 0) : BundleEnd d (bootBundle d) := by
  have hkept (f : Fld) (hc : f.addr ≠ SYS_BOOTCTL.addr) (hs : f.addr ≠ SYS_BOOTSTAT.addr) : (bundleBegun d).rd f = d.rd f :=
    (Dev.wr_rd_ne _ _ _ _ hs).trans (Dev.wr_rd_ne _ _ _ _ hc)
  have hcheck : bundleCheck (bundleBegun d) = bundleCheck d :=
    bundleCheck_congr rfl (hkept _ (by decide) (by decide)) (hkept _ (by decide) (by decide))
  have hmode : (bundleBegun d).mode = .boot := hm
  have hreason : ((bundleBegun d).wr SYS_BOOTCTL.GO 0).rd SYS_LIMP.REASON = 0 :=
    (Dev.wr_rd_ne _ _ _ _ (by decide)).trans ((hkept _ (by decide) (by decide)).trans h0)
  have hgo : ((bundleBegun d).wr SYS_BOOTCTL.GO 0).rd SYS_BOOTCTL.GO = 0 := Dev.wr_rd _ _ _ (by decide) (by decide)
  rw [bootBundle_eq]
  generalize bundleBegun d = b at *
  rw [hcheck]
  split
  · exact .refused _ 5 _ hmode hreason hgo (by decide)
  · next w sc hok => exact bundleImages_ends d _ w sc hok hmode hreason hgo

theorem Dev.limped.resp {d t : Dev} {r e : Nat} (h : d.limped r e t) (x : Resp) : d.limped r e { t with resp := x } :=
  ⟨h.mode, h.prev, h.cause, h.server, h.stopped, h.gout, h.logIndex, h.carried.regs, h.carried.freed, h.carried.orphan⟩

theorem exec_bootctlGo (init : Nat) (data : Word) (s : State) (h : s.dev.niOpen init = true) :
    exec (.bootctlGo init data) s = fin s { bootctlWrite s.dev data with resp := .ok [] } :=
  rowWrite_open init s (fun d => (.ok [], bootctlWrite d data)) h

/-- What a write of GO shows once the faults of its cycle are taken. -/
theorem bootctlGo_completes (init : Nat) (data : Word) (s : State) (hm : s.dev.mode = .boot)
    (hstep : s.dev.rd SYS_BOOTSTAT.STEP = 5)
    (h0 : s.dev.rd SYS_LIMP.REASON = 0) (hgo : data.getLsbD 0 = true) (hopen : s.dev.niOpen init = true) :
    Completes (.bootctlGo init data) s (fun t =>
      t.dev.rd SYS_BOOTCTL.GO = 0 ∧
      ((t.dev.mode = .boot ∧ t.dev.rd SYS_BOOTSTAT.STEP = 8 ∧
          ∃ w sc, bundleCheck s.dev = .ok (w, sc) ∧ t.dev.ld SYS_VER_WL.addr = recVersion w ∧
            t.dev.ld SYS_VER_SC.addr = recVersion sc ∧ t.dev.image = w) ∨
        (t.dev.mode = .limp ∧ 1 ≤ t.dev.rd SYS_LIMP.REASON ∧ t.dev.rd SYS_LIMP.REASON ≤ 5))) := by
  have hwrite : bootctlWrite s.dev data = bootBundle s.dev := by
    rw [bootctlWrite, if_neg (by rw [hgo]; decide), if_pos ⟨hm, hstep⟩]
  refine ⟨_, exec_bootctlGo init data s hopen, ?_⟩
  rw [hwrite]
  dsimp only
  have hend := bootBundle_ends s.dev hm h0
  generalize bootBundle s.dev = u at hend ⊢
  cases hend with
  | refused x r detail hmode hreason hgo hr =>
    have h := ((limpEntry_limped x r detail (.inl hmode)).resp (.ok [])).settle
    have hr8 : r % 2 ^ 8 = r := Nat.mod_eq_of_lt (by omega)
    refine ⟨(h.carried.rd _ (by decide) (by decide) (by decide)).trans hgo, .inr ⟨h.mode, ?_⟩⟩
    rw [(h.cause hreason).1, hr8]
    exact hr
  | ready _ w sc hmode hstep hgo hcheck hwl hsc himage =>
    have hwork := settle_workedOn { u with resp := .ok [] } (by rw [hmode]; decide) (by rw [hmode]; decide)
    refine ⟨(hwork.rd _ (by decide)).trans hgo, .inl ⟨hwork.mode.trans hmode, (hwork.rd _ (by decide)).trans hstep,
      w, sc, hcheck, (hwork.regs _ (by decide)).trans hwl, (hwork.regs _ (by decide)).trans hsc, ?_⟩⟩
    rw [Dev.image, hwork.wl.1, Dev.privBytes, hwork.priv]
    exact himage

/-- Settles O14: the clear before step 0x5, the two ends of a bundle, and the entry to RUN. -/
theorem bootSequenceReachesRun : Obligations.BootSequenceReachesRun := by
  intro init data s hquiet hm
  obtain ⟨hf, hevq, -, -⟩ := hquiet
  exact ⟨pllLock_completes s hf hm, bootctlGo_completes init data s hm, bootVholdReady_completes s hf hevq hm⟩

end Sys2Proof.Machine
end


section
/-!
DOZE: O17.
-/

namespace Sys2Proof.Machine

/-! Few events. -/

/-- An event more in a list makes its order by blocks at most one longer. -/
theorem blocks_cons_length (v : Ev) (r : List Ev) : ∀ l : List Nat, l.Nodup →
    (l.flatMap (fun b => (v :: r).filter (fun e => e.block == b))).length ≤
      (l.flatMap (fun b => r.filter (fun e => e.block == b))).length + (if v.block ∈ l then 1 else 0)
  | [], _ => by simp
  | b :: l, h => by
    obtain ⟨hb, hl⟩ := List.nodup_cons.1 h
    have ih := blocks_cons_length v r l hl
    simp only [List.flatMap_cons, List.length_append, List.mem_cons]
    by_cases hv : v.block = b
    · rw [if_neg (by rw [hv]; exact hb)] at ih
      rw [List.filter_cons_of_pos (by simp [hv]), if_pos (.inl hv), List.length_cons]
      omega
    · rw [List.filter_cons_of_neg (by simp [hv])]
      simp only [hv, false_or]
      omega

theorem byBlock_length (vs : List Ev) : (byBlock vs).length ≤ vs.length := by
  induction vs with
  | nil => rw [byBlock_nil]
  | cons v r ih =>
    have hstep := blocks_cons_length v r (List.range 256) List.nodup_range
    have hone : (if v.block ∈ List.range 256 then 1 else 0) ≤ 1 := by split <;> decide
    rw [List.length_cons]
    exact (hstep.trans (Nat.add_le_add_left hone _)).trans (Nat.add_le_add_right ih 1)

/-- A cycle with few events raises no fault with them. -/
theorem inCycle_few (f : Dev → Dev) (d : Dev) (hd : d.evq.length < 200) (hf : (f d.cycleBegin).evq.length ≤ 40) :
    Dev.posts { f d.cycleBegin with evq := d.evq, evGap := d.evGap } (inCycle f d) (byBlock (f d.cycleBegin).evq) :=
  inCycle_posts f d (by have := byBlock_length (f d.cycleBegin).evq; omega)

/-! The stages of the entry. -/

/-- The copies of the images that are loaded, and where Wailith keeps them (R48). -/
def Dev.imageCopies (d : Dev) : List (Option PBank) := (List.range 2).map (fun b => if d.loaded b then d.gal.banks[b]? else none)

def dozeCopied (d : Dev) : Dev :=
  let bs := copiesBytes d.imageCopies
  let at_ := 8 * ((Config.freeWord d.seed).toNat % (0x80000 - bs.length / 8))
  { d.draw with atr := atrPut d.atr at_ bs,
                wl := { d.wl with dozeWait := none, copies := d.imageCopies, copyAt := at_,
                                  laneIn := (List.range 4).map (fun l => d.svcOf (.lane l) == .inService) } }

/-- The mode, the server and the ports of the entry, once the Gallery's locks are released and the lanes are down. -/
def dozeSlept (d : Dev) : Dev := portsSleep ((setMode (galOff d) .doze).wr VST_FWSTAT.SERVER 0)

/-- A level that holds a wake input wakes at once (R533). -/
def dozeLevels (d : Dev) : Dev :=
  if d.levelWakes = 0 then d else wake (d.wr PIO_WAKESRC.LINE (d.rd PIO_WAKESRC.LINE ||| d.levelWakes))

theorem dozeEntry_eq (d : Dev) (m : Nat) (hw : d.wl.dozeWait = some m) (hm : d.mode = .run) (hf : d.inFrame = false) :
    dozeEntry d = dozeLevels (dozeSlept ((List.range 4).foldl (fun d l => laneDown d l 7)
      (releaseHolder (releaseHolder (dozeCopied d) 3) 4))) := by
  unfold dozeEntry
  rw [hw]
  dsimp only
  rw [if_neg (by simp [hm, hf])]
  rfl

/-- `e` is `d` after orphaning steps with room for their events, `k` at most. -/
structure Dev.orphaned (d : Dev) (k : Nat) (e : Dev) : Prop where
  only : e = { d with regs := e.regs, holders := e.holders, evq := e.evq, evGap := e.evGap }
  evq : e.evq.length ≤ d.evq.length + k
  regs : ∀ a, a ∉ [NWL_ORPHAN.addr 0, NWL_ORPHAN.addr 1, NWL_ERR.addr, NWL_CNT.addr, EVQ_NEXTSEQ.addr] → e.ld a = d.ld a

theorem orphanStep_orphaned (d : Dev) (mask code : Nat) (h : d.evq.length < 240) : d.orphaned 1 (orphanStep d mask code) := by
  unfold orphanStep
  split
  · exact ⟨rfl, Nat.le_succ _, fun _ _ => rfl⟩
  · extract_lets a b c e
    have he : e = { d with regs := e.regs, holders := e.holders } := rfl
    have hregs (x : Nat) (hx : x ∉ [NWL_ORPHAN.addr 0, NWL_ORPHAN.addr 1, NWL_ERR.addr, NWL_CNT.addr, EVQ_NEXTSEQ.addr]) :
        e.ld x = d.ld x := by
      simp only [List.mem_cons, List.not_mem_nil, or_false, not_or] at hx
      obtain ⟨h0, h1, herr, hcnt, -⟩ := hx
      exact (Dev.wr_ld_ne _ NWL_CNT.ORPHREL _ x hcnt).trans ((Dev.wr_ld_ne _ NWL_ERR.ORPH 1 x herr).trans
        ((Dev.put_ld_ne _ _ _ _ h1).trans (Dev.put_ld_ne _ _ _ _ h0)))
    clear_value e
    have hroom : e.evq.length < 240 := by rw [he]; exact h
    have hevq : e.evq.length = d.evq.length := by rw [he]
    refine ⟨?_, ?_, fun x hx => ?_⟩
    · rw [evqAppend_room _ _ _ _ _ _ hroom, he]
      rfl
    · rw [evqAppend_length _ _ _ _ _ _ hroom, hevq]
    · rw [evqAppend_ld _ _ _ _ _ _ hroom x (fun h => hx (by simp [h]))]
      exact hregs x hx

theorem Dev.orphaned.trans {d e g : Dev} {j k : Nat} (h : d.orphaned j e) (i : e.orphaned k g) : d.orphaned (j + k) g where
  only := by rw [i.only, h.only]
  evq := by
    have h1 := h.evq
    have h2 := i.evq
    omega
  regs := fun a ha => (i.regs a ha).trans (h.regs a ha)

theorem releaseHolder_orphaned (d : Dev) (id : Nat) (h : d.evq.length < 240) : d.orphaned 1 (releaseHolder d id) :=
  orphanStep_orphaned d _ _ h

theorem Dev.orphaned.lstate {d e : Dev} {k : Nat} (h : d.orphaned k e) (l : Nat) : e.lstate l = d.lstate l := by
  have haddr : CNC_LSTAT.addr l ∉ [NWL_ORPHAN.addr 0, NWL_ORPHAN.addr 1, NWL_ERR.addr, NWL_CNT.addr, EVQ_NEXTSEQ.addr] := by
    simp [CNC_LSTAT.addr, NWL_ORPHAN.addr, NWL_ERR.addr, NWL_CNT.addr, EVQ_NEXTSEQ.addr]
    omega
  exact congrArg (fun w => fld w 2 0) (h.regs _ haddr)

/-- A release of one holder leaves the locks of another. -/
theorem releaseHolder_other (d : Dev) (id n : Nat) (h : d.holder n ≠ id) : (releaseHolder d id).holder n = d.holder n := by
  have hbit : (d.heldMask id).testBit n = false := by simp [Dev.heldMask, testBit_maskFrom, h]
  rw [releaseHolder, orphanStep_holder, hbit]
  rfl

/-- Two holders' locks are released one after the other. -/
theorem releaseBoth_frees (d : Dev) (i j n : Nat) (hi : i ≠ 0) (hj : j ≠ 0) (hij : j ≠ i) (hn : n < 64)
    (h : d.holder n = i ∨ d.holder n = j) :
    (releaseHolder (releaseHolder d i) j).holder n = 0 ∧ (releaseHolder (releaseHolder d i) j).orphan n = true := by
  rcases h with h | h
  · obtain ⟨hfree, horphan⟩ := releaseHolder_frees d i n hi hn h
    have hlater := (releaseHolder_workedOn (releaseHolder d i) j).carried
    exact ⟨hlater.freed n hfree, hlater.orphan n hn horphan⟩
  · exact releaseHolder_frees (releaseHolder d i) j n hj hn
      ((releaseHolder_other d i n (by rw [h]; exact hij)).trans h)

theorem laneDown_idle (d : Dev) (l cause : Nat) (h : d.lstate l = 0) : laneDown d l cause = d := by
  rw [laneDown, if_pos h]

theorem lanesDown_idle (d : Dev) (h : ∀ l, l < 4 → d.lstate l = 0) :
    (List.range 4).foldl (fun d l => laneDown d l 7) d = d := by
  have hchain : (List.range 4).foldl (fun d l => laneDown d l 7) d =
      laneDown (laneDown (laneDown (laneDown d 0 7) 1 7) 2 7) 3 7 := rfl
  rw [hchain, laneDown_idle d 0 7 (h 0 (by decide)), laneDown_idle d 1 7 (h 1 (by decide)),
    laneDown_idle d 2 7 (h 2 (by decide)), laneDown_idle d 3 7 (h 3 (by decide))]

theorem portsSleep_only (d : Dev) : portsSleep d = { d with ports := (portsSleep d).ports } :=
  foldl_relates (R := fun d e : Dev => e = { d with ports := e.ports }) (fun _ => rfl) (fun h k => by rw [k, h]) _ _ d
    (fun _ _ _ => rfl)

theorem setMode_length (d : Dev) (m : Mode) (h : d.evq.length < 240) : (setMode d m).evq.length ≤ d.evq.length + 1 := by
  unfold setMode
  split
  · exact Nat.le_succ _
  · exact (evqAppend_length ({ d with prev := d.mode, mode := m } : Dev) _ _ _ _ _ h).le

theorem galOff_carried (d : Dev) : d.carried (galOff d) := by
  have hwr (e : Dev) (f : Fld) (v : Nat) (hf : 0x4000C000 ≤ f.addr) : e.carried (e.wr f v) :=
    (e.tended_wr f v (not_watched_of_le hf)).workedOn.carried
  exact (hwr _ RSR_MAPCTL.PEND 0 (by decide)).after ((hwr _ RSR_MAPCTL.VALID 0 (by decide)).after
    ((hwr _ GSQ_BANK.LOADED 0 (by decide)).after (Dev.carried_of_eq rfl rfl)))

theorem galOff_loaded (d : Dev) : (galOff d).rd GSQ_BANK.LOADED = 0 :=
  (Dev.wr_rd_ne _ RSR_MAPCTL.PEND GSQ_BANK.LOADED 0 (by decide)).trans
    ((Dev.wr_rd_ne _ RSR_MAPCTL.VALID GSQ_BANK.LOADED 0 (by decide)).trans (Dev.wr_rd _ _ _ (by decide) (by decide)))

/-- `e` is `d` with the GAL domain off, in DOZE, and no server. -/
structure Dev.slept (d e : Dev) : Prop where
  mode : e.mode = .doze
  prev : e.prev = d.mode
  server : e.rd VST_FWSTAT.SERVER = 0
  loaded : e.rd GSQ_BANK.LOADED = 0
  gal : e.gal.mem = [] ∧ e.gal.latches = d.gal.latches
  wl : ∃ held, e.wl = { d.wl with wakeHeld := held }
  atr : e.atr = d.atr
  svc : e.svc = d.svc
  log : e.log = d.log
  faults : e.faults = d.faults
  evq : e.evq.length ≤ d.evq.length + 1
  carried : d.carried e

theorem dozeSlept_slept (d : Dev) (hm : d.mode ≠ .doze) (hroom : d.evq.length < 240) : d.slept (dozeSlept d) := by
  have hoff : (galOff d).mode = d.mode ∧ (galOff d).wl = d.wl ∧ (galOff d).atr = d.atr ∧ (galOff d).svc = d.svc ∧
      (galOff d).log = d.log ∧ (galOff d).faults = d.faults ∧ (galOff d).evq = d.evq ∧
      (galOff d).gal = { Gal.powerUp with latches := d.gal.latches } := by simp [galOff]
  obtain ⟨omode, owl, oatr, osvc, olog, ofaults, oevq, ogal⟩ := hoff
  have hloaded := galOff_loaded d
  have hcarried := galOff_carried d
  unfold dozeSlept
  generalize galOff d = g at *
  obtain ⟨hmode, hatr, hlog, -, hgal, hwl, hsvc, hprev⟩ := setMode_frame g .doze
  have hld := setMode_ld g .doze GSQ_BANK.addr (by decide) (by decide)
  have hfaults := setMode_room g .doze (by rw [oevq]; exact hroom)
  have hlength := setMode_length g .doze (by rw [oevq]; exact hroom)
  have hset := setMode_carried g .doze
  generalize setMode g .doze = e at *
  have hserver : (e.wr VST_FWSTAT.SERVER 0).rd VST_FWSTAT.SERVER = 0 := Dev.wr_rd _ _ _ (by decide) (by decide)
  have hbank : (e.wr VST_FWSTAT.SERVER 0).ld GSQ_BANK.addr = e.ld GSQ_BANK.addr := Dev.wr_ld_ne _ _ _ _ (by decide)
  have hwr : e.carried (e.wr VST_FWSTAT.SERVER 0) := e.carried_wr _ _ (.inl (by decide)) fun n _ => by
    simp only [VST_FWSTAT.SERVER, VST_FWSTAT.addr, NWL_ORPHAN.addr]
    omega
  have honly := portsSleep_only (e.wr VST_FWSTAT.SERVER 0)
  generalize portsSleep (e.wr VST_FWSTAT.SERVER 0) = u at *
  have hports : (e.wr VST_FWSTAT.SERVER 0).carried u := Dev.carried_of_eq (by rw [honly]) (by rw [honly])
  exact {
    mode := by rw [honly]; exact hmode
    prev := by rw [honly]; exact (hprev (by rw [omode]; exact hm)).trans omode
    server := by rw [honly]; exact hserver
    loaded := by
      rw [honly]
      refine (congrArg (fun w => fld w 5 4) (hbank.trans hld)).trans hloaded
    gal := by
      rw [show u.gal = g.gal by rw [honly]; exact hgal, ogal]
      exact ⟨rfl, rfl⟩
    wl := ⟨d.wl.wakeHeld, by rw [show u.wl = d.wl by rw [honly]; exact hwl.trans owl]⟩
    atr := by rw [honly]; exact hatr.trans oatr
    svc := by rw [honly]; exact hsvc.trans osvc
    log := by rw [honly]; exact hlog.trans olog
    faults := by rw [honly]; exact hfaults.trans ofaults
    evq := by rw [honly, ← oevq]; exact hlength
    carried := hports.after (hwr.after (hset.after hcarried)) }

theorem dozeLevels_slept {d e : Dev} (h : d.slept e) : d.slept (dozeLevels e) := by
  have hwake (v : Nat) : wake (e.wr PIO_WAKESRC.LINE v) =
      { e.wr PIO_WAKESRC.LINE v with wl := { e.wl with wakeHeld := true } } := by
    rw [wake, if_pos (.inl h.mode), Dev.wr_wl]
  have hrd (f : Fld) (v : Nat) (hf : f.addr ≠ PIO_WAKESRC.addr) : (e.wr PIO_WAKESRC.LINE v).rd f = e.rd f :=
    Dev.wr_rd_ne _ _ _ _ hf
  obtain ⟨held, hwl⟩ := h.wl
  unfold dozeLevels
  split
  · exact h
  · rw [hwake]
    exact {
      mode := h.mode
      prev := h.prev
      server := (hrd VST_FWSTAT.SERVER _ (by decide)).trans h.server
      loaded := (hrd GSQ_BANK.LOADED _ (by decide)).trans h.loaded
      gal := h.gal
      wl := ⟨true, by rw [hwl]⟩
      atr := h.atr
      svc := h.svc
      log := h.log
      faults := h.faults
      evq := h.evq
      carried := by
        have hline (v : Nat) : e.carried (e.wr PIO_WAKESRC.LINE v) := e.carried_wr _ _ (.inl (by decide)) fun n _ => by
          simp only [PIO_WAKESRC.LINE, PIO_WAKESRC.addr, NWL_ORPHAN.addr]
          omega
        exact h.carried.trans ((hline _).trans (Dev.carried_of_eq rfl rfl)) }

/-- The fields of the device once the copies stand. -/
theorem dozeCopied_fields (d : Dev) : (dozeCopied d).wl.dozeWait = none ∧ (dozeCopied d).wl.copies = d.imageCopies ∧
    (dozeCopied d).atr = atrPut d.atr (dozeCopied d).wl.copyAt (copiesBytes d.imageCopies) ∧ (dozeCopied d).gal = d.gal ∧
    (dozeCopied d).mode = d.mode ∧ (dozeCopied d).svc = d.svc ∧ (dozeCopied d).log = d.log ∧
    (dozeCopied d).faults = d.faults ∧ (dozeCopied d).evq = d.evq ∧ (dozeCopied d).regs = d.regs ∧
    (dozeCopied d).holders = d.holders := ⟨rfl, rfl, rfl, rfl, rfl, rfl, rfl, rfl, rfl, rfl, rfl⟩

/-- What the entry to DOZE leaves. -/
structure Dev.dozed (d e : Dev) : Prop where
  mode : e.mode = .doze
  prev : e.prev = d.mode
  server : e.rd VST_FWSTAT.SERVER = 0
  loaded : e.rd GSQ_BANK.LOADED = 0
  locks : ∀ n, n < 64 → d.holder n = 3 ∨ d.holder n = 4 → e.holder n = 0 ∧ e.orphan n = true
  gal : e.gal.mem = [] ∧ e.gal.latches = d.gal.latches
  wl : e.wl.dozeWait = none ∧ e.wl.copies = d.imageCopies
  atr : e.atr = atrPut d.atr e.wl.copyAt (copiesBytes e.wl.copies)
  svc : e.svc = d.svc
  log : e.log = d.log
  faults : e.faults = d.faults

theorem dozeEntry_dozed (d : Dev) (m : Nat) (hw : d.wl.dozeWait = some m) (hm : d.mode = .run) (hf : d.inFrame = false)
    (hlanes : ∀ l, l < 4 → d.lstate l = 0) (hevq : d.evq = []) :
    d.dozed (dozeEntry d) ∧ (dozeEntry d).evq.length ≤ 3 := by
  obtain ⟨cwait, ccopies, catr, cgal, cmode, csvc, clog, cfaults, cevq, cregs, cholders⟩ := dozeCopied_fields d
  rw [dozeEntry_eq d m hw hm hf]
  generalize dozeCopied d = c at *
  have hlstate (l : Nat) : c.lstate l = d.lstate l := by rw [Dev.lstate, Dev.rd, Dev.ld, cregs]; rfl
  have hholder (n : Nat) : c.holder n = d.holder n := by rw [Dev.holder, cholders, Dev.holder]
  have hlen : c.evq.length = 0 := by rw [cevq, hevq]; rfl
  have hr3 := releaseHolder_orphaned c 3 (by omega)
  have hr := hr3.trans (releaseHolder_orphaned _ 4 (by have := hr3.evq; omega))
  have hlocks (n : Nat) (hn : n < 64) (h : d.holder n = 3 ∨ d.holder n = 4) :=
    releaseBoth_frees c 3 4 n (by decide) (by decide) (by decide) hn (by rw [hholder n]; exact h)
  generalize releaseHolder (releaseHolder c 3) 4 = r at *
  have hidle : (List.range 4).foldl (fun d l => laneDown d l 7) r = r :=
    lanesDown_idle r fun l hl => (hr.lstate l).trans ((hlstate l).trans (hlanes l hl))
  have hrlen := hr.evq
  have hrmode : r.mode = d.mode := by rw [hr.only]; exact cmode
  have hslept := dozeLevels_slept (dozeSlept_slept r (by rw [hrmode, hm]; decide) (by omega))
  rw [hidle]
  generalize dozeLevels (dozeSlept r) = u at *
  obtain ⟨held, hwl⟩ := hslept.wl
  have hrwl : r.wl = c.wl := by rw [hr.only]
  have hcopies : u.wl.copies = d.imageCopies ∧ u.wl.copyAt = c.wl.copyAt ∧ u.wl.dozeWait = none := by
    rw [hwl, hrwl]
    exact ⟨ccopies, rfl, cwait⟩
  obtain ⟨ucopies, uat, uwait⟩ := hcopies
  have hulen := hslept.evq
  refine ⟨?_, by omega⟩
  exact {
    mode := hslept.mode
    prev := hslept.prev.trans hrmode
    server := hslept.server
    loaded := hslept.loaded
    locks := fun n hn h => by
      obtain ⟨hfree, horphan⟩ := hlocks n hn h
      exact ⟨hslept.carried.freed n hfree, hslept.carried.orphan n hn horphan⟩
    gal := ⟨hslept.gal.1, hslept.gal.2.trans (by rw [hr.only]; exact congrArg Gal.latches cgal)⟩
    wl := ⟨uwait, ucopies⟩
    atr := by
      rw [hslept.atr, ucopies, uat, ← catr, hr.only]
    svc := hslept.svc.trans (by rw [hr.only]; exact csvc)
    log := hslept.log.trans (by rw [hr.only]; exact clog)
    faults := hslept.faults.trans (by rw [hr.only]; exact cfaults) }

theorem exec_dozeEntryComplete (s : State) : exec .dozeEntryComplete s = fin s (oneCycle dozeEntry s.dev) := rfl

theorem exec_wakeEvent (s : State) : exec (.wakeEvent none) s = fin s (oneCycle wake s.dev) := rfl

theorem exec_wakeRestoreComplete (s : State) : exec .wakeRestoreComplete s = fin s (wakeRestore s.dev) := rfl

/-- A cycle that raises no fault and posts few events: what it does stands, and the events wait behind the others. -/
theorem oneCycle_posts (f : Dev → Dev) (d : Dev) (hd : d.evq.length < 200) (hf : (f d.cycleBegin).faults = [])
    (hlen : (f d.cycleBegin).evq.length ≤ 40) :
    ∃ vs, Dev.posts { f d.cycleBegin with evq := d.evq, evGap := d.evGap } (oneCycle f d) vs := by
  have hsettle := settle_none _ hf
  have hposts := inCycle_few (fun d => settle (f d)) d hd (by rw [hsettle]; exact hlen)
  rw [hsettle] at hposts
  exact ⟨_, hposts⟩

theorem dozeEntryComplete_completes (s : State) (hquiet : s.dev.quiet) (m : Nat) (hm : s.dev.mode = .run)
    (hw : s.dev.wl.dozeWait = some m) (hf : s.dev.inFrame = false) (hlanes : ∀ l, l < 4 → s.dev.lstate l = 0) :
    Completes .dozeEntryComplete s (fun t =>
      t.dev.mode = .doze ∧ t.dev.prev = .run ∧ t.dev.rd VST_FWSTAT.SERVER = 0 ∧ t.dev.rd GSQ_BANK.LOADED = 0 ∧
      (∀ n, n < 64 → s.dev.holder n = 3 ∨ s.dev.holder n = 4 → t.dev.holder n = 0 ∧ t.dev.orphan n = true) ∧
      t.dev.wl.dozeWait = none ∧ t.dev.gal.mem = [] ∧ t.dev.gal.latches = s.dev.gal.latches ∧
      t.dev.wl.copies = [0, 1].map (fun b => if s.dev.loaded b then s.dev.gal.banks[b]? else none) ∧
      t.dev.atr = atrPut s.dev.atr t.dev.wl.copyAt (copiesBytes t.dev.wl.copies) ∧ t.dev.svc = s.dev.svc ∧
      ∀ a, t.dev.logByte a = s.dev.logByte a) := by
  obtain ⟨hfaults, hevq, -, -⟩ := hquiet
  obtain ⟨h, hlen⟩ := dozeEntry_dozed s.dev.cycleBegin m hw hm hf hlanes rfl
  obtain ⟨vs, hposts⟩ := oneCycle_posts dozeEntry s.dev hevq (h.faults.trans hfaults) (by omega)
  generalize dozeEntry s.dev.cycleBegin = e at *
  have hexec := exec_dozeEntryComplete s
  generalize oneCycle dozeEntry s.dev = u at *
  have hld (a : Nat) (ha : a ≠ EVQ_NEXTSEQ.addr) : u.ld a = e.ld a := hposts.regs a (by simpa using ha)
  refine completes_fin (d := u) hexec (by rw [hposts.only]; exact h.faults.trans hfaults)
    ⟨?_, ?_, ?_, ?_, fun n hn hheld => ?_, ?_, ?_, ?_, ?_, ?_, ?_, fun a => ?_⟩
  · rw [hposts.only]
    exact h.mode
  · rw [hposts.only]
    exact h.prev.trans hm
  · rw [Dev.rd, hld _ (by decide)]
    exact h.server
  · rw [Dev.rd, hld _ (by decide)]
    exact h.loaded
  · obtain ⟨hfree, horphan⟩ := h.locks n hn hheld
    refine ⟨by rw [hposts.only]; exact hfree, ?_⟩
    rw [Dev.orphan_eq, hld _ (by simp only [NWL_ORPHAN.addr, EVQ_NEXTSEQ.addr]; omega), ← Dev.orphan_eq]
    exact horphan
  · rw [hposts.only]
    exact h.wl.1
  · rw [hposts.only]
    exact h.gal.1
  · rw [hposts.only]
    exact h.gal.2
  · rw [hposts.only]
    exact h.wl.2
  · rw [hposts.only]
    exact h.atr
  · rw [hposts.only]
    exact h.svc
  · rw [Dev.logByte, hposts.only]
    exact congrArg (fun l => tget logDflt l a) h.log

/-- The device with a wake event held. -/
def Dev.heldWake (d : Dev) : Dev := { d with wl := { d.wl with wakeHeld := true } }

theorem wake_doze (d : Dev) (h : d.mode = .doze) : wake d = d.heldWake := by
  rw [wake, if_pos (.inl h), Dev.heldWake]

/-- A wake event in DOZE posts nothing: it is held (R49). -/
theorem wakeEvent_holds (s : State) (hfaults : s.dev.faults = []) (hm : s.dev.mode = .doze) :
    exec (.wakeEvent none) s = .next { s with dev := { s.dev with wl := { s.dev.wl with wakeHeld := true } } } := by
  have hcycle : settle (wake s.dev.cycleBegin) = s.dev.cycleBegin.heldWake := by
    rw [wake_doze s.dev.cycleBegin hm]
    exact settle_none _ hfaults
  have hone : oneCycle wake s.dev = s.dev.heldWake :=
    (inCycle_none (fun d => settle (wake d)) s.dev (congrArg Dev.evq hcycle)).trans
      (congrArg (fun e : Dev => { e with evq := s.dev.evq, evGap := s.dev.evGap }) hcycle)
  rw [exec_wakeEvent, hone]
  exact fin_none s _ hfaults

/-! The restore. -/

/-- The active image back in its bank, and the service times from now (R48, R119). -/
def wakeRestored (d : Dev) (b : PBank) : Dev :=
  let act := d.rd GSQ_BANK.ACTIVE
  let d := (d.setGal (fun g => { g with banks := setNth PBank.empty g.banks act b })).wr GSQ_BANK.LOADED (2 ^ act)
  { d with wl := { d.wl with wakeHeld := false },
           vst := { d.vst with rung := (List.range 4).map (fun n => if d.slot n = 1 then d.now else nth 0 d.vst.rung n) } }

theorem wakeRestored_fields (d : Dev) (b : PBank) : (wakeRestored d b).mode = d.mode ∧
    (wakeRestored d b).wl.wakeHeld = false ∧
    nth PBank.empty (wakeRestored d b).gal.banks (d.rd GSQ_BANK.ACTIVE) = b ∧ (wakeRestored d b).atr = d.atr ∧
    (wakeRestored d b).log = d.log ∧ (wakeRestored d b).priv = d.priv ∧ (wakeRestored d b).faults = d.faults ∧
    (wakeRestored d b).evq = d.evq := ⟨rfl, rfl, nth_setNth _ _ _ _, rfl, rfl, rfl, rfl, rfl⟩

theorem wakeRestored_loaded (d : Dev) (b : PBank) : (wakeRestored d b).rd GSQ_BANK.LOADED = 2 ^ d.rd GSQ_BANK.ACTIVE := by
  have hact : d.rd GSQ_BANK.ACTIVE < 2 := d.rd_lt GSQ_BANK.ACTIVE
  refine (Dev.wr_rd (d.setGal _) GSQ_BANK.LOADED _ (by decide) (by decide)).trans (Nat.mod_eq_of_lt ?_)
  exact (Nat.pow_lt_pow_right (by decide) hact).trans_le (by decide)

/-- No lane was in service, so none trains again. -/
theorem lanesRestart_none (d : Dev) (lanes : List Bool) (h : lanes = [false, false, false, false]) :
    (List.range 4).foldl (fun d l =>
      if nth false lanes l then laneStart (d.setSvc (.lane l) .inService) l else d) d = d := by
  subst h
  rfl

theorem wakeRestore_eq (d : Dev) (b : PBank) (hm : d.mode = .doze) (hheld : d.wl.wakeHeld = true)
    (hlanes : d.wl.laneIn = [false, false, false, false]) (hnone : d.on GSQ_BANK.NONE = false)
    (hcopy : nth none d.wl.copies (d.rd GSQ_BANK.ACTIVE) = some b) : wakeRestore d = enterRun (wakeRestored d b) := by
  unfold wakeRestore
  rw [if_neg (by simp [hm, hheld])]
  dsimp only
  rw [hcopy, hnone]
  exact lanesRestart_none _ _ hlanes

theorem wakeRestoreComplete_completes (s : State) (hquiet : s.dev.quiet) (b : PBank) (hm : s.dev.mode = .doze)
    (hheld : s.dev.wl.wakeHeld = true) (hlanes : s.dev.wl.laneIn = [false, false, false, false])
    (hnone : s.dev.on GSQ_BANK.NONE = false) (hcopy : nth none s.dev.wl.copies (s.dev.rd GSQ_BANK.ACTIVE) = some b) :
    Completes .wakeRestoreComplete s (fun t =>
      t.dev.mode = .run ∧ t.dev.prev = .doze ∧ t.dev.rd VST_FWSTAT.SERVER = 1 ∧
      nth PBank.empty t.dev.gal.banks (s.dev.rd GSQ_BANK.ACTIVE) = b ∧
      t.dev.rd GSQ_BANK.LOADED = 2 ^ s.dev.rd GSQ_BANK.ACTIVE ∧ t.dev.wl.wakeHeld = false ∧ s.dev.sameBytes t.dev) := by
  obtain ⟨hfaults, hevq, -, -⟩ := hquiet
  obtain ⟨rmode, rheld, rbank, ratr, rlog, rpriv, rfaults, revq⟩ := wakeRestored_fields s.dev b
  have hloaded := wakeRestored_loaded s.dev b
  have hexec : exec .wakeRestoreComplete s = fin s (enterRun (wakeRestored s.dev b)) := by
    rw [exec_wakeRestoreComplete, wakeRestore_eq s.dev b hm hheld hlanes hnone hcopy]
  generalize wakeRestored s.dev b = r at *
  have hrun := enterRun_running r
  obtain ⟨hatr, hlog, hpriv⟩ := hrun.bytes
  refine completes_fin hexec ((hrun.faults (by rw [revq]; omega)).trans (rfaults.trans hfaults))
    ⟨hrun.mode, (hrun.prev (by rw [rmode, hm]; decide)).trans (rmode.trans hm), hrun.server, ?_, ?_, ?_,
      fun a => ?_, fun a => ?_, fun a => ?_⟩
  · exact (congrArg (fun g : Gal => nth PBank.empty g.banks _) hrun.gal).trans rbank
  · exact (congrArg (fun w => fld w 5 4) (hrun.regs GSQ_BANK.addr (by decide))).trans hloaded
  · exact (congrArg Wail.wakeHeld hrun.wl).trans rheld
  · exact congrArg (fun t => tget atrDflt t a) (hatr.trans ratr)
  · exact congrArg (fun t => tget logDflt t a) (hlog.trans rlog)
  · exact congrArg (fun t => tget privDflt t a) (hpriv.trans rpriv)

/-- Settles O17: the entry with its copies, the wake event, and the restore. -/
theorem dozeEntryAndWake : Obligations.DozeEntryAndWake := by
  intro s hquiet
  exact ⟨fun m hm hw hf hlanes => dozeEntryComplete_completes s hquiet m hm hw hf hlanes,
    wakeEvent_holds s hquiet.1, fun b => wakeRestoreComplete_completes s hquiet b⟩

end Sys2Proof.Machine
end


section
/-!
The Inspection Port (R101 to R105): O25.
-/

namespace Sys2Proof.Machine

/-- What a completed transaction leaves alone: everything but registers, the bytes driven, the level of INS_CS_N and the draws
of free values. -/
theorem iptComplete_only (d : Dev) (op : Nat) (out : List Byte) (driven : Bool) :
    iptComplete d op out driven = { d with
      regs := (iptComplete d op out driven).regs, iptOut := out, iptDriven := driven,
      pins := { d.pins with insCs := (Config.freeWord d.seed).getLsbD 0 }, seed := d.seed + 1 } := by
  unfold iptComplete
  dsimp only
  split
  · rw [Dev.onlyRegs_pulse]
    rfl
  · rfl

/-- The registers of a completed transaction before the pulse of source 87. -/
def iptCounted (d : Dev) (op : Nat) : Dev := (d.bump IPT_COUNT.COUNT 1).wr IPT_STAT.LASTCMD op

theorem iptComplete_ld (d : Dev) (op : Nat) (out : List Byte) (driven : Bool) (a : Nat) (h : a ≠ ICU_PEND.addr 2) :
    (iptComplete d op out driven).ld a = (iptCounted d op).ld a := by
  unfold iptComplete
  dsimp only
  split
  · exact pulse_ld _ 87 a h
  · rfl

theorem iptComplete_regs (d : Dev) (op : Nat) (out : List Byte) (driven : Bool) :
    Dev.sameRegs [IPT_COUNT.addr, IPT_STAT.addr, ICU_PEND.addr 2] d (iptComplete d op out driven) := by
  have hcounted : Dev.sameRegs [IPT_COUNT.addr, IPT_STAT.addr, ICU_PEND.addr 2] d (iptCounted d op) :=
    (d.sameRegs_bump IPT_COUNT.COUNT 1 (by decide)).trans (Dev.sameRegs_wr _ IPT_STAT.LASTCMD op (by decide))
  intro a ha
  have hpend : a ≠ ICU_PEND.addr 2 := by
    rintro rfl
    exact ha (by decide)
  rw [iptComplete_ld d op out driven a hpend, hcounted a ha]

/-- The transaction counts itself, up to the largest count (R104). -/
theorem iptComplete_count (d : Dev) (op : Nat) (out : List Byte) (driven : Bool) :
    (iptComplete d op out driven).rd IPT_COUNT.COUNT = min 0xFFFFFFFF (d.rd IPT_COUNT.COUNT + 1) := by
  rw [Dev.rd, iptComplete_ld _ _ _ _ _ (by decide)]
  exact (Dev.wr_rd_ne _ _ _ _ (by decide)).trans (d.bump_rd IPT_COUNT.COUNT 1 (by decide) (by decide))

theorem iptComplete_lastcmd (d : Dev) (op : Nat) (out : List Byte) (driven : Bool) (h : op < 256) :
    (iptComplete d op out driven).rd IPT_STAT.LASTCMD = op := by
  rw [Dev.rd, iptComplete_ld _ _ _ _ _ (by decide)]
  exact (Dev.wr_rd _ IPT_STAT.LASTCMD op (by decide) (by decide)).trans (Nat.mod_eq_of_lt h)

/-- Source 87 pulses where the CORE domain is on (R104). -/
theorem iptComplete_pend (d : Dev) (op : Nat) (out : List Byte) (driven : Bool) (h : d.coreOn = true) :
    (iptComplete d op out driven).srcBit ICU_PEND.addr 87 = true := by
  unfold iptComplete
  dsimp only
  split
  · exact srcBit_pulse _ 87 (by decide)
  · next hoff => exact absurd h hoff

/-- IPT_STAT.ACTIVE follows INS_CS_N (R101). -/
theorem view_iptActive (d : Dev) : (d.view IPT_STAT.addr).getLsbD 0 = d.pins.insCs := by
  have hview : d.view IPT_STAT.addr = d.iptStat := rfl
  have hfld (w : Word) (b : Bool) : fld (setFld w 0 0 (bit b)) 0 0 = b.toNat := by
    rw [fld_setFld _ _ _ _ (by decide) (by decide)]
    cases b <;> rfl
  have hbit := hfld (setFld (d.plain IPT_STAT.addr) 1 1 (bit (!d.pins.vaon))) d.pins.insCs
  rw [fld_bit] at hbit
  rw [hview, Dev.iptStat]
  have hinj : ∀ x y : Bool, x.toNat = y.toNat → x = y := by decide
  exact hinj _ _ hbit

/-- `e` is `d` after one transaction with an opcode: it counted and showed itself, and changed nothing else. -/
structure Dev.inspected (d : Dev) (op : Nat) (e : Dev) : Prop where
  count : e.rd IPT_COUNT.COUNT = min 0xFFFFFFFF (d.rd IPT_COUNT.COUNT + 1)
  lastcmd : e.rd IPT_STAT.LASTCMD = op
  pend : d.coreOn = true → e.srcBit ICU_PEND.addr 87 = true
  regs : Dev.sameRegs [IPT_COUNT.addr, IPT_STAT.addr, ICU_PEND.addr 2] d e
  only : e = { d with regs := e.regs, iptOut := e.iptOut, iptDriven := e.iptDriven,
                      pins := { d.pins with insCs := e.pins.insCs }, seed := e.seed }
  active : (e.view IPT_STAT.addr).getLsbD 0 = e.pins.insCs

theorem iptComplete_inspected (d : Dev) (op : Nat) (out : List Byte) (driven : Bool) (h : op < 256) :
    d.inspected op (iptComplete d op out driven) where
  count := iptComplete_count d op out driven
  lastcmd := iptComplete_lastcmd d op out driven h
  pend := iptComplete_pend d op out driven
  regs := iptComplete_regs d op out driven
  only := by rw [iptComplete_only]
  active := view_iptActive _

theorem Dev.inspected.faults {d e : Dev} {op : Nat} (h : d.inspected op e) : e.faults = d.faults := by rw [h.only]

theorem Dev.inspected.sameBytes {d e : Dev} {op : Nat} (h : d.inspected op e) : d.sameBytes e := by
  rw [h.only]
  exact ⟨fun _ => rfl, fun _ => rfl, fun _ => rfl⟩

theorem iptServe_on (d : Dev) (f : Dev → Dev) (h : d.aonOn = true) : iptServe d f = f d := if_pos h

/-- A transaction with an opcode while the AON domain has power, from a device that differs in its draws alone. -/
theorem completes_ipt {c : Instr} {s : State} {d : Dev} {op : Nat} {out : List Byte} {driven : Bool} {p : State → Prop}
    (hexec : exec c s = fin s (iptServe s.dev fun _ => iptComplete d op out driven)) (hon : s.dev.aonOn = true)
    (hd : d = { s.dev with seed := d.seed }) (hfaults : s.dev.faults = []) (hop : op < 256)
    (h : ∀ t : State, s.dev.inspected op t.dev → t.dev.iptDriven = driven → t.dev.iptOut = out → p t) : Completes c s p := by
  have hdone := iptComplete_inspected d op out driven hop
  have hfrom : s.dev.inspected op (iptComplete d op out driven) := by
    generalize iptComplete d op out driven = e at hdone
    rw [hd] at hdone
    exact ⟨hdone.count, hdone.lastcmd, hdone.pend, hdone.regs, hdone.only, hdone.active⟩
  rw [iptServe_on _ _ hon] at hexec
  refine completes_fin hexec (hfrom.faults.trans hfaults) (h _ hfrom ?_ ?_)
  · rw [iptComplete_only]
  · rw [iptComplete_only]

/-- Bytes 4 to 7 of the STATUS block are SYS_LIMP (Table HLI.7). -/
theorem iptBlock_limp (d : Dev) :
    d.iptBlock.length = 16 ∧ sliceB d.iptBlock 4 4 = beBytes 4 (d.view SYS_LIMP.addr).toNat := ⟨rfl, rfl⟩

/-- Logbook bytes for a READ, zeros above the Logbook (R103). -/
theorem iptBytes_eq (d : Dev) (addr n : Nat) :
    d.iptBytes addr n =
      (List.range n).map (fun i => if addr < 0x100000 then d.logByte ((addr + i) % 0x100000) else 0#8) := by
  unfold Dev.iptBytes
  by_cases h : 0x100000 ≤ addr
  · simp [h, Nat.not_lt.2 h]
  · simp [h, Nat.lt_of_not_le h]

/-- Settles O25: the four transactions differ in their opcode and their bytes alone. -/
theorem inspectionPortIsReadOnly : Obligations.InspectionPortIsReadOnly := by
  intro addr n op s hfaults hon only
  have hdone (opc : Nat) (t : State) (h : s.dev.inspected opc t.dev) : only opc t := by
    refine ⟨h.count, h.lastcmd, h.pend, h.regs, h.sameBytes, ?_, ?_, ?_, ?_, ?_, ?_, ?_, ?_, h.active⟩ <;> rw [h.only]
  obtain ⟨hlen, hlimp⟩ := iptBlock_limp s.dev
  refine ⟨?_, ?_, ?_, ?_⟩
  · exact completes_ipt (d := s.dev) rfl hon rfl hfaults (by decide) fun t h hdriven hout => ⟨hdone _ t h, hdriven, hout⟩
  · exact completes_ipt (d := s.dev.draw) rfl hon rfl hfaults (by decide) fun t h hdriven hout =>
      ⟨hdone _ t h, hdriven, by rw [hout]; exact hlen, by rw [hout]; exact hlimp⟩
  · exact completes_ipt (d := s.dev) rfl hon rfl hfaults (by decide) fun t h hdriven hout =>
      ⟨hdone _ t h, hdriven, hout.trans (iptBytes_eq _ _ _)⟩
  · exact completes_ipt (d := s.dev) rfl hon rfl hfaults op.isLt fun t h hdriven hout => ⟨hdone _ t h, hdriven, hout⟩

end Sys2Proof.Machine
end


section
/-!
The Host Link slice: what the host sends and gets (R80 to R99), and O36.
-/

namespace Sys2Proof.Machine

/-! Big-endian bytes and the CRC byte. -/

@[simp] theorem leBytes_length (n v : Nat) : (leBytes n v).length = n := by simp [leBytes_eq_map]

@[simp] theorem beBytes_length (n v : Nat) : (beBytes n v).length = n := by simp [beBytes]

theorem leNat_leBytes (n v : Nat) : leNat (leBytes n v) = v % 256 ^ n := by
  induction n generalizing v with
  | zero => simp [leBytes, leNat, Nat.mod_one]
  | succ n ih =>
    have hb : (b8 v).toNat = v % 256 := by simp [b8]
    rw [leBytes, leNat, ih, hb, Nat.pow_succ', Nat.mod_mul]

theorem beNat_reverse (bs : List Byte) : beNat bs.reverse = leNat bs := by
  induction bs with
  | nil => rfl
  | cons b r ih =>
    rw [beNat, List.foldl_reverse, List.foldr_cons, ← List.foldl_reverse, ← beNat, ih, leNat]
    omega

theorem beNat_beBytes (n v : Nat) (h : v < 256 ^ n) : beNat (beBytes n v) = v := by
  rw [beBytes, beNat_reverse, leNat_leBytes, Nat.mod_eq_of_lt h]

/-- A word is sent as four bytes, and these are the word (R81). -/
theorem beNat_word (w : Word) : w32 (beNat (beBytes 4 w.toNat)) = w := by
  rw [beNat_beBytes 4 w.toNat w.isLt]
  exact BitVec.ofNat_toNat 32 w

theorem beWords_cons (w : Word) (bs : List Byte) : beWords (beBytes 4 w.toNat ++ bs) = w :: beWords bs :=
  congrArg (· :: beWords bs) (beNat_word w)

theorem beWords_sent (ws : List Word) : beWords (ws.flatMap fun w => beBytes 4 w.toNat) = ws := by
  induction ws with
  | nil => rfl
  | cons w ws ih => rw [List.flatMap_cons, beWords_cons, ih]

theorem crc8Step_lt (c b : Nat) (hc : c < 256) (hb : b < 256) : crc8Step c b < 256 := by
  have hshift (c : Nat) (hc : c < 256) : (if 128 ≤ c then (c * 2 % 256) ^^^ 0x07 else c * 2) < 256 := by
    split
    · exact Nat.xor_lt_two_pow (n := 8) (Nat.mod_lt _ (by decide)) (by decide)
    · omega
  have hfold (l : List Nat) : ∀ c, c < 256 →
      l.foldl (fun c _ => if 128 ≤ c then (c * 2 % 256) ^^^ 0x07 else c * 2) c < 256 := by
    induction l with
    | nil => exact fun _ h => h
    | cons _ l ih => exact fun c h => ih _ (hshift c h)
  exact hfold _ _ (Nat.xor_lt_two_pow (n := 8) hc hb)

/-- The CRC is a byte (R95). -/
theorem crc8_lt (bs : List Byte) : crc8 bs < 256 := by
  have hfold (l : List Byte) : ∀ c, c < 256 → l.foldl (fun c b => crc8Step c b.toNat) c < 256 := by
    induction l with
    | nil => exact fun _ h => h
    | cons b l ih =>
      intro c h
      rw [List.foldl_cons]
      exact ih _ (crc8Step_lt c b.toNat h b.isLt)
  rw [crc8]
  exact hfold bs 0 (by decide)

theorem b8_crc8 (bs : List Byte) : (b8 (crc8 bs)).toNat = crc8 bs := Nat.mod_eq_of_lt (crc8_lt bs)

/-! What the host sends. -/

theorem hostSends_crc {d : Dev} (op : Byte) (body : List Byte) (h : d.crcEn = true) :
    d.hostSends op body = body ++ [b8 (crc8 (op :: body))] := if_pos h

theorem hostSends_plain {d : Dev} (op : Byte) (body : List Byte) (h : d.crcEn = false) : d.hostSends op body = body :=
  if_neg (by rw [Dev.crcEn] at h; rw [h]; decide)

theorem hostSends_length (d : Dev) (op : Byte) (body : List Byte) :
    (d.hostSends op body).length = body.length + bit d.crcEn := by
  cases h : d.crcEn
  · rw [hostSends_plain op body h]; rfl
  · rw [hostSends_crc op body h, List.length_append]; rfl

/-- A header within the body is sent whole, with its CRC byte. -/
theorem hlSent_hostSends (d : Dev) (op : Byte) (body : List Byte) (n : Nat) (h : n ≤ body.length) :
    d.hlSent (d.hostSends op body) n = true := by
  rw [Dev.hlSent, hostSends_length, decide_eq_true_eq]
  omega

theorem crcOk_hostSends (d : Dev) (op : Byte) (body : List Byte) :
    d.crcOk op (d.hostSends op body) body.length = true := by
  cases h : d.crcEn
  · rw [Dev.crcOk, h]; rfl
  · rw [Dev.crcOk, h, hostSends_crc op body h]
    simp [crc8_lt]

theorem take_hostSends (d : Dev) (op : Byte) (body : List Byte) (k : Nat) (h : k ≤ body.length) :
    (d.hostSends op body).take k = body.take k := by
  cases hc : d.crcEn
  · rw [hostSends_plain op body hc]
  · rw [hostSends_crc op body hc, List.take_append_of_le_length h]

/-- Bytes of the body, read from what the host sends. -/
theorem sliceB_hostSends (d : Dev) (op : Byte) (body : List Byte) (k n : Nat) (h : k + n ≤ body.length) :
    ((d.hostSends op body).drop k).take n = (body.drop k).take n := by
  rw [List.take_drop, List.take_drop, take_hostSends d op body (k + n) h]

theorem leAt_hostSends (d : Dev) (op : Byte) (body : List Byte) (k : Nat) (h : k < body.length) :
    leAt (d.hostSends op body) k 1 = body[k].toNat := by
  have hbyte : (body.drop k).take 1 = [body[k]] := List.take_one_drop_eq_of_lt_length h
  rw [leAt, sliceB, sliceB_hostSends d op body k 1 h, hbyte]
  rfl

/-! The answers of the slice. -/

/-- A transaction that was sent whole with its CRC is served (R95, R96). -/
theorem hlServe_hostSends (d : Dev) (op : Byte) (body zero : List Byte) (f : Dev → Dev) (hm : d.mode ≠ .resting) :
    hlServe d op (d.hostSends op body) body.length zero f = f d := by
  rw [hlServe, hlSent_hostSends d op body _ le_rfl, crcOk_hostSends]
  simp [hm]

/-- A command that changes the slice alone. -/
theorem completes_hl {c : Instr} {s : State} {d : Dev} {p : State → Prop} (hexec : exec c s = fin s d)
    (hd : d = { s.dev with hl := d.hl }) (hfaults : s.dev.faults = [])
    (h : s.onlyHl { s with dev := d } → p { s with dev := d }) : Completes c s p := by
  refine completes_fin hexec (by rw [hd]; exact hfaults) (h ?_)
  exact congrArg (fun d => ({ s with dev := d } : State)) hd

/-- `e` is `d` after a transaction that set DROP with a cause: counted, nothing driven, and the slice else as it was (R96). -/
structure Dev.dropped (d : Dev) (cause : Nat) (e : Dev) : Prop where
  hl : e.hl = { d.hl with drop := true, cause := cause, out := [], driven := false }
  count : e.rd HPT_CNT.DROPS = min 255 (d.rd HPT_CNT.DROPS + 1)
  regs : Dev.sameRegs [HPT_CNT.addr] d e
  only : e = { d with regs := e.regs, hl := e.hl }

theorem Dev.dropped.sameBytes {d e : Dev} {cause : Nat} (h : d.dropped cause e) : d.sameBytes e := by
  rw [h.only]
  exact ⟨fun _ => rfl, fun _ => rfl, fun _ => rfl⟩

theorem hlDrop_dropped (d : Dev) (cause : Nat) : d.dropped cause (hlDrop (hlQuiet d) cause) where
  hl := rfl
  count := Dev.bump_rd _ HPT_CNT.DROPS 1 (by decide) (by decide)
  regs := Dev.sameRegs_bump (Dev.setHl _ _) HPT_CNT.DROPS 1 (by decide)
  only := rfl

theorem completes_drop {c : Instr} {s : State} {cause : Nat} {p : State → Prop}
    (hexec : exec c s = fin s (hlDrop (hlQuiet s.dev) cause)) (hfaults : s.dev.faults = [])
    (h : ∀ t : State, s.dev.dropped cause t.dev → p t) : Completes c s p :=
  completes_fin hexec hfaults (h _ (hlDrop_dropped s.dev cause))

/-! The fall of CS_N and the short transactions (O36). -/

theorem wake_idle (d : Dev) (hm : d.mode ≠ .doze) (hw : d.wl.dozeWait = none) : wake d = d := by
  simp [wake, hm, hw]

/-- STAT of the snapshot that the fall of CS_N takes (R83). -/
def Dev.fallStat (d : Dev) : Nat :=
  bit d.hl.drop * 16 + bit (d.on HPT_STAT.WERR) * 8 + bit (d.icuSum true != 0) * 4 + d.hsum.toNat % 4 / 2 * 2 + d.hsum.toNat % 2

/-- The slice after the fall of CS_N. -/
def csFallen (d : Dev) (sclk : Bool) : Dev := d.setHl (fun h => { h with
  mode3 := sclk, snapStat := d.fallStat, snapSum := w32 (d.icuSum true), out := [], driven := false, fallRegs := d.regs })

theorem csFall_eq (d : Dev) (sclk : Bool) (hm : d.mode ≠ .resting) : csFall d sclk = wake (csFallen d sclk) := if_neg hm

/-- The bits of the snapshot. -/
theorem testBit_fallStat (d : Dev) :
    d.fallStat.testBit 4 = d.hl.drop ∧ d.fallStat.testBit 3 = d.on HPT_STAT.WERR ∧
      d.fallStat.testBit 2 = (d.icuSum true != 0) ∧ d.fallStat.testBit 1 = decide (d.mode = .limp) ∧
      d.fallStat.testBit 0 = decide (d.mode = .boot ∧ d.rd SYS_BOOTSTAT.STEP = 5) := by
  have hbits (a b c e f : Bool) :
      let n := bit a * 16 + bit b * 8 + bit c * 4 + (w32 (bit e + 2 * bit f)).toNat % 4 / 2 * 2 +
        (w32 (bit e + 2 * bit f)).toNat % 2
      n.testBit 4 = a ∧ n.testBit 3 = b ∧ n.testBit 2 = c ∧ n.testBit 1 = f ∧ n.testBit 0 = e := by
    revert a b c e f
    decide
  obtain ⟨hdrop, hwerr, hsum, hlimp, hboot⟩ := hbits d.hl.drop (d.on HPT_STAT.WERR) (d.icuSum true != 0)
    (d.mode == .boot && d.rd SYS_BOOTSTAT.STEP == 5) (d.mode == .limp)
  refine ⟨hdrop, hwerr, hsum, hlimp.trans ?_, hboot.trans ?_⟩
  · exact (Bool.beq_eq_decide_eq _ _)
  · rw [Bool.decide_and]
    rfl

theorem exec_csNFall (sclk : Bool) (s : State) : exec (.csNFall sclk) s = fin s (csFall s.dev sclk) := rfl

/-- What a CFGWR does to the slice register that IDX names (R97). -/
def cfgWritten (d : Dev) (idx : Nat) (w : Word) : Dev :=
  match idx with
  | 0 => (hlQuiet d).setHl (fun h => { h with cfg := hlCfgWord w })
  | 1 => (hlQuiet d).setHl (fun h => { h with drop := h.drop && !w.getLsbD 0 })
  | _ => hlQuiet d

/-- A CFGWR sent whole, with its CRC. -/
theorem hlCfgwr_hostSends (d : Dev) (idx : Byte) (w : Word) (part : Bool) (hm : d.mode ≠ .resting) :
    hlCfgwr d (d.hostSends 0x31#8 (idx :: beBytes 4 w.toNat)) part = cfgWritten d idx.toNat w := by
  have hlen : (idx :: beBytes 4 w.toNat).length = 5 := rfl
  have hsent := hlSent_hostSends d 0x31#8 (idx :: beBytes 4 w.toNat) 5 hlen.ge
  have hcrc := crcOk_hostSends d 0x31#8 (idx :: beBytes 4 w.toNat)
  have hdata : w32 (beNat (((d.hostSends 0x31#8 (idx :: beBytes 4 w.toNat)).drop 1).take 4)) = w := by
    rw [sliceB_hostSends _ _ _ _ _ hlen.ge]
    exact beNat_word w
  have hidx : leAt (d.hostSends 0x31#8 (idx :: beBytes 4 w.toNat)) 0 1 = idx.toNat :=
    leAt_hostSends d _ _ 0 (by rw [hlen]; decide)
  rw [hlen] at hcrc
  unfold hlCfgwr
  rw [hsent, hcrc, hdata, hidx, if_neg (by simp [hm]), if_neg (by decide)]
  rfl

/-- HL_CFG keeps CRCEN and MODE as written and DUMMY between 8 and 32 (R97). -/
theorem hlCfgWord_fields (w : Word) : fld (hlCfgWord w) 1 0 = fld w 1 0 ∧
    fld (hlCfgWord w) 13 8 = if fld w 13 8 < 8 then 8 else if 32 < fld w 13 8 then 32 else fld w 13 8 := by
  have h1 : fld w 1 0 < 4 := Nat.mod_lt _ (by decide)
  have hval : (hlCfgWord w).toNat = max 8 (min 32 (fld w 13 8)) * 256 + fld w 1 0 := by
    rw [hlCfgWord, w32_toNat, Nat.mod_eq_of_lt]
    omega
  constructor
  · rw [fld, hval]
    omega
  · rw [fld, hval]
    split_ifs <;> omega

/-- A CFGWR with another byte in place of its CRC is dropped (R96). -/
theorem hlCfgwr_badCrc (d : Dev) (w : Word) (crc : Byte) (part : Bool) (hm : d.mode ≠ .resting) (hen : d.crcEn = true)
    (h : crc ≠ b8 (crc8 (0x31#8 :: 0#8 :: beBytes 4 w.toNat))) :
    hlCfgwr d (0#8 :: beBytes 4 w.toNat ++ [crc]) part = hlDrop (hlQuiet d) 1 := by
  have hsent : d.hlSent (0#8 :: beBytes 4 w.toNat ++ [crc]) 5 = true := by
    rw [Dev.hlSent, hen]
    rfl
  have hbad : d.crcOk 0x31#8 (0#8 :: beBytes 4 w.toNat ++ [crc]) 5 = false := by
    rw [Dev.crcOk, hen]
    refine beq_false_of_ne fun heq => h ?_
    exact BitVec.eq_of_toNat_eq (heq.trans (b8_crc8 _).symm)
  unfold hlCfgwr
  rw [hsent, hbad]
  simp [hm]

/-- ECHO of 1 to 16 bytes (R99). -/
theorem hlEcho_hostSends (d : Dev) (msg : List Byte) (hm : d.mode ≠ .resting) (h1 : 1 ≤ msg.length) (h16 : msg.length ≤ 16) :
    hlEcho d (d.hostSends 0x9E#8 (b8 msg.length :: msg)) = hlReply d (d.hlStat true false false :: msg) := by
  have hlen : (b8 msg.length :: msg).length = 1 + msg.length := by rw [List.length_cons, Nat.add_comm]
  have hl : leAt (d.hostSends 0x9E#8 (b8 msg.length :: msg)) 0 1 = msg.length := by
    rw [leAt_hostSends d _ _ 0 (by rw [hlen]; omega)]
    exact Nat.mod_eq_of_lt (by omega)
  have hempty : (d.hostSends 0x9E#8 (b8 msg.length :: msg)).isEmpty = false := by
    rw [List.isEmpty_eq_false_iff, ← List.length_pos_iff, hostSends_length]
    omega
  have hmsg : ((d.hostSends 0x9E#8 (b8 msg.length :: msg)).drop 1).take msg.length = msg := by
    rw [sliceB_hostSends _ _ _ _ _ hlen.ge]
    exact List.take_length
  have hserve (zero : List Byte) (f : Dev → Dev) :=
    hlServe_hostSends d 0x9E#8 (b8 msg.length :: msg) zero f hm
  rw [hlen] at hserve
  unfold hlEcho
  rw [hl, hempty, if_neg (by simp [hm]), if_neg (by omega)]
  rw [hserve, hmsg]

/-- CFGRD of one slice register (R97). -/
theorem hlCfgrd_hostSends (d : Dev) (idx : Nat) (part : Bool) (hm : d.mode ≠ .resting) (h : idx < 256) :
    hlCfgrd d (d.hostSends 0x35#8 [b8 idx]) part = hlReply d (d.hlStat true false false :: beBytes 4 (d.sliceReg idx)) := by
  have hidx : leAt (d.hostSends 0x35#8 [b8 idx]) 0 1 = idx := by
    rw [leAt_hostSends d _ [b8 idx] 0 Nat.one_pos]
    exact Nat.mod_eq_of_lt h
  have hsent : d.hlSent (d.hostSends 0x35#8 [b8 idx]) 1 = true := hlSent_hostSends d _ _ 1 le_rfl
  have hserve (zero : List Byte) (f : Dev → Dev) := hlServe_hostSends d 0x35#8 [b8 idx] zero f hm
  unfold hlCfgrd
  rw [hsent, hidx, if_neg (by simp)]
  exact hserve _ _

/-- Settles O36, transaction by transaction. -/
theorem hostLinkSliceTransactions : Obligations.HostLinkSliceTransactions := by
  refine ⟨by decide +kernel, ?_⟩
  intro sclk part idx w msg op crc s hfaults hm stat
  have hfall := exec_csNFall sclk s
  rw [csFall_eq _ _ hm] at hfall
  refine ⟨fun hd hw => ?_, fun hd => ?_, ?_, fun h1 h16 => ?_, fun hidx => ?_, ?_, ?_, fun hen hbad => ?_, fun hop => ?_⟩
  · rw [wake_idle (csFallen s.dev sclk) hd hw] at hfall
    obtain ⟨hdrop, hwerr, hsum, hlimp, hboot⟩ := testBit_fallStat s.dev
    exact completes_hl hfall rfl hfaults fun h => ⟨rfl, rfl, hdrop, hwerr, hsum, hlimp, hboot, rfl, h⟩
  · rw [wake_doze (csFallen s.dev sclk) hd] at hfall
    exact completes_fin hfall hfaults ⟨rfl, hd⟩
  · have hserve : hlRdsum s.dev (s.dev.hostSends 0x05#8 []) = _ := hlServe_hostSends s.dev 0x05#8 [] _ _ hm
    exact completes_hl (congrArg (fin s) hserve) rfl hfaults fun h => ⟨rfl, rfl, h⟩
  · exact completes_hl (congrArg (fin s) (hlEcho_hostSends s.dev msg hm h1 h16)) rfl hfaults fun h => ⟨rfl, rfl, h⟩
  · exact completes_hl (congrArg (fin s) (hlCfgrd_hostSends s.dev idx part hm hidx)) rfl hfaults fun h => ⟨rfl, rfl, h⟩
  · obtain ⟨hlow, hdummy⟩ := hlCfgWord_fields w
    exact completes_hl (congrArg (fin s) (hlCfgwr_hostSends s.dev 0#8 w part hm)) rfl hfaults fun h =>
      ⟨hlow, hdummy, rfl, rfl, rfl, h⟩
  · exact completes_hl (congrArg (fin s) (hlCfgwr_hostSends s.dev 1#8 w part hm)) rfl hfaults fun h => ⟨rfl, rfl, h⟩
  · have hdrop := hlCfgwr_badCrc s.dev w crc part hm hen hbad
    refine completes_drop (congrArg (fin s) hdrop) hfaults fun t h => ⟨?_, ?_, ?_, h.regs, h.sameBytes⟩ <;> rw [h.hl]
  · have hunknown : hlUnknown s.dev op = hlDrop (hlQuiet s.dev) 5 := by
      rw [hlUnknown, if_neg]
      simpa [hm, hlOpcodes] using hop
    refine completes_drop (congrArg (fin s) hunknown) hfaults fun t h =>
      ⟨?_, ?_, ?_, ?_, h.count, h.regs, h.sameBytes⟩ <;> rw [h.hl]

end Sys2Proof.Machine
end


section
/-!
The Host Link reset (R94, R98, R111, R164): O37.
-/

namespace Sys2Proof.Machine

/-! Claims of the host target. -/

/-- The host's claims among the 32 sources of one word end. -/
def claimsEnd (d : Dev) (k : Nat) : Dev := d.put (ICU_ACT.addr k) (d.ld (ICU_ACT.addr k) &&& ~~~srcWord k d.srcHost)

theorem clearHostClaims_eq (d : Dev) : clearHostClaims d = (List.range 6).foldl claimsEnd d := rfl

theorem srcWord_getLsbD (k j : Nat) (p : Nat → Bool) (h : j < 32) : (srcWord k p).getLsbD j = p (32 * k + j) := by
  rw [srcWord, w32, BitVec.getLsbD_ofNat, testBit_maskFrom]
  simp [h]

theorem clearHostClaims_onlyRegs (d : Dev) : d.onlyRegs (clearHostClaims d) :=
  foldl_relates Dev.onlyRegs_refl Dev.onlyRegs.trans _ _ d fun _ _ _ => rfl

theorem clearHostClaims_regs (d : Dev) : Dev.sameRegs ((List.range 6).map ICU_ACT.addr) d (clearHostClaims d) :=
  foldl_relates (R := Dev.sameRegs _) (fun _ _ _ => rfl) Dev.sameRegs.trans _ _ d fun _ hk d =>
    Dev.sameRegs_put d _ _ (List.mem_map_of_mem hk)

/-- A register outside the six active words reads as before. -/
theorem clearHostClaims_ld (d : Dev) (a : Nat) (h : a < ICU_ACT.addr 0 ∨ ICU_ACT.addr 6 ≤ a) :
    (clearHostClaims d).ld a = d.ld a := by
  refine clearHostClaims_regs d a ?_
  simp only [List.mem_map, List.mem_range, not_exists, not_and, ICU_ACT.addr] at *
  omega

/-- The target of a source stays, and a source that is not active stays so. -/
theorem claimsEnd_keeps (d : Dev) (k n : Nat) (hk : k < 6) :
    (claimsEnd d k).srcHost n = d.srcHost n ∧ (d.srcAct n = false → (claimsEnd d k).srcAct n = false) := by
  constructor
  · rw [Dev.srcHost, claimsEnd, Dev.put_ld_ne _ _ _ _ (by simp only [ICU_CFG.addr, ICU_ACT.addr]; omega), Dev.srcHost]
  · intro h
    rw [Dev.srcAct, Dev.srcBit] at *
    by_cases ha : ICU_ACT.addr (n / 32) = ICU_ACT.addr k
    · rw [ha] at h ⊢
      rw [claimsEnd, Dev.put_ld, BitVec.getLsbD_and, h, Bool.false_and]
    · rw [claimsEnd, Dev.put_ld_ne _ _ _ _ ha, h]

theorem claimsEnd_ends (d : Dev) (n : Nat) (h : d.srcHost n = true) : (claimsEnd d (n / 32)).srcAct n = false := by
  have hn : 32 * (n / 32) + n % 32 = n := by omega
  rw [Dev.srcAct, Dev.srcBit, claimsEnd, Dev.put_ld, BitVec.getLsbD_and, BitVec.getLsbD_not,
    srcWord_getLsbD _ _ _ (Nat.mod_lt n (by decide)), hn, h]
  simp

/-- No source of the host target stays active (R164). -/
theorem clearHostClaims_ends (d : Dev) (n : Nat) (hn : n < 192) (h : d.srcHost n = true) :
    (clearHostClaims d).srcAct n = false := by
  have hfold (l : List Nat) (hl : ∀ k ∈ l, k < 6) : ∀ d : Dev, d.srcHost n = true → (d.srcAct n = false ∨ n / 32 ∈ l) →
      (l.foldl claimsEnd d).srcAct n = false := by
    induction l with
    | nil => exact fun d _ hd => hd.resolve_right List.not_mem_nil
    | cons k l ih =>
      intro d hhost hd
      obtain ⟨hkeep, hact⟩ := claimsEnd_keeps d k n (hl k List.mem_cons_self)
      refine ih (fun j hj => hl j (List.mem_cons_of_mem k hj)) _ (hkeep.trans hhost) ?_
      rcases hd with hd | hd
      · exact .inl (hact hd)
      · rcases List.mem_cons.1 hd with rfl | hmem
        · exact .inl (claimsEnd_ends d n hhost)
        · exact .inr hmem
  rw [clearHostClaims_eq]
  exact hfold _ (fun k hk => List.mem_range.1 hk) d h (.inr (List.mem_range.2 (by omega)))

/-! The reset. -/

theorem niDrop_only (d : Dev) (ni : Nat) : niDrop d ni = { d with noc := (niDrop d ni).noc } := by
  unfold niDrop
  dsimp only
  split <;> rfl

/-- A read result that no response has returned counts as lost (R94). -/
def rdCounted (d : Dev) : Dev := if d.hl.unread then d.bump HPT_CNT.RDLOST 1 else d

theorem rdCounted_onlyRegs (d : Dev) : d.onlyRegs (rdCounted d) := by
  unfold rdCounted
  split <;> rfl

theorem rdCounted_ld (d : Dev) (a : Nat) (h : a ≠ HPT_CNT.addr) : (rdCounted d).ld a = d.ld a := by
  unfold rdCounted
  split
  · exact d.wr_ld_ne HPT_CNT.RDLOST _ a h
  · rfl

theorem rdCounted_rd (d : Dev) : (rdCounted d).rd HPT_CNT.RDLOST =
    if d.hl.rdFly.isSome || (d.hl.held.isSome && !d.hl.returned) then min 255 (d.rd HPT_CNT.RDLOST + 1)
    else d.rd HPT_CNT.RDLOST := by
  rw [rdCounted, HostLink.unread]
  split
  · exact d.bump_rd HPT_CNT.RDLOST 1 (by decide) (by decide)
  · rfl

/-- The slice after a reset: the writes accepted stay (R98). -/
def HostLink.restored (h : HostLink) : HostLink := { HostLink.idle with
  rdDrop := h.rdDrop + bit h.rdFly.isSome, wq := h.wq, wfly := h.wfly, wkeep := h.wkeep, mode3 := h.mode3,
  fallRegs := h.fallRegs }

/-- The device with the slice restored, before its locks and claims end. -/
def sliceReset (d : Dev) : Dev := (niDrop (rdCounted d) 1).setHl HostLink.restored

theorem hostLinkReset_eq (d : Dev) : hostLinkReset d = clearHostClaims (releaseHolder (sliceReset d) 2) := rfl

theorem sliceReset_only (d : Dev) : sliceReset d =
    { d with regs := (rdCounted d).regs, noc := (sliceReset d).noc, hl := d.hl.restored } := by
  have hdrop := niDrop_only (rdCounted d) 1
  have hcount := rdCounted_onlyRegs d
  unfold sliceReset
  generalize rdCounted d = e at *
  rw [hdrop, hcount]
  rfl

/-- `e` is `d` after a Host Link reset. -/
structure Dev.linkReset (d e : Dev) : Prop where
  only : e = { d with regs := e.regs, holders := e.holders, evq := e.evq, evGap := e.evGap, noc := e.noc, hl := d.hl.restored }
  freed : ∀ n, n < 64 → d.holder n = 2 → e.holder n = 0 ∧ e.orphan n = true
  others : ∀ n, n < 64 → d.holder n ≠ 2 → e.holder n = d.holder n ∧ e.orphan n = d.orphan n
  lost : e.rd HPT_CNT.RDLOST = if d.hl.rdFly.isSome || (d.hl.held.isSome && !d.hl.returned)
    then min 255 (d.rd HPT_CNT.RDLOST + 1) else d.rd HPT_CNT.RDLOST
  claims : ∀ n, n < 112 → d.srcHost n = true → e.srcAct n = false

theorem Dev.linkReset.sameBytes {d e : Dev} (h : d.linkReset e) : d.sameBytes e := by
  rw [h.only]
  exact ⟨fun _ => rfl, fun _ => rfl, fun _ => rfl⟩

theorem clearHostClaims_orphan (d : Dev) (n : Nat) : (clearHostClaims d).orphan n = d.orphan n := by
  rw [Dev.orphan_eq, clearHostClaims_ld d _ (.inr (by simp only [ICU_ACT.addr, NWL_ORPHAN.addr]; omega)), ← Dev.orphan_eq]

theorem clearHostClaims_holder (d : Dev) (n : Nat) : (clearHostClaims d).holder n = d.holder n := by
  rw [Dev.holder, clearHostClaims_onlyRegs d, Dev.holder]

theorem sliceReset_ld (d : Dev) (a : Nat) (h : a ≠ HPT_CNT.addr) : (sliceReset d).ld a = d.ld a := by
  rw [sliceReset_only]
  exact rdCounted_ld d a h

theorem sliceReset_holder (d : Dev) (n : Nat) : (sliceReset d).holder n = d.holder n := by
  rw [Dev.holder, sliceReset_only, Dev.holder]

theorem sliceReset_orphan (d : Dev) (n : Nat) : (sliceReset d).orphan n = d.orphan n := by
  rw [Dev.orphan_eq, sliceReset_ld d _ (by simp only [NWL_ORPHAN.addr, HPT_CNT.addr]; omega), ← Dev.orphan_eq]

/-- The orphan flags of the locks of other holders stay. -/
theorem releaseHolder_orphan_other (d : Dev) (id n : Nat) (hn : n < 64) (h : d.holder n ≠ id) :
    (releaseHolder d id).orphan n = d.orphan n := by
  have hbit : (d.heldMask id).testBit n = false := by simp [Dev.heldMask, testBit_maskFrom, h]
  rw [releaseHolder, orphanStep_orphan _ _ _ _ hn, hbit, Bool.or_false]

theorem hostLinkReset_linkReset (d : Dev) (hroom : d.evq.length < 240) : d.linkReset (hostLinkReset d) := by
  have hreset := sliceReset_only d
  have hfreed := releaseHolder_frees (sliceReset d) 2
  have hother := releaseHolder_other (sliceReset d) 2
  have horphan := releaseHolder_orphan_other (sliceReset d) 2
  have hholder := sliceReset_holder d
  have hflag := sliceReset_orphan d
  have hrel := releaseHolder_orphaned (sliceReset d) 2 (by rw [hreset]; exact hroom)
  have hlost : (sliceReset d).rd HPT_CNT.RDLOST = (rdCounted d).rd HPT_CNT.RDLOST := by
    rw [hreset]
    rfl
  have hsource (n : Nat) (hn : n < 112) : (releaseHolder (sliceReset d) 2).srcHost n = d.srcHost n := by
    have hcfg : ICU_CFG.addr (n / 4) ∉ [NWL_ORPHAN.addr 0, NWL_ORPHAN.addr 1, NWL_ERR.addr, NWL_CNT.addr, EVQ_NEXTSEQ.addr] := by
      simp [ICU_CFG.addr, NWL_ORPHAN.addr, NWL_ERR.addr, NWL_CNT.addr, EVQ_NEXTSEQ.addr]
      omega
    rw [Dev.srcHost, hrel.regs _ hcfg, sliceReset_ld d _ (by simp only [ICU_CFG.addr, HPT_CNT.addr]; omega), Dev.srcHost]
  rw [hostLinkReset_eq]
  generalize releaseHolder (sliceReset d) 2 = r at *
  exact {
    only := by
      rw [clearHostClaims_onlyRegs r, hrel.only, hreset]
    freed := fun n hn h => by
      rw [clearHostClaims_holder, clearHostClaims_orphan r n]
      exact hfreed n (by decide) hn ((hholder n).trans h)
    others := fun n hn h => by
      rw [clearHostClaims_holder, clearHostClaims_orphan r n]
      rw [← hholder n] at h
      exact ⟨(hother n h).trans (hholder n), (horphan n hn h).trans (hflag n)⟩
    lost := by
      rw [Dev.rd, clearHostClaims_ld r _ (.inl (by decide)), hrel.regs _ (by decide)]
      exact hlost.trans (rdCounted_rd d)
    claims := fun n hn h => clearHostClaims_ends r n (by omega) ((hsource n hn).trans h) }

/-! The transaction. -/

/-- A run of 0xFF bytes, and the CRC byte behind it where CRCEN = 1, resets (R98). -/
theorem hlReset_resets (d : Dev) (bytes : List Byte) (k : Nat) (hm : d.mode ≠ .resting)
    (h : d.crcEn = true → bytes = List.replicate k 0xFF#8 ∨
      bytes = List.replicate k 0xFF#8 ++ [b8 (crc8 (List.replicate (k + 1) 0xFF#8))]) :
    hlReset d bytes = hostLinkReset d := by
  unfold hlReset
  rw [if_neg hm]
  refine if_pos ?_
  cases hen : d.crcEn with
  | false => rfl
  | true =>
    rcases h hen with rfl | rfl
    · simp
    · have hcrc : d.crcOk 0xFF#8 (List.replicate k 0xFF#8 ++ [b8 (crc8 (List.replicate (k + 1) 0xFF#8))]) k = true := by
        rw [Dev.crcOk, hen]
        simp [crc8_lt, List.replicate_succ]
      simp [hcrc]

/-- Any other last byte drops the transaction (R96, R98). -/
theorem hlReset_drops (d : Dev) (k : Nat) (c : Byte) (hm : d.mode ≠ .resting) (hen : d.crcEn = true) (hc : c ≠ 0xFF#8)
    (hcrc : c ≠ b8 (crc8 (List.replicate (k + 1) 0xFF#8))) :
    hlReset d (List.replicate k 0xFF#8 ++ [c]) = hlDrop (hlQuiet d) 1 := by
  have hbad : d.crcOk 0xFF#8 (List.replicate k 0xFF#8 ++ [c]) k = false := by
    have hne : c.toNat ≠ crc8 (List.replicate (k + 1) 0xFF#8) := fun heq =>
      hcrc (BitVec.eq_of_toNat_eq (heq.trans (b8_crc8 _).symm))
    rw [Dev.crcOk, hen]
    simpa [List.replicate_succ] using hne
  unfold hlReset
  rw [if_neg hm]
  refine if_neg ?_
  simp [hen, hbad, hc]

/-- Settles O37: the reset and the transaction that is dropped instead. -/
theorem hostLinkResetKeepsWrites : Obligations.HostLinkResetKeepsWrites := by
  intro bytes k c s hquiet hm ones hbytes
  obtain ⟨hfaults, hevq, -, -⟩ := hquiet
  refine ⟨?_, fun hen hc hcrc => ?_⟩
  · have h := hostLinkReset_linkReset s.dev (by omega)
    have hexec : exec (.hlReset bytes) s = fin s (hostLinkReset s.dev) :=
      congrArg (fin s) (hlReset_resets s.dev bytes k hm hbytes)
    generalize hostLinkReset s.dev = e at *
    have hfield {α : Type} (f : HostLink → α) : f e.hl = f s.dev.hl.restored := congrArg f (by rw [h.only])
    exact completes_fin hexec (by rw [h.only]; exact hfaults)
      ⟨hfield HostLink.cfg, hfield HostLink.drop, hfield HostLink.cause, hfield HostLink.seq, hfield HostLink.held,
        hfield HostLink.rdWait, hfield HostLink.rdFly, hfield HostLink.wq, hfield HostLink.wfly, hfield HostLink.rdDrop,
        h.freed, h.others, h.lost, h.claims, h.sameBytes⟩
  · refine completes_drop (congrArg (fin s) (hlReset_drops s.dev k c hm hen hc hcrc)) hfaults fun t h =>
      ⟨?_, ?_, ?_, ?_, ?_, h.regs, h.sameBytes⟩
    · rw [h.hl]
    · rw [h.hl]
    · rw [h.hl]
    · rw [h.hl]
    · rw [h.only]

end Sys2Proof.Machine
end


section
/-!
Wailith and the Logbook (R102, R461 to R467, R474): O26.
-/

namespace Sys2Proof.Machine

/-! What keeps the Logbook and its stop. -/

/-- No byte of the Logbook is written, and records are stopped as before (R474). -/
structure Dev.logKept (d e : Dev) : Prop where
  log : e.log = d.log
  stop : e.wl.logStop = d.wl.logStop

theorem Dev.logKept_refl (d : Dev) : d.logKept d := ⟨rfl, rfl⟩

theorem Dev.logKept.trans {d e g : Dev} (h : d.logKept e) (k : e.logKept g) : d.logKept g :=
  ⟨k.log.trans h.log, k.stop.trans h.stop⟩

theorem Dev.logKept.after {d e g : Dev} (k : e.logKept g) (h : d.logKept e) : d.logKept g := h.trans k

theorem Dev.tended.logKept {d e : Dev} (h : d.tended e) : d.logKept e := ⟨h.log, by rw [h.wl]⟩

theorem foldl_logKept {γ : Type} (f : Dev → γ → Dev) (l : List γ) (d : Dev) (h : ∀ x ∈ l, ∀ d : Dev, d.logKept (f d x)) :
    d.logKept (l.foldl f d) := foldl_relates Dev.logKept_refl Dev.logKept.trans f l d h

theorem orphanStep_logKept (d : Dev) (mask code : Nat) : d.logKept (orphanStep d mask code) := by
  by_cases h : mask = 0
  · rw [orphanStep, if_pos h]
    exact d.logKept_refl
  · exact (orphanStep_eq d mask code h).logKept.after ⟨rfl, rfl⟩

theorem releaseHolder_logKept (d : Dev) (id : Nat) : d.logKept (releaseHolder d id) := orphanStep_logKept d _ _

theorem Dev.logKept_wr (d : Dev) (f : Fld) (v : Nat) : d.logKept (d.wr f v) := ⟨rfl, rfl⟩

theorem tripPins_logKept (d : Dev) (new : Nat) : d.logKept (tripPins d new) := by
  rw [tripPins, Dev.onlyRegs_pulse]
  exact ⟨rfl, rfl⟩

theorem tripWith_logKept (d : Dev) (f : Nat → Nat) : d.logKept (tripWith d f) := by
  obtain ⟨causes, heq⟩ := tripWith_eq d f
  have hcauses := (tripCauses_tended d f).logKept
  rw [heq]
  split
  · exact hcauses
  · exact (hcauses.trans (tripPins_logKept _ _)).trans (evqAppend_tended _ _ _ _ _ _).logKept

theorem srcUse_logKept (d : Dev) (mask : Nat) : d.logKept (srcUse d mask) := by
  unfold srcUse
  dsimp only
  split
  · exact d.logKept_refl
  · exact (foldl_tended _ _ _ fun n _ e => twinFault_tended e 5 (BAL_SRC.addr n)).logKept.trans (tripWith_logKept _ _)

theorem balEval_logKept (d : Dev) : d.logKept (balEval d) := by
  have hpol (e : Dev) : e.tended (if e.peerpolUsed then useTwin e CNC_GCFG.addr else e) := by
    split
    · exact useTwin_tended e _
    · exact e.tended_refl
  exact ((srcUse_logKept d 0xFFFF).trans (hpol _).logKept).trans (tripWith_logKept _ _)

theorem peerGone_logKept (d : Dev) (p : Nat) : d.logKept (peerGone d p) := by
  have hgrp (e : Dev) (g : Group) (t : List TlbEnt) : e.logKept { e with grp := g, tlb := t } := ⟨rfl, rfl⟩
  exact (raGone_tended _ p).logKept.after ((hgrp _ _ _).after (releaseHolder_logKept d (8 + p)))

theorem electLead_logKept (d : Dev) (members : Nat) : d.logKept (electLead d members) := by
  have hswitch (e : Dev) : e.logKept (if e.wl.swGroup.isSome then
      { e.wr GSQ_SWCTL.ARMED 0 with wl := { e.wl with swGroup := none } } else e) := by
    split
    · exact ⟨rfl, rfl⟩
    · exact e.logKept_refl
  exact (groupError_tended _ CNC_GERR.LEADCHG (by decide)).logKept.after ((hswitch _).after ⟨rfl, rfl⟩)

theorem regroup_logKept (d : Dev) : d.logKept (regroup d) := by
  have hpeers (e : Dev) (ps : List Nat) (new : Nat) :
      e.logKept (ps.foldl (fun d p => if new.testBit p then d else peerGone d p) e) := by
    refine foldl_logKept _ _ _ fun p _ e => ?_
    split
    · exact e.logKept_refl
    · exact peerGone_logKept e p
  have hlead (e : Dev) (new : Nat) : e.logKept (if new.testBit (e.rd CNC_GRP.LEAD) then e else electLead e new) := by
    split
    · exact e.logKept_refl
    · exact electLead_logKept e new
  exact (balEval_logKept _).after ((leadUpdate_tended _).logKept.after ((hlead _ _).after ((hpeers _ _ _).after ⟨rfl, rfl⟩)))

theorem laneDown_logKept (d : Dev) (l cause : Nat) : d.logKept (laneDown d l cause) := by
  have hwithdraw (e : Dev) (c : Bool) : e.tended (if c then withdrawUpdate e else e) := by
    split
    · exact withdrawUpdate_tended e
    · exact e.tended_refl
  have hflags (e : Dev) : e.logKept ((e.wr (CNC_LSTAT.DOWNCAUSE l) cause).wr (CNC_ERR.DOWN l) 1) := ⟨rfl, rfl⟩
  have halign (e : Dev) (c : Bool) : e.logKept (if c then { e with grp := { e.grp with alignTo := none } } else e) := by
    split
    · exact ⟨rfl, rfl⟩
    · exact e.logKept_refl
  have hgroup (e : Dev) (c : Bool) : e.logKept (if c then regroup (sendLinkstate e) else e) := by
    split
    · exact (sendLinkstate_tended e).logKept.trans (regroup_logKept _)
    · exact e.logKept_refl
  have hout (e : Dev) : e.tended (reclaimOwner (forcedOut e (.lane l) (0x20 + l) cause) (8 + l)) :=
    (forcedOut_tended e _ _ _).trans (reclaimOwner_tended _ _)
  have hset (e : Dev) (v : Lane) : e.logKept (e.setLane l v) := ⟨rfl, rfl⟩
  have hlane (v : Lane) : d.logKept ((laneBlk d l).setLane l v) := (hset _ v).after (laneBlk_tended d l).logKept
  unfold laneDown
  split
  · exact d.logKept_refl
  · exact (hgroup _ _).after ((halign _ _).after ((hout _).logKept.after ((hflags _).after
      ((hwithdraw _ _).logKept.after (hlane _)))))

theorem abortBusy_logKept (d : Dev) : d.logKept (abortBusy d) := by
  have hslots : d.tended ((List.range 4).foldl (fun d n => if d.slot n = 2 then respond d n 0x0D 0 [] true else d) d) := by
    refine foldl_tended _ _ _ fun n hn e => ?_
    split
    · exact respond_tended e n _ _ _ _ (List.mem_range.1 hn) (by decide)
    · exact e.tended_refl
  have hkept (e : Dev) : e.logKept { e with wl := { e.wl with
      dozeWait := none, swSlot := none, svcSlot := [], testSlot := [], repSlot := none, due := [], cfgSlot := none } } :=
    ⟨rfl, rfl⟩
  exact (hkept _).after hslots.logKept

theorem dgeFail_logKept (d : Dev) (c cause : Nat) : d.logKept (dgeFail d c cause) := by
  have hdge (e : Dev) (g : Dge) : e.logKept { e with dge := g } := ⟨rfl, rfl⟩
  exact (hdge _ _).after ((Dev.logKept_wr _ _ _).after ((Dev.logKept_wr _ _ _).after ((Dev.logKept_wr _ _ _).after
    (d.logKept_wr (DGE_CSTAT.BUSY c) 0))))

theorem dgeAbortS_logKept (d : Dev) : d.logKept (dgeAbortS d) := by
  unfold dgeAbortS
  split
  · exact dgeFail_logKept d 0 8
  · exact d.logKept_refl

theorem limpStop_logKept (d : Dev) : d.logKept (limpStop d) := by
  have hgal (g : Gal) : d.logKept { d with gal := g } := ⟨rfl, rfl⟩
  exact (foldl_logKept _ _ _ fun _ _ e => e.logKept_wr _ _).after (hgal _)

theorem limpUnits_logKept (d : Dev) (tests : Nat) : d.logKept (limpUnits d tests) := by
  have hlanes (e : Dev) : e.logKept ((List.range 4).foldl (fun d l => laneDown d l 7) e) :=
    foldl_logKept _ _ _ fun l _ e => laneDown_logKept e l 7
  have hbanks (e : Dev) : e.tended ((List.range 6).foldl (fun d b =>
      if d.svcOf (.bank b) = .outOfService ∨ tests.testBit b then d
      else evqKind (bankOut d b) (0x10 + b) .forced false b 0) e) := by
    refine foldl_tended _ _ _ fun b _ e => ?_
    split
    · exact e.tended_refl
    · exact (bankOut_tended e b).trans (evqKind_tended _ _ _ _ _ _)
  exact (limpStop_logKept d).trans ((hlanes (limpStop d)).trans (hbanks _).logKept)

theorem limpCause_logKept (d : Dev) (r e : Nat) : d.logKept (limpCause d r e) := by
  unfold limpCause
  split
  · exact d.logKept_wr _ _
  · exact (Dev.logKept_wr _ _ _).after (d.logKept_wr SYS_LIMP.REASON r)

theorem setMode_logKept (d : Dev) (m : Mode) : d.logKept (setMode d m) := by
  obtain ⟨-, -, hlog, -, -, hwl, -⟩ := setMode_frame d m
  exact ⟨hlog, congrArg Wail.logStop hwl⟩

theorem noneTaken_logKept (d : Dev) : d.logKept (noneTaken d) := by
  unfold noneTaken
  split
  · exact d.logKept_wr _ _
  · exact d.logKept_refl

theorem limpServed_logKept (d : Dev) (r e : Nat) : d.logKept (limpServed d r e) := by
  have hserver (e : Dev) : e.logKept (e.wr VST_FWSTAT.SERVER 2) := e.logKept_wr _ _
  exact (hserver _).after ((clearLoops_tended _).logKept.after ((setMode_logKept _ _).after
    ((limpCause_logKept _ r e).after (noneTaken_logKept d))))

theorem limpCore_logKept (d : Dev) (r e : Nat) : d.logKept (limpCore d r e) :=
  (balEval_logKept _).after ((limpUnits_logKept _ _).after ((releaseHolder_logKept _ 4).after ((releaseHolder_logKept _ 3).after
    ((releaseHolder_logKept _ 1).after ((dgeAbortS_logKept _).after ((abortBusy_logKept _).after (limpServed_logKept d r e)))))))

theorem inCycle_logKept (f : Dev → Dev) (d : Dev) (h : d.cycleBegin.logKept (f d.cycleBegin)) : d.logKept (inCycle f d) :=
  (inCycle_tended f d).logKept.after (h.after ⟨rfl, rfl⟩)

theorem limpEntry_logKept (d : Dev) (r e : Nat) : d.logKept (limpEntry d r e) := by
  have hcycle := inCycle_logKept (fun d => limpCore d r e) d (limpCore_logKept _ r e)
  unfold limpEntry
  split
  · exact limpCause_logKept d r e
  · exact hcycle
  · exact hcycle
  · exact hcycle
  · exact d.logKept_refl

theorem integCount_logKept (d : Dev) (code : Nat) (d0 : Word) : d.logKept (integCount d code d0) := by
  have hsrc (e : Dev) (c : Prop) [Decidable c] : e.logKept (if c then e else srcUse e 0xFFFF) := by
    split
    · exact e.logKept_refl
    · exact srcUse_logKept e _
  have hdraw (e : Dev) (c : Prop) [Decidable c] : e.logKept (if c then e else e.draw) := by
    split
    · exact e.logKept_refl
    · exact ⟨rfl, rfl⟩
  have htwin (e : Dev) (c : Prop) [Decidable c] : e.tended (if c then e else useTwin e SYS_INTEG.addr) := by
    split
    · exact e.tended_refl
    · exact useTwin_tended e _
  have hcount (e : Dev) (n : Nat) : e.logKept ((e.wr SYS_INTEG.COUNT n).wr BAL_INTCAUSE.LAST code) := ⟨rfl, rfl⟩
  unfold integCount
  dsimp only
  exact (htwin _ _).logKept.after ((evqAppend_tended _ _ _ _ _ _).logKept.after ((hcount _ _).after
    ((hdraw _ _).after ((tripWith_logKept _ _).after (hsrc d _)))))

theorem integCore_logKept (d : Dev) (code : Nat) (d0 : Word) : d.logKept (integCore d code d0) := by
  have hcount := integCount_logKept d code d0
  rcases integCore_cases d code d0 with heq | ⟨-, heq⟩
  · rw [heq]
    exact hcount
  · rw [heq]
    exact hcount.trans (limpEntry_logKept _ _ _)

theorem settleN_logKept (n : Nat) : ∀ d : Dev, d.logKept (settleN n d) := by
  induction n with
  | zero => exact fun d => ⟨rfl, rfl⟩
  | succ n ih =>
    intro d
    rw [settleN]
    split
    · exact d.logKept_refl
    · exact (ih _).after ((integCore_logKept _ _ _).after ⟨rfl, rfl⟩)

/-- Integrity faults write no record and lift no stop. -/
theorem settle_logKept (d : Dev) : d.logKept (settle d) := by
  have hfaults (e : Dev) (fs : List (Nat × Word)) : e.logKept { e with faults := fs } := ⟨rfl, rfl⟩
  unfold settle
  split
  · exact d.logKept_refl
  · exact (hfaults _ _).after ((settleN_logKept 1024 _).after (inCycle_logKept _ d (settleN_logKept 4096 _)))

/-! A record that could not be written (R474). -/

/-- A record that could not be written in RUN: the stop, the integrity fault, LIMP. -/
def logBroken (d : Dev) : Dev :=
  limpEntry (integCount { d with wl := { d.wl with logStop := true } } 0x80 0#32) 8 0x80

/-- The effects of a record that could not be written, before the faults of the cycle. -/
def logFault (d : Dev) : Dev :=
  let e := integCore { d with wl := { d.wl with logStop := true } } 0x80 0#32
  if e.mode = .run then limpEntry e 8 0x80 else e

theorem logFailed_eq (d : Dev) : logFailed d = inCycle (fun d => settle (logFault d)) d := rfl

/-- LIMP follows in RUN, by the limit of SYS_INTEG or without it. -/
theorem logFault_eq (d : Dev) (h : d.mode = .run) : logFault d = logBroken d := by
  have hrun := (integCount_workedOn { d with wl := { d.wl with logStop := true } } 0x80 0#32).mode.trans h
  have hlimp := (limpEntry_limped _ 8 0x80 (.inr (.inl hrun))).mode
  unfold logFault logBroken
  dsimp only
  rcases integCore_cases { d with wl := { d.wl with logStop := true } } 0x80 0#32 with heq | ⟨-, heq⟩
  · rw [heq, if_pos hrun]
  · rw [heq, if_neg (by rw [hlimp]; decide)]

/-- The end of the cycle in which a record could not be written. -/
theorem logFailed_tended (d : Dev) (h : d.mode = .run) : (settle (logBroken d.cycleBegin)).tended (logFailed d) := by
  have hbegin : d.cycleBegin.mode = .run := h
  rw [← logFault_eq _ hbegin, logFailed_eq]
  exact inCycle_tended (fun d => settle (logFault d)) d

theorem logBroken_logKept (d : Dev) : Dev.logKept { d with wl := { d.wl with logStop := true } } (logBroken d) :=
  (limpEntry_logKept _ _ _).after (integCount_logKept _ _ _)

/-- The LIMP of a record that could not be written: REASON INTEG, DETAIL LOG_WRITE (R474). -/
theorem logBroken_limp (d : Dev) (h : d.mode = .run) (h0 : d.rd SYS_LIMP.REASON = 0) :
    (logBroken d).mode = .limp ∧ (logBroken d).rd SYS_LIMP.REASON = 8 ∧ (logBroken d).rd SYS_LIMP.DETAIL = 0x80 := by
  have hcount := integCount_workedOn { d with wl := { d.wl with logStop := true } } 0x80 0#32
  have hlimped := limpEntry_limped _ 8 0x80 (.inr (.inl (hcount.mode.trans h)))
  exact ⟨hlimped.mode, hlimped.cause (hcount.limp.1.trans h0)⟩

theorem settle_limp (d : Dev) (h : d.mode = .limp) : d.workedOn (settle d) :=
  settle_workedOn d (by rw [h]; decide) (by rw [h]; decide)

theorem logFailed_limp (d : Dev) (h : d.mode = .run) (h0 : d.rd SYS_LIMP.REASON = 0) :
    (settle (logFailed d)).mode = .limp ∧ (settle (logFailed d)).rd SYS_LIMP.REASON = 8 ∧
      (settle (logFailed d)).rd SYS_LIMP.DETAIL = 0x80 := by
  obtain ⟨hmode, hreason, hdetail⟩ := logBroken_limp d.cycleBegin h h0
  have hcycle := (settle_limp _ hmode).trans (logFailed_tended d h).workedOn
  have hend := hcycle.trans (settle_limp _ (hcycle.mode.trans hmode))
  exact ⟨hend.mode.trans hmode, hend.limp.1.trans hreason, hend.limp.2.trans hdetail⟩

theorem logFailed_logKept (d : Dev) (h : d.mode = .run) :
    Dev.logKept { d with wl := { d.wl with logStop := true } } (settle (logFailed d)) := by
  have hcycle := (settle_logKept _).after (logBroken_logKept d.cycleBegin)
  exact (settle_logKept _).after ((logFailed_tended d h).logKept.after ⟨hcycle.log, hcycle.stop⟩)

/-! Records (R460 to R463). -/

section
variable (d : Dev) (kind evseq : Nat) (soon : Bool) (body : List Word)

theorem logAppend_atrByte (a : Nat) : (logAppend d kind evseq soon body).atrByte a = d.atrByte a := by
  rw [logAppend_only, Dev.atrByte, Dev.atrByte]

theorem logAppend_sameRegs : Dev.sameRegs [] d (logAppend d kind evseq soon body) := by
  rw [logAppend_only]
  exact Dev.sameRegs_of_regs rfl []

theorem logAppend_faults : (logAppend d kind evseq soon body).faults = d.faults := by rw [logAppend_only]

theorem logAppend_evq : (logAppend d kind evseq soon body).evq = d.evq := by rw [logAppend_only]

theorem logAppend_open (h : d.wl.logStop = false) (hk : kind ≠ 5) :
    (logAppend d kind evseq soon body).wl.logOpen = d.wl.logOpen + 1 := by
  simp only [logAppend, h, Bool.false_eq_true, if_false, if_neg hk]

theorem recOffset_lt (bw : Nat) : d.recOffset bw < 2 ^ 32 := by
  have hbase : logBase < 2 ^ 32 := by decide
  have hend : logEnd < 2 ^ 32 := by decide
  by_cases hfits : d.wl.logOff + recSize bw ≤ logEnd
  · rw [Dev.recOffset, if_pos (by simpa [Dev.recFits] using hfits)]
    omega
  · rwa [Dev.recOffset, if_neg (by simpa [Dev.recFits] using hfits)]

/-- A record of an event has 64 bytes. -/
theorem recOffset_four : d.recOffset 4 = if d.wl.logOff + 64 ≤ logEnd then d.wl.logOff else logBase := by
  simp [Dev.recOffset, Dev.recFits, recSize]

/-- HEADPTR is the last word written. -/
theorem logAppend_logByte (h : d.wl.logStop = false) (a : Nat) :
    (logAppend d kind evseq soon body).logByte a =
      ((recordPart d kind evseq body (recSize body.length)).logWrite 0x40 (leBytes 4 (d.recOffset body.length))).logByte a := by
  have hwl (e : Dev) (w : Wail) : ({ e with wl := w } : Dev).logByte a = e.logByte a := rfl
  rw [logAppend, if_neg (by rw [h]; decide)]
  dsimp only
  rw [hwl]

/-- HEADPTR is the offset of the record just written (Table LOG.2). -/
theorem logAppend_headptr (h : d.wl.logStop = false) :
    leNat ((logAppend d kind evseq soon body).logBytes 0x40 4) = d.recOffset body.length % 2 ^ 32 := by
  have hbytes : (logAppend d kind evseq soon body).logBytes 0x40 4 = leBytes 4 (d.recOffset body.length) := by
    refine List.ext_getElem (by simp [Dev.logBytes]) fun i hi hi4 => ?_
    have hfree : logFixed (0x40 + i) = false := by
      rw [leBytes_length] at hi4
      simp [logFixed]
      omega
    simp only [Dev.logBytes, List.getElem_map, List.getElem_range, logAppend_logByte _ _ _ _ _ h]
    exact logWrite_inside _ _ _ _ hi4 hfree
  rw [hbytes, leNat_leBytes]
  rfl

end

/-- HEADPTR after the record of an event. -/
theorem logAppend_event_headptr (d : Dev) (e : Ev) (h : d.wl.logStop = false) :
    leNat ((logAppend d 2 e.seq e.crit e.words).logBytes 0x40 4) =
      if d.wl.logOff + 64 ≤ logEnd then d.wl.logOff else logBase := by
  have hfour : e.words.length = 4 := rfl
  rw [logAppend_headptr d _ _ _ _ h, Nat.mod_eq_of_lt (recOffset_lt _ _), hfour, recOffset_four]

/-! The seal (R464, R465). -/

theorem sealWrite_eq (d : Dev) (h : d.mode = .run) (hseal : d.canSeal = true) :
    ∃ n, sealWrite d = logSeal { d with now := n } := by
  have hdue : ¬ (d.mode ≠ .run ∨ (!d.canSeal) = true) := by simp [h, hseal]
  rw [sealWrite, if_neg hdue]
  split
  · exact ⟨d.now, rfl⟩
  · exact ⟨_, rfl⟩

/-- Every record is sealed, the last one with an INDEX, by the seal of a number. -/
def Dev.allSealed (d : Dev) (last no : Nat) : Dev :=
  { d with wl := { d.wl with logSealed := some last, logSealNo := no, logOpen := 0, logOldest := none, logSoon := none } }

theorem Dev.allSealed_logByte (d : Dev) (last no a : Nat) : (d.allSealed last no).logByte a = d.logByte a := rfl
theorem Dev.allSealed_atrByte (d : Dev) (last no a : Nat) : (d.allSealed last no).atrByte a = d.atrByte a := rfl
theorem Dev.allSealed_logIndex (d : Dev) (last no : Nat) : (d.allSealed last no).wl.logIndex = d.wl.logIndex := rfl
theorem Dev.allSealed_faults (d : Dev) (last no : Nat) : (d.allSealed last no).faults = d.faults := rfl
theorem Dev.allSealed_ld (d : Dev) (last no a : Nat) : (d.allSealed last no).ld a = d.ld a := rfl

/-- A seal that is due appends its record and then takes every record as sealed. -/
theorem logSeal_eq (d : Dev) (h : d.canSeal = true) :
    logSeal d = (logAppend d 5 0 false d.sealBody).allSealed d.lastIndex ((d.wl.logSealNo + 1) % 2 ^ 32) := by
  rw [logSeal, if_neg (by simp [h])]
  rfl

theorem canSeal_running (d : Dev) (h : d.canSeal = true) : d.wl.logStop = false := by
  simp only [Dev.canSeal, Bool.and_eq_true, Bool.not_eq_true'] at h
  exact h.2

/-! Wailith's sample of IPT_COUNT (R102). -/

/-- An event that Wailith posts while the EVQ has room. -/
theorem wailithPost_room (d : Dev) (code : Nat) (crit : Bool) (x y : Word) (h : d.evq.length < 240) :
    ∃ e, (wailithPost d code crit x y).evq = d.evq ++ [e] ∧ e.block = 0x80 ∧ e.code = code ∧ e.crit = crit ∧ e.d0 = x := by
  rw [wailithPost, evqAppend_room _ _ _ _ _ _ h]
  exact ⟨_, rfl, rfl, rfl, rfl, rfl⟩

theorem wailithPost_postseq (d : Dev) (code : Nat) (crit : Bool) (x y : Word) :
    (wailithPost d code crit x y).rd EVQ_POSTSEQ.SEQ = d.rd EVQ_NEXTSEQ.SEQ := by
  rw [wailithPost, Dev.wr_rd _ _ _ (by decide) (by decide)]
  exact Nat.mod_eq_of_lt (d.rd_lt EVQ_NEXTSEQ.SEQ)

theorem wailithPost_only (d : Dev) (code : Nat) (crit : Bool) (x y : Word) (h : d.evq.length < 240) :
    wailithPost d code crit x y =
      { d with regs := (wailithPost d code crit x y).regs, evq := (wailithPost d code crit x y).evq, evGap := false } := by
  rw [wailithPost, evqAppend_room _ _ _ _ _ _ h]
  rfl

theorem wailithPost_sameRegs (d : Dev) (code : Nat) (crit : Bool) (x y : Word) (h : d.evq.length < 240) :
    Dev.sameRegs [EVQ_NEXTSEQ.addr, EVQ_POSTSEQ.addr] d (wailithPost d code crit x y) := by
  rw [wailithPost, evqAppend_room _ _ _ _ _ _ h]
  refine Dev.sameRegs.trans ?_ (Dev.sameRegs_wr _ EVQ_POSTSEQ.SEQ _ (by simp [EVQ_POSTSEQ.SEQ]))
  exact Dev.sameRegs_wr d EVQ_NEXTSEQ.SEQ _ (by simp [EVQ_NEXTSEQ.SEQ])

/-- Wailith as it has seen a count of inspections. -/
def Dev.iptSeen (d : Dev) (n : Nat) : Dev := { d with wl := { d.wl with iptSeen := n } }

theorem iptSample_eq (d : Dev) (h : d.mode = .run) (hnew : d.rd IPT_COUNT.COUNT ≠ d.wl.iptSeen) :
    iptSample d = wailithPost (d.iptSeen (d.rd IPT_COUNT.COUNT)) 0x02 false (w32 (d.rd IPT_COUNT.COUNT))
      (w32 (d.rd IPT_COUNT.COUNT - d.wl.iptSeen)) := by
  rw [iptSample, if_neg (by simp [h, hnew])]
  rfl

/-! The obligation. -/

/-- The record due next is that of the first selected event (R466, R467). -/
theorem logNext_selected (d : Dev) (e : Ev) (r pre : List Ev) (hevq : d.evq = pre ++ e :: r)
    (hpre : ∀ x ∈ pre, d.selects x = false) (he : d.selects e = true) (hblock : e.block ≠ 0x80) :
    logNext d = logAppend { d with evq := r } 2 e.seq e.crit e.words := by
  have hdrop : d.evq.dropWhile (fun e => !d.selects e) = e :: r := by
    rw [hevq, List.dropWhile_append_of_pos fun x hx => by simp [hpre x hx], List.dropWhile_cons_of_neg (by simp [he])]
  rw [logNext, hdrop]
  exact if_neg fun h => hblock h.1

/-- Settles O26: the sample, the record of the first selected event, a record that could not be written, and the seal. -/
theorem logRecordsAndSeals : Obligations.LogRecordsAndSeals := by
  rintro s ⟨hfaults, hroom, -, -⟩ hrun
  refine ⟨fun hnew => ?_, fun e r pre hstop hevq hpre he hblock => ?_, fun hstop hany h0 => ?_, fun hseal => ?_⟩
  · have hlen : (s.dev.iptSeen (s.dev.rd IPT_COUNT.COUNT)).evq.length < 240 := Nat.lt_trans hroom (by decide)
    refine completes_fin (d := wailithPost (s.dev.iptSeen (s.dev.rd IPT_COUNT.COUNT)) 0x02 false _ _)
      (congrArg (fin s) (iptSample_eq s.dev hrun hnew)) ?_ ⟨?_, wailithPost_room _ _ _ _ _ hlen, wailithPost_postseq _ _ _ _ _,
        wailithPost_sameRegs _ _ _ _ _ hlen, ?_⟩
    · rw [wailithPost_only _ _ _ _ _ hlen]
      exact hfaults
    · rw [wailithPost_only _ _ _ _ _ hlen]
      rfl
    · rw [wailithPost_only _ _ _ _ _ hlen]
      exact ⟨fun _ => rfl, fun _ => rfl, fun _ => rfl⟩
  · have hexec : logRecord s.dev false = logAppend { s.dev with evq := r } 2 e.seq e.crit e.words := by
      rw [logRecord, if_neg (by simp [hrun, hstop]), if_neg (by decide), logNext_selected _ e r pre hevq hpre he hblock]
    refine completes_fin (congrArg (fin s) hexec) ((logAppend_faults _ _ _ _ _).trans hfaults)
      ⟨logAppend_evq _ _ _ _ _, logAppend_index _ _ _ _ _ hstop, logAppend_open _ _ _ _ _ hstop (by decide), ?_,
        fun a ha => logAppend_header _ _ _ _ _ a ha, fun a => logAppend_atrByte _ _ _ _ _ a,
        logAppend_sameRegs { s.dev with evq := r } _ _ _ _⟩
    exact logAppend_event_headptr { s.dev with evq := r } e hstop
  · have hexec : logRecord s.dev true = logFailed s.dev := by
      rw [logRecord, if_neg (by simp [hrun, hstop]), if_pos rfl, if_pos hany]
    obtain ⟨hmode, hreason, hdetail⟩ := logFailed_limp s.dev hrun h0
    have hkept := logFailed_logKept s.dev hrun
    exact ⟨_, congrArg (fin s) hexec, hmode, hreason, hdetail, hkept.stop, fun a => congrArg (fun l => tget logDflt l a) hkept.log⟩
  · obtain ⟨n, hn⟩ := sealWrite_eq s.dev hrun hseal
    have hdue : ({ s.dev with now := n } : Dev).canSeal = true := hseal
    have hstop := canSeal_running s.dev hseal
    refine completes_fin (congrArg (fin s) (hn.trans (logSeal_eq _ hdue))) ?_ ⟨rfl, rfl, ?_, rfl, rfl, fun a ha => ?_, fun a => ?_,
      fun a ha => ?_⟩
    · exact (Dev.allSealed_faults _ _ _).trans ((logAppend_faults _ _ _ _ _).trans hfaults)
    · exact (Dev.allSealed_logIndex _ _ _).trans (logAppend_index _ _ _ _ _ hstop)
    · exact (Dev.allSealed_logByte _ _ _ a).trans (logAppend_header _ _ _ _ _ a ha)
    · exact (Dev.allSealed_atrByte _ _ _ a).trans (logAppend_atrByte _ _ _ _ _ a)
    · exact (Dev.allSealed_ld _ _ _ a).trans (logAppend_sameRegs _ _ _ _ _ a ha)

end Sys2Proof.Machine
end


section
/-!
The bridge of the Host Link (R85 to R94, R560): O38.
-/

namespace Sys2Proof.Machine

/-! A request that no route entry decodes (R388, R391). -/

/-- Outside its draws, the registers and the Corridor the device is as before. -/
def Dev.routed (d e : Dev) : Prop := e = { d with seed := e.seed, regs := e.regs, noc := e.noc }

theorem Dev.routed_refl (d : Dev) : d.routed d := rfl

theorem Dev.routed.trans {d e g : Dev} (h : d.routed e) (k : e.routed g) : d.routed g := by
  unfold Dev.routed at *
  rw [k, h]

theorem Dev.routed_wr (d : Dev) (f : Fld) (v : Nat) : d.routed (d.wr f v) := rfl

theorem tracePut_routed (d : Dev) (e : List Word) : d.routed (tracePut d e) := by
  have hfull (d : Dev) : d.routed (d.wr NOC_TRSTAT.FULL 1) := rfl
  have hnoc (n : Noc) : d.routed { d with noc := n } := rfl
  unfold tracePut
  dsimp only
  split_ifs
  · exact (hnoc _).trans (hfull _)
  · rfl
  · rfl
  · exact hfull d

theorem probes_routed (d : Dev) (q : ProbeReq) : d.routed (probes d q) := by
  refine foldl_relates Dev.routed_refl Dev.routed.trans _ _ d fun k _ d => ?_
  have hdraw (d : Dev) : d.routed d.draw := rfl
  dsimp only
  split_ifs
  · exact ((d.routed_wr _ _).trans (Dev.routed_wr _ _ _)).trans ((hdraw _).trans (tracePut_routed _ _))
  · exact (d.routed_wr _ _).trans (Dev.routed_wr _ _ _)
  · exact (d.routed_wr _ _).trans ((hdraw _).trans (tracePut_routed _ _))
  · exact d.routed_wr _ _
  · exact d.routed_refl

theorem decodeFail_routed (d : Dev) (init a : Nat) : d.routed (decodeFail d init a) := by
  unfold decodeFail
  dsimp only
  split <;> rfl

theorem decodeFail_flag (d : Dev) (init a : Nat) : (decodeFail d init a).rd NOC_ERR.DECODE = 1 := by
  have hflag : (d.wr NOC_ERR.DECODE 1).rd NOC_ERR.DECODE = 1 := d.wr_rd _ _ (by decide) (by decide)
  unfold decodeFail
  dsimp only
  split
  · rw [Dev.put_rd_ne _ _ _ _ (by decide), Dev.wr_rd_ne _ _ _ _ (by decide), hflag]
  · exact hflag

/-- No entry of the bridge decodes a page of Steward memory while the route table is as a DEV reset leaves it
(R391). -/
theorem rtMatch_private (d : Dev) (a : Nat) (hrt : d.noc.rt = []) (hlo : 0x20000000 ≤ a) (hhi : a < 0x30000000) :
    d.rtMatch 1 a = none := by
  have hentries : ∀ k < 64, ((rtDflt (64 + k)).ctl.getLsbD 31 = false) ∨ 0x30000 ≤ (rtDflt (64 + k)).base ∨
      (rtDflt (64 + k)).lim < 0x20000 := by decide
  rw [Dev.rtMatch, List.find?_eq_none]
  intro e he
  obtain ⟨k, hk, rfl⟩ := List.mem_map.1 he
  have hentry : d.rtEntry 1 k = rtDflt (64 + k) := by rw [Dev.rtEntry, hrt]; rfl
  rw [hentry]
  rcases hentries k (List.mem_range.1 hk) with hctl | hbase | hlim
  · rw [hctl]
    simp
  · have : ¬ (rtDflt (64 + k)).base ≤ a / 0x1000 := by omega
    simp [this]
  · have : ¬ a / 0x1000 ≤ (rtDflt (64 + k)).lim := by omega
    simp [this]

/-- An access that no entry decodes is answered DECODE, and NOC_ERR.DECODE shows it (R388). -/
theorem corridorAccess_undecoded (d : Dev) (init : Nat) (write : Bool) (a len : Nat) (data : List Byte) (twin : Bool)
    (origin : Nat) (h : d.rtMatch init a = none) :
    ∃ e, corridorAccess d init write a len data twin origin = (.err .decode, e) ∧ d.routed e ∧ e.rd NOC_ERR.DECODE = 1 := by
  have hissue (twin : Bool) : ∃ e, nocIssue d init write a len twin origin = (none, e) ∧ d.routed e ∧
      e.rd NOC_ERR.DECODE = 1 := by
    unfold nocIssue
    rw [h]
    exact ⟨_, rfl, (probes_routed _ _).trans (decodeFail_routed _ _ _), decodeFail_flag _ _ _⟩
  obtain ⟨e, heq, hrouted, hflag⟩ := hissue (twin && init == 0)
  refine ⟨e, ?_, hrouted, hflag⟩
  unfold corridorAccess corridorServe
  dsimp only
  rw [heq]

/-! A WR joins the queue (R85, R86). -/

theorem flatMap_word_length (ws : List Word) : (ws.flatMap fun w => beBytes 4 w.toNat).length = 4 * ws.length := by
  simp [List.length_flatMap, Nat.mul_comm]

/-- Address and words of a WR as sent. -/
def wrBody (a : Nat) (ws : List Word) : List Byte := beBytes 4 a ++ ws.flatMap (fun w => beBytes 4 w.toNat)

theorem wrBody_length (a : Nat) (ws : List Word) : (wrBody a ws).length = 4 + 4 * ws.length := by
  rw [wrBody, List.length_append, beBytes_length, flatMap_word_length]

theorem wrBody_fields (a : Nat) (ws : List Word) (ha : a < 2 ^ 32) :
    beNat ((wrBody a ws).take 4) = a ∧ beWords ((wrBody a ws).drop 4) = ws := by
  have htake : (wrBody a ws).take 4 = beBytes 4 a := List.take_left' (beBytes_length 4 a)
  have hdrop : (wrBody a ws).drop 4 = ws.flatMap fun w => beBytes 4 w.toNat := List.drop_left' (beBytes_length 4 a)
  rw [htake, hdrop]
  exact ⟨beNat_beBytes 4 a ha, beWords_sent ws⟩

/-- What the host sends, without its CRC byte. -/
theorem hostSends_body (d : Dev) (op : Byte) (body : List Byte) :
    (d.hostSends op body).take ((d.hostSends op body).length - bit d.crcEn) = body := by
  rw [hostSends_length, Nat.add_sub_cancel, take_hostSends _ _ _ _ le_rfl, List.take_length]

section
variable (d : Dev) (a : Nat) (ws : List Word) (part : Bool)

/-- A WR of 1 to 64 words at a word address breaks no rule but those on partial bytes and on the queue (R86). -/
theorem wrCause_hostSends (hm : d.mode ≠ .landing) (ha : a < 2 ^ 32) (h4 : a % 4 = 0) (h1 : 1 ≤ ws.length)
    (h64 : ws.length ≤ 64) :
    d.wrCause (d.hostSends 0x02#8 (wrBody a ws)) part =
      if part then some 2 else if 4 ≤ d.hl.wq.length + d.hl.wfly.length then some 4 else none := by
  have hlen := wrBody_length a ws
  have hcrc := crcOk_hostSends d 0x02#8 (wrBody a ws)
  have hsize : (d.hostSends 0x02#8 (wrBody a ws)).length - bit d.crcEn = (wrBody a ws).length := by
    rw [hostSends_length, Nat.add_sub_cancel]
  have hempty : (d.hostSends 0x02#8 (wrBody a ws)).isEmpty = false := by
    rw [List.isEmpty_eq_false_iff, ← List.length_pos_iff, hostSends_length]
    omega
  have haddr : beNat ((d.hostSends 0x02#8 (wrBody a ws)).take 4) = a := by
    rw [take_hostSends _ _ _ _ (by omega)]
    exact (wrBody_fields a ws ha).1
  unfold Dev.wrCause
  rw [hsize]
  dsimp only
  rw [hcrc, hempty, haddr, hlen, if_neg hm]
  have hshort : ¬ 4 + 4 * ws.length < 8 := by omega
  have hdata : 4 + 4 * ws.length - 4 = 4 * ws.length := by omega
  have hlong : ¬ 256 < 4 * ws.length := by omega
  simp [hshort, hdata, hlong, h4]

theorem hlWr_cause (hm : d.mode ≠ .resting) (bytes : List Byte) (c : Nat) (h : d.wrCause bytes part = some c) :
    hlWr d bytes part = hlDrop (hlQuiet d) c := by
  have hquiet : (hlQuiet d).wrCause bytes part = some c := h
  rw [hlWr, if_neg hm]
  dsimp only
  rw [hquiet]

/-- The slice with a WR accepted: its queue, and the flags that stay set under its words (R107). -/
def wrAccepted : Dev :=
  d.setHl (fun h => { h with wq := h.wq ++ [(a, ws)], wkeep := h.wkeep ++ [d.setSince a ws.length] })

theorem hlWr_accepted (hm : d.mode ≠ .resting) (ha : a < 2 ^ 32)
    (h : d.wrCause (d.hostSends 0x02#8 (wrBody a ws)) part = none) :
    hlWr d (d.hostSends 0x02#8 (wrBody a ws)) part = wrAccepted (hlQuiet d) a ws := by
  obtain ⟨haddr, hwords⟩ := wrBody_fields a ws ha
  have hbody := hostSends_body d 0x02#8 (wrBody a ws)
  have hquiet : (hlQuiet d).wrCause (d.hostSends 0x02#8 (wrBody a ws)) part = none := h
  have hcrc : (hlQuiet d).crcEn = d.crcEn := rfl
  rw [hlWr, if_neg hm]
  dsimp only
  rw [hquiet, hcrc]
  dsimp only
  rw [hbody, haddr, hwords]
  rfl

end

/-! The bridge issues a WR (R87, R89, R560). -/

/-- What the oldest WR does: the first address that failed, and the device. -/
def bridgeBurst (d : Dev) (a : Nat) (ws keep : List Word) : Option Nat × Dev :=
  if inDevice a then bridgeWords ws keep d a none
  else match corridorAccess d 1 true a (4 * ws.length) (ws.flatMap wordBytes) false 0 with
    | (.ok _, d) => (none, d)
    | (.err _, d) => (some a, d)

/-- The oldest WR has left the queue. -/
def wrTaken (d : Dev) (rest : List (Nat × List Word)) : Dev :=
  d.setHl (fun h => { h with wq := rest, wkeep := h.wkeep.tail })

/-- A WR waits for its response. -/
def wrSent (p : Option Nat × Dev) : Dev := p.2.setHl (fun h => { h with wfly := h.wfly ++ [p.1] })

theorem niOpen_bridge (d : Dev) (hr : d.mode ≠ .resting) (hl : d.mode ≠ .landing) : d.niOpen 1 = true := by
  simp [Dev.niOpen, Dev.coreOn, hr, hl]

theorem coreOn_awake (d : Dev) (hr : d.mode ≠ .resting) : d.coreOn = true := by
  simp [Dev.coreOn, hr]

theorem bridgeWrite_issues (d : Dev) (a : Nat) (ws : List Word) (rest : List (Nat × List Word))
    (hni : d.niOpen 1 = true) (hq : d.hl.wq = (a, ws) :: rest) (hfree : d.hl.rdWait = none ∨ d.hl.wfly.length < d.hl.rdBefore) :
    bridgeWrite d = wrSent (bridgeBurst (wrTaken d rest) a ws (nth [] d.hl.wkeep 0)) := by
  have hgo : ¬ (!d.niOpen 1 || (d.hl.rdWait.isSome && decide (d.hl.rdBefore ≤ d.hl.wfly.length))) = true := by
    rcases hfree with h | h <;> simp [hni, h]
  rw [bridgeWrite, hq]
  dsimp only
  rw [if_neg hgo]
  rfl

/-- A WR behind a read that waits is not issued (R89). -/
theorem bridgeWrite_waits (d : Dev) (hwait : d.hl.rdWait.isSome = true) (hdone : d.hl.rdBefore ≤ d.hl.wfly.length) :
    bridgeWrite d = d := by
  unfold bridgeWrite
  split
  · rfl
  · rw [if_pos]
    simp [hwait, hdone]

theorem bridgeBurst_device (d : Dev) (a : Nat) (ws keep : List Word) (h : inDevice a = true) :
    bridgeBurst d a ws keep = bridgeWords ws keep d a none := if_pos h

theorem bridgeBurst_memory (d : Dev) (a : Nat) (ws keep : List Word) (h : inDevice a = false) :
    bridgeBurst d a ws keep =
      let r := corridorAccess d 1 true a (4 * ws.length) (ws.flatMap wordBytes) false 0
      (if r.1.good then none else some a, r.2) := by
  rw [bridgeBurst, if_neg (by rw [h]; decide)]
  rcases corridorAccess d 1 true a (4 * ws.length) (ws.flatMap wordBytes) false 0 with ⟨_ | _, e⟩ <;> rfl

/-- One word in the device region, with no flag to keep, is one access as elsewhere (R560). -/
theorem bridgeBurst_word (d : Dev) (a : Nat) (w : Word) (keep : List Word) (h : inDevice a = true)
    (hkeep : nth 0#32 keep 0 = 0#32) :
    bridgeBurst d a [w] keep =
      let r := corridorAccess d 1 true a (4 * [w].length) ([w].flatMap wordBytes) false 0
      (if r.1.good then none else some a, r.2) := by
  have hdata : [w].flatMap wordBytes = wordBytes w := List.append_nil _
  have hlen : 4 * [w].length = 4 := rfl
  rw [bridgeBurst_device d a _ _ h, hdata, hlen, bridgeWords]
  rcases corridorAccess d 1 true a 4 (wordBytes w) false 0 with ⟨_ | _, e⟩
  · dsimp only
    rw [if_pos hkeep]
    rfl
  · rfl

theorem bridgeBurst_single (d : Dev) (a : Nat) (ws keep : List Word)
    (h : inDevice a = false ∨ (ws.length = 1 ∧ nth 0#32 keep 0 = 0#32)) :
    bridgeBurst d a ws keep =
      let r := corridorAccess d 1 true a (4 * ws.length) (ws.flatMap wordBytes) false 0
      (if r.1.good then none else some a, r.2) := by
  cases hdev : inDevice a with
  | false => exact bridgeBurst_memory d a ws keep hdev
  | true =>
    obtain ⟨hone, hkeep⟩ := h.resolve_left (by rw [hdev]; decide)
    obtain ⟨w, rfl⟩ := List.length_eq_one_iff.1 hone
    exact bridgeBurst_word d a w keep hdev hkeep

/-- A WR into Steward memory finds no target (R391). -/
theorem bridgeBurst_private (d : Dev) (a : Nat) (ws keep : List Word) (hrt : d.noc.rt = []) (hlo : 0x20000000 ≤ a)
    (hhi : a < 0x30000000) :
    ∃ e, bridgeBurst d a ws keep = (some a, e) ∧ d.routed e ∧ e.rd NOC_ERR.DECODE = 1 := by
  have hdev : inDevice a = false := by simp [inDevice]; omega
  obtain ⟨e, hacc, hrouted, hflag⟩ := corridorAccess_undecoded d 1 true a (4 * ws.length) (ws.flatMap wordBytes) false 0
    (rtMatch_private d a hrt hlo hhi)
  refine ⟨e, ?_, hrouted, hflag⟩
  rw [bridgeBurst_memory d a ws keep hdev, hacc]
  rfl

/-! The response to a WR (R87). -/

/-- The oldest issued WR has its response. -/
def wrAnswered (d : Dev) (fly : List (Option Nat)) : Dev :=
  d.setHl (fun h => { h with wfly := fly, rdBefore := h.rdBefore - 1 })

/-- The first failing address is captured, and WERR set. -/
def wrFailed (d : Dev) (x : Nat) : Dev := (d.put HPT_WERRADDR.addr (w32 x)).wr HPT_STAT.WERR 1

theorem bridgeDone_good (d : Dev) (fly : List (Option Nat)) (h : d.hl.wfly = none :: fly) :
    bridgeDone d = wrAnswered d fly := by
  rw [bridgeDone, h]
  rfl

theorem bridgeDone_bad (d : Dev) (x : Nat) (fly : List (Option Nat)) (h : d.hl.wfly = some x :: fly) :
    bridgeDone d = if d.on HPT_STAT.WERR then wrAnswered d fly else wrFailed (wrAnswered d fly) x := by
  rw [bridgeDone, h]
  rfl

theorem wrFailed_captures (d : Dev) (x : Nat) (hx : x < 2 ^ 32) :
    (wrFailed d x).rd HPT_STAT.WERR = 1 ∧ (wrFailed d x).rd HPT_WERRADDR.ADDR = x := by
  constructor
  · exact Dev.wr_rd _ HPT_STAT.WERR 1 (by decide) (by decide)
  · rw [wrFailed, Dev.wr_rd_ne _ _ _ _ (by decide), Dev.rd, HPT_WERRADDR.ADDR, Dev.put_ld, fld, w32_toNat]
    change x % 2 ^ 32 / 2 ^ 0 % 2 ^ 32 = x
    omega

theorem wrFailed_regs (d : Dev) (x : Nat) : Dev.sameRegs [HPT_STAT.addr, HPT_WERRADDR.addr] d (wrFailed d x) :=
  (Dev.sameRegs_put d HPT_WERRADDR.addr (w32 x) (by simp)).trans (Dev.sameRegs_wr _ HPT_STAT.WERR 1 (by simp [HPT_STAT.WERR]))

/-! A read is issued (R89, R92, R560). -/

/-- The slice with a read issued. -/
def HostLink.readIssued (h : HostLink) (r : Resp) (n : Nat) : HostLink := { h with
  rdWait := none, rdLen := n, rdFly := some r, held := none, returned := false, seq := (h.seq + 1) % 256 }

theorem readIssue_single (d : Dev) (a n : Nat) (h : inDevice a = false ∨ n = 1) :
    readIssue d a n =
      (holdSlot (corridorAccess d 1 false a (4 * n) [] false 0).2 1).setHl
        (fun h => h.readIssued (corridorAccess d 1 false a (4 * n) [] false 0).1 n) := by
  unfold readIssue
  cases hdev : inDevice a with
  | false => rfl
  | true =>
    obtain rfl := h.resolve_left (by rw [hdev]; decide)
    rw [if_pos rfl, bridgeReads]
    rcases corridorAccess d 1 false a 4 [] false 0 with ⟨_ | _, e⟩ <;> rfl

theorem bridgeRead_issues (d : Dev) (a n : Nat) (hni : d.niOpen 1 = true) (hwait : d.hl.rdWait = some (a, n))
    (hdone : d.hl.rdBefore = 0) : bridgeRead d = readIssue d a n := by
  rw [bridgeRead, hwait]
  dsimp only
  rw [if_pos (by simp [Dev.writesDone, hni, hdone])]

/-- A read waits for the writes accepted before it (R89). -/
theorem bridgeRead_waits (d : Dev) (h : d.hl.rdBefore ≠ 0) : bridgeRead d = d := by
  unfold bridgeRead
  split
  · rw [if_neg (by simp [Dev.writesDone, h])]
  · rfl

/-! An RD (R88 to R91). -/

/-- Address and length of an RD as sent. -/
def rdBody (a n : Nat) : List Byte := beBytes 4 a ++ [b8 (n - 1)]

theorem rdBody_length (a n : Nat) : (rdBody a n).length = 5 := by
  rw [rdBody, List.length_append, beBytes_length]
  rfl

/-- An RD that breaks no rule is accepted, or is one too many. -/
theorem hlRd_hostSends (d : Dev) (a n : Nat) (ready cut : Bool) (hr : d.mode ≠ .resting) (hl : d.mode ≠ .landing)
    (ha : a < 2 ^ 32) (h4 : a % 4 = 0) (h1 : 1 ≤ n) (h64 : n ≤ 64) :
    hlRd d (d.hostSends 0x0B#8 (rdBody a n)) ready cut =
      if d.hl.rdWait.isSome || d.hl.rdFly.isSome then (if cut then hlQuiet d else rdNotReady d false true n)
      else rdAccept d a n ready cut := by
  have hlen := rdBody_length a n
  have hsent := hlSent_hostSends d 0x0B#8 (rdBody a n) 5 hlen.ge
  have hcrc := crcOk_hostSends d 0x0B#8 (rdBody a n)
  have hcount : leAt (d.hostSends 0x0B#8 (rdBody a n)) 4 1 = n - 1 := by
    have hlast : (rdBody a n)[4] = b8 (n - 1) := List.getElem_append_right (beBytes_length 4 a).le
    rw [leAt_hostSends _ _ _ 4 (by omega), hlast]
    exact Nat.mod_eq_of_lt (by omega)
  have haddr : beNat ((d.hostSends 0x0B#8 (rdBody a n)).take 4) = a := by
    rw [take_hostSends _ _ _ _ (by omega), rdBody, List.take_left' (beBytes_length 4 a)]
    exact beNat_beBytes 4 a ha
  have hcause : d.rdCause (d.hostSends 0x0B#8 (rdBody a n)) = none := by
    rw [hlen] at hcrc
    have hfew : ¬ 63 < n - 1 := by omega
    simp [Dev.rdCause, hl, hcrc, hcount, hfew, haddr, h4]
  have hn : n - 1 + 1 = n := by omega
  unfold hlRd
  rw [hsent, hcount, hn, hcause, haddr, if_neg (by simp [hr])]

/-- The slice with a read accepted. -/
def HostLink.rdAccepted (h : HostLink) (a n : Nat) : HostLink :=
  { h with rdWait := some (a, n), rdBefore := h.wq.length + h.wfly.length }

/-- The slice with the result of a read. -/
def HostLink.readHeld (h : HostLink) (r : Resp) : HostLink := { h with rdFly := none, held := some r }

/-- The result of a read is held, and its slot is free. -/
def readLanded (d : Dev) (r : Resp) : Dev := (freeSlot d 1).setHl (fun h => h.readHeld r)

/-- The completion time of a read (R91). -/
def readTimed (d : Dev) (t : Nat) : Dev := (d.wr HPT_RDTIME.LAST t).wr HPT_RDTIME.MAX (max t (d.rd HPT_RDTIME.MAX))

theorem readDone_held (d : Dev) (cycles : Nat) (r : Resp) (hfly : d.hl.rdFly = some r) (hdrop : d.hl.rdDrop = 0) :
    readDone d cycles = readTimed (readLanded d r) (min 0xFFFF cycles) := by
  unfold readDone
  rw [if_neg (not_not_intro hdrop), hfly]
  rfl

/-- What an RD answers once the bridge has it. -/
def rdAnswer (d : Dev) (n : Nat) (ready cut : Bool) : Dev :=
  if ready && d.hl.rdFly.isSome && d.hl.rdDrop == 0 then
    let d := readDone d.draw ((Config.freeWord d.seed).toNat % 65536)
    match d.hl.held with
    | some r =>
      if cut then hlQuiet d
      else
        let d := d.setHl (fun h => { h with returned := true })
        hlReply d ([d.hlStat true (!r.good) false, b8 d.hl.seq] ++ readBytes r n)
    | none => d
  else if cut then hlQuiet d
  else rdNotReady d false false n

theorem rdAccept_eq (d : Dev) (a n : Nat) (ready cut : Bool) :
    rdAccept d a n ready cut = rdAnswer (bridgeRead (d.setHl (fun h => h.rdAccepted a n))) n ready cut := rfl

theorem rdAnswer_waits (d : Dev) (n : Nat) (ready cut : Bool) (h : ready = false ∨ d.hl.rdFly = none) :
    rdAnswer d n ready cut = if cut then hlQuiet d else rdNotReady d false false n := by
  unfold rdAnswer
  exact if_neg (by rcases h with h | h <;> simp [h])

/-- The slice after an answer with RDY = 1, or after its transaction was cut short. -/
theorem rdAnswer_ready (d : Dev) (n : Nat) (cut : Bool) (r : Resp) (hfly : d.hl.rdFly = some r) (hdrop : d.hl.rdDrop = 0) :
    (rdAnswer d n true cut).hl = { d.hl.readHeld r with
        returned := d.hl.returned || !cut, driven := !cut,
        out := if cut then [] else d.hostGets ([d.hlStat true (!r.good) false, b8 d.hl.seq] ++ readBytes r n) } ∧
      (rdAnswer d n true cut).faults = d.faults := by
  have hdone (cycles : Nat) := readDone_held d.draw cycles r hfly hdrop
  unfold rdAnswer
  rw [hdone, if_pos (by simp [hfly, hdrop])]
  cases cut
  · exact ⟨by simp [readTimed]; rfl, rfl⟩
  · exact ⟨by simp [readTimed]; rfl, rfl⟩

/-- A read behind writes without their response waits. -/
theorem rdAccept_waits (d : Dev) (a n : Nat) (ready cut : Bool) (hfly : d.hl.rdFly = none)
    (hout : 1 ≤ d.hl.wq.length + d.hl.wfly.length) :
    rdAccept d a n ready cut =
      if cut then hlQuiet (d.setHl (fun h => h.rdAccepted a n))
      else rdNotReady (d.setHl (fun h => h.rdAccepted a n)) false false n := by
  have hwait : bridgeRead (d.setHl (fun h => h.rdAccepted a n)) = d.setHl (fun h => h.rdAccepted a n) :=
    bridgeRead_waits _ (Nat.ne_of_gt hout)
  rw [rdAccept_eq, hwait]
  exact rdAnswer_waits _ n ready cut (.inr hfly)

/-- `e` is `d` after an RD whose response carries no result, or is cut short (R88, R90). -/
structure Dev.unanswered (d : Dev) (busy : Bool) (n : Nat) (cut : Bool) (e : Dev) : Prop where
  hl : e.hl = { d.hl with
    driven := !cut
    out := if cut then [] else d.hostGets ([d.hlStat false false busy, b8 d.hl.seq] ++ List.replicate (4 * n) 0#8) }
  count : e.rd HPT_CNT.NOTREADY = min 0xFFFF (d.rd HPT_CNT.NOTREADY + bit (!cut))
  regs : Dev.sameRegs [HPT_CNT.addr] d e
  only : e = { d with regs := e.regs, hl := e.hl }

theorem rdNotReady_unanswered (d : Dev) (busy : Bool) (n : Nat) (cut : Bool) :
    d.unanswered busy n cut (if cut then hlQuiet d else rdNotReady d false busy n) := by
  cases cut
  · exact ⟨rfl, d.bump_rd HPT_CNT.NOTREADY 1 (by decide) (by decide), d.sameRegs_bump HPT_CNT.NOTREADY 1 (by decide), rfl⟩
  · exact ⟨rfl, (Nat.min_eq_right (Nat.le_of_lt_succ (d.rd_lt HPT_CNT.NOTREADY))).symm, fun _ _ => rfl, rfl⟩

theorem Dev.unanswered.sameBytes {d e : Dev} {busy cut : Bool} {n : Nat} (h : d.unanswered busy n cut e) : d.sameBytes e := by
  rw [h.only]
  exact ⟨fun _ => rfl, fun _ => rfl, fun _ => rfl⟩

theorem Dev.unanswered.faults {d e : Dev} {busy cut : Bool} {n : Nat} (h : d.unanswered busy n cut e) : e.faults = d.faults := by
  rw [h.only]

/-- A read that is issued at once: what the Corridor answered, and the device that waits for the response. -/
def readFlying (d : Dev) (a n : Nat) : Dev :=
  (holdSlot (corridorAccess d 1 false a (4 * n) [] false 0).2 1).setHl
    (fun h => h.readIssued (corridorAccess d 1 false a (4 * n) [] false 0).1 n)

theorem rdAccept_issues (d : Dev) (a n : Nat) (ready cut : Bool) (hni : d.niOpen 1 = true)
    (hout : d.hl.wq.length + d.hl.wfly.length = 0) (hone : inDevice a = false ∨ n = 1) :
    rdAccept d a n ready cut = rdAnswer (readFlying (d.setHl (fun h => h.rdAccepted a n)) a n) n ready cut := by
  rw [rdAccept_eq, bridgeRead_issues (d.setHl (fun h => h.rdAccepted a n)) a n hni rfl hout, readIssue_single _ _ _ hone]
  rfl

/-! The read completes (R91, R407). -/

theorem freeSlot_out (d : Dev) (ni : Nat) : ((freeSlot d ni).ni ni).out = (d.ni ni).out - 1 := by
  rw [freeSlot, Dev.ni, Dev.setNi, nth_setNth]

theorem readTimed_regs (d : Dev) (t : Nat) : Dev.sameRegs [HPT_RDTIME.addr] d (readTimed d t) :=
  (Dev.sameRegs_wr d HPT_RDTIME.LAST t (by simp [HPT_RDTIME.LAST])).trans
    (Dev.sameRegs_wr _ HPT_RDTIME.MAX _ (by simp [HPT_RDTIME.MAX]))

theorem readTimed_sameBytes (d : Dev) (t : Nat) : d.sameBytes (readTimed d t) := ⟨fun _ => rfl, fun _ => rfl, fun _ => rfl⟩

theorem readTimed_times (d : Dev) (t : Nat) (ht : t ≤ 0xFFFF) :
    (readTimed d t).rd HPT_RDTIME.LAST = t ∧ (readTimed d t).rd HPT_RDTIME.MAX = max t (d.rd HPT_RDTIME.MAX) := by
  have hmax : d.rd HPT_RDTIME.MAX < 2 ^ 16 := d.rd_lt HPT_RDTIME.MAX
  constructor
  · rw [readTimed, Dev.wr_rd_below _ HPT_RDTIME.MAX HPT_RDTIME.LAST _ (by decide) (by decide) (by decide) (by decide) rfl,
      Dev.wr_rd _ _ _ (by decide) (by decide)]
    exact Nat.mod_eq_of_lt (Nat.lt_succ_of_le ht)
  · rw [readTimed, Dev.wr_rd _ _ _ (by decide) (by decide)]
    exact Nat.mod_eq_of_lt (max_lt (Nat.lt_succ_of_le ht) hmax)

/-- The response to a read that a Host Link reset discarded comes first (R98). -/
theorem readDone_discards (d : Dev) (cycles : Nat) (h : d.hl.rdDrop ≠ 0) :
    readDone d cycles = freeSlot (d.setHl (fun h => { h with rdDrop := h.rdDrop - 1 })) 1 := if_pos h

/-! RDLAST (R92). -/

section
variable (d : Dev) (hm : d.mode ≠ .resting)
include hm

theorem hlRdlast_held (r : Resp) (h : d.hl.held = some r) :
    hlRdlast d (d.hostSends 0x0C#8 []) =
      hlReply (d.setHl (fun h => { h with returned := true }))
        ([d.hlStat true (!r.good) false, b8 d.hl.seq] ++ readBytes r d.hl.rdLen) := by
  refine (hlServe_hostSends d 0x0C#8 [] _ _ hm).trans ?_
  dsimp only
  rw [h]
  rfl

theorem hlRdlast_pending (h : d.hl.held = none) (hbusy : (d.hl.rdWait.isSome || d.hl.rdFly.isSome) = true) :
    hlRdlast d (d.hostSends 0x0C#8 []) =
      hlReply d ([d.hlStat false false false, b8 d.hl.seq] ++ List.replicate (4 * d.hl.lastLen) 0#8) := by
  refine (hlServe_hostSends d 0x0C#8 [] _ _ hm).trans ?_
  dsimp only
  rw [h]
  exact if_pos hbusy

theorem hlRdlast_none (h : d.hl.held = none) (hbusy : (d.hl.rdWait.isSome || d.hl.rdFly.isSome) = false) :
    hlRdlast d (d.hostSends 0x0C#8 []) = hlReply d [d.hlStat false true false, 0#8] := by
  refine (hlServe_hostSends d 0x0C#8 [] _ _ hm).trans ?_
  dsimp only
  rw [h]
  exact if_neg (by rw [hbusy]; decide)

end

/-! The commands of the bridge. -/

section
variable {s : State} (hfaults : s.dev.faults = [])
include hfaults

theorem completes_hlWr {a : Nat} {ws : List Word} {p : State → Prop} (hr : s.dev.mode ≠ .resting) (hl : s.dev.mode ≠ .landing)
    (ha : a < 2 ^ 32) (h4 : a % 4 = 0) (h1 : 1 ≤ ws.length) (h64 : ws.length ≤ 64)
    (hroom : s.dev.hl.wq.length + s.dev.hl.wfly.length < 4)
    (h : s.onlyHl { s with dev := wrAccepted (hlQuiet s.dev) a ws } → p { s with dev := wrAccepted (hlQuiet s.dev) a ws }) :
    Completes (.hlWr (s.dev.hostSends 0x02#8 (wrBody a ws)) false) s p := by
  have hcause : s.dev.wrCause (s.dev.hostSends 0x02#8 (wrBody a ws)) false = none := by
    rw [wrCause_hostSends s.dev a ws false hl ha h4 h1 h64, if_neg (by decide), if_neg (by omega)]
  exact completes_hl (congrArg (fin s) (hlWr_accepted s.dev a ws false hr ha hcause)) rfl hfaults h

/-- A WR with a partial byte, or behind a full queue, is dropped (R86). -/
theorem completes_hlWr_drop {a : Nat} {ws : List Word} {part : Bool} {p : State → Prop} (hr : s.dev.mode ≠ .resting)
    (hl : s.dev.mode ≠ .landing) (ha : a < 2 ^ 32) (h4 : a % 4 = 0) (h1 : 1 ≤ ws.length) (h64 : ws.length ≤ 64)
    (hbreaks : part = true ∨ 4 ≤ s.dev.hl.wq.length + s.dev.hl.wfly.length)
    (h : ∀ t : State, s.dev.dropped (if part then 2 else 4) t.dev → p t) :
    Completes (.hlWr (s.dev.hostSends 0x02#8 (wrBody a ws)) part) s p := by
  have hcause : s.dev.wrCause (s.dev.hostSends 0x02#8 (wrBody a ws)) part = some (if part then 2 else 4) := by
    rw [wrCause_hostSends s.dev a ws part hl ha h4 h1 h64]
    cases part with
    | true => rfl
    | false => exact if_pos (hbreaks.resolve_left (by decide))
  exact completes_drop (congrArg (fin s) (hlWr_cause s.dev part hr _ _ hcause)) hfaults h

/-- A WR into Steward memory is issued, finds no target and fails (R87, R391). -/
theorem completes_bridgeWrite_private {a : Nat} {ws : List Word} {rest : List (Nat × List Word)} {p : State → Prop}
    (hni : s.dev.niOpen 1 = true) (hq : s.dev.hl.wq = (a, ws) :: rest)
    (hfree : s.dev.hl.rdWait = none ∨ s.dev.hl.wfly.length < s.dev.hl.rdBefore)
    (hrt : s.dev.noc.rt = []) (hlo : 0x20000000 ≤ a) (hhi : a < 0x30000000)
    (h : ∀ e, (wrTaken s.dev rest).routed e → e.rd NOC_ERR.DECODE = 1 → p { s with dev := wrSent (some a, e) }) :
    Completes .bridgeWriteIssue s p := by
  obtain ⟨e, hburst, hrouted, hflag⟩ :=
    bridgeBurst_private (wrTaken s.dev rest) a ws (nth [] s.dev.hl.wkeep 0) hrt hlo hhi
  have hexec : bridgeWrite s.dev = wrSent (some a, e) := by rw [bridgeWrite_issues s.dev a ws rest hni hq hfree, hburst]
  refine completes_fin (congrArg (fin s) hexec) ?_ (h e hrouted hflag)
  have hkept : e.faults = (wrTaken s.dev rest).faults := by rw [hrouted]
  exact hkept.trans hfaults

/-- The response to a WR, without an error or with WERR set already, and with the first error (R87). -/
theorem completes_bridgeDone {e : Option Nat} {fly : List (Option Nat)} {p : State → Prop} (hr : s.dev.mode ≠ .resting)
    (hfly : s.dev.hl.wfly = e :: fly)
    (hkept : (e = none ∨ s.dev.on HPT_STAT.WERR = true) → p { s with dev := wrAnswered s.dev fly })
    (hfailed : ∀ x, e = some x → s.dev.on HPT_STAT.WERR = false → p { s with dev := wrFailed (wrAnswered s.dev fly) x }) :
    Completes .bridgeWriteResponse s p := by
  have hexec : exec .bridgeWriteResponse s = fin s (bridgeDone s.dev) :=
    congrArg (fin s) (if_pos (coreOn_awake s.dev hr))
  cases e with
  | none =>
    rw [bridgeDone_good s.dev fly hfly] at hexec
    exact completes_fin hexec hfaults (hkept (.inl rfl))
  | some x =>
    rw [bridgeDone_bad s.dev x fly hfly] at hexec
    cases hw : s.dev.on HPT_STAT.WERR with
    | true =>
      rw [hw, if_pos rfl] at hexec
      exact completes_fin hexec hfaults (hkept (.inr hw))
    | false =>
      rw [hw, if_neg (by decide)] at hexec
      exact completes_fin hexec hfaults (hfailed x rfl hw)

/-- An RD whose response carries no result, from a device that differs in its slice alone. -/
theorem completes_unanswered {c : Instr} {d : Dev} {busy cut : Bool} {n : Nat} {p : State → Prop}
    (hexec : exec c s = fin s (if cut then hlQuiet d else rdNotReady d false busy n)) (hd : d = { s.dev with hl := d.hl })
    (h : ∀ t : State, d.unanswered busy n cut t.dev → p t) : Completes c s p := by
  have hanswer := rdNotReady_unanswered d busy n cut
  have hkept : d.faults = s.dev.faults := by rw [hd]
  exact completes_fin hexec (hanswer.faults.trans (hkept.trans hfaults)) (h _ hanswer)

/-- The response to a read that the slice waits for (R91, R407). -/
theorem completes_readDone {cycles : Nat} {d : Dev} {p : State → Prop} (hr : s.dev.mode ≠ .resting)
    (hdone : readDone s.dev cycles = d) (hd : d.faults = s.dev.faults) (h : p { s with dev := d }) :
    Completes (.bridgeReadComplete cycles) s p := by
  have hexec : exec (.bridgeReadComplete cycles) s = fin s (readDone s.dev cycles) :=
    congrArg (fin s) (if_pos (coreOn_awake s.dev hr))
  rw [hdone] at hexec
  exact completes_fin hexec (hd.trans hfaults) h

end

/-- The slice after an RD that is issued at once, and answered with its result or without. -/
def Dev.rdAnswered (d : Dev) (a n : Nat) (ready cut : Bool) (r : Resp) : HostLink :=
  let h := (d.hl.rdAccepted a n).readIssued r n
  let head := fun (rdy rerr : Bool) => [d.hlStat rdy rerr false, b8 ((d.hl.seq + 1) % 256)]
  if ready then { h.readHeld r with
    returned := !cut
    driven := !cut
    out := if cut then [] else d.hostGets (head true (!r.good) ++ readBytes r n) }
  else { h with
    driven := !cut
    out := if cut then [] else d.hostGets (head false false ++ List.replicate (4 * n) 0#8) }

theorem rdAnswer_hl (d e : Dev) (a n : Nat) (ready cut : Bool) (r : Resp)
    (he : e.hl = (d.hl.rdAccepted a n).readIssued r n) (hdrop : d.hl.rdDrop = 0) :
    (rdAnswer e n ready cut).hl = d.rdAnswered a n ready cut r ∧ (rdAnswer e n ready cut).faults = e.faults := by
  have hgets (bs : List Byte) : e.hostGets bs = d.hostGets bs := by rw [Dev.hostGets, he]; rfl
  have hstat (rdy rerr busy : Bool) : e.hlStat rdy rerr busy = d.hlStat rdy rerr busy := by rw [Dev.hlStat, he]; rfl
  have hseq : e.hl.seq = (d.hl.seq + 1) % 256 := by rw [he]; rfl
  cases ready with
  | true =>
    have h := rdAnswer_ready e n cut r (by rw [he]; rfl) (by rw [he]; exact hdrop)
    rw [hgets, hstat, hseq, he] at h
    exact h
  | false =>
    have h := rdNotReady_unanswered e false n cut
    have hl := h.hl
    rw [hgets, hstat, hseq, he] at hl
    rw [rdAnswer_waits e n false cut (.inl rfl)]
    exact ⟨hl, h.faults⟩

theorem readFlying_hl (d : Dev) (a n : Nat) (h : (corridorAccess d 1 false a (4 * n) [] false 0).2.hl = d.hl) :
    (readFlying d a n).hl = d.hl.readIssued (corridorAccess d 1 false a (4 * n) [] false 0).1 n :=
  congrArg (fun h : HostLink => h.readIssued _ n) h

/-- An RD that is issued at once, where its access raises no fault. -/
theorem completes_rdAnswered {c : Instr} {s : State} {d : Dev} {a n : Nat} {ready cut : Bool} {p : State → Prop}
    (hexec : exec c s = fin s (rdAnswer (readFlying d a n) n ready cut)) (hd : d.hl = s.dev.hl.rdAccepted a n)
    (hdrop : s.dev.hl.rdDrop = 0) (hf : (corridorAccess d 1 false a (4 * n) [] false 0).2.faults = [])
    (hh : (corridorAccess d 1 false a (4 * n) [] false 0).2.hl = d.hl)
    (h : ∀ t : State, t.dev.hl = s.dev.rdAnswered a n ready cut (corridorAccess d 1 false a (4 * n) [] false 0).1 → p t) :
    Completes c s p := by
  have hslice := readFlying_hl d a n hh
  rw [hd] at hslice
  obtain ⟨hanswered, hkept⟩ := rdAnswer_hl s.dev _ a n ready cut _ hslice hdrop
  exact completes_fin hexec (hkept.trans hf) (h _ hanswered)

/-- Settles O38: the queue of writes, their issue and response, the reads, and RDLAST. -/
theorem hostLinkBridgesWritesAndReads : Obligations.HostLinkBridgesWritesAndReads := by
  intro a n cycles ws rest part ready cut s hfaults hr hl ha wr rd outstanding busy zeros issued after
  have hni := niOpen_bridge s.dev hr hl
  have hserve (h4 : a % 4 = 0) (h1 : 1 ≤ n) (h64 : n ≤ 64) (ready cut : Bool) :=
    hlRd_hostSends s.dev a n ready cut hr hl ha h4 h1 h64
  have hidle (h : busy = false) : s.dev.hl.rdWait = none ∧ s.dev.hl.rdFly = none := by
    simpa [busy] using h
  have haccept (h : outstanding = 0) : s.dev.setHl (fun h => h.rdAccepted a n) =
      s.dev.setHl (fun h => { h with rdWait := some (a, n), rdBefore := 0 }) := by
    simp only [Dev.setHl, HostLink.rdAccepted]
    rw [show s.dev.hl.wq.length + s.dev.hl.wfly.length = 0 from h]
  refine ⟨fun h4 h1 h64 => ⟨fun hroom => ?_, fun hbreaks => ?_⟩,
    fun hq hfree => ⟨fun hrt hlo hhi => ?_, fun hsingle => ?_, fun hdev => ?_⟩, fun hwait hdone => ?_, fun e fly hfly => ?_,
    fun h4 h1 h64 => ⟨fun hbusy hout => ?_, fun hbusy => ?_, fun hbusy hout hone => ⟨?_, fun hdrop hf hh => ?_⟩⟩,
    fun hwait hdone hone => ?_, fun _ hbefore => ?_, fun r hfly hdrop => ?_, fun hdrop => ?_,
    fun r hheld => ?_, fun hheld hbusy => ?_, fun hheld hbusy => ?_⟩
  · exact completes_hlWr hfaults hr hl ha h4 h1 h64 hroom fun h => ⟨rfl, rfl, rfl, h⟩
  · refine completes_hlWr_drop hfaults hr hl ha h4 h1 h64 hbreaks fun t h => ⟨?_, ?_, ?_, h.regs, h.sameBytes⟩ <;> rw [h.hl]
  · refine completes_bridgeWrite_private hfaults hni hq hfree hrt hlo hhi fun e hrouted hflag => ?_
    rw [hrouted] at hflag ⊢
    exact ⟨rfl, rfl, hflag, fun _ => rfl, fun _ => rfl, fun _ => rfl⟩
  · have hissue := bridgeWrite_issues s.dev a ws rest hni hq hfree
    rw [bridgeBurst_single _ _ _ _ hsingle] at hissue
    exact congrArg (fin s) hissue
  · have hissue := bridgeWrite_issues s.dev a ws rest hni hq hfree
    rw [bridgeBurst_device _ _ _ _ hdev] at hissue
    exact congrArg (fin s) hissue
  · exact (congrArg (fin s) (bridgeWrite_waits s.dev hwait hdone)).trans (fin_none s s.dev hfaults)
  · refine completes_bridgeDone hfaults hr hfly (fun hkept => ?_) fun x hx hw => ?_
    · refine ⟨rfl, rfl, fun x hx _ h0 => ?_, fun _ _ _ => rfl, fun _ _ => rfl, fun _ => rfl, fun _ => rfl, fun _ => rfl⟩
      rw [hx, Dev.on_iff, h0] at hkept
      simp at hkept
    · refine ⟨rfl, rfl, fun y hy hlt _ => ?_, fun hnone => ?_, wrFailed_regs _ x, fun _ => rfl, fun _ => rfl, fun _ => rfl⟩
      · obtain rfl : x = y := Option.some.inj (hx.symm.trans hy)
        exact wrFailed_captures _ x hlt
      · rw [hx, ← Dev.on_iff, hw] at hnone
        simp at hnone
  · obtain ⟨-, hfly⟩ := hidle hbusy
    have hexec := hserve h4 h1 h64 ready cut
    rw [if_neg (Bool.eq_false_iff.1 hbusy), rdAccept_waits s.dev a n ready cut hfly hout] at hexec
    refine completes_unanswered hfaults (congrArg (fin s) hexec) rfl fun t h =>
      ⟨?_, ?_, ?_, ?_, h.count, h.regs, h.sameBytes⟩ <;> rw [h.hl] <;> rfl
  · have hexec := hserve h4 h1 h64 ready cut
    rw [if_pos hbusy] at hexec
    refine completes_unanswered hfaults (congrArg (fin s) hexec) rfl fun t h =>
      ⟨?_, ?_, ?_, ?_, h.regs, h.sameBytes⟩ <;> rw [h.hl]
  · have hexec := hserve h4 h1 h64 false true
    rw [if_neg (Bool.eq_false_iff.1 hbusy), rdAccept_issues s.dev a n false true hni hout hone,
      rdAnswer_waits _ _ _ _ (.inl rfl), if_pos rfl, haccept hout] at hexec
    exact congrArg (fin s) hexec
  · have hexec := hserve h4 h1 h64 ready cut
    rw [if_neg (Bool.eq_false_iff.1 hbusy), rdAccept_issues s.dev a n ready cut hni hout hone, haccept hout] at hexec
    refine completes_rdAnswered (congrArg (fin s) hexec) (congrArg Dev.hl (haccept hout)).symm hdrop hf hh fun t h => ?_
    rw [h]
    cases ready
    · exact ⟨rfl, rfl, ⟨rfl, rfl⟩, rfl⟩
    · exact ⟨rfl, rfl, ⟨rfl, rfl, rfl⟩, rfl⟩
  · have hissue := bridgeRead_issues s.dev a n hni hwait hdone
    rw [readIssue_single s.dev a n hone] at hissue
    exact congrArg (fin s) hissue
  · exact (congrArg (fin s) (bridgeRead_waits s.dev hbefore)).trans (fin_none s s.dev hfaults)
  · obtain ⟨hlast, hmax⟩ := readTimed_times (readLanded s.dev r) (min 0xFFFF cycles) (Nat.min_le_left _ _)
    exact completes_readDone hfaults hr (readDone_held s.dev cycles r hfly hdrop) rfl
      ⟨rfl, rfl, hlast, hmax, freeSlot_out s.dev 1, readTimed_regs (readLanded s.dev r) _,
        readTimed_sameBytes (readLanded s.dev r) _⟩
  · exact completes_readDone hfaults hr (readDone_discards s.dev cycles hdrop) rfl
      ⟨rfl, rfl, rfl, freeSlot_out _ 1, fun _ _ => rfl, fun _ => rfl, fun _ => rfl, fun _ => rfl⟩
  · exact completes_hl (congrArg (fin s) (hlRdlast_held s.dev hr r hheld)) rfl hfaults fun h => ⟨rfl, hheld, rfl, h⟩
  · exact completes_hl (congrArg (fin s) (hlRdlast_pending s.dev hr hheld hbusy)) rfl hfaults fun h => ⟨rfl, h⟩
  · exact completes_hl (congrArg (fin s) (hlRdlast_none s.dev hr hheld hbusy)) rfl hfaults fun h => ⟨rfl, h⟩

end Sys2Proof.Machine
end


section
/-!
The statements of the Vestibule: command slots and their responses. This part says what a command slot reads, what a response
writes and what it leaves alone, and what the event of a logged command adds (R113, R121, R122).
-/

namespace Sys2Proof.Machine

/-! Command slots. -/

/-- A command's bytes are those of the words of its slot. -/
theorem cmdBytes_congr {d e : Dev} {slot o k : Nat} (hs : slot < 4) (hk : o + k ≤ 256)
    (h : ∀ w, w < 256 → e.ld (VST_CMD.addr w) = d.ld (VST_CMD.addr w)) : e.cmdBytes slot o k = d.cmdBytes slot o k := by
  have hwords : (List.range ((o + k + 3) / 4 - o / 4)).flatMap (fun i => wordBytes (e.ld (VST_CMD.addr (64 * slot + o / 4 + i)))) =
      (List.range ((o + k + 3) / 4 - o / 4)).flatMap (fun i => wordBytes (d.ld (VST_CMD.addr (64 * slot + o / 4 + i)))) :=
    List.flatMap_congr fun i hi => by
      rw [List.mem_range] at hi
      rw [h _ (by omega)]
  simp only [Dev.cmdBytes, hwords]

theorem sliceB_length (bs : List Byte) (k n : Nat) : (sliceB bs k n).length = n := by
  simp only [sliceB, List.length_append, List.length_replicate, List.length_take]
  omega

@[simp] theorem cmdBytes_length (d : Dev) (slot o k : Nat) : (d.cmdBytes slot o k).length = k := sliceB_length _ _ _

theorem payload_length (d : Dev) (slot : Nat) : (d.payload slot).length ≤ 248 := by
  rw [Dev.payload, cmdBytes_length]
  exact Nat.min_le_left _ _

theorem leNat_lt (bs : List Byte) : leNat bs < 256 ^ bs.length := by
  induction bs with
  | nil => simp [leNat]
  | cons b r ih =>
    have := b.isLt
    rw [leNat, List.length_cons, Nat.pow_succ']
    omega

theorem cmdAt_lt (d : Dev) (slot o k : Nat) : d.cmdAt slot o k < 256 ^ k := by
  have := leNat_lt (d.cmdBytes slot o k)
  rwa [cmdBytes_length] at this

/-- The registers of a list leave the command slots alone. -/
def sparesCommands (xs : List Nat) : Prop := ∀ a ∈ xs, a < VST_CMD.addr 0 ∨ VST_CMD.addr 256 ≤ a

section
variable {xs : List Nat} {d e : Dev} (h : Dev.sameRegs xs d e) (hx : sparesCommands xs)
include h hx

theorem Dev.sameRegs.cmdWord (w : Nat) (hw : w < 256) : e.ld (VST_CMD.addr w) = d.ld (VST_CMD.addr w) :=
  h _ fun hmem => by
    have := hx _ hmem
    simp only [VST_CMD.addr] at this
    omega

theorem Dev.sameRegs.cmdAt {slot o k : Nat} (hs : slot < 4) (hk : o + k ≤ 256) : e.cmdAt slot o k = d.cmdAt slot o k :=
  congrArg leNat (cmdBytes_congr hs hk (h.cmdWord hx))

theorem Dev.sameRegs.payload {slot : Nat} (hs : slot < 4) : e.payload slot = d.payload slot := by
  have hlen : e.cmdLen slot = d.cmdLen slot := h.cmdAt hx hs (by omega)
  rw [Dev.payload, hlen]
  exact cmdBytes_congr hs (by have := Nat.min_le_left 248 (d.cmdLen slot); omega) (h.cmdWord hx)

theorem Dev.sameRegs.rspHeader {slot : Nat} (hs : slot < 4) (status len evseq : Nat) :
    e.rspHeader slot status len evseq = d.rspHeader slot status len evseq := by
  simp only [Dev.rspHeader, Dev.cmdOp, Dev.cmdTag, h.cmdAt hx hs (show 0 + 1 ≤ 256 by omega),
    h.cmdAt hx hs (show 2 + 2 ≤ 256 by omega)]

end

theorem sparesCommands_nil : sparesCommands [] := fun _ ha => absurd ha List.not_mem_nil

theorem sparesCommands.cons {a : Nat} {xs : List Nat} (ha : a < VST_CMD.addr 0 ∨ VST_CMD.addr 256 ≤ a)
    (h : sparesCommands xs) : sparesCommands (a :: xs) := by
  intro b hb
  obtain rfl | hb := List.mem_cons.1 hb
  · exact ha
  · exact h b hb

theorem sparesCommands_evRegs : sparesCommands evRegs :=
  (sparesCommands_nil.cons (by decide)).cons (by decide)

theorem sparesCommands_tripRegs : sparesCommands tripRegs := by
  intro a ha
  simp only [tripRegs, List.mem_append, List.mem_cons, List.not_mem_nil, or_false, List.mem_map, List.mem_range] at ha
  obtain (rfl | rfl | rfl | rfl) | ⟨i, hi, rfl⟩ := ha
  iterate 4 exact .inr (by decide)
  right
  simp only [VST_CMD.addr, BAL_TCAUSE.addr]
  omega

/-! The bytes of a response. -/

theorem wordBytes_w32 (a b c e : Byte) : wordBytes (w32 (leNat [a, b, c, e])) = [a, b, c, e] := by
  have hb (x : Byte) (n : Nat) : b8 (x.toNat + 256 * n) = x := BitVec.eq_of_toNat_eq (by
    have := x.isLt
    rw [b8, BitVec.toNat_ofNat]
    omega)
  have hd (x : Byte) (n : Nat) : (x.toNat + 256 * n) / 256 = n := by
    have := x.isLt
    omega
  have hlt : leNat [a, b, c, e] < 2 ^ 32 := by simpa using leNat_lt [a, b, c, e]
  rw [wordBytes, w32_toNat, Nat.mod_eq_of_lt hlt]
  simp only [leNat, leBytes, hb, hd]

theorem wordBytes_length (w : Word) : (wordBytes w).length = 4 := leBytes_length 4 _

/-- Registers that are no word of the response keep their value. -/
theorem putRsp_ld : ∀ (bs : List Byte) (d : Dev) (w a : Nat), (∀ i, 4 * i < bs.length → a ≠ VST_RSP.addr (w + i)) →
    (putRsp d w bs).ld a = d.ld a
  | [], _, _, _, _ => by rw [putRsp]
  | [_], d, _, _, h => d.put_ld_ne _ _ _ (h 0 (by simp))
  | [_, _], d, _, _, h => d.put_ld_ne _ _ _ (h 0 (by simp))
  | [_, _, _], d, _, _, h => d.put_ld_ne _ _ _ (h 0 (by simp))
  | _ :: _ :: _ :: _ :: r, d, w, a, h => by
    simp only [List.length_cons] at h
    have hrest (i : Nat) (hi : 4 * i < r.length) : a ≠ VST_RSP.addr (w + 1 + i) := by
      rw [Nat.add_assoc, Nat.add_comm 1]
      exact h (i + 1) (by omega)
    rw [putRsp, putRsp_ld r _ (w + 1) a hrest]
    exact d.put_ld_ne _ _ _ (h 0 (by omega))

theorem putRsp_onlyRegs : ∀ (bs : List Byte) (d : Dev) (w : Nat), d.onlyRegs (putRsp d w bs)
  | [], d, _ => by rw [putRsp]; exact d.onlyRegs_refl
  | [_], d, _ => d.onlyRegs_put _ _
  | [_, _], d, _ => d.onlyRegs_put _ _
  | [_, _, _], d, _ => d.onlyRegs_put _ _
  | _ :: _ :: _ :: _ :: r, d, w => by
    rw [putRsp]
    exact (d.onlyRegs_put _ _).trans (putRsp_onlyRegs r _ (w + 1))

/-- A last word of fewer than four bytes begins with them. -/
theorem wordBytes_last (r : List Byte) (w : Word) (h : r.length < 4) :
    (wordBytes (w32 (leNat (r ++ (wordBytes w).drop r.length)))).take r.length = r := by
  have hlen : (r ++ (wordBytes w).drop r.length).length = 4 := by
    rw [List.length_append, List.length_drop, wordBytes_length]
    omega
  obtain ⟨a, b, c, e, hall⟩ : ∃ a b c e, r ++ (wordBytes w).drop r.length = [a, b, c, e] :=
    List.length_eq_four.1 hlen
  rw [hall, wordBytes_w32, ← hall, List.take_left']
  rfl

/-- What `putRsp` has written reads back. -/
theorem putRsp_reads : ∀ (bs : List Byte) (d : Dev) (w : Nat),
    ((List.range ((bs.length + 3) / 4)).flatMap (fun i => wordBytes ((putRsp d w bs).ld (VST_RSP.addr (w + i))))).take
      bs.length = bs
  | [], _, _ => by simp
  | [a], d, w => by simpa [putRsp] using wordBytes_last [a] _ (by simp)
  | [a, b], d, w => by simpa [putRsp] using wordBytes_last [a, b] _ (by simp)
  | [a, b, c], d, w => by simpa [putRsp] using wordBytes_last [a, b, c] _ (by simp)
  | a :: b :: c :: e :: r, d, w => by
    have hfirst : (putRsp d w (a :: b :: c :: e :: r)).ld (VST_RSP.addr w) = w32 (leNat [a, b, c, e]) := by
      rw [putRsp, putRsp_ld _ _ _ _ (fun i _ => by simp only [VST_RSP.addr]; omega), Dev.put_ld]
    have hcount : ((a :: b :: c :: e :: r).length + 3) / 4 = (r.length + 3) / 4 + 1 := by
      simp only [List.length_cons]
      omega
    have hrest := putRsp_reads r (d.put (VST_RSP.addr w) (w32 (leNat [a, b, c, e]))) (w + 1)
    rw [hcount, List.range_succ_eq_map, List.flatMap_cons, List.flatMap_map, Nat.add_zero, hfirst, wordBytes_w32]
    simp only [List.length_cons, List.cons_append, List.nil_append, List.take_succ_cons, List.cons.injEq, true_and]
    simpa only [putRsp, Nat.add_assoc, Nat.succ_eq_add_one, Nat.add_comm 1] using hrest

/-- The response words of a slot read as the bytes that `rspBytes` shows. -/
theorem rspBytes_congr {d e : Dev} {slot n : Nat} (hn : n ≤ 256)
    (h : ∀ i, i < 64 → e.ld (VST_RSP.addr (64 * slot + i)) = d.ld (VST_RSP.addr (64 * slot + i))) :
    e.rspBytes slot n = d.rspBytes slot n := by
  rw [Dev.rspBytes, Dev.rspBytes]
  exact congrArg (List.take n) (List.flatMap_congr fun i hi => by rw [h i (by rw [List.mem_range] at hi; omega)])

@[simp] theorem rspHeader_length (d : Dev) (slot status len evseq : Nat) :
    (d.rspHeader slot status len evseq).length = 8 := by simp [Dev.rspHeader]

/-! A response. -/

/-- The counters and service times after a response. -/
def responseCounted (d : Dev) (slot status : Nat) (deferred : Bool) : Dev :=
  let d := d.bump VST_CNT.DONE 1
  let d := if 2 ≤ status then d.bump VST_CNT.REJECT 1 else d
  let d := if status = 0x0D then d.bump VST_CNT.ABORT 1 else d
  let t := min 0xFFFF ((d.now - nth 0 d.vst.rung slot) / 1000)
  let d := d.wr VST_SVCTIME.LAST t
  if deferred then d else d.wr VST_SVCTIME.MAX (max t (d.rd VST_SVCTIME.MAX))

/-- A change of the counters and service times alone. -/
def Dev.counts (d e : Dev) : Prop := d.onlyRegs e ∧ Dev.sameRegs [VST_CNT.addr, VST_SVCTIME.addr] d e

theorem Dev.counts.trans {d e g : Dev} (h : d.counts e) (k : e.counts g) : d.counts g :=
  ⟨h.1.trans k.1, h.2.trans k.2⟩

theorem Dev.counts_wr (d : Dev) (f : Fld) (v : Nat) (h : f.addr ∈ [VST_CNT.addr, VST_SVCTIME.addr]) : d.counts (d.wr f v) :=
  ⟨d.onlyRegs_wr f v, d.sameRegs_wr f v h⟩

theorem Dev.counts_ite {d e : Dev} (c : Prop) [Decidable c] (h : d.counts e) : d.counts (if c then e else d) := by
  split
  · exact h
  · exact ⟨d.onlyRegs_refl, fun _ _ => rfl⟩

theorem responseCounted_counts (d : Dev) (slot status : Nat) (deferred : Bool) :
    d.counts (responseCounted d slot status deferred) := by
  have hbump (d : Dev) (f : Fld) (hf : f.addr ∈ [VST_CNT.addr, VST_SVCTIME.addr]) : d.counts (d.bump f 1) :=
    d.counts_wr f _ hf
  have htime (d : Dev) (t m : Nat) :
      d.counts (if deferred then d.wr VST_SVCTIME.LAST t else (d.wr VST_SVCTIME.LAST t).wr VST_SVCTIME.MAX m) := by
    split
    · exact d.counts_wr _ _ (by decide)
    · exact (d.counts_wr _ _ (by decide)).trans (Dev.counts_wr _ _ _ (by decide))
  exact (((hbump d VST_CNT.DONE (by decide)).trans (Dev.counts_ite _ (hbump _ VST_CNT.REJECT (by decide)))).trans
    (Dev.counts_ite _ (hbump _ VST_CNT.ABORT (by decide)))).trans (htime _ _ _)

/-- The response words written, and the slot DONE. -/
def rspWritten (d : Dev) (slot : Nat) (bs : List Byte) : Dev := (putRsp d (64 * slot) bs).setSlot slot 3

theorem respond_eq (d : Dev) (slot status evseq : Nat) (pl : List Byte) (deferred : Bool) :
    respond d slot status evseq pl deferred =
      responseCounted (rspWritten d slot (d.rspHeader slot status pl.length evseq ++ pl)) slot status deferred := rfl

theorem rspWritten_only (d : Dev) (slot : Nat) (bs : List Byte) : rspWritten d slot bs =
    { d with regs := (rspWritten d slot bs).regs, vst := { d.vst with st := setNth 0 d.vst.st slot 3 } } := by
  rw [rspWritten, putRsp_onlyRegs bs d (64 * slot)]
  rfl

theorem rspWritten_ld (d : Dev) (slot : Nat) (bs : List Byte) (a : Nat) :
    (rspWritten d slot bs).ld a = (putRsp d (64 * slot) bs).ld a := rfl

/-- The device `e` is `d` after the response of a slot: the slot is DONE, and nothing changes outside the registers of the
response. -/
structure Dev.replies (d e : Dev) (slot status evseq : Nat) (pl : List Byte) : Prop where
  only : e = { d with regs := e.regs, vst := { d.vst with st := setNth 0 d.vst.st slot 3 } }
  regs : Dev.sameRegs (rspRegs slot) d e
  answered : d.answered e slot status evseq pl

theorem rspWritten_replies {d e : Dev} {slot status evseq : Nat} {pl : List Byte} (hpl : pl.length ≤ 248)
    (h : (rspWritten d slot (d.rspHeader slot status pl.length evseq ++ pl)).counts e) : d.replies e slot status evseq pl := by
  have hlen : (d.rspHeader slot status pl.length evseq ++ pl).length = 8 + pl.length := by simp
  obtain ⟨honly, hregs⟩ := h
  rw [Dev.onlyRegs, rspWritten_only] at honly
  refine ⟨honly, fun a ha => ?_, ?_, ?_⟩
  · simp only [rspRegs, List.mem_append, List.mem_map, List.mem_range, not_or, not_exists, not_and] at ha
    obtain ⟨hcnt, hrsp⟩ := ha
    rw [hregs a hcnt, rspWritten_ld]
    refine putRsp_ld _ d (64 * slot) a fun i hi he => hrsp i ?_ he.symm
    omega
  · have hst : e.vst.st = setNth 0 d.vst.st slot 3 := by rw [honly]
    rw [Dev.slot, hst, nth_setNth]
  · have hsame (i : Nat) (_ : i < 64) : e.ld (VST_RSP.addr (64 * slot + i)) =
        (rspWritten d slot (d.rspHeader slot status pl.length evseq ++ pl)).ld (VST_RSP.addr (64 * slot + i)) :=
      hregs _ (by simp [VST_RSP.addr, VST_CNT.addr, VST_SVCTIME.addr]; omega)
    simp only [rspWritten_ld] at hsame
    rw [rspBytes_congr (by omega) hsame, ← hlen]
    exact putRsp_reads _ d (64 * slot)

theorem respond_replies (d : Dev) (slot status evseq : Nat) (pl : List Byte) (deferred : Bool) (hpl : pl.length ≤ 248) :
    d.replies (respond d slot status evseq pl deferred) slot status evseq pl :=
  rspWritten_replies hpl (responseCounted_counts _ slot status deferred)

section
variable {d e : Dev} {slot status evseq : Nat} {pl : List Byte} (h : d.replies e slot status evseq pl)
include h

theorem Dev.replies.faults : e.faults = d.faults := by rw [h.only]
theorem Dev.replies.evq : e.evq = d.evq := by rw [h.only]
theorem Dev.replies.wl : e.wl = d.wl := by rw [h.only]
theorem Dev.replies.svc : e.svc = d.svc := by rw [h.only]
theorem Dev.replies.gal : e.gal = d.gal := by rw [h.only]
theorem Dev.replies.mode : e.mode = d.mode := by rw [h.only]
theorem Dev.replies.order : e.vst.order = d.vst.order := by rw [h.only]
theorem Dev.replies.sameBytes : d.sameBytes e := by
  rw [h.only]
  exact ⟨fun _ => rfl, fun _ => rfl, fun _ => rfl⟩

end

/-- A response counts its status in REJECT where it is no OK (VST_CNT). -/
theorem respond_rejects (d : Dev) (slot status evseq : Nat) (pl : List Byte) (deferred : Bool) (h2 : 2 ≤ status)
    (hD : status ≠ 0x0D) :
    (respond d slot status evseq pl deferred).rd VST_CNT.REJECT = min 255 (d.rd VST_CNT.REJECT + 1) := by
  have htime (d : Dev) (t m : Nat) : (if deferred then d.wr VST_SVCTIME.LAST t
      else (d.wr VST_SVCTIME.LAST t).wr VST_SVCTIME.MAX m).rd VST_CNT.REJECT = d.rd VST_CNT.REJECT := by
    split
    · exact d.wr_rd_ne _ _ _ (by decide)
    · exact (Dev.wr_rd_ne _ _ _ _ (by decide)).trans (d.wr_rd_ne _ _ _ (by decide))
  have hdone (d : Dev) : (d.bump VST_CNT.DONE 1).rd VST_CNT.REJECT = d.rd VST_CNT.REJECT :=
    d.wr_rd_above _ _ _ (by decide) (by decide) (by decide) rfl
  have hword (bs : List Byte) : (rspWritten d slot bs).rd VST_CNT.REJECT = d.rd VST_CNT.REJECT := by
    rw [Dev.rd, rspWritten_ld, putRsp_ld _ _ _ _ (fun i _ => by simp only [VST_CNT.REJECT, VST_CNT.addr, VST_RSP.addr]; omega),
      Dev.rd]
  rw [respond_eq]
  simp only [responseCounted, if_pos h2, if_neg hD]
  rw [htime, Dev.bump_rd _ _ _ (by decide) (by decide), hdone, hword]
  rfl

/-- What a response shows stays where neither its words nor the slot change. -/
theorem Dev.answered.after {d e g : Dev} {slot status evseq : Nat} {pl : List Byte} (h : d.answered e slot status evseq pl)
    (hpl : pl.length ≤ 248) (hslot : g.slot slot = e.slot slot)
    (hrsp : ∀ i, i < 64 → g.ld (VST_RSP.addr (64 * slot + i)) = e.ld (VST_RSP.addr (64 * slot + i))) :
    d.answered g slot status evseq pl :=
  ⟨hslot.trans h.1, (rspBytes_congr (by omega) hrsp).trans h.2⟩

/-- A response to the command as it stood before registers outside the command slots changed. -/
theorem Dev.answered.before {c d e : Dev} {xs : List Nat} {slot status evseq : Nat} {pl : List Byte}
    (h : d.answered e slot status evseq pl) (hregs : Dev.sameRegs xs c d) (hx : sparesCommands xs) (hs : slot < 4) :
    c.answered e slot status evseq pl :=
  ⟨h.1, h.2.trans (by rw [hregs.rspHeader hx hs])⟩

/-! The event of a logged command. -/

/-- The device after the event of a logged command, whose record Wailith owes (R122, R466). -/
structure Dev.postsCommand (d e : Dev) (c : CmdRec) : Prop where
  only : e = { d with regs := e.regs, evq := e.evq, evGap := e.evGap, wl := { d.wl with cmds := d.wl.cmds ++ [c] } }
  regs : Dev.sameRegs evRegs d e
  event : d.oneCommandEvent e

/-- Wailith owes a further record. -/
def Dev.owes (d : Dev) (c : CmdRec) : Dev := { d with wl := { d.wl with cmds := d.wl.cmds ++ [c] } }

theorem owes_only {d e : Dev} (h : e = { d with regs := e.regs, evq := e.evq, evGap := e.evGap }) (c : CmdRec) :
    e.owes c = { d with regs := (e.owes c).regs, evq := (e.owes c).evq, evGap := (e.owes c).evGap,
                        wl := { d.wl with cmds := d.wl.cmds ++ [c] } } := by
  rw [h]
  rfl

theorem postCommand_posts (d : Dev) (kind : Nat) (body : Nat → List Word) (hroom : d.evq.length < 240)
    (hserver : d.rd VST_FWSTAT.SERVER ≠ 2) :
    d.postsCommand (postCommand d kind body).2
      { seq := d.rd EVQ_NEXTSEQ.SEQ, kind := kind, body := body (d.rd EVQ_NEXTSEQ.SEQ) } := by
  let seq := d.rd EVQ_NEXTSEQ.SEQ
  let e := (evqAppend d 0x80 0x01 false (Config.evData .command seq 0) (Config.evData .command seq 1)).wr EVQ_POSTSEQ.SEQ seq
  have hroomed := evqAppend_room d 0x80 0x01 false (Config.evData .command seq 0) (Config.evData .command seq 1) hroom
  have hregs : Dev.sameRegs evRegs d e := fun a ha => by
    simp only [evRegs, List.mem_cons, List.not_mem_nil, or_false, not_or] at ha
    rw [Dev.wr_ld_ne _ _ _ _ ha.2, hroomed]
    exact d.wr_ld_ne _ _ _ ha.1
  have hlen : d.evq.length < e.evq.length := by
    have := evqAppend_length d 0x80 0x01 false (Config.evData .command seq 0) (Config.evData .command seq 1) hroom
    simp only [e, Dev.wr_evq]
    omega
  have hcond : d.evq.length < e.evq.length ∧ e.rd VST_FWSTAT.SERVER ≠ 2 :=
    ⟨hlen, by rwa [hregs.rd VST_FWSTAT.SERVER (by decide)]⟩
  have hpost : (postCommand d kind body).2 = e.owes { seq := seq, kind := kind, body := body seq } := if_pos hcond
  have honly : e = { d with regs := e.regs, evq := e.evq, evGap := e.evGap } := by
    simp only [e, hroomed]
    rfl
  rw [hpost]
  exact ⟨owes_only honly _, hregs, ⟨_, congrArg Dev.evq hroomed, rfl, rfl, rfl, rfl⟩⟩

/-- The device after a logged command has posted its event and has its response. -/
structure Dev.logs (d e : Dev) (slot status : Nat) (pl : List Byte) (c : CmdRec) : Prop where
  only : e = { d with regs := e.regs, vst := { d.vst with st := setNth 0 d.vst.st slot 3 }, evq := e.evq, evGap := e.evGap,
                      wl := { d.wl with cmds := d.wl.cmds ++ [c] } }
  regs : Dev.sameRegs (rspRegs slot ++ evRegs) d e
  event : d.oneCommandEvent e
  answered : d.answered e slot status (d.rd EVQ_NEXTSEQ.SEQ) pl

section
variable {d e : Dev} {slot status : Nat} {pl : List Byte} {c : CmdRec} (h : d.logs e slot status pl c)
include h

theorem Dev.logs.faults : e.faults = d.faults := by rw [h.only]
theorem Dev.logs.wl : e.wl = { d.wl with cmds := d.wl.cmds ++ [c] } := by rw [h.only]
theorem Dev.logs.svc : e.svc = d.svc := by rw [h.only]
theorem Dev.logs.gal : e.gal = d.gal := by rw [h.only]
theorem Dev.logs.mode : e.mode = d.mode := by rw [h.only]
theorem Dev.logs.holders : e.holders = d.holders := by rw [h.only]
theorem Dev.logs.log : e.log = d.log := by rw [h.only]
theorem Dev.logs.sameBytes : d.sameBytes e := by
  rw [h.only]
  exact ⟨fun _ => rfl, fun _ => rfl, fun _ => rfl⟩

end

/-- The response that follows the event. -/
theorem Dev.postsCommand.reply {d e g : Dev} {c : CmdRec} {slot status : Nat} {pl : List Byte} (h : d.postsCommand e c)
    (hs : slot < 4) (k : e.replies g slot status (d.rd EVQ_NEXTSEQ.SEQ) pl) : d.logs g slot status pl c where
  only := by rw [k.only, h.only]
  regs := (h.regs.mono fun _ ha => List.mem_append_right _ ha).trans (k.regs.mono fun _ ha => List.mem_append_left _ ha)
  event := by
    obtain ⟨v, hevq, hv⟩ := h.event
    exact ⟨v, k.evq.trans hevq, hv⟩
  answered := k.answered.before h.regs sparesCommands_evRegs hs

theorem respondLogged_eq (d : Dev) (slot status : Nat) (pl : List Byte) (deferred : Bool) (recPayload : List Byte) :
    respondLogged d slot status pl deferred recPayload =
      respond (postCommand d 0x03 (fun seq => d.cmdRecord slot status pl.length seq recPayload)).2 slot status
        (d.rd EVQ_NEXTSEQ.SEQ) pl deferred := rfl

theorem respondLogged_logs (d : Dev) (slot status : Nat) (pl : List Byte) (deferred : Bool) (recPayload : List Byte)
    (hs : slot < 4) (hpl : pl.length ≤ 248) (hroom : d.evq.length < 240) (hserver : d.rd VST_FWSTAT.SERVER ≠ 2) :
    ∃ c, d.logs (respondLogged d slot status pl deferred recPayload) slot status pl c := by
  have hposts := postCommand_posts d 0x03 (fun seq => d.cmdRecord slot status pl.length seq recPayload) hroom hserver
  rw [respondLogged_eq]
  exact ⟨_, hposts.reply hs (respond_replies _ slot status _ pl deferred hpl)⟩

theorem complete_logs (d : Dev) (slot status : Nat) (pl : List Byte) (deferred : Bool) (hst : status < 2) (hs : slot < 4)
    (hpl : pl.length ≤ 248) (hroom : d.evq.length < 240) (hserver : d.rd VST_FWSTAT.SERVER ≠ 2) :
    ∃ c, d.logs (complete d slot status pl deferred) slot status pl c := by
  rw [complete, if_pos hst]
  exact respondLogged_logs d slot status pl deferred _ hs hpl hroom hserver

/-- A status other than OK and OK_CLAMPED is not logged (R122). -/
theorem complete_replies (d : Dev) (slot status : Nat) (pl : List Byte) (deferred : Bool) (hst : 2 ≤ status)
    (hpl : pl.length ≤ 248) : d.replies (complete d slot status pl deferred) slot status 0 pl := by
  rw [complete, if_neg (by omega)]
  exact respond_replies d slot status 0 pl deferred hpl

/-! Serving a slot. -/

theorem serve_serves {d : Dev} {slot op : Nat} (h : d.serves slot op) (f : Dev → Dev) : serve d slot op f = f d := by
  obtain ⟨hs, hbusy, hop, hserver, hwait⟩ := h
  rw [serve, if_neg (by simp [hbusy, hop, hserver, hwait]; omega), if_neg (by simp [hserver])]

/-- A command that Wailith serves and that raises no fault. -/
theorem completes_serves {c : Instr} {s : State} {slot op : Nat} {f : Dev → Dev} {p : State → Prop}
    (hexec : exec c s = fin s (serve s.dev slot op f)) (h : s.dev.serves slot op) (hf : (f s.dev).faults = [])
    (hp : p { s with dev := f s.dev }) : Completes c s p :=
  completes_fin (hexec.trans (congrArg (fin s) (serve_serves h f))) hf hp

/-- A command that Wailith answers with a response alone. -/
theorem completes_reply {c : Instr} {s : State} {slot op : Nat} {f : Dev → Dev} {status evseq : Nat} {pl : List Byte}
    {p : State → Prop} (hexec : exec c s = fin s (serve s.dev slot op f)) (h : s.dev.serves slot op)
    (hf : s.dev.faults = []) (hr : s.dev.replies (f s.dev) slot status evseq pl)
    (hp : ∀ e, s.dev.replies e slot status evseq pl → p { s with dev := e }) : Completes c s p :=
  completes_serves hexec h (hr.faults.trans hf) (hp _ hr)

end Sys2Proof.Machine
end


section
/-!
The statements of the Vestibule: the host's side of the slots, and how Wailith takes a command (R113 to R116, R143).
-/

namespace Sys2Proof.Machine

theorem niOpen_core (d : Dev) (init : Nat) (hcore : d.coreOn = true) (hmode : d.mode ≠ .landing) : d.niOpen init = true := by
  simp [Dev.niOpen, hcore, hmode]

/-- A row's write that the NI admits and that raises no fault. -/
theorem completes_rowWrite {c : Instr} {s : State} {init : Nat} {f : Dev → Resp × Dev} {p : State → Prop}
    (hexec : exec c s = rowWrite init s f) (hopen : s.dev.niOpen init = true) (hf : (f s.dev).2.faults = [])
    (hp : p { s with dev := { (f s.dev).2 with resp := (f s.dev).1 } }) : Completes c s p :=
  completes_fin (hexec.trans (rowWrite_open init s f hopen)) hf hp

/-! The slots as the host writes them. -/

theorem setSlot_slot (d : Dev) (n v k : Nat) : (d.setSlot n v).slot k = if k = n then v else d.slot k := by
  split
  · next h => rw [h]; exact nth_setNth 0 v _ n
  · next h => exact nth_setNth_ne 0 v _ n k h

/-- A FREE slot is POSTED behind those that wait (R113, R116). -/
def slotPosted (d : Dev) (n : Nat) : Dev :=
  { d.setSlot n 1 with vst := { (d.setSlot n 1).vst with
      order := d.vst.order ++ [n], rung := setNth 0 d.vst.rung n d.now, touched := clrBit d.vst.touched n } }

/-- The slots of a list have been rung in its order: the FREE ones are POSTED, and another one sets RING (R114). -/
structure Dev.rings (d e : Dev) (l : List Nat) : Prop where
  only : e = { d with regs := e.regs, vst := e.vst }
  regs : Dev.sameRegs [VST_ERR.addr] d e
  slot : ∀ n, e.slot n = if n ∈ l ∧ d.slot n = 0 then 1 else d.slot n
  order : e.vst.order = d.vst.order ++ l.filter (fun n => d.slot n == 0)
  ring : (∃ n ∈ l, d.slot n ≠ 0) ∨ d.rd VST_ERR.RING = 1 → e.rd VST_ERR.RING = 1

/-- One slot rung, and then those of a list without it. -/
theorem Dev.rings.cons {d m e : Dev} {n : Nat} {l : List Nat} (hn : n ∉ l) (h : m.rings e l)
    (hm : m = if d.slot n = 0 then slotPosted d n else d.wr VST_ERR.RING 1) : d.rings e (n :: l) := by
  by_cases hfree : d.slot n = 0
  · rw [if_pos hfree] at hm
    have hslot (k : Nat) : m.slot k = if k = n then 1 else d.slot k := by rw [hm]; exact setSlot_slot d n 1 k
    refine ⟨by rw [h.only, hm]; rfl, fun a ha => (h.regs a ha).trans (by rw [hm]; rfl), fun k => ?_, ?_, fun hring => ?_⟩
    · rw [h.slot, hslot]
      by_cases hk : k = n
      · subst hk; simp [hn, hfree]
      · simp [hk]
    · have hfilter : l.filter (fun k => m.slot k == 0) = l.filter (fun k => d.slot k == 0) :=
        List.filter_congr fun k hk => by rw [hslot, if_neg (ne_of_mem_of_not_mem hk hn)]
      have horder : m.vst.order = d.vst.order ++ [n] := by rw [hm]; rfl
      rw [h.order, hfilter, horder, List.filter_cons_of_pos (by simp [hfree]), List.append_assoc]
      rfl
    · refine h.ring (hring.imp (fun ⟨k, hk, hbusy⟩ => ⟨k, ?_, ?_⟩) fun h1 => by rw [hm]; exact h1)
      · exact (List.mem_cons.1 hk).resolve_left fun he => hbusy (he ▸ hfree)
      · rwa [hslot, if_neg]
        rintro rfl
        exact hbusy hfree
  · rw [if_neg hfree] at hm
    have hslot (k : Nat) : m.slot k = d.slot k := by rw [hm]; rfl
    have hset : m.rd VST_ERR.RING = 1 := by rw [hm]; exact d.wr_rd VST_ERR.RING 1 (by decide) (by decide)
    refine ⟨by rw [h.only, hm]; rfl, Dev.sameRegs.trans (by rw [hm]; exact d.sameRegs_wr _ _ (by decide)) h.regs,
      fun k => ?_, ?_, fun _ => h.ring (.inr hset)⟩
    · rw [h.slot, hslot]
      by_cases hk : k = n
      · subst hk; simp [hn, hfree]
      · simp [hk]
    · have horder : m.vst.order = d.vst.order := by rw [hm]; rfl
      rw [h.order, horder, List.filter_cons_of_neg (by simp [hfree])]
      simp only [hslot]

theorem Dev.rings.sameBytes {d e : Dev} {l : List Nat} (h : d.rings e l) : d.sameBytes e := by
  rw [h.only]
  exact ⟨fun _ => rfl, fun _ => rfl, fun _ => rfl⟩

theorem foldl_rings : ∀ (l : List Nat) (d : Dev), l.Nodup →
    d.rings (l.foldl (fun d n => if d.slot n = 0 then slotPosted d n else d.wr VST_ERR.RING 1) d) l
  | [], d, _ => ⟨rfl, fun _ _ => rfl, fun _ => by simp, by simp, by simp⟩
  | n :: l, d, h => (foldl_rings l _ (List.nodup_cons.1 h).2).cons (List.nodup_cons.1 h).1 rfl

theorem bitsOf_nodup (n m : Nat) : (bitsOf n m).Nodup := List.nodup_range.filter _

theorem mem_bitsOf (n m k : Nat) : k ∈ bitsOf n m ↔ k < n ∧ m.testBit k = true := by simp [bitsOf]

theorem doorbellWrite_rings (d : Dev) (data : Word) : d.rings (doorbellWrite d data) (bitsOf 4 data.toNat) :=
  foldl_rings _ d (bitsOf_nodup 4 _)

/-- The DONE slots of a list become FREE (R115). -/
structure Dev.frees (d e : Dev) (l : List Nat) : Prop where
  only : e = { d with vst := { d.vst with st := e.vst.st } }
  slot : ∀ n, e.slot n = if n ∈ l ∧ d.slot n = 3 then 0 else d.slot n

theorem Dev.frees.order {d e : Dev} {l : List Nat} (h : d.frees e l) : e.vst.order = d.vst.order := by rw [h.only]
theorem Dev.frees.regs {d e : Dev} {l : List Nat} (h : d.frees e l) : e.regs = d.regs := by rw [h.only]
theorem Dev.frees.sameBytes {d e : Dev} {l : List Nat} (h : d.frees e l) : d.sameBytes e := by
  rw [h.only]
  exact ⟨fun _ => rfl, fun _ => rfl, fun _ => rfl⟩

theorem foldl_frees : ∀ (l : List Nat) (d : Dev),
    d.frees (l.foldl (fun d n => if d.slot n = 3 then d.setSlot n 0 else d) d) l
  | [], d => ⟨rfl, fun _ => by simp⟩
  | n :: l, d => by
    have h := foldl_frees l (if d.slot n = 3 then d.setSlot n 0 else d)
    rw [List.foldl_cons]
    by_cases hdone : d.slot n = 3
    · rw [if_pos hdone] at h ⊢
      refine ⟨by rw [h.only]; rfl, fun k => ?_⟩
      rw [h.slot, setSlot_slot]
      by_cases hk : k = n
      · subst hk; simp [hdone]
      · simp [hk]
    · rw [if_neg hdone] at h ⊢
      refine ⟨h.only, fun k => ?_⟩
      rw [h.slot]
      by_cases hk : k = n
      · subst hk; simp [hdone]
      · simp [hk]

/-! A command taken. -/

/-- The slot rung first is BUSY and no longer waits. -/
def slotTaken (d : Dev) (n : Nat) (r : List Nat) : Dev :=
  ({ d with vst := { d.vst with order := r } }.setSlot n 2).wr VST_FWSTAT.TAKEN n

theorem slotTaken_regs (d : Dev) (n : Nat) (r : List Nat) : Dev.sameRegs [VST_FWSTAT.addr] d (slotTaken d n r) :=
  Dev.sameRegs_wr _ VST_FWSTAT.TAKEN n (by decide)

theorem slotTaken_slot (d : Dev) (n : Nat) (r : List Nat) (k : Nat) :
    (slotTaken d n r).slot k = if k = n then 2 else d.slot k := setSlot_slot d n 2 k

theorem slotTaken_headerStatus (d : Dev) (n : Nat) (r : List Nat) (hn : n < 4) :
    (slotTaken d n r).headerStatus n = d.headerStatus n ∧ (slotTaken d n r).cmdOp n = d.cmdOp n := by
  have hcmd {o k : Nat} (hk : o + k ≤ 256) : (slotTaken d n r).cmdAt n o k = d.cmdAt n o k :=
    (slotTaken_regs d n r).cmdAt (sparesCommands_nil.cons (by decide)) hn hk
  have hserver : (slotTaken d n r).rd VST_FWSTAT.SERVER = d.rd VST_FWSTAT.SERVER :=
    Dev.wr_rd_below _ _ _ _ (by decide) (by decide) (by decide) (by decide) rfl
  refine ⟨?_, hcmd (by omega)⟩
  simp only [Dev.headerStatus, Dev.cmdOp, Dev.cmdLen, hserver, hcmd (show 0 + 1 ≤ 256 by omega),
    hcmd (show 4 + 2 ≤ 256 by omega), hcmd (show 9 + 1 ≤ 256 by omega), hcmd (show 1 + 1 ≤ 256 by omega),
    hcmd (show 6 + 2 ≤ 256 by omega)]
  rfl

/-- The statuses of a header that breaks a rule (R143). -/
theorem headerStatus_cases {d : Dev} {n st : Nat} (h : d.headerStatus n = some st) : 2 ≤ st ∧ st ≠ 0x0D := by
  simp only [Dev.headerStatus] at h
  split_ifs at h <;> · rw [Option.some.injEq] at h; omega

/-- What Wailith answers to a header that breaks a rule. -/
def headerOut (d : Dev) (n st : Nat) : List Byte := if st = 4 ∧ d.cmdOp n = 0x13 then parseOut 0 0 none else []

theorem headerOut_length (d : Dev) (n st : Nat) : (headerOut d n st).length ≤ 248 := by
  unfold headerOut
  split
  · decide
  · exact Nat.zero_le _

/-- Wailith takes the slot rung first where no command that is not deferred stands BUSY (R116). -/
theorem commandTake_takes (d : Dev) (n : Nat) (r : List Nat) (hn : n < 4) (hserver : d.rd VST_FWSTAT.SERVER ≠ 0)
    (hdoze : d.wl.dozeWait = none) (horder : d.vst.order = n :: r)
    (hbusy : ∀ k, k < 4 → d.slot k = 2 → vstDeferred (d.cmdOp k) = true) :
    commandTake d = (d.headerStatus n).elim (slotTaken d n r)
      (fun st => respond (slotTaken d n r) n st 0 (headerOut d n st) (vstDeferred (d.cmdOp n))) := by
  obtain ⟨hstatus, hop⟩ := slotTaken_headerStatus d n r hn
  have hidle : (List.range 4).any (fun k => d.slot k == 2 && !vstDeferred (d.cmdOp k)) = false := by
    simp only [List.any_eq_false, List.mem_range, Bool.and_eq_true, beq_iff_eq, Bool.not_eq_true', not_and,
      Bool.not_eq_false]
    exact hbusy
  rw [commandTake, if_neg (by simp [hserver, hdoze, hidle]), horder]
  simp only []
  rw [← slotTaken, hstatus, hop]
  cases d.headerStatus n <;> rfl

/-- The device with the response of its last access. -/
def answering (r : Resp × Dev) : Dev := { r.2 with resp := r.1 }

theorem exec_slotWrite (init slot word : Nat) (data : Word) (s : State) (hslot : slot < 4) (hword : word < 64)
    (hopen : s.dev.niOpen init = true) :
    exec (.vstCmdSlotWrite init slot word data) s = fin s (answering (slotWrite s.dev slot word data)) := by
  have hrow : exec (.vstCmdSlotWrite init slot word data) s =
      rowWrite init s (fun d => if slot < 4 ∧ word < 64 then slotWrite d slot word data else (.ok [], d)) := rfl
  rw [hrow, rowWrite_open _ _ _ hopen]
  simp only [if_pos (And.intro hslot hword)]
  rfl

/-- Settles O39, by the folds over the slots that a doorbell rings and that VST_DONE frees, and by what a command taken and a
response to its header leave. -/
theorem slotsPostTakeAndFree : Obligations.SlotsPostTakeAndFree := by
  intro init slot word n data s hf hcore hmode hslot hword hn
  have hopen (i : Nat) : s.dev.niOpen i = true := niOpen_core s.dev i hcore hmode
  have hexec := exec_slotWrite init slot word data s hslot hword (hopen init)
  have hbit : n ∈ bitsOf 4 data.toNat ↔ data.getLsbD n = true := by
    rw [mem_bitsOf]
    exact and_iff_right hn
  refine ⟨fun hfree => ?_, fun hbusy => ?_, ?_, ?_, fun r hserver hdoze horder hidle => ?_⟩
  · rw [slotWrite, if_pos hfree] at hexec
    exact completes_fin hexec hf ⟨s.dev.put_ld _ _, rfl, s.dev.sameRegs_put _ _ (by simp), fun _ => rfl, fun _ => rfl,
      fun _ => rfl⟩
  · rw [slotWrite, if_neg hbusy] at hexec
    exact completes_fin hexec hf ⟨rfl, s.dev.wr_rd VST_ERR.WRBUSY 1 (by decide) (by decide),
      s.dev.sameRegs_wr VST_ERR.WRBUSY 1 (by decide), fun _ => rfl, fun _ => rfl, fun _ => rfl⟩
  · have h := doorbellWrite_rings s.dev data
    refine completes_rowWrite (c := .vstDoorbell data) (init := 1) (f := fun d => (.ok [], doorbellWrite d data)) rfl
      (hopen 1) ((congrArg Dev.faults h.only).trans hf) ⟨?_, ?_, fun hd hs => h.ring (.inl ⟨n, hbit.2 hd, hs⟩), h.regs,
        h.sameBytes⟩
    · exact (h.slot n).trans (by simp only [hbit])
    · refine h.order.trans ?_
      rw [bitsOf, List.filter_filter]
      exact congrArg _ (List.filter_congr fun k _ => Bool.and_comm _ _)
  · have h : s.dev.frees (doneWrite s.dev data) (bitsOf 4 data.toNat) := foldl_frees _ _
    refine completes_rowWrite (c := .vstDoneWrite data) (init := 1) (f := fun d => (.ok [], doneWrite d data)) rfl
      (hopen 1) ((congrArg Dev.faults h.only).trans hf) ⟨(h.slot n).trans (by simp only [hbit]), h.order,
        Dev.sameRegs_of_regs h.regs [], h.sameBytes⟩
  · have htake := commandTake_takes s.dev n r hn hserver hdoze horder hidle
    have hregs := slotTaken_regs s.dev n r
    refine ⟨fun hstatus => ?_, fun st hstatus => ?_⟩ <;> rw [hstatus] at htake
    · refine completes_fin (congrArg (fin s) htake) hf ⟨?_, rfl, ?_, fun k hk => ?_, hregs, fun _ => rfl, fun _ => rfl, fun _ => rfl⟩
      · exact (slotTaken_slot s.dev n r n).trans (if_pos rfl)
      · refine (Dev.wr_rd _ VST_FWSTAT.TAKEN n (by decide) (by decide)).trans (Nat.mod_eq_of_lt ?_)
        exact lt_trans hn (by decide)
      · exact (slotTaken_slot s.dev n r k).trans (if_neg hk)
    · obtain ⟨h2, hD⟩ := headerStatus_cases hstatus
      have h := respond_replies (slotTaken s.dev n r) n st 0 (headerOut s.dev n st) (vstDeferred (s.dev.cmdOp n))
        (headerOut_length _ _ _)
      have hspare : sparesCommands [VST_FWSTAT.addr] := sparesCommands_nil.cons (by decide)
      refine completes_fin (congrArg (fin s) htake) (h.faults.trans hf)
        ⟨h.answered.before hregs hspare hn, h.order, ?_, ?_, ?_⟩
      · exact (respond_rejects _ n st 0 _ _ h2 hD).trans (by rw [hregs.rd VST_CNT.REJECT (by decide)])
      · exact (hregs.mono (by simp)).trans (h.regs.mono fun _ ha => List.mem_cons_of_mem _ ha)
      · exact h.sameBytes

end Sys2Proof.Machine
end


section
/-!
The statements of the Vestibule: the commands that only report (R121, R123, R132, R142).
-/

namespace Sys2Proof.Machine

/-! Parts of a command's bytes. -/

theorem wordBytes_eq_map (w : Word) : wordBytes w = (List.range 4).map (fun b => b8 (w.toNat / 256 ^ b)) :=
  leBytes_eq_map 4 w.toNat

/-- The bytes of consecutive words. -/
theorem flatMap_wordBytes (f : Nat → Word) (n : Nat) : (List.range n).flatMap (fun i => wordBytes (f i)) =
    (List.range (4 * n)).map (fun m => b8 ((f (m / 4)).toNat / 256 ^ (m % 4))) := by
  induction n with
  | zero => rfl
  | succ n ih =>
    rw [List.range_succ, List.flatMap_append, List.flatMap_singleton, ih, Nat.mul_succ, List.range_add, List.map_append,
      List.map_map, wordBytes_eq_map]
    refine congrArg _ (List.map_congr_left fun b hb => ?_)
    rw [List.mem_range] at hb
    rw [Function.comp_apply, show (4 * n + b) / 4 = n by omega, show (4 * n + b) % 4 = b by omega]

/-- Byte `m` of a command slot. -/
def Dev.cmdByte (d : Dev) (slot m : Nat) : Byte := b8 ((d.ld (VST_CMD.addr (64 * slot + m / 4))).toNat / 256 ^ (m % 4))

theorem cmdBytes_eq_map (d : Dev) (slot o k : Nat) :
    d.cmdBytes slot o k = (List.range k).map (fun i => d.cmdByte slot (o + i)) := by
  rw [Dev.cmdBytes, flatMap_wordBytes, sliceB_map_range _ _ _ _ (by omega)]
  refine List.map_congr_left fun i _ => ?_
  rw [Dev.cmdByte, show (o % 4 + i) / 4 = (o + i) / 4 - o / 4 by omega, show (o % 4 + i) % 4 = (o + i) % 4 by omega,
    show 64 * slot + o / 4 + ((o + i) / 4 - o / 4) = 64 * slot + (o + i) / 4 by omega]

theorem cmdBytes_add (d : Dev) (slot o m n : Nat) :
    d.cmdBytes slot o (m + n) = d.cmdBytes slot o m ++ d.cmdBytes slot (o + m) n := by
  simp only [cmdBytes_eq_map, List.range_add, List.map_append, List.map_map, Function.comp_def, Nat.add_assoc]

theorem leNat_append (xs ys : List Byte) : leNat (xs ++ ys) = leNat xs + 256 ^ xs.length * leNat ys := by
  induction xs with
  | nil => simp [leNat]
  | cons x r ih =>
    rw [List.cons_append, leNat, leNat, ih, List.length_cons, pow_succ]
    ring

theorem cmdAt_add (d : Dev) (slot o m n : Nat) :
    d.cmdAt slot o (m + n) = d.cmdAt slot o m + 256 ^ m * d.cmdAt slot (o + m) n := by
  rw [Dev.cmdAt, cmdBytes_add, leNat_append, cmdBytes_length, Dev.cmdAt, Dev.cmdAt]

/-- A number of the first `m` bytes leaves the rest zero. -/
theorem cmdAt_small {d : Dev} {slot o m n : Nat} (h : d.cmdAt slot o (m + n) < 256 ^ m) :
    d.cmdAt slot o m = d.cmdAt slot o (m + n) ∧ d.cmdAt slot (o + m) n = 0 := by
  have hadd := cmdAt_add d slot o m n
  have hzero : d.cmdAt slot (o + m) n = 0 := by
    by_contra hne
    have : 256 ^ m ≤ 256 ^ m * d.cmdAt slot (o + m) n := Nat.le_mul_of_pos_right _ (Nat.pos_of_ne_zero hne)
    omega
  rw [hzero] at hadd
  exact ⟨by omega, hzero⟩

/-! The bytes that GET_SERVICE answers (Table VST.8). -/

/-- The four codes of column states in one byte. -/
def colByte (d : Dev) (k : Nat) : Byte :=
  b8 ((List.range 4).foldl (fun m j => m + (d.svcOf (.col (4 * k + j))).code * 4 ^ j) 0)

/-- A part of the answer: `n` units of one type. -/
theorem part_at (f : Nat → Byte) (n k : Nat) (rest : List Byte) (h : k < n) :
    ((List.range n).map f ++ rest)[k]? = some (f k) := by
  rw [List.getElem?_append_left (by simpa using h), List.getElem?_map, List.getElem?_range h]
  rfl

/-- What follows that part. -/
theorem part_after (f : Nat → Byte) (n k : Nat) (rest : List Byte) : ((List.range n).map f ++ rest)[n + k]? = rest[k]? := by
  rw [List.getElem?_append_right (by simp)]
  simp

theorem serviceBytes_eq (d : Dev) : d.serviceBytes =
    (List.range 6).map (fun b => b8 (d.svcOf (.bank b)).code) ++ ((List.range 2).map (fun b => b8 (d.svcOf (.prog b)).code)
      ++ ((List.range 4).map (fun l => b8 (d.svcOf (.lane l)).code) ++ ((List.range 16).map (fun n => b8 (d.svcOf (.atb n)).code)
      ++ ((List.range 33).map (colByte d) ++ [0#8, 0#8, 0#8])))) := by
  simp only [← List.append_assoc]
  rfl

theorem serviceBytes_length (d : Dev) : d.serviceBytes.length = 64 := by simp [serviceBytes_eq]

theorem serviceBytes_bank (d : Dev) (k : Nat) (h : k < 6) : d.serviceBytes[k]? = some (b8 (d.svcOf (.bank k)).code) := by
  rw [serviceBytes_eq, part_at _ _ _ _ h]

theorem serviceBytes_prog (d : Dev) (k : Nat) (h : k < 2) : d.serviceBytes[6 + k]? = some (b8 (d.svcOf (.prog k)).code) := by
  rw [serviceBytes_eq, part_after, part_at _ _ _ _ h]

theorem serviceBytes_lane (d : Dev) (k : Nat) (h : k < 4) : d.serviceBytes[8 + k]? = some (b8 (d.svcOf (.lane k)).code) := by
  rw [serviceBytes_eq, show 8 + k = 6 + (2 + k) by omega, part_after, part_after, part_at _ _ _ _ h]

theorem serviceBytes_atb (d : Dev) (k : Nat) (h : k < 16) : d.serviceBytes[12 + k]? = some (b8 (d.svcOf (.atb k)).code) := by
  rw [serviceBytes_eq, show 12 + k = 6 + (2 + (4 + k)) by omega, part_after, part_after, part_after, part_at _ _ _ _ h]

theorem serviceBytes_col (d : Dev) (k : Nat) (h : k < 33) : d.serviceBytes[28 + k]? = some (colByte d k) := by
  rw [serviceBytes_eq, show 28 + k = 6 + (2 + (4 + (16 + k))) by omega, part_after, part_after, part_after, part_after,
    part_at _ _ _ _ h]

theorem leAt_one {bs : List Byte} {k : Nat} {b : Byte} (h : bs[k]? = some b) : leAt bs k 1 = b.toNat := by
  obtain ⟨hk, rfl⟩ := List.getElem?_eq_some_iff.1 h
  have hdrop : (bs.drop k).take 1 = [bs[k]] := by rw [List.drop_eq_getElem_cons hk]; rfl
  simp [leAt, sliceB, hdrop, leNat]

theorem Svc.code_lt (v : Svc) : v.code < 4 := by cases v <;> decide

theorem colByte_code (d : Dev) (k j : Nat) (hj : j < 4) :
    (colByte d k).toNat / 4 ^ j % 4 = (d.svcOf (.col (4 * k + j))).code := by
  have h0 := (d.svcOf (.col (4 * k + 0))).code_lt
  have h1 := (d.svcOf (.col (4 * k + 1))).code_lt
  have h2 := (d.svcOf (.col (4 * k + 2))).code_lt
  have h3 := (d.svcOf (.col (4 * k + 3))).code_lt
  have hsum : (colByte d k).toNat = (d.svcOf (.col (4 * k + 0))).code + 4 * (d.svcOf (.col (4 * k + 1))).code +
      16 * (d.svcOf (.col (4 * k + 2))).code + 64 * (d.svcOf (.col (4 * k + 3))).code := by
    have hr : List.range 4 = [0, 1, 2, 3] := by decide
    simp only [colByte, b8, hr, List.foldl, BitVec.toNat_ofNat]
    omega
  rw [hsum]
  interval_cases j <;> omega

/-- The states of all units, as their bytes show them. -/
theorem serviceBytes_col_code (d : Dev) (k : Nat) (h : k < 132) :
    leAt d.serviceBytes (28 + k / 4) 1 / 4 ^ (k % 4) % 4 = (d.svcOf (.col k)).code := by
  rw [leAt_one (serviceBytes_col d (k / 4) (by omega)), colByte_code d _ _ (by omega), show 4 * (k / 4) + k % 4 = k by omega]

/-! Fields of SYS_INTEG as the configuration commands name them. -/

/-- SYS_INTEG.LIMIT as a named field. -/
def limitField : CfgField := { addr := SYS_INTEG.addr, spec := ⟨15, 8, .tw, 16, .range 1 255, false⟩ }

theorem cfgField_limit : cfgField 0 0x168 0 = some limitField := by decide

theorem cfgField_count : cfgField 0 0x160 0 = none := by decide

/-- The sub-header of one entry of the SYS block (Table VST.10). -/
theorem oneEntry {d : Dev} {slot : Nat} (h : d.cmdBytes slot 8 8 = 0#8 :: 1#8 :: List.replicate 6 0#8) (most : Nat)
    (hmost : 1 ≤ most) : d.cmdAt slot 8 1 = 0 ∧ d.cmdAt slot 9 1 = 1 ∧ d.cfgHeadBad slot most = false := by
  have h1 := cmdBytes_add d slot 8 1 7
  have h2 := cmdBytes_add d slot 9 1 6
  have hb : d.cmdBytes slot 8 1 = [0#8] := by
    have := congrArg (List.take 1) (h1.symm.trans h)
    rwa [List.take_left' (cmdBytes_length _ _ _ _)] at this
  have hr : d.cmdBytes slot 9 7 = 1#8 :: List.replicate 6 0#8 := by
    have := congrArg (List.drop 1) (h1.symm.trans h)
    rwa [List.drop_left' (cmdBytes_length _ _ _ _)] at this
  have hn : d.cmdBytes slot 9 1 = [1#8] := by
    have := congrArg (List.take 1) (h2.symm.trans hr)
    rwa [List.take_left' (cmdBytes_length _ _ _ _)] at this
  have hz : d.cmdBytes slot 10 6 = List.replicate 6 0#8 := by
    have := congrArg (List.drop 1) (h2.symm.trans hr)
    rwa [List.drop_left' (cmdBytes_length _ _ _ _)] at this
  have hcount : d.cmdAt slot 9 1 = 1 := by rw [Dev.cmdAt, hn]; decide
  refine ⟨by rw [Dev.cmdAt, hb]; decide, hcount, ?_⟩
  rw [Dev.cfgHeadBad, hcount, Dev.cmdAt, hz]
  simp [leNat]
  omega

/-- The structural pass over one entry of the SYS block (R136); an entry takes `n` bytes. -/
theorem cfgStruct_one {d : Dev} {slot n fid : Nat} (hblock : d.cmdAt slot 8 1 = 0) (hcount : d.cmdAt slot 9 1 = 1)
    (hfid : d.cmdAt slot 16 4 = fid) (hlt : fid < 2 ^ 16) :
    d.cfgFid slot n 0 = fid ∧
      d.cfgStruct slot n = (cfgField 0 fid 0).elim (.error 0) (fun f => .ok [f]) := by
  obtain ⟨hlow, hres⟩ := cmdAt_small (d := d) (slot := slot) (o := 16) (m := 2) (n := 2) (by rw [hfid]; exact hlt)
  rw [hfid] at hlow
  have hf : d.cfgFid slot n 0 = fid := by rw [Dev.cfgFid, Nat.mul_zero]; exact hlow
  refine ⟨hf, ?_⟩
  have hr : List.range 1 = [0] := rfl
  rw [Dev.cfgStruct, hblock, hcount]
  simp only [hr, List.foldl, hf, Nat.mul_zero, Nat.add_zero, hres, show cfgBlockOk 0 = true by decide, Bool.not_true,
    Bool.false_eq_true, if_false, List.range_zero, List.any_nil, List.nil_append]
  cases cfgField 0 fid 0 <;> rfl

/-! A read of SYS_INTEG. -/

theorem specOf_integ : ∃ r, specOf SYS_INTEG.addr = some r ∧ r.isTwin = true ∧ r.twMask = 0xFF00#32 ∧
    r.bitsWhere (fun f => f.acc == .rc) = 0#32 ∧ r.bitsWhere (fun f => f.acc != .wo) = 0xFFFF#32 :=
  ⟨_, rfl, by decide, by decide, by decide, by decide⟩

theorem readClear_integ (d : Dev) (incs : Word) : readClear d SYS_INTEG.addr incs = d := by
  obtain ⟨r, hr, -, -, hrc, -⟩ := specOf_integ
  simp only [readClear, hr, hrc, if_true]

theorem view_integ (d : Dev) : d.view SYS_INTEG.addr = d.ld SYS_INTEG.addr &&& 0xFFFF#32 := by
  obtain ⟨r, hr, -, -, -, hread⟩ := specOf_integ
  have hplain : d.plain SYS_INTEG.addr = d.ld SYS_INTEG.addr &&& 0xFFFF#32 := by simp only [Dev.plain, hr, hread]
  exact hplain

theorem regRead_integ (d : Dev) (h : d.twinOk SYS_INTEG.addr = true) :
    regRead d 0 0 SYS_INTEG.addr 0#32 = (.ok (wordBytes (d.view SYS_INTEG.addr)), d) := by
  have htwin : twinBase SYS_INTEG.addr = some SYS_INTEG.addr := by decide
  have hforeign : nwlForeign 0 0 SYS_INTEG.addr = false := by decide
  rw [regRead, regRefused_servedAlways d SYS_INTEG.addr (by decide)]
  simp only [hforeign, htwin, h, if_true, Bool.false_eq_true, if_false, readClear_integ]

theorem fld_low16 (w : Word) (hi lo : Nat) (hhi : hi < 16) : fld (w &&& 0xFFFF#32) hi lo = fld w hi lo :=
  fld_congr fun i _ hi' => by
    have hbit : (0xFFFF#32).getLsbD i = true := by
      rw [show (0xFFFF#32) = maskOf 15 0 by decide, maskOf_getLsbD 15 0 i (by decide)]
      simp only [decide_eq_true_eq]
      omega
    rw [BitVec.getLsbD_and, hbit, Bool.and_true]

theorem w32_leNat_wordBytes (w : Word) : w32 (leNat (wordBytes w)) = w := by
  refine BitVec.eq_of_toNat_eq ?_
  have hw := w.isLt
  rw [w32_toNat, wordBytes, leNat_leBytes, Nat.mod_mod_of_dvd _ (by norm_num)]
  exact Nat.mod_eq_of_lt hw

/-- The value of SYS_INTEG.LIMIT as a read shows it. -/
theorem limit_read (d : Dev) :
    fld (w32 (leNat (wordBytes (d.view SYS_INTEG.addr)))) limitField.spec.hi limitField.spec.lo = d.rd SYS_INTEG.LIMIT := by
  rw [w32_leNat_wordBytes, view_integ]
  exact fld_low16 _ _ _ (by decide)

theorem cfgReads_limit (d : Dev) (h : d.twinOk SYS_INTEG.addr = true) :
    cfgReads d [limitField] = (some [d.rd SYS_INTEG.LIMIT], d) := by
  have hread : regRead d 0 0 limitField.addr 0#32 = (.ok (wordBytes (d.view SYS_INTEG.addr)), d) := regRead_integ d h
  simp only [cfgReads, hread, limit_read]

/-- GET_CONFIG of SYS_INTEG.LIMIT alone. -/
theorem vstGetConfig_limit {d : Dev} {slot : Nat} (hhead : d.cmdBytes slot 8 8 = 0#8 :: 1#8 :: List.replicate 6 0#8)
    (hfid : d.cmdAt slot 16 4 = 0x168) (h : d.twinOk SYS_INTEG.addr = true) :
    vstGetConfig d slot = respond d slot 0 0 (0#8 :: 1#8 :: List.replicate 6 0#8 ++ leBytes 4 0x168 ++
      leBytes 4 (d.rd SYS_INTEG.LIMIT)) false := by
  obtain ⟨hblock, hcount, hok⟩ := oneEntry hhead 30 (by omega)
  obtain ⟨hname, hstruct⟩ := cfgStruct_one (n := 4) hblock hcount hfid (by decide)
  rw [cfgField_limit, Option.elim_some] at hstruct
  rw [vstGetConfig, hok, hstruct]
  simp only [cfgReads_limit d h, List.length_singleton, List.range_one, List.flatMap_singleton, hname,
    Bool.false_eq_true, if_false]
  rfl

/-- GET_CONFIG of an entry that names no field. -/
theorem vstGetConfig_none {d : Dev} {slot : Nat} (hhead : d.cmdBytes slot 8 8 = 0#8 :: 1#8 :: List.replicate 6 0#8)
    (hfid : d.cmdAt slot 16 4 = 0x160) :
    vstGetConfig d slot = respond d slot 4 0 (0xFF#8 :: List.replicate 7 0#8) false := by
  obtain ⟨hblock, hcount, hok⟩ := oneEntry hhead 30 (by omega)
  obtain ⟨-, hstruct⟩ := cfgStruct_one (n := 4) hblock hcount hfid (by decide)
  have hout : cfgFailOut 0 = 0xFF#8 :: List.replicate 7 0#8 := by decide
  rw [cfgField_count, Option.elim_none] at hstruct
  rw [vstGetConfig, hok, hstruct]
  simp only [hout, Bool.false_eq_true, if_false]

theorem vstLogStatus_sealed {d : Dev} {slot last : Nat} (h : d.wl.logSealed = some last) :
    vstLogStatus d slot = respond d slot 0 0 (leBytes 4 (if d.wl.logOff < 0xF0000 then d.wl.logOff else 0x1000) ++
      leBytes 4 d.wl.logIndex ++ leBytes 4 last ++ leBytes 4 d.wl.logOpen) false := by
  have hoff : (if logEnd ≤ d.wl.logOff then logBase else d.wl.logOff) =
      if d.wl.logOff < 0xF0000 then d.wl.logOff else 0x1000 := by
    have hend : logEnd = 0xF0000 := by decide
    simp only [hend, ← Nat.not_lt, ite_not]
    rfl
  simp only [vstLogStatus, h, hoff, Option.getD_some, Option.isNone_some, Bool.false_eq_true, if_false]

/-- Settles O40, since each of the commands ends in one response. -/
theorem reportingCommandsAnswer : Obligations.ReportingCommandsAnswer := by
  intro slot k s hf _ quietly
  have hquiet {status evseq : Nat} {pl : List Byte} {e : Dev} (h : s.dev.replies e slot status evseq pl) :
      quietly { s with dev := e } := ⟨h.regs, h.sameBytes, h.evq, h.svc⟩
  have hresp (evseq status : Nat) (pl : List Byte) (hpl : pl.length ≤ 248) :=
    respond_replies s.dev slot status evseq pl false hpl
  refine ⟨fun h => ?_, fun h => ?_, fun h => ?_, fun h => ?_, fun last h hlast => ?_, fun h hhead => ⟨fun hfid hok => ?_,
    fun hfid => ?_⟩⟩
  · exact completes_reply (f := (vstNop · slot)) rfl h hf (hresp 0 0 _ (payload_length _ _))
      fun e he => ⟨he.answered, hquiet he⟩
  · exact completes_reply (f := (vstGetInfo · slot)) rfl h hf (hresp 0 0 _ (by simp [wordBytes_length]))
      fun e he => ⟨he.answered, hquiet he⟩
  · refine completes_reply (f := (vstGetService · slot)) rfl h hf (hresp 0 0 _ (by rw [serviceBytes_length]; decide))
      fun e he => ⟨⟨_, he.answered, serviceBytes_length _, ?_⟩, hquiet he⟩
    exact ⟨serviceBytes_bank _ _, serviceBytes_prog _ _, serviceBytes_lane _ _, serviceBytes_atb _ _,
      serviceBytes_col_code _ _⟩
  · exact completes_reply (f := (vstParseStatus · slot)) rfl h hf (hresp 0 0 _ (by simp))
      fun e he => ⟨he.answered, hquiet he⟩
  · refine completes_reply (f := (vstLogStatus · slot)) rfl h hf ?_ fun e he => ⟨he.answered, hquiet he⟩
    rw [vstLogStatus_sealed hlast]
    exact hresp 0 0 _ (by simp)
  · refine completes_reply (f := (vstGetConfig · slot)) rfl h hf ?_ fun e he => ⟨he.answered, hquiet he⟩
    rw [vstGetConfig_limit hhead hfid hok]
    exact hresp 0 0 _ (by simp)
  · refine completes_reply (f := (vstGetConfig · slot)) rfl h hf ?_ fun e he => ⟨he.answered, hquiet he⟩
    rw [vstGetConfig_none hhead hfid]
    exact hresp 0 4 _ (by simp)

end Sys2Proof.Machine
end


section
/-!
The statements of the Vestibule: SET_CONFIG of SYS_INTEG.LIMIT (R135 to R141), with lock 0 and the twin protocol of the
field.
-/

namespace Sys2Proof.Machine

/-! Lock 0. -/

theorem Dev.setHolder_same (d : Dev) (n h : Nat) : (d.setHolder n h).holder n = h := tget_tset_same (fun _ => 0) d.holders n h

theorem nwlAcquire_free {d : Dev} (h : d.holder 0 = 0) (ho : d.orphan 0 = false) :
    nwlAcquire d 1 0 = (0x80000001#32, d.setHolder 0 1) := by
  have hmine : (d.setHolder 0 1).holder 0 = 1 := d.setHolder_same 0 1
  have horphan : (d.setHolder 0 1).orphan 0 = false := ho
  have hword : (d.setHolder 0 1).acqWord 0 true false = 0x80000001#32 := by
    simp only [Dev.acqWord, hmine, horphan]
    decide
  simp only [nwlAcquire, h, if_true, hword]

theorem nwlAcquire_taken {d : Dev} {h : Nat} (hh : d.holder 0 = h) (h2 : 2 ≤ h) (hlt : h < 16) :
    (nwlAcquire d 1 0).1.getLsbD 31 = false ∧ (nwlAcquire d 1 0).2 = d.bump NWL_CNT.DENIED 1 := by
  rw [nwlAcquire, if_neg (by omega), if_neg (by omega)]
  refine ⟨?_, rfl⟩
  rw [Dev.acqWord, hh]
  have hodd : w32 (2 ^ 31 * bit false + 2 ^ 30 * bit (d.orphan 0) + 2 ^ 29 * bit false + h % 16) =
      w32 (2 ^ 30 * bit (d.orphan 0) + h) := by simp [bit, Nat.mod_eq_of_lt hlt]
  have hb : bit (d.orphan 0) ≤ 1 := by cases d.orphan 0 <;> decide
  rw [hodd, w32, BitVec.getLsbD_ofNat, Nat.testBit_lt_two_pow (by omega), Bool.and_false]

/-- Wailith lets lock 0 go. -/
def lockFreed (d : Dev) : Dev := d.setHolder 0 0

theorem cfgUnlock_held {d : Dev} (h : d.holder 0 = 1) : cfgUnlock d false = lockFreed d := by
  rw [cfgUnlock, nwlRelease, if_neg Bool.false_ne_true, if_pos h]
  rfl

/-! The twin protocol of SYS_INTEG. -/

theorem pendOf_noted {d : Dev} {b : Nat} {p : TwinPend} (h : d.pendOf b = none) (hb : blockOf p.addr = b) :
    (d.twin ++ [p]).find? (fun q => blockOf q.addr == b) = some p := by
  have hnone : d.twin.find? (fun q => blockOf q.addr == b) = none := h
  simp [List.find?_append, hnone, hb]

/-- The value of SYS_INTEG waits for its complement. -/
def integValued (d : Dev) (v : Word) : Dev := { d with twin := d.twin ++ [{ addr := SYS_INTEG.addr, data := v, at_ := d.now }] }

theorem twinValue_integ {d : Dev} (h : d.pendOf 0 = none) (v : Word) : twinValue d SYS_INTEG.addr v = integValued d v := by
  have hb : blockOf SYS_INTEG.addr = 0 := by decide
  simp only [twinValue, twinExpired, hb, h]
  rfl

/-- The complement has come: a cycle later, nothing waits in the block. -/
def integMet (d : Dev) : Dev :=
  { d with now := max d.now (d.now + 1), twin := d.twin.filter (fun q => blockOf q.addr != 0) }

/-- SYS_INTEG.LIMIT has been written by the twin protocol. -/
def integWritten (d : Dev) (v : Word) : Dev := (integMet d).putTwin SYS_INTEG.addr v

theorem twinApply_integ (d : Dev) (v : Word) : twinApply d SYS_INTEG.addr v = d.putTwin SYS_INTEG.addr v := by
  have hforced : twinForced SYS_INTEG.addr v = v := if_neg (by decide)
  rw [twinApply, hforced, twinHook, if_neg (by decide), if_neg (by decide), if_neg (by decide), if_neg (by decide),
    if_neg (by decide), if_neg (by decide), if_neg (by decide), if_neg (by decide)]

theorem twinComplement_integ {d : Dev} (h : d.pendOf 0 = none) (v : Word) :
    twinComplement (integValued d v) SYS_INTEG.addr (~~~v) = integWritten d v := by
  have hb : blockOf SYS_INTEG.addr = 0 := by decide
  have hpend : (integValued d v).pendOf 0 = some { addr := SYS_INTEG.addr, data := v, at_ := d.now } :=
    pendOf_noted (p := { addr := SYS_INTEG.addr, data := v, at_ := d.now }) h hb
  have hexp : twinExpired (integValued d v) 0 = integValued d v := by
    simp only [twinExpired, hpend]
    exact if_neg (by simp [integValued])
  obtain ⟨r, hr, -⟩ := specOf_integ
  have hmet : { (integValued d v).until (d.now + 1) with
      twin := (integValued d v).twin.filter (fun q => blockOf q.addr != 0) } = integMet d := by
    simp [integValued, Dev.until, integMet, hb]
  simp only [twinComplement, hb, hexp, hpend, hr, hmet, ne_eq, not_true_eq_false, if_false, if_true]
  exact twinApply_integ _ _

theorem regWriteAny_integValue {d : Dev} (h : d.pendOf 0 = none) (v : Word) :
    regWriteAny d 0 0 SYS_INTEG.addr v true = (.ok [], integValued d v) := by
  obtain ⟨r, hr, htwin, -⟩ := specOf_integ
  simp only [regWriteAny, Bool.true_and, show ((0 : Nat) == 0) = true from rfl, if_true,
    regRefused_servedAlways d SYS_INTEG.addr (by decide)]
  rw [twinWrite, if_neg (by decide), if_neg (by decide), if_neg (by rintro ⟨h, -⟩; revert h; decide), hr]
  simp only [htwin, if_true, twinValue_integ h]

theorem regWriteAny_integComplement {d : Dev} (h : d.pendOf 0 = none) (v : Word) :
    regWriteAny (integValued d v) 0 0 (SYS_INTEG.addr + 0x800) (~~~v) true = (.ok [], integWritten d v) := by
  have hspec : specOf (SYS_INTEG.addr + 0x800) = none := by decide
  obtain ⟨r, htwin⟩ : ∃ r, twinOf (SYS_INTEG.addr + 0x800) = some r := ⟨_, rfl⟩
  have haddr : SYS_INTEG.addr + 0x800 - 0x800 = SYS_INTEG.addr := Nat.add_sub_cancel _ _
  simp only [regWriteAny, Bool.true_and, show ((0 : Nat) == 0) = true from rfl, if_true,
    regRefused_servedAlways _ (SYS_INTEG.addr + 0x800) (by decide)]
  rw [twinWrite, if_neg (by decide), if_neg (by decide), if_neg (by rintro ⟨h, -⟩; revert h; decide), hspec]
  simp only [htwin, haddr, twinComplement_integ h]

section
variable (d : Dev) (v : Word)

theorem integWritten_regs : Dev.sameRegs [SYS_INTEG.addr, SYS_INTEG.addr + 0x800] d (integWritten d v) := fun a ha => by
  simp only [List.mem_cons, List.not_mem_nil, or_false, not_or] at ha
  exact (putTwin_ld_ne (integMet d) SYS_INTEG.addr a v ha.1 ha.2).trans rfl

theorem putTwin_onlyRegs (d : Dev) (a : Nat) (v : Word) : d.onlyRegs (d.putTwin a v) := by
  unfold Dev.putTwin
  cases specOf a with
  | none => exact d.onlyRegs_refl
  | some r => exact (d.onlyRegs_put _ _).trans (Dev.onlyRegs_put _ _ _)

theorem integWritten_only :
    integWritten d v = { d with regs := (integWritten d v).regs, now := (integWritten d v).now, twin := (integWritten d v).twin } := by
  have h := putTwin_onlyRegs (integMet d) SYS_INTEG.addr v
  rw [integWritten, h]
  rfl

theorem integWritten_ld : (integWritten d v).ld SYS_INTEG.addr = mergeBits (maskOf 15 8) (d.ld SYS_INTEG.addr) v := by
  obtain ⟨r, hr, -, hm, -⟩ := specOf_integ
  have h := putTwin_ld (integMet d) SYS_INTEG.addr v r hr
  rw [hm] at h
  exact h

theorem integWritten_ok : (integWritten d v).twinOk SYS_INTEG.addr = true := putTwin_ok _ _ _

/-- A value of LIMIT stands in its field. -/
theorem integWritten_limit (w : Nat) (hw : w < 256) : (integWritten d (w32 (w * 2 ^ 8))).rd SYS_INTEG.LIMIT = w := by
  have h : fld (w32 (w * 2 ^ 8)) 15 8 = w := by
    rw [fld, w32_toNat]
    omega
  rw [Dev.rd, show SYS_INTEG.LIMIT.addr = SYS_INTEG.addr from rfl, integWritten_ld]
  exact (fld_mergeBits _ _ 15 8 (by decide)).trans h

theorem integWritten_count : (integWritten d v).rd SYS_INTEG.COUNT = d.rd SYS_INTEG.COUNT := by
  rw [Dev.rd, show SYS_INTEG.COUNT.addr = SYS_INTEG.addr from rfl, integWritten_ld]
  exact fld_mergeBits_other _ _ 15 8 7 0 (by decide) (by decide)

end

/-! SET_CONFIG of the field. -/

theorem cfgWriteTwin_limit {d : Dev} {r : RegSpec} (hr : r.twMask = 0xFF00#32) (h : d.pendOf 0 = none) (w : Nat)
    (hw : w < 256) : cfgWriteTwin d limitField r w = (none, integWritten d (w32 (w * 2 ^ 8))) := by
  have hothers : r.twMask &&& ~~~(maskOf limitField.spec.hi limitField.spec.lo) = 0#32 := by rw [hr]; decide
  have hv : (w32 (leNat (wordBytes 0#32)) &&& 0#32) ||| w32 (w * 2 ^ 8) = w32 (w * 2 ^ 8) := by simp
  have haddr : limitField.addr = SYS_INTEG.addr := rfl
  have hlo : limitField.spec.lo = 8 := rfl
  have hread := regRead_integ (integWritten d (w32 (w * 2 ^ 8))) (integWritten_ok _ _)
  have hval := limit_read (integWritten d (w32 (w * 2 ^ 8)))
  rw [integWritten_limit _ _ hw] at hval
  rw [hlo] at hval hothers
  simp only [cfgWriteTwin, hothers, if_true, haddr, hlo, hv, regWriteAny_integValue h, regWriteAny_integComplement h, hread,
    hval]

theorem cfgApply_limit {d : Dev} (h : d.pendOf 0 = none) (w : Nat) (hw : w < 256) :
    cfgApply d [(limitField, w)] 0 = (1, none, integWritten d (w32 (w * 2 ^ 8))) := by
  obtain ⟨r, hr, -, hm, -⟩ := specOf_integ
  have hspec : specOf limitField.addr = some r := hr
  have hacc : limitField.spec.acc = .tw := rfl
  simp only [cfgApply, cfgWrite1, hspec, hacc, if_true, cfgWriteTwin_limit hm h w hw]

/-- The value that the range pass of LIMIT gives (log entry 59). -/
def limitHeld (v : Nat) : Nat := clampTo 1 255 v

theorem limitHeld_eq (v : Nat) : limitHeld v = if v < 1 then 1 else if 255 < v then 255 else v := rfl

theorem limitHeld_lt (v : Nat) : limitHeld v < 256 := by
  rw [limitHeld_eq]
  split_ifs <;> omega

theorem cfgLimit_limit (d : Dev) (v : Nat) : d.cfgLimit limitField v = limitHeld v := by
  rw [Dev.cfgLimit, if_neg (by decide), if_neg (by decide)]
  rfl

theorem cfgRange_limit (d : Dev) (v : Nat) : d.cfgRange limitField v = (limitHeld v, limitHeld v != v) := by
  have hw := limitHeld_lt v
  have hforced (x : Word) : twinForced limitField.addr x = x := if_neg (by decide)
  have hfld : fld (w32 (limitHeld v * 2 ^ 8)) 15 8 = limitHeld v := by
    rw [fld, w32_toNat]
    omega
  simp only [Dev.cfgRange, cfgLimit_limit, hforced]
  exact Prod.ext hfld rfl

/-- The entry of LIMIT as the range pass leaves it. -/
def limitEntry (v : Nat) : Nat × Nat × Nat × Bool := (0x168, v, limitHeld v, limitHeld v != v)

/-- The status of the response: OK, or OK_CLAMPED. -/
def limitStatus (v : Nat) : Nat := if ([limitEntry v].filter (fun e => e.2.2.2)).length = 0 then 0 else 1

/-- The payload of the response. -/
def limitOut (v : Nat) : List Byte :=
  [b8 ([limitEntry v].filter (fun e => e.2.2.2)).length, b8 1] ++ List.replicate 6 0#8 ++ cfgReport [limitEntry v]

theorem limitOut_length (v : Nat) : (limitOut v).length ≤ 248 := by
  cases h : limitHeld v != v <;> simp [limitOut, cfgReport, limitEntry, h]

theorem cfgRun_limit {d : Dev} {slot v : Nat} (hpend : d.pendOf 0 = none) (hheld : d.holder 0 = 1)
    (hflags : d.cmdAt slot 1 1 = 0) (hfid : d.cfgFid slot 8 0 = 0x168) (hval : d.cmdAt slot 20 4 = v) :
    cfgRun d slot [limitField] false =
      respondLogged (lockFreed (integWritten d (w32 (limitHeld v * 2 ^ 8)))) slot (limitStatus v) (limitOut v) false
        ((lockFreed (integWritten d (w32 (limitHeld v * 2 ^ 8)))).cfgRecord slot [limitEntry v]) := by
  have hunlock : cfgUnlock (integWritten d (w32 (limitHeld v * 2 ^ 8))) false = lockFreed (integWritten d (w32 (limitHeld v * 2 ^ 8))) :=
    cfgUnlock_held (by rw [Dev.holder, integWritten_only]; exact hheld)
  have happly := cfgApply_limit hpend (limitHeld v) (limitHeld_lt v)
  rw [cfgRun]
  simp only [List.length_singleton, List.range_one, List.map_cons, List.map_nil, List.getElem?_cons_zero, Nat.mul_zero,
    Nat.add_zero, hfid, hval, cfgRange_limit, hflags, Nat.zero_testBit, Bool.false_eq_true, and_false, if_false,
    List.zip_cons_cons, List.zip_nil_right, happly, hunlock]
  rfl

/-- A value in range is not clamped. -/
theorem limitOut_kept {v : Nat} (h1 : 1 ≤ v) (h2 : v ≤ 255) :
    limitStatus v = 0 ∧ limitOut v = 0#8 :: 1#8 :: List.replicate 6 0#8 := by
  have hheld : limitHeld v = v := by rw [limitHeld_eq, if_neg (by omega), if_neg (by omega)]
  simp [limitStatus, limitOut, limitEntry, hheld, cfgReport]

/-- A request of 0 is held to 1. -/
theorem limitStatus_of_zero {v : Nat} (h : v = 0) : limitStatus v = 1 := by
  subst h
  decide

theorem limitOut_of_zero {v : Nat} (h : v = 0) :
    limitOut v = 1#8 :: 1#8 :: List.replicate 6 0#8 ++ leBytes 4 0x168 ++ leBytes 4 0 ++ leBytes 4 1 := by
  subst h
  decide

/-- The lock taken for SET_CONFIG. -/
def cfgLocked (d : Dev) : Dev := { d.setHolder 0 1 with wl := { (d.setHolder 0 1).wl with cfgSlot := none } }

/-- The device before the response of SET_CONFIG of LIMIT: the value stands in the register and lock 0 is free. -/
def limitSet (d : Dev) (v : Nat) : Dev := lockFreed (integWritten (cfgLocked d) (w32 (limitHeld v * 2 ^ 8)))

section
variable (d : Dev) (v : Nat)

theorem limitSet_regs : Dev.sameRegs [SYS_INTEG.addr, SYS_INTEG.addr + 0x800] d (limitSet d v) :=
  integWritten_regs (cfgLocked d) _

theorem limitSet_only : limitSet d v =
    { d with regs := (limitSet d v).regs, now := (limitSet d v).now, twin := (limitSet d v).twin,
             holders := (limitSet d v).holders, wl := { d.wl with cfgSlot := none } } := by
  rw [limitSet, integWritten_only]
  rfl

theorem limitSet_holder : (limitSet d v).holder 0 = 0 := Dev.setHolder_same _ _ _

theorem limitSet_limit : (limitSet d v).rd SYS_INTEG.LIMIT = limitHeld v := integWritten_limit _ _ (limitHeld_lt v)

theorem limitSet_count : (limitSet d v).rd SYS_INTEG.COUNT = d.rd SYS_INTEG.COUNT := integWritten_count (cfgLocked d) _

theorem limitSet_ok : (limitSet d v).twinOk SYS_INTEG.addr = true := integWritten_ok _ _

end

/-- One entry of SET_CONFIG, with no flags. -/
structure Dev.oneField (d : Dev) (slot fid v : Nat) : Prop where
  serves : d.serves slot 0x40
  flags : d.cmdAt slot 1 1 = 0
  head : d.cmdBytes slot 8 8 = 0#8 :: 1#8 :: List.replicate 6 0#8
  value : d.cmdAt slot 20 4 = v
  name : d.cmdAt slot 16 4 = fid

/-- The start of the wait for lock 0 (R141). -/
def cfgSince (d : Dev) (slot : Nat) : Nat := d.wl.cfgSlot.elim d.now fun e => if e.1 = slot then e.2 else d.now

/-- Another holder has lock 0: the command waits. -/
def cfgWaits (d : Dev) (slot : Nat) : Dev :=
  { d.bump NWL_CNT.DENIED 1 with wl := { (d.bump NWL_CNT.DENIED 1).wl with cfgSlot := some (slot, cfgSince d slot) } }

section
variable {d : Dev} {slot v : Nat}

theorem vstSetConfig_acquire (h : d.oneField slot 0x168 v) : vstSetConfig d slot =
    if (nwlAcquire d 1 0).1.getLsbD 31 then
      cfgRun { (nwlAcquire d 1 0).2 with wl := { (nwlAcquire d 1 0).2.wl with cfgSlot := none } } slot [limitField]
        ((nwlAcquire d 1 0).1.getLsbD 30)
    else { (nwlAcquire d 1 0).2 with wl := { (nwlAcquire d 1 0).2.wl with cfgSlot := some (slot, cfgSince d slot) } } := by
  obtain ⟨hblock, hcount, hok⟩ := oneEntry h.head 20 (by omega)
  obtain ⟨-, hstruct⟩ := cfgStruct_one (n := 8) hblock hcount h.name (by decide)
  rw [cfgField_limit, Option.elim_some] at hstruct
  rw [vstSetConfig, hok, hstruct]
  simp only [hblock, Bool.false_eq_true, if_false, Nat.zero_ne_add_one, false_and, or_self, cfgSince]
  cases d.wl.cfgSlot <;> rfl

theorem vstSetConfig_limit (h : d.oneField slot 0x168 v) (hfree : d.holder 0 = 0) (horphan : d.orphan 0 = false)
    (hpend : d.pendOf 0 = none) :
    ∃ rec, vstSetConfig d slot = respondLogged (limitSet d v) slot (limitStatus v) (limitOut v) false rec := by
  have hfid : (cfgLocked d).cfgFid slot 8 0 = 0x168 := by
    have hsmall := (cmdAt_small (d := d) (slot := slot) (o := 16) (m := 2) (n := 2) (by rw [h.name]; decide)).1
    exact hsmall.trans h.name
  have hpend' : (cfgLocked d).pendOf 0 = none := hpend
  have hheld : (cfgLocked d).holder 0 = 1 := d.setHolder_same 0 1
  have hflags : (cfgLocked d).cmdAt slot 1 1 = 0 := h.flags
  have hvalue : (cfgLocked d).cmdAt slot 20 4 = v := h.value
  have hword : (0x80000001#32).getLsbD 31 = true ∧ (0x80000001#32).getLsbD 30 = false := by decide
  refine ⟨_, Eq.trans ?_ (cfgRun_limit hpend' hheld hflags hfid hvalue)⟩
  simp only [vstSetConfig_acquire h, nwlAcquire_free hfree horphan, hword, if_true, cfgLocked]

theorem vstSetConfig_waits {k : Nat} (h : d.oneField slot 0x168 v) (hk : d.holder 0 = k) (h2 : 2 ≤ k) (hlt : k < 16) :
    vstSetConfig d slot = cfgWaits d slot := by
  obtain ⟨hdenied, hbump⟩ := nwlAcquire_taken hk h2 hlt
  rw [vstSetConfig_acquire h, hdenied, hbump, if_neg Bool.false_ne_true]
  rfl

theorem vstSetConfig_none (h : d.oneField slot 0x160 v) :
    vstSetConfig d slot = respond d slot 4 0 (0xFF#8 :: List.replicate 7 0#8) false := by
  obtain ⟨hblock, hcount, hok⟩ := oneEntry h.head 20 (by omega)
  obtain ⟨-, hstruct⟩ := cfgStruct_one (n := 8) hblock hcount h.name (by decide)
  have hout : cfgFailOut 0 = 0xFF#8 :: List.replicate 7 0#8 := by decide
  rw [cfgField_count, Option.elim_none] at hstruct
  rw [vstSetConfig, hok, hstruct]
  simp only [hout, Bool.false_eq_true, if_false]

theorem cfgSince_cases (d : Dev) (slot : Nat) :
    d.wl.cfgSlot = some (slot, cfgSince d slot) ∨ cfgSince d slot = d.now := by
  unfold cfgSince
  cases h : d.wl.cfgSlot with
  | none => exact .inr rfl
  | some e =>
    by_cases he : e.1 = slot
    · exact .inl (by simp [← he])
    · exact .inr (by simp [he])

/-- The device when the time for lock 0 has run out (R141). -/
def cfgGivenUp (d : Dev) (since : Nat) : Dev :=
  { d.until (100000 + since) with wl := { (d.until (100000 + since)).wl with cfgSlot := none } }

theorem cfgTimeout_ends {since : Nat} (hwait : d.wl.cfgSlot = some (slot, since)) (hbusy : d.slot slot = 2)
    (hheld : 2 ≤ d.holder 0) : cfgTimeout d slot = respond (cfgGivenUp d since) slot 8 0 [] false := by
  rw [cfgTimeout, hwait]
  simp only [hbusy, true_and]
  exact if_pos ⟨by omega, by omega⟩

end

/-- What SET_CONFIG of LIMIT leaves once it has been answered. -/
structure Dev.limitDone (d e : Dev) (slot v : Nat) : Prop where
  faults : e.faults = d.faults
  limit : e.rd SYS_INTEG.LIMIT = limitHeld v
  count : e.rd SYS_INTEG.COUNT = d.rd SYS_INTEG.COUNT
  ok : e.twinOk SYS_INTEG.addr = true
  holder : e.holder 0 = 0
  orphan : e.orphan 0 = d.orphan 0
  answered : d.answered e slot (limitStatus v) (d.rd EVQ_NEXTSEQ.SEQ) (limitOut v)
  sameBytes : d.sameBytes e

theorem limitSet_logs {d : Dev} {slot v : Nat} (h : d.oneField slot 0x168 v) (hroom : d.evq.length < 240) (rec : List Byte) :
    ∃ c, (limitSet d v).logs (respondLogged (limitSet d v) slot (limitStatus v) (limitOut v) false rec) slot (limitStatus v)
      (limitOut v) c := by
  obtain ⟨hslot, -, -, hserver, -⟩ := h.serves
  refine respondLogged_logs _ slot _ _ false rec hslot (limitOut_length v) ?_ ?_
  · rw [limitSet_only]
    exact hroom
  · rw [(limitSet_regs d v).rd VST_FWSTAT.SERVER (by decide), hserver]
    decide

theorem sparesCommands_integ : sparesCommands [SYS_INTEG.addr, SYS_INTEG.addr + 0x800] :=
  (sparesCommands_nil.cons (by decide)).cons (by decide)

/-- A register outside the Vestibule's block is none of a response. -/
theorem outside_rspRegs {slot a : Nat} (hslot : slot < 4) (ha : a < 0x40003000 ∨ 0x40004000 ≤ a) : a ∉ rspRegs slot := by
  intro hmem
  simp only [rspRegs, List.mem_append, List.mem_cons, List.not_mem_nil, or_false, List.mem_map, List.mem_range, VST_CNT.addr,
    VST_SVCTIME.addr, VST_RSP.addr] at hmem
  obtain (rfl | rfl) | ⟨i, hi, rfl⟩ := hmem <;> omega

theorem limitDone_of_logs {d e : Dev} {slot v : Nat} {c : CmdRec} (hslot : slot < 4)
    (h : (limitSet d v).logs e slot (limitStatus v) (limitOut v) c) : d.limitDone e slot v := by
  have hregs := limitSet_regs d v
  have hout {a : Nat} (ha : a < 0x40003000 ∨ 0x40004000 ≤ a) (ha' : a ∉ evRegs) : a ∉ rspRegs slot ++ evRegs :=
    fun hmem => (List.mem_append.1 hmem).elim (outside_rspRegs hslot ha) ha'
  refine ⟨?_, ?_, ?_, ?_, ?_, ?_, ?_, ?_⟩
  · rw [h.faults, limitSet_only]
  · rw [h.regs.rd SYS_INTEG.LIMIT (hout (by decide) (by decide)), limitSet_limit]
  · rw [h.regs.rd SYS_INTEG.COUNT (hout (by decide) (by decide)), limitSet_count]
  · rw [h.regs.twinOk SYS_INTEG.addr (hout (by decide) (by decide)) (hout (by decide) (by decide)), limitSet_ok]
  · rw [Dev.holder, h.holders]
    exact limitSet_holder d v
  · rw [Dev.orphan, h.regs.rd _ (hout (by decide) (by decide)), hregs.rd _ (by decide), Dev.orphan]
  · have := h.answered.before hregs sparesCommands_integ hslot
    rwa [hregs.rd EVQ_NEXTSEQ.SEQ (by decide)] at this
  · have hsame : d.sameBytes (limitSet d v) := by
      rw [limitSet_only]
      exact ⟨fun _ => rfl, fun _ => rfl, fun _ => rfl⟩
    exact ⟨fun a => (h.sameBytes.1 a).trans (hsame.1 a), fun a => (h.sameBytes.2.1 a).trans (hsame.2.1 a),
      fun a => (h.sameBytes.2.2 a).trans (hsame.2.2 a)⟩

theorem vstSetConfig_done {d : Dev} {slot v : Nat} (h : d.oneField slot 0x168 v) (hfree : d.holder 0 = 0)
    (horphan : d.orphan 0 = false) (hpend : d.pendOf 0 = none) (hroom : d.evq.length < 240) :
    d.limitDone (vstSetConfig d slot) slot v := by
  obtain ⟨rec, hset⟩ := vstSetConfig_limit h hfree horphan hpend
  obtain ⟨c, hlogs⟩ := limitSet_logs h hroom rec
  rw [hset]
  exact limitDone_of_logs h.serves.1 hlogs

/-- A command that Wailith serves, where a relation says what it leaves. -/
theorem completes_serves_of {c : Instr} {s : State} {slot op : Nat} {f : Dev → Dev} {r : Dev → Prop} {p : State → Prop}
    (hexec : exec c s = fin s (serve s.dev slot op f)) (h : s.dev.serves slot op) (hr : r (f s.dev))
    (hf : ∀ e, r e → e.faults = []) (hp : ∀ e, r e → p { s with dev := e }) : Completes c s p :=
  completes_serves hexec h (hf _ hr) (hp _ hr)

/-- Settles O44: the one entry is written by the twin protocol with lock 0 held, refused by the structural pass, or waits for
the lock. -/
theorem setConfigHoldsLockAndRange : Obligations.SetConfigHoldsLockAndRange := by
  intro slot v k s hcalm _ hpend one
  obtain ⟨⟨hf, hroom, -⟩, -⟩ := hcalm
  have hone {fid : Nat} (h : one) (hn : s.dev.cmdAt slot 16 4 = fid) : s.dev.oneField slot fid v :=
    ⟨h.1, h.2.1, h.2.2.1, h.2.2.2, hn⟩
  refine ⟨fun h hname hfree horphan => ?_, fun h hname => ?_, fun h hname hk h2 hlt => ?_,
    fun since hslot hwait hbusy hk h2 => ?_⟩
  · have hfield := hone h hname
    refine completes_serves_of (f := (vstSetConfig · slot)) (r := (s.dev.limitDone · slot v)) rfl hfield.serves
      (vstSetConfig_done hfield hfree horphan hpend (lt_trans hroom (by decide))) (fun e he => he.faults.trans hf)
      fun e he => ⟨he.limit.trans (limitHeld_eq v), he.count, he.ok, he.holder, he.orphan.trans horphan, fun h1 h2 => ?_,
        fun h0 => ?_, he.sameBytes⟩
    · have hans := he.answered
      rwa [(limitOut_kept h1 h2).1, (limitOut_kept h1 h2).2] at hans
    · have hans := he.answered
      rwa [limitStatus_of_zero h0, limitOut_of_zero h0] at hans
  · have hfield := hone h hname
    refine completes_reply (f := (vstSetConfig · slot)) (status := 4) (evseq := 0) (pl := 0xFF#8 :: List.replicate 7 0#8) rfl
      hfield.serves hf ?_ fun e he => ⟨he.answered, he.regs, he.sameBytes⟩
    rw [vstSetConfig_none hfield]
    exact respond_replies s.dev slot 4 0 _ false (by simp)
  · have hfield := hone h hname
    have hset := vstSetConfig_waits hfield hk h2 hlt
    refine completes_serves (f := (vstSetConfig · slot)) rfl hfield.serves ((congrArg Dev.faults hset).trans hf) ?_
    rw [hset]
    exact ⟨hfield.serves.2.1, ⟨_, rfl, cfgSince_cases s.dev slot⟩,
      (s.dev.sameRegs_wr NWL_CNT.DENIED _ (xs := [NWL_CNT.addr]) (by decide)).rd _ (by decide), hk, fun _ => rfl,
      fun _ => rfl, fun _ => rfl⟩
  · have hend := cfgTimeout_ends hwait hbusy (by omega)
    have hreply := respond_replies (cfgGivenUp s.dev since) slot 8 0 [] false (by decide)
    refine completes_fin (congrArg (fin s) hend) (hreply.faults.trans hf) ⟨?_, ?_, ?_, ?_, hreply.regs, hreply.sameBytes⟩
    · rw [hreply.only]; rfl
    · exact hreply.answered.before (xs := []) (fun _ _ => rfl) sparesCommands_nil hslot
    · rw [hreply.wl]; rfl
    · rw [Dev.holder, hreply.only]; exact hk

end Sys2Proof.Machine
end


section
/-!
What stands through the work of the units and through an entry to LIMP: the response of a slot that is DONE, a unit that is
OUT_OF_SERVICE, and the counters of the parser. Part one: accesses, pools and ports.
-/

namespace Sys2Proof.Machine

/-- What PARSE_STATUS reports (Table VST.13). -/
def Wail.parseCounts (w : Wail) : Nat × Nat × Nat × Nat := (w.parsed, w.unmatched, w.refused, w.lastPort)

/-- `e` is `d` with the responses of its DONE slots, its units OUT_OF_SERVICE and the parser's counters as they were. -/
structure Dev.stands (d e : Dev) : Prop where
  done : ∀ k, k < 4 → d.slot k = 3 → e.slot k = 3
  shown : ∀ k i, k < 4 → d.slot k = 3 → i < 64 → e.ld (VST_RSP.addr (64 * k + i)) = d.ld (VST_RSP.addr (64 * k + i))
  out : ∀ u, d.svcOf u = .outOfService → e.svcOf u = .outOfService
  parse : e.wl.parseCounts = d.wl.parseCounts

theorem Dev.stands_refl (d : Dev) : d.stands d := ⟨fun _ _ h => h, fun _ _ _ _ _ => rfl, fun _ h => h, rfl⟩

theorem Dev.stands.trans {d e g : Dev} (h : d.stands e) (k : e.stands g) : d.stands g where
  done := fun n hn hd => k.done n hn (h.done n hn hd)
  shown := fun n i hn hd hi => (k.shown n i hn (h.done n hn hd) hi).trans (h.shown n i hn hd hi)
  out := fun u hu => k.out u (h.out u hu)
  parse := k.parse.trans h.parse

/-- No word of a response. -/
@[reducible] def notRsp (a : Nat) : Prop := a < VST_RSP.addr 0 ∨ VST_RSP.addr 256 ≤ a

theorem ne_of_not_notRsp {a b : Nat} (ha : ¬ notRsp a) (hb : notRsp b := by decide) : a ≠ b := by
  rintro rfl
  exact ha hb

theorem notRsp_of_le {a : Nat} (h : 0x40004000 ≤ a) : notRsp a := .inr (by simp only [VST_RSP.addr]; omega)

section
variable {d e g : Dev} (h : d.stands e)
include h

theorem Dev.stands.of_ld (hld : ∀ a, ¬ notRsp a → g.ld a = e.ld a) (hs : g.vst.st = e.vst.st) (hv : g.svc = e.svc)
    (hw : g.wl.parseCounts = e.wl.parseCounts) : d.stands g where
  done := fun k hk hd => by rw [Dev.slot, hs]; exact h.done k hk hd
  shown := fun k i hk hd hi => (hld _ (by simp only [notRsp, VST_RSP.addr]; omega)).trans (h.shown k i hk hd hi)
  out := fun u hu => by rw [Dev.svcOf, hv]; exact h.out u hu
  parse := hw.trans h.parse

/-- A change of other parts of the device. -/
theorem Dev.stands.same (hr : g.regs = e.regs) (hs : g.vst.st = e.vst.st) (hv : g.svc = e.svc)
    (hw : g.wl.parseCounts = e.wl.parseCounts) : d.stands g := h.of_ld (fun a _ => by rw [Dev.ld, hr, Dev.ld]) hs hv hw

theorem Dev.stands.regs (hld : ∀ a, ¬ notRsp a → g.ld a = e.ld a) (honly : e.onlyRegs g) : d.stands g := by
  rw [Dev.onlyRegs] at honly
  exact h.of_ld hld (by rw [honly]) (by rw [honly]) (by rw [honly])

theorem Dev.stands.put (a : Nat) (v : Word) (ha : notRsp a := by decide) : d.stands (e.put a v) :=
  h.regs (fun b hb => e.put_ld_ne a b v (ne_of_not_notRsp hb ha)) (e.onlyRegs_put a v)

theorem Dev.stands.wr (f : Fld) (v : Nat) (ha : notRsp f.addr := by decide) : d.stands (e.wr f v) := h.put f.addr _ ha

theorem Dev.stands.bump (f : Fld) (n : Nat) (ha : notRsp f.addr := by decide) : d.stands (e.bump f n) := h.put f.addr _ ha

theorem Dev.stands.pulse (n : Nat) : d.stands (e.pulse n) := by
  unfold Dev.pulse
  split
  · exact h
  · exact h.put _ _ (notRsp_of_le (by simp only [ICU_PEND.addr]; omega))

theorem Dev.stands.resetRegs (p : Nat → Bool) (hp : ∀ a, ¬ notRsp a → p a = false) : d.stands (e.resetRegs p) :=
  h.regs (fun a ha => by rw [Dev.ld, Dev.resetRegs, tget_tdrop, hp a ha]; rfl) rfl

theorem Dev.stands.setOut (u : UnitId) : d.stands (e.setSvc u .outOfService) where
  done := h.done
  shown := h.shown
  out := fun v hv => by
    by_cases hk : v.key = u.key
    · rw [Dev.svcOf, hk]
      exact tget_tset_same svcReset e.svc u.key _
    · exact (tget_tset_ne svcReset e.svc u.key v.key _ hk).trans (h.out v hv)
  parse := h.parse

theorem Dev.stands.faults (fs : List (Nat × Word)) : d.stands { e with faults := fs } := h.same rfl rfl rfl rfl

theorem Dev.stands.draw : d.stands e.draw := h.same rfl rfl rfl rfl

theorem Dev.stands.setPool (p : Nat) (x : Pool) : d.stands (e.setPool p x) := h.same rfl rfl rfl rfl

theorem Dev.stands.setOwner (k o : Nat) : d.stands (e.setOwner k o) := h.same rfl rfl rfl rfl

theorem Dev.stands.setPort (n : Nat) (x : Port) : d.stands (e.setPort n x) := h.same rfl rfl rfl rfl

theorem Dev.stands.setLane (l : Nat) (x : Lane) : d.stands (e.setLane l x) := h.same rfl rfl rfl rfl

end

theorem foldl_stands {γ : Type} {d e : Dev} {f : Dev → γ → Dev} {l : List γ} (h : d.stands e)
    (hf : ∀ x ∈ l, ∀ g, d.stands g → d.stands (f g x)) : d.stands (l.foldl f e) := by
  induction l generalizing e with
  | nil => exact h
  | cons x r ih => exact ih (hf x (by simp) e h) fun y hy => hf y (by simp [hy])

/-- Either branch. -/
theorem ite_stands {d e g : Dev} (c : Prop) [Decidable c] (he : d.stands e) (hg : d.stands g) : d.stands (if c then e else g) := by
  split
  · exact he
  · exact hg

/-! Events and faults. -/

theorem evqAppend_units (d : Dev) (b c : Nat) (k : Bool) (x y : Word) :
    (evqAppend d b c k x y).vst = d.vst ∧ (evqAppend d b c k x y).svc = d.svc ∧ (evqAppend d b c k x y).wl = d.wl := by
  unfold evqAppend
  dsimp only
  split_ifs <;> exact ⟨rfl, rfl, rfl⟩

section
variable {d e : Dev} (h : d.stands e)
include h

theorem evqAppend_stands (b c : Nat) (k : Bool) (x y : Word) : d.stands (evqAppend e b c k x y) := by
  obtain ⟨hvst, hsvc, hwl⟩ := evqAppend_units e b c k x y
  exact h.of_ld (fun a ha => evqAppend_ld_ne _ _ _ _ _ _ _ (ne_of_not_notRsp ha) (ne_of_not_notRsp ha)) (congrArg _ hvst)
    hsvc (congrArg _ hwl)

theorem evqKind_stands (b : Nat) (k : EvKind) (c : Bool) (x y : Nat) : d.stands (evqKind e b k c x y) :=
  evqAppend_stands h _ _ _ _ _

theorem raiseFault_stands (code : Nat) : d.stands (raiseFault e code) := h.faults _

theorem twinFault_stands (cause a : Nat) : d.stands (twinFault e cause a) := by
  have hcause (v : Nat) : d.stands (e.wr TWN_ERR.CAUSE v) := h.wr _ _
  have hcount (e : Dev) (h : d.stands e) : d.stands ((e.bump TWN_CNT.COUNT 1).pulse 78) := (h.bump _ _).pulse 78
  have hwhere (g : Dev) (c : Prop) [Decidable c] (v : Word) (hg : d.stands g) :
      d.stands (if c then g.put TWN_FAULT.addr v else g) := ite_stands c (hg.put _ _) hg
  exact (hcount _ (hwhere _ _ _ (hcause _))).faults _

theorem useTwin_stands (a : Nat) : d.stands (useTwin e a) := ite_stands _ h (twinFault_stands h _ _)

theorem inCycle_stands {f : Dev → Dev} (hf : ∀ g, d.stands g → d.stands (f g)) : d.stands (inCycle f e) := by
  have hrun := hf _ (h.same (g := { e with evq := [], evGap := false }) rfl rfl rfl rfl)
  have hback (g : Dev) (v : List Ev) (b : Bool) (hg : d.stands g) : d.stands { g with evq := v, evGap := b } :=
    hg.same rfl rfl rfl rfl
  unfold inCycle
  dsimp only
  split
  · exact hback _ _ _ hrun
  · exact foldl_stands ((hback _ _ _ hrun).wr EVQ_NEXTSEQ.SEQ _) fun v _ g hg => evqAppend_stands hg _ _ _ _ _

/-! Accesses of the memories. -/

theorem tracePut_stands (w : List Word) : d.stands (tracePut e w) := by
  unfold tracePut
  dsimp only
  split_ifs
  · exact (h.same (g := { e with noc := { e.noc with trace := e.noc.trace ++ [w] } }) rfl rfl rfl rfl).wr _ _
  · exact h.same rfl rfl rfl rfl
  · exact h.same rfl rfl rfl rfl
  · exact h.wr _ _

theorem probes_stands (q : ProbeReq) : d.stands (probes e q) := by
  refine foldl_stands h fun k _ g hg => ?_
  have hcount (v : Nat) : d.stands (g.wr (NOC_PRBCNT.COUNT k) v) :=
    hg.wr _ _ (notRsp_of_le (by simp only [NOC_PRBCNT.COUNT, NOC_PRBCNT.addr]; omega))
  have htrace {x : Dev} (hx : d.stands x) (c : Prop) [Decidable c] (w : List Word) :
      d.stands (if c then tracePut x.draw w else x) := ite_stands c (tracePut_stands hx.draw w) hx
  exact ite_stands _ (htrace (ite_stands _ ((hcount _).wr _ _) (hcount _)) _ _) hg

theorem decodeFail_stands (init a : Nat) : d.stands (decodeFail e init a) :=
  ite_stands _ (((h.wr _ _).wr _ _).put _ _) (h.wr _ _)

theorem nocIssue_stands (init : Nat) (write : Bool) (a len : Nat) (twin : Bool) (origin : Nat) :
    d.stands (nocIssue e init write a len twin origin).2 := by
  have hp := probes_stands h
  unfold nocIssue
  dsimp only
  split
  · split
    · exact hp _
    · exact decodeFail_stands (hp _) _ _
  · exact decodeFail_stands (hp _) _ _

theorem statAccess_stands (ni moved : Nat) : d.stands (statAccess e ni moved) := h.same rfl rfl rfl rfl

theorem eccReads_stands (ws : List Nat) : d.stands (eccReads e ws) := by
  refine foldl_stands h fun w _ g hg => ?_
  split
  · exact hg
  · exact ((hg.wr ATC_ERR.CORR 1).bump ATC_ECCCNT.CORR 1).same rfl rfl rfl rfl
  · exact ite_stands _ (((hg.wr _ _).bump _ _).put _ _) ((hg.wr _ _).bump _ _)

theorem meetWords_stands (ws : List Nat) : d.stands (meetWords e ws) := by
  refine ite_stands _ (foldl_stands h fun w _ g hg => ?_) h
  exact ite_stands _ hg (hg.same rfl rfl rfl rfl)

theorem windowReject_stands (init : Nat) (write : Bool) (a : Nat) : d.stands (windowReject e init write a) :=
  ite_stands _ (((h.wr _ _).put _ _).put _ _) (h.wr _ _)

theorem hostTouch_stands (init a len : Nat) : d.stands (hostTouch e init a len) :=
  ite_stands _ h (ite_stands _ h (h.same rfl rfl rfl rfl))

theorem useWindows_stands (init : Nat) : d.stands (useWindows e init) :=
  ite_stands _ h (foldl_stands h fun a _ _ hg => twinFault_stands hg 5 a)

theorem atriumServe_stands (init : Nat) (write : Bool) (a len : Nat) (data : List Byte) :
    d.stands (atriumServe e init write a len data).2 := by
  have hwin := useWindows_stands h init
  unfold atriumServe
  dsimp only
  generalize useWindows e init = x at hwin
  have hread (ws vs : List Nat) : d.stands (eccReads (meetWords x ws) vs) := eccReads_stands (meetWords_stands hwin ws) vs
  have hwrite (x : Dev) (hx : d.stands x) (t : List Host.Cell) (errs : Table Nat) (fix : List Nat) :
      d.stands (hostTouch { x with atr := t, atrErr := errs, atrFix := fix } init a len) :=
    have hput : d.stands { x with atr := t, atrErr := errs, atrFix := fix } := hx.same rfl rfl rfl rfl
    hostTouch_stands hput _ _ _
  split_ifs
  · exact hwin
  · exact windowReject_stands hwin _ _ _
  · exact hwin
  · exact hread _ _
  · exact hwrite _ (hread _ _) _ _ _
  · exact hread _ _
  · exact hread _ _

theorem atriumAccess_stands (init : Nat) (write : Bool) (a len : Nat) (data : List Byte) :
    d.stands (atriumAccess e init write a len data).2 := by
  have hissue := nocIssue_stands h init write a len false 0
  unfold atriumAccess atriumAccessFor
  generalize nocIssue e init write a len false 0 = r at hissue
  obtain ⟨t, x⟩ := r
  have hserve := atriumServe_stands hissue init write a len data
  split
  · next heq =>
    obtain ⟨rfl, rfl⟩ := Prod.mk.inj heq
    exact statAccess_stands hserve _ _
  · next heq =>
    obtain ⟨rfl, rfl⟩ := Prod.mk.inj heq
    exact statAccess_stands hissue _ _
  · next heq =>
    obtain ⟨rfl, rfl⟩ := Prod.mk.inj heq
    exact hissue

end

end Sys2Proof.Machine
end


section
/-!
What stands through the work of the units, part two: the pools, the ports, the sideband and the lanes.
-/

namespace Sys2Proof.Machine

/-- The device of an answer that is known. -/
theorem stands_snd {α : Type} {d : Dev} {r x : α × Dev} (heq : r = x) (hr : d.stands r.2) : d.stands x.2 := heq ▸ hr

/-! The pools. -/

section
variable {d e : Dev} (h : d.stands e)
include h

theorem bpmCapture_stands (cause addr pool target req : Nat) : d.stands (bpmCapture e cause addr pool target req) :=
  ite_stands _ (((h.wr _ _).put _ _).put _ _) (h.wr _ _)

theorem bpmReject_stands (cause addr pool target req : Nat) : d.stands (bpmReject e cause addr pool target req) :=
  (bpmCapture_stands h _ _ _ _ _).bump _ _

theorem faultPool_stands (p : Nat) : d.stands (faultPool e p) := h.wr _ _

theorem ringFail_stands (p addr : Nat) : d.stands (ringFail e p addr) :=
  raiseFault_stands (faultPool_stands (bpmCapture_stands h _ _ _ _ _) p) _

theorem ringLost_stands (p key : Nat) : d.stands (ringLost e p key) := ite_stands _ (h.setPool _ _) h

theorem readOwner_stands (p key : Nat) : d.stands (readOwner e p key) := by
  have hbad (b : Bpm) : d.stands { e with bpm := b } := h.same rfl rfl rfl rfl
  exact ite_stands _ (raiseFault_stands (faultPool_stands ((ringLost_stands (hbad _) p key).setOwner key lost) p) _) h

theorem ringWrite_stands (p k : Nat) (xs : List Nat) : d.stands (ringWrite e p k xs).2 := by
  refine h.trans (foldl_carried Dev.stands_refl Dev.stands.trans (δ := Option Nat × Dev × List Nat) (fun x => x.2.1) _
    (fun x s => ?_) _ (none, e, xs))
  obtain ⟨o, g, r⟩ := x
  cases o with
  | some a => exact g.stands_refl
  | none =>
    have haccess := atriumAccess_stands g.stands_refl 5 true (g.poolRing p + 4 * s.1) (4 * s.2)
      ((r.take s.2).flatMap (fun x => leBytes 4 x))
    dsimp only
    split
    · next heq => exact stands_snd heq haccess
    · next heq => exact stands_snd heq haccess

theorem writeBack8_stands (p : Nat) : d.stands (writeBack8 e p) := by
  unfold writeBack8
  dsimp only
  generalize pickOut 8 e.seed (e.pool p).cache = picked
  obtain ⟨m, s⟩ := picked
  have hseed : d.stands { e with seed := e.seed + 8 } := h.same rfl rfl rfl rfl
  dsimp only
  split
  · next heq => exact (stands_snd heq (ringWrite_stands hseed p _ m)).setPool _ _
  · next heq => exact ringFail_stands (stands_snd heq (ringWrite_stands hseed p _ m)) _ _

theorem freeBuf_stands (p i : Nat) : d.stands (freeBuf e p i) := by
  have hback (g : Dev) (hg : d.stands g) (c : Bool) : d.stands (if c then writeBack8 g p else g) :=
    ite_stands _ (writeBack8_stands hg p) hg
  have hcache (g : Dev) (hg : d.stands g) (c : Prop) [Decidable c] (q : Pool) :
      d.stands (if c then g else g.setPool p q) := ite_stands _ hg (hg.setPool _ _)
  exact hcache _ (hback _ (h.setOwner _ _) _) _ _

theorem reclaimOwner_stands (o : Nat) : d.stands (reclaimOwner e o) := by
  refine ite_stands _ h (foldl_stands h fun x _ g hg => ?_)
  have hread := readOwner_stands hg (x.1 / 65536) x.1
  exact ite_stands _ hread (freeBuf_stands hread _ _)

theorem checkBuf_stands (o a : Nat) (chain : Bool) (give : Option Nat) : d.stands (checkBuf e o a chain give).2 := by
  unfold checkBuf
  split
  · exact h
  · next p _ =>
    have hread := readOwner_stands h p (bufKey p ((a - e.poolBase p) / bufSize p))
    dsimp only
    split_ifs
    · exact h
    · exact h
    all_goals exact hread

omit h in
theorem walkChain_stands : ∀ (n : Nat) {e : Dev} (_ : d.stands e) (o a : Nat) (give : Option Nat) (done : List (Nat × Nat)),
    d.stands (walkChain n e o a give done).2
  | 0, _, h, _, _, _, _ => h
  | n + 1, e, h, o, a, give, done => by
    have hcheck := checkBuf_stands h o a true give
    unfold walkChain
    generalize checkBuf e o a true give = c at hcheck
    obtain ⟨c | k, x⟩ := c
    · exact hcheck
    · have haccess := atriumAccess_stands hcheck 5 false (a + 28) 4 []
      dsimp only at haccess ⊢
      generalize atriumAccess x 5 false (a + 28) 4 [] = r at haccess
      obtain ⟨bs | c, g⟩ := r
      · dsimp only
        split_ifs
        · exact haccess
        · exact haccess
        · exact walkChain_stands n haccess o _ give _
      · exact haccess

theorem bpmMove_stands (own : Option Nat) (data : Word) (give : Option Nat) : d.stands (bpmMove e own data give).2 := by
  have hmove {g : Dev} (hg : d.stands g) (ks : List (Nat × Nat)) : d.stands (ks.foldl (fun d k => match give with
      | some t => d.setOwner (bufKey k.1 k.2) t
      | none => freeBuf d k.1 k.2) g) :=
    foldl_stands hg fun k _ x hx => match give with
      | some t => hx.setOwner _ t
      | none => freeBuf_stands hx _ _
  unfold bpmMove
  split
  · exact h
  · cases own with
    | none => exact bpmReject_stands h _ _ _ _ _
    | some o =>
      have hwalk := walkChain_stands 256 h o (fld data 31 5 * 32) give []
      have hcheck := checkBuf_stands h o (fld data 31 5 * 32) false give
      by_cases hchain : data.getLsbD 0 = true
      · simp only [hchain, if_true]
        generalize walkChain 256 e o (fld data 31 5 * 32) give [] = r at hwalk
        obtain ⟨f | ks, x⟩ := r
        · exact bpmReject_stands hwalk _ _ _ _ _
        · exact hmove hwalk ks
      · simp only [hchain]
        generalize checkBuf e o (fld data 31 5 * 32) false give = r at hcheck
        obtain ⟨f | k, x⟩ := r
        · exact bpmReject_stands hcheck _ _ _ _ _
        · exact hmove hcheck [k]

/-! Port banks. -/

theorem freeChain_stands (word : Word) : d.stands (freeChain e word) := by
  unfold freeChain
  dsimp only
  split
  · exact h
  · exact ite_stands _ h (bpmMove_stands h _ _ _)

theorem freePort_stands (n : Nat) : d.stands (freePort e n) := by
  have hclosed : d.stands ((e.port n).closedQ.foldl freeChain e) := foldl_stands h fun w _ _ hg => freeChain_stands hg w
  exact reclaimOwner_stands (foldl_stands hclosed fun _ _ _ hg => bpmMove_stands hg _ _ _) _

theorem bankBlk_stands (b : Nat) : d.stands (bankBlk e b) := by
  refine foldl_stands (h.resetRegs _ fun a ha => beq_false_of_ne ?_) fun n _ _ hg => hg.setPort n _
  simp only [notRsp, VST_RSP.addr] at ha
  omega

theorem bankOut_stands (b : Nat) : d.stands (bankOut e b) := by
  have hports : d.stands ((portsOf b).foldl freePort e) := foldl_stands h fun n _ _ hg => freePort_stands hg n
  exact ((bankBlk_stands hports b).setOut _).wr _ _
    (notRsp_of_le (by simp only [PBK_BCAUSE.DRAINED, PBK_BCAUSE.addr]; omega))

theorem clearLoops_stands : d.stands (clearLoops e) := by
  have hctrl {g : Dev} (hg : d.stands g) (l : Nat) (f : Nat → Fld) (v : Nat) (hf : (f l).addr = CNC_CTRL.addr l) :
      d.stands (g.wr (f l) v) := hg.wr _ _ (notRsp_of_le (by rw [hf, CNC_CTRL.addr]; omega))
  refine foldl_stands (foldl_stands h fun n _ g hg => ite_stands _ ?_ hg) fun l _ g hg => ite_stands _ ?_ hg
  · exact (hg.wr _ _ (notRsp_of_le (by simp only [PBK_LOOP.DEPTH, PBK_LOOP.addr]; omega))).setPort _ _
  · exact hctrl (hctrl (hctrl hg l CNC_CTRL.LOOP 0 rfl) l CNC_CTRL.FARLOOP 0 rfl) l CNC_CTRL.PRBS 0 rfl

/-! The sideband. -/

/-- The group's bookkeeping. -/
theorem Dev.stands.setGrp (g : Group) : d.stands { e with grp := g } := h.same rfl rfl rfl rfl

theorem sendSb_stands (l : Nat) (m : SbMsg) : d.stands (sendSb e l m) :=
  ite_stands _ ((h.setLane _ _).bump _ _ (notRsp_of_le (by simp only [CNC_SBCNT.VOTETX, CNC_SBCNT.addr]; omega)))
    (h.setLane _ _)

theorem floodSb_stands (skip : Option Nat) (m : SbMsg) : d.stands (floodSb e skip m) :=
  foldl_stands h fun l _ _ hg => ite_stands _ (sendSb_stands hg l m) hg

theorem sendLinkstate_stands : d.stands (sendLinkstate e) := floodSb_stands (h.setGrp _) _ _

theorem groupError_stands (f : Fld) (hf : notRsp f.addr := by decide) : d.stands (groupError e f) := (h.wr f 1 hf).pulse 60

theorem raGone_stands (p : Nat) : d.stands (raGone e p) := by
  have hlanes (g : Dev) (hg : d.stands g) (ls : List Lane) : d.stands { g with lanes := ls } := hg.same rfl rfl rfl rfl
  exact ite_stands _ (groupError_stands (hlanes _ ((h.wr CNC_RARES.RES 4).wr CNC_RACTL.GO 0) _) _) h

theorem pendUpdate_stands (at_ lat anylat : Nat) (join : Bool) : d.stands (pendUpdate e at_ lat anylat join) :=
  ((((h.setGrp _).put _ _).wr _ _).wr _ _).wr _ _

theorem sendUpdate_stands (lat anylat : Nat) (join : Bool) : d.stands (sendUpdate e lat anylat join) :=
  foldl_stands (floodSb_stands (pendUpdate_stands h _ lat anylat join) _ _) fun l _ _ hg => ite_stands _ (sendSb_stands hg l _) hg

theorem maxPinned_stands (ok : Nat → Bool) : d.stands (e.maxPinned ok).2 := by
  unfold Dev.maxPinned
  dsimp only
  split
  · exact h.draw
  · exact h

theorem leadUpdate_stands : d.stands (leadUpdate e) := by
  have hlat : d.stands e.groupLatencies.2 := maxPinned_stands h _
  exact ite_stands _ (ite_stands _ (groupError_stands (sendUpdate_stands hlat _ _ _) _) (sendUpdate_stands hlat _ _ _)) h

theorem dropUpdate_stands : d.stands (dropUpdate e) := by
  have hdrop (g : Group) : d.stands { e.wr CNC_GUPD.PENDING 0 with grp := g } := (h.wr CNC_GUPD.PENDING 0).setGrp g
  exact ite_stands _ (hdrop _) (leadUpdate_stands (hdrop _))

theorem withdrawUpdate_stands : d.stands (withdrawUpdate e) := ite_stands _ (dropUpdate_stands (floodSb_stands h _ _)) h

theorem forcedOut_stands (u : UnitId) (block cause : Nat) : d.stands (forcedOut e u block cause) :=
  evqKind_stands (h.setOut u) _ _ _ _ _

theorem laneBlk_stands (l : Nat) : d.stands (laneBlk e l) := by
  refine h.resetRegs _ fun a ha => ?_
  simp only [notRsp, VST_RSP.addr] at ha
  rw [decide_eq_false (by omega), Bool.false_and]

end

end Sys2Proof.Machine
end


section
/-!
What stands through the work of the units, part three: trips, lanes that go down, an entry to LIMP and the integrity faults.
-/

namespace Sys2Proof.Machine

section
variable {d e : Dev} (h : d.stands e)
include h

/-! Locks and trips. -/

theorem orphanStep_stands (mask code : Nat) : d.stands (orphanStep e mask code) := by
  have hdrop (t : Table Nat) : d.stands { e with holders := t } := h.same rfl rfl rfl rfl
  exact ite_stands _ h (evqAppend_stands (((((hdrop _).put _ _).put _ _).wr _ _).bump _ _) _ _ _ _ _)

theorem releaseHolder_stands (id : Nat) : d.stands (releaseHolder e id) := orphanStep_stands h _ _

theorem tripWith_stands (f : Nat → Nat) : d.stands (tripWith e f) := by
  obtain ⟨causes, heq⟩ := tripWith_eq e f
  have hcauses : d.stands (tripCauses e f) := foldl_stands h fun n _ g hg =>
    ite_stands _ (hg.put _ _ (notRsp_of_le (by simp only [BAL_TCAUSE.addr]; omega))) hg
  have hpins (new : Nat) {g : Dev} (hg : d.stands g) : d.stands (tripPins g new) := by
    have hlower (old : Nat) {g : Dev} (hg : d.stands g) : d.stands (g.lowerPins old new) := hg.same rfl rfl rfl rfl
    exact ((hlower _ (hg.wr _ _)).bump _ _).pulse 80
  rw [heq]
  exact ite_stands _ hcauses (evqAppend_stands (hpins _ hcauses) _ _ _ _ _)

theorem srcUse_stands (mask : Nat) : d.stands (srcUse e mask) :=
  ite_stands _ h (tripWith_stands (foldl_stands h fun n _ _ hg => twinFault_stands hg 5 (BAL_SRC.addr n)) _)

theorem balEval_stands : d.stands (balEval e) := by
  have hsrc := srcUse_stands h 0xFFFF
  exact tripWith_stands (ite_stands _ (useTwin_stands hsrc CNC_GCFG.addr) hsrc) _

/-! The group and its lanes. -/

theorem peerGone_stands (p : Nat) : d.stands (peerGone e p) := by
  have hgrp {g : Dev} (hg : d.stands g) (x : Group) (t : List TlbEnt) : d.stands { g with grp := x, tlb := t } :=
    hg.same rfl rfl rfl rfl
  exact raGone_stands (hgrp (releaseHolder_stands h (8 + p)) _ _) p

theorem electLead_stands (members : Nat) : d.stands (electLead e members) := by
  have hswitch {g : Dev} (hg : d.stands g) : d.stands (if g.wl.swGroup.isSome then
      { g.wr GSQ_SWCTL.ARMED 0 with wl := { g.wl with swGroup := none } } else g) := by
    have hend : d.stands { g.wr GSQ_SWCTL.ARMED 0 with wl := { g.wl with swGroup := none } } :=
      (hg.wr GSQ_SWCTL.ARMED 0).same rfl rfl rfl rfl
    exact ite_stands _ hend hg
  have hlead (n : Nat) : d.stands ((e.wr CNC_GRP.LEAD n).wr CNC_GRP.ISLEAD (bit (n == e.pos))) := (h.wr _ _).wr _ _
  exact groupError_stands (hswitch (((hlead _).wr CNC_GUPD.PENDING 0).setGrp _)) _

theorem regroup_stands : d.stands (regroup e) := by
  have hpeers {g : Dev} (hg : d.stands g) (ps : List Nat) (new : Nat) :
      d.stands (ps.foldl (fun d p => if new.testBit p then d else peerGone d p) g) :=
    foldl_stands hg fun p _ _ hx => ite_stands _ hx (peerGone_stands hx p)
  have hlead {g : Dev} (hg : d.stands g) (new : Nat) :
      d.stands (if new.testBit (g.rd CNC_GRP.LEAD) then g else electLead g new) := ite_stands _ hg (electLead_stands hg new)
  have hgrp : d.stands ((e.wr CNC_GRP.MEMBERS e.reach).wr CNC_GRP.DIAM (e.diameter e.reach)) := (h.wr _ _).wr _ _
  exact balEval_stands (leadUpdate_stands (hlead (hpeers hgrp _ _) _))

theorem laneDown_stands (l cause : Nat) : d.stands (laneDown e l cause) := by
  have hwithdraw {g : Dev} (hg : d.stands g) (c : Bool) : d.stands (if c then withdrawUpdate g else g) :=
    ite_stands _ (withdrawUpdate_stands hg) hg
  have hflags {g : Dev} (hg : d.stands g) : d.stands ((g.wr (CNC_LSTAT.DOWNCAUSE l) cause).wr (CNC_ERR.DOWN l) 1) :=
    (hg.wr _ _ (notRsp_of_le (by simp only [CNC_LSTAT.DOWNCAUSE, CNC_LSTAT.addr]; omega))).wr _ _
      (notRsp_of_le (by simp only [CNC_ERR.DOWN, CNC_ERR.addr]; omega))
  have hout {g : Dev} (hg : d.stands g) : d.stands (reclaimOwner (forcedOut g (.lane l) (0x20 + l) cause) (8 + l)) :=
    reclaimOwner_stands (forcedOut_stands hg _ _ _) _
  have halign {g : Dev} (hg : d.stands g) (c : Bool) :
      d.stands (if c then { g with grp := { g.grp with alignTo := none } } else g) := ite_stands _ (hg.setGrp _) hg
  have hgroup {g : Dev} (hg : d.stands g) (c : Bool) : d.stands (if c then regroup (sendLinkstate g) else g) :=
    ite_stands _ (regroup_stands (sendLinkstate_stands hg)) hg
  exact ite_stands _ h (hgroup (halign (hout (hflags (hwithdraw ((laneBlk_stands h l).setLane l _) _))) _) _)

/-! What an entry to LIMP ends. -/

/-- A response changes no other slot (R116). -/
theorem respond_stands (n status evseq : Nat) (pl : List Byte) (deferred : Bool) (hpl : pl.length ≤ 248)
    (hn : e.slot n ≠ 3) : d.stands (respond e n status evseq pl deferred) := by
  have hr := respond_replies e n status evseq pl deferred hpl
  have hst (k : Nat) (hk : k ≠ n) : (respond e n status evseq pl deferred).slot k = e.slot k := by
    rw [Dev.slot, hr.only]
    exact nth_setNth_ne 0 3 _ _ _ hk
  have hother (k : Nat) (hk : k < 4) (hd : d.slot k = 3) : k ≠ n := fun hkn => hn (hkn ▸ h.done k hk hd)
  refine ⟨fun k hk hd => (hst k (hother k hk hd)).trans (h.done k hk hd), fun k i hk hd hi => ?_, fun u hu => ?_, ?_⟩
  · refine (hr.regs _ fun hmem => ?_).trans (h.shown k i hk hd hi)
    have hne := hother k hk hd
    simp only [rspRegs, List.mem_append, List.mem_cons, List.not_mem_nil, or_false, List.mem_map, List.mem_range,
      VST_CNT.addr, VST_SVCTIME.addr, VST_RSP.addr] at hmem
    obtain (hmem | hmem) | ⟨j, hj, hmem⟩ := hmem <;> omega
  · rw [Dev.svcOf, hr.svc]
    exact h.out u hu
  · rw [hr.wl]
    exact h.parse

/-- Wailith's bookkeeping other than the parser's counters. -/
theorem Dev.stands.setWl (w : Wail) (hw : w.parseCounts = e.wl.parseCounts) : d.stands { e with wl := w } :=
  h.same rfl rfl rfl hw

theorem abortBusy_stands : d.stands (abortBusy e) := by
  have hslots : d.stands ((List.range 4).foldl (fun d n => if d.slot n = 2 then respond d n 0x0D 0 [] true else d) e) := by
    refine foldl_stands h fun n _ g hg => ?_
    split
    · next hbusy => exact respond_stands hg n _ _ _ _ (by decide) (by rw [hbusy]; decide)
    · exact hg
  have hkept {g : Dev} (hg : d.stands g) : d.stands { g with wl := { g.wl with
      dozeWait := none, swSlot := none, svcSlot := [], testSlot := [], repSlot := none, due := [], cfgSlot := none } } :=
    hg.setWl _ rfl
  exact hkept hslots

theorem dgeFail_stands (c cause : Nat) : d.stands (dgeFail e c cause) := by
  have hdge {g : Dev} (hg : d.stands g) (x : Dge) : d.stands { g with dge := x } := hg.same rfl rfl rfl rfl
  have hstat {g : Dev} (hg : d.stands g) (f : Nat → Fld) (v : Nat) (hf : (f c).addr = DGE_CSTAT.addr c) :
      d.stands (g.wr (f c) v) := hg.wr _ _ (notRsp_of_le (by rw [hf, DGE_CSTAT.addr]; omega))
  exact hdge (hstat (hstat (hstat (hstat h DGE_CSTAT.BUSY 0 rfl) DGE_CSTAT.ERR 1 rfl) DGE_CSTAT.CAUSE cause rfl)
    DGE_CSTAT.SPACE 16 rfl) _

theorem dgeAbortS_stands : d.stands (dgeAbortS e) := ite_stands _ (dgeFail_stands h 0 8) h

theorem limpStop_stands : d.stands (limpStop e) := by
  have hgal (g : Gal) : d.stands { e with gal := g } := h.same rfl rfl rfl rfl
  exact foldl_stands (hgal _) fun x _ _ hg => hg.wr _ _ (notRsp_of_le (by simp only [PIO_GOUT.GOUT, PIO_GOUT.addr]; omega))

theorem limpUnits_stands (tests : Nat) : d.stands (limpUnits e tests) := by
  have hlanes : d.stands ((List.range 4).foldl (fun d l => laneDown d l 7) (limpStop e)) :=
    foldl_stands (limpStop_stands h) fun l _ _ hg => laneDown_stands hg l 7
  exact foldl_stands hlanes fun b _ _ hg => ite_stands _ hg (evqKind_stands (bankOut_stands hg b) _ _ _ _ _)

theorem limpCause_stands (r x : Nat) : d.stands (limpCause e r x) := ite_stands _ (h.wr _ _) ((h.wr _ _).wr _ _)

theorem setMode_stands (m : Mode) : d.stands (setMode e m) := by
  have hmode : d.stands { e with prev := e.mode, mode := m } := h.same rfl rfl rfl rfl
  exact ite_stands _ h (evqKind_stands hmode _ _ _ _ _)

theorem noneTaken_stands : d.stands (noneTaken e) := ite_stands _ (h.wr _ _) h

theorem limpCore_stands (r x : Nat) : d.stands (limpCore e r x) := by
  have hserved : d.stands (limpServed e r x) :=
    (clearLoops_stands (setMode_stands (limpCause_stands (noneTaken_stands h) r x) .limp)).wr VST_FWSTAT.SERVER 2
  exact balEval_stands (limpUnits_stands (releaseHolder_stands (releaseHolder_stands (releaseHolder_stands
    (dgeAbortS_stands (abortBusy_stands hserved)) 1) 3) 4) _)

theorem limpEntry_stands (r x : Nat) : d.stands (limpEntry e r x) := by
  have hcycle : d.stands (inCycle (fun d => limpCore d r x) e) := inCycle_stands h fun _ hg => limpCore_stands hg r x
  unfold limpEntry
  split
  · exact limpCause_stands h r x
  · exact hcycle
  · exact hcycle
  · exact hcycle
  · exact h

/-! Integrity faults. -/

theorem integCount_stands (code : Nat) (d0 : Word) : d.stands (integCount e code d0) := by
  have hsrc (c : Prop) [Decidable c] : d.stands (if c then e else srcUse e 0xFFFF) := ite_stands _ h (srcUse_stands h _)
  have hdraw {g : Dev} (hg : d.stands g) (c : Prop) [Decidable c] : d.stands (if c then g else g.draw) :=
    ite_stands _ hg hg.draw
  have htwin {g : Dev} (hg : d.stands g) (c : Prop) [Decidable c] : d.stands (if c then g else useTwin g SYS_INTEG.addr) :=
    ite_stands _ hg (useTwin_stands hg _)
  exact htwin (evqAppend_stands (((hdraw (tripWith_stands (hsrc _) _) _).wr SYS_INTEG.COUNT _).wr BAL_INTCAUSE.LAST code)
    _ _ _ _ _) _

theorem integCore_stands (code : Nat) (d0 : Word) : d.stands (integCore e code d0) := by
  have hcount := integCount_stands h code d0
  rcases integCore_cases e code d0 with heq | ⟨-, heq⟩
  · rw [heq]
    exact hcount
  · rw [heq]
    exact limpEntry_stands hcount _ _

omit h in
theorem settleN_stands (n : Nat) : ∀ {e : Dev}, d.stands e → d.stands (settleN n e) := by
  induction n with
  | zero => exact fun h => h.faults _
  | succ n ih =>
    intro e h
    rw [settleN]
    split
    · exact h
    · exact ih (integCore_stands (h.faults _) _ _)

theorem settle_stands : d.stands (settle e) :=
  ite_stands _ h ((settleN_stands 1024 (inCycle_stands h fun _ hg => settleN_stands 4096 hg)).faults _)

end

end Sys2Proof.Machine
end


section
/-!
The statements of the Vestibule: live service (R132, R133, R544 to R548). This part says what the work on the ports and lanes
of a unit leaves alone.
-/

namespace Sys2Proof.Machine

/-! Work on ports and lanes. -/

/-- `e` is `d` after work on ports and lanes: their registers and the ports' own states. -/
structure Dev.portWork (d e : Dev) : Prop where
  only : e = { d with regs := e.regs, ports := e.ports }
  regs : ∀ a, a < 0x40010000 → e.ld a = d.ld a

theorem Dev.portWork_refl (d : Dev) : d.portWork d := ⟨rfl, fun _ _ => rfl⟩

section
variable {d e g : Dev} (h : d.portWork e)
include h

theorem Dev.portWork.trans (k : e.portWork g) : d.portWork g where
  only := by rw [k.only, h.only]
  regs := fun a ha => (k.regs a ha).trans (h.regs a ha)

theorem Dev.portWork.setPort (n : Nat) (x : Port) : d.portWork (e.setPort n x) := h.trans ⟨rfl, fun _ _ => rfl⟩

theorem Dev.portWork.wr (f : Fld) (v : Nat) (hf : 0x40010000 ≤ f.addr) : d.portWork (e.wr f v) :=
  h.trans ⟨rfl, fun _ ha => e.wr_ld_ne f v _ (by omega)⟩

theorem Dev.portWork.faults : e.faults = d.faults := by rw [h.only]
theorem Dev.portWork.evq : e.evq = d.evq := by rw [h.only]
theorem Dev.portWork.svc : e.svc = d.svc := by rw [h.only]
theorem Dev.portWork.wl : e.wl = d.wl := by rw [h.only]
theorem Dev.portWork.vst : e.vst = d.vst := by rw [h.only]

theorem Dev.portWork.rd (f : Fld) (hf : f.addr < 0x40010000 := by decide) : e.rd f = d.rd f := by
  rw [Dev.rd, h.regs _ hf, Dev.rd]

theorem Dev.portWork.sameBytes : d.sameBytes e := by
  rw [h.only]
  exact ⟨fun _ => rfl, fun _ => rfl, fun _ => rfl⟩

end

theorem foldl_portWork {γ : Type} {d e : Dev} {f : Dev → γ → Dev} {l : List γ} (h : d.portWork e)
    (hf : ∀ x ∈ l, ∀ g, d.portWork g → d.portWork (f g x)) : d.portWork (l.foldl f e) := by
  induction l generalizing e with
  | nil => exact h
  | cons x r ih => exact ih (hf x (by simp) e h) fun y hy => hf y (by simp [hy])

theorem ite_portWork {d e g : Dev} (c : Prop) [Decidable c] (he : d.portWork e) (hg : d.portWork g) :
    d.portWork (if c then e else g) := by
  split
  · exact he
  · exact hg

section
variable {d e : Dev} (h : d.portWork e)
include h

theorem closeEvent_portWork (n cause : Nat) : d.portWork (closeEvent e n cause) := by
  have hclose : d.portWork (closeFrame e n cause) := by
    unfold closeFrame
    dsimp only
    split
    · exact h
    · exact ite_portWork _ ((h.setPort _ _).wr _ _ (by simp only [PBK_CNT3.CRCBAD, PBK_CNT3.addr]; omega)) (h.setPort _ _)
  exact ite_portWork _ (h.setPort _ _) hclose

theorem bankForce_portWork (b : Nat) (rxing : List Nat) : d.portWork (bankForce e b rxing) :=
  foldl_portWork h fun n _ _ hg => ite_portWork _ (hg.setPort _ _) (closeEvent_portWork hg n 6)

theorem pinsChanged_portWork (old : Dev) : d.portWork (pinsChanged old e) :=
  foldl_portWork h fun r _ _ hg => ite_portWork _ hg (hg.wr _ _ (by simp only [PBK_STAT.CFGERR, PBK_STAT.addr]; omega))

theorem lineDue_portWork (n : Nat) : d.portWork (lineDue e n) :=
  ite_portWork _ (ite_portWork _ (h.setPort _ _) (pinsChanged_portWork (h.setPort _ _) _)) h

theorem testLoops_portWork (u : UnitId) (t : Nat) : d.portWork (testLoops e u t) := by
  cases u with
  | bank b =>
    exact foldl_portWork h fun n _ _ hg =>
      lineDue_portWork (hg.wr _ _ (by simp only [PBK_LOOP.DEPTH, PBK_LOOP.addr]; omega)) n
  | lane l =>
    have hctrl {g : Dev} (hg : d.portWork g) (f : Nat → Fld) (v : Nat) (hf : (f l).addr = CNC_CTRL.addr l) :
        d.portWork (g.wr (f l) v) := hg.wr _ _ (by rw [hf, CNC_CTRL.addr]; omega)
    exact hctrl (hctrl (hctrl h CNC_CTRL.LOOP _ rfl) CNC_CTRL.FARLOOP _ rfl) CNC_CTRL.PRBS _ rfl
  | prog b => exact h
  | col c => exact h
  | atb n => exact h

end

/-! The loop-back settings of a port bank under test. -/

theorem lineDue_depth (d : Dev) (n m : Nat) : (lineDue d n).rd (PBK_LOOP.DEPTH m) = d.rd (PBK_LOOP.DEPTH m) := by
  have hpins (old g : Dev) : (pinsChanged old g).rd (PBK_LOOP.DEPTH m) = g.rd (PBK_LOOP.DEPTH m) := by
    refine foldl_keep (fun g : Dev => g.rd (PBK_LOOP.DEPTH m)) _ (fun g r => ?_) _ _
    split
    · rfl
    · exact g.wr_rd_ne _ _ _ (by simp only [PBK_STAT.CFGERR, PBK_STAT.addr, PBK_LOOP.DEPTH, PBK_LOOP.addr]; omega)
  unfold lineDue
  split
  · unfold applyLine
    dsimp only
    split
    · rfl
    · exact hpins _ _
  · rfl

/-- One port takes the loop-back of a test. -/
def loopSet (t : Nat) (d : Dev) (n : Nat) : Dev := lineDue (d.wr (PBK_LOOP.DEPTH n) t) n

theorem loopSet_depth (t : Nat) (d : Dev) (n m : Nat) (ht : t < 8) :
    (loopSet t d n).rd (PBK_LOOP.DEPTH m) = if m = n then t else d.rd (PBK_LOOP.DEPTH m) := by
  rw [loopSet, lineDue_depth]
  split
  · next h =>
    rw [h, Dev.wr_rd _ _ _ (Nat.zero_le 2) (by simp [PBK_LOOP.DEPTH])]
    exact Nat.mod_eq_of_lt ht
  · next h => exact d.wr_rd_ne _ _ _ (by simp only [PBK_LOOP.DEPTH, PBK_LOOP.addr]; omega)

theorem foldl_loopSet_depth (t : Nat) (ht : t < 8) (m : Nat) : ∀ (l : List Nat) (d : Dev),
    m ∈ l ∨ d.rd (PBK_LOOP.DEPTH m) = t → (l.foldl (loopSet t) d).rd (PBK_LOOP.DEPTH m) = t
  | [], _, h => h.resolve_left List.not_mem_nil
  | n :: r, d, h => foldl_loopSet_depth t ht m r (loopSet t d n) (by
      rw [loopSet_depth t d n m ht]
      by_cases hm : m = n
      · exact .inr (if_pos hm)
      · rw [if_neg hm]
        exact h.imp_left fun hmem => (List.mem_cons.1 hmem).resolve_left hm)

theorem testLoops_depth (d : Dev) (b k t : Nat) (hk : k < 8) (ht : t < 8) :
    (testLoops d (.bank b) t).rd (PBK_LOOP.DEPTH (8 * b + k)) = t :=
  foldl_loopSet_depth t ht _ (portsOf b) d (.inl (List.mem_map.2 ⟨k, List.mem_range.2 hk, rfl⟩))

/-- The loop-back numbers of the tests are small (Table SVC.2). -/
theorem testListed_lt {u : UnitId} {t : Nat} (h : testListed u t = true) : t < 6 := by
  cases u <;> simp [testListed] at h <;> omega

/-! What a test leaves behind. -/

/-- `e` is `d` after the end of a test (Table SVC.2). -/
structure Dev.testEnds (d e : Dev) : Prop where
  only : e = { d with regs := e.regs, ports := e.ports, gal := e.gal, atr := e.atr, atrErr := e.atrErr, atrFix := e.atrFix,
                      atrOff := e.atrOff }
  regs : ∀ a, a < 0x40010000 → e.ld a = d.ld a

theorem Dev.testEnds.trans {d e g : Dev} (h : d.testEnds e) (k : e.testEnds g) : d.testEnds g where
  only := by rw [k.only, h.only]
  regs := fun a ha => (k.regs a ha).trans (h.regs a ha)

theorem Dev.portWork.testEnds {d e : Dev} (h : d.portWork e) : d.testEnds e where
  only := by rw [h.only]
  regs := h.regs

theorem testAfter_ends (d : Dev) (u : UnitId) (t detail : Nat) : d.testEnds (testAfter d u t detail) := by
  cases u with
  | prog b => exact ⟨rfl, fun _ _ => rfl⟩
  | atb n => exact ⟨rfl, fun _ _ => rfl⟩
  | bank b => exact d.portWork_refl.testEnds
  | col c => exact d.portWork_refl.testEnds
  | lane l =>
    have hcount := (d.portWork_refl.wr (CNC_PRBSCNT.ERRS l) (min detail 0x7FFFFFFF)
      (by simp only [CNC_PRBSCNT.ERRS, CNC_PRBSCNT.addr]; omega)).wr (CNC_PRBSCNT.LOCK l) 0
      (by simp only [CNC_PRBSCNT.LOCK, CNC_PRBSCNT.addr]; omega)
    exact (ite_portWork _ (ite_portWork _ hcount (hcount.wr (CNC_ERR.PRBSERR l) 1
      (by simp only [CNC_ERR.PRBSERR, CNC_ERR.addr]; omega))) d.portWork_refl).testEnds

end Sys2Proof.Machine
end


section
/-!
The statements of the Vestibule: live service (R132, R133, R544 to R548). This part settles the statement about its commands.
-/

namespace Sys2Proof.Machine

/-! The states of the units. -/

theorem Dev.setSvc_same (d : Dev) (u : UnitId) (x : Svc) : (d.setSvc u x).svcOf u = x :=
  tget_tset_same svcReset d.svc u.key x

theorem Dev.setSvc_other (d : Dev) {u v : UnitId} (x : Svc) (h : v.key ≠ u.key) : (d.setSvc u x).svcOf v = d.svcOf v :=
  tget_tset_ne svcReset d.svc u.key v.key x h

/-! The end of a command, whatever the server. -/

/-- The event of a logged command (R122). -/
def cmdEvent (d : Dev) : Dev :=
  (evqAppend d 0x80 0x01 false (Config.evData .command (d.rd EVQ_NEXTSEQ.SEQ) 0)
    (Config.evData .command (d.rd EVQ_NEXTSEQ.SEQ) 1)).wr EVQ_POSTSEQ.SEQ (d.rd EVQ_NEXTSEQ.SEQ)

theorem postCommand_cases (d : Dev) (kind : Nat) (body : Nat → List Word) :
    (postCommand d kind body).2 = cmdEvent d ∨ ∃ c, (postCommand d kind body).2 = (cmdEvent d).owes c := by
  unfold postCommand
  dsimp only
  split
  · exact .inr ⟨_, rfl⟩
  · exact .inl rfl

theorem cmdEvent_svc (d : Dev) : (cmdEvent d).svc = d.svc := (evqAppend_units d _ _ _ _ _).2.1

theorem cmdEvent_faults (d : Dev) (hroom : d.evq.length < 240) : (cmdEvent d).faults = d.faults := by
  rw [cmdEvent, evqAppend_room _ _ _ _ _ _ hroom]
  rfl

theorem cmdEvent_regs (d : Dev) (hroom : d.evq.length < 240) : Dev.sameRegs evRegs d (cmdEvent d) := fun a ha => by
  simp only [evRegs, List.mem_cons, List.not_mem_nil, or_false, not_or] at ha
  rw [cmdEvent, Dev.wr_ld_ne _ _ _ _ ha.2, evqAppend_room _ _ _ _ _ _ hroom]
  exact d.wr_ld_ne _ _ _ ha.1

theorem postCommand_svc (d : Dev) (kind : Nat) (body : Nat → List Word) : (postCommand d kind body).2.svc = d.svc := by
  obtain h | ⟨c, h⟩ := postCommand_cases d kind body <;> rw [h] <;> exact cmdEvent_svc d

theorem postCommand_faults (d : Dev) (kind : Nat) (body : Nat → List Word) (hroom : d.evq.length < 240) :
    (postCommand d kind body).2.faults = d.faults := by
  obtain h | ⟨c, h⟩ := postCommand_cases d kind body <;> rw [h] <;> exact cmdEvent_faults d hroom

theorem postCommand_regs (d : Dev) (kind : Nat) (body : Nat → List Word) (hroom : d.evq.length < 240) :
    Dev.sameRegs evRegs d (postCommand d kind body).2 := by
  obtain h | ⟨c, h⟩ := postCommand_cases d kind body <;> rw [h] <;> exact cmdEvent_regs d hroom

section
variable (d : Dev) (slot status : Nat) (pl : List Byte) (deferred : Bool) (hpl : pl.length ≤ 248)
include hpl

theorem complete_svc : (complete d slot status pl deferred).svc = d.svc := by
  unfold complete
  split
  · rw [respondLogged_eq, (respond_replies _ slot status _ pl deferred hpl).svc, postCommand_svc]
  · exact (respond_replies d slot status 0 pl deferred hpl).svc

/-- A command that succeeds is answered with the number of its event. -/
theorem complete_answers (hst : status < 2) (hs : slot < 4) (hroom : d.evq.length < 240) :
    (complete d slot status pl deferred).faults = d.faults ∧
      d.answered (complete d slot status pl deferred) slot status (d.rd EVQ_NEXTSEQ.SEQ) pl := by
  have hr (kind : Nat) (body : Nat → List Word) := respond_replies (postCommand d kind body).2 slot status
    (d.rd EVQ_NEXTSEQ.SEQ) pl deferred hpl
  rw [complete, if_pos hst, respondLogged_eq]
  exact ⟨(hr _ _).faults.trans (postCommand_faults d _ _ hroom),
    (hr _ _).answered.before (postCommand_regs d _ _ hroom) sparesCommands_evRegs hs⟩

end

/-! The end of a drain. -/

/-- The commands that wait for the unit are no longer noted. -/
def svcTaken (d : Dev) (u : UnitId) : Dev := { d with wl := { d.wl with svcSlot := tdrop (· == u.key) d.wl.svcSlot } }

/-- The answer of a command that waited for the unit (Table VST.8). -/
def svcAnswer (u : UnitId) (d : Dev) (n : Nat) : Dev := complete d n 0 [b8 (d.svcOf u).code, 0#8, 0#8, 0#8] true

theorem svcReport_open (d : Dev) (u : UnitId) (h : d.niOpen 0 = true) :
    svcReport d u = (tget (fun _ => []) d.wl.svcSlot u.key).foldl (svcAnswer u) (svcTaken d u) :=
  if_neg (by rw [h]; decide)

theorem svcReport_svc (d : Dev) (u : UnitId) : (svcReport d u).svc = d.svc := by
  cases h : d.niOpen 0 with
  | false => rw [svcReport, h]; rfl
  | true =>
    rw [svcReport_open d u h]
    exact foldl_keep Dev.svc (svcAnswer u) (fun e n => complete_svc e n 0 _ true (by simp)) _ (svcTaken d u)

theorem unitOut_out (d : Dev) (u : UnitId) : (unitOut d u).svcOf u = .outOfService := by
  cases u with
  | bank b =>
    unfold unitOut bankOut
    dsimp only
    rw [Dev.svcOf, Dev.wr_svc]
    exact Dev.setSvc_same _ (.bank b) _
  | prog b =>
    unfold unitOut progOut
    exact Dev.setSvc_same _ _ _
  | col c => exact d.setSvc_same (.col c) _
  | lane l =>
    have hset (g : Dev) : (g.setSvc (.lane l) .outOfService).stands (reclaimOwner (g.setSvc (.lane l) .outOfService) (8 + l)) :=
      reclaimOwner_stands (Dev.stands_refl _) _
    have hgroup {g e : Dev} (h : g.stands e) (c : Bool) : g.stands (if c then regroup (sendLinkstate e) else e) :=
      ite_stands _ (regroup_stands (sendLinkstate_stands h)) h
    exact (hgroup (hset _) _).out _ (Dev.setSvc_same _ _ _)
  | atb n =>
    have hset (g : Dev) (c : Prop) [Decidable c] (m : Nat) (h : g.svcOf (.atb n) = .outOfService) :
        (if c then { g with atrOff := m } else g).svcOf (.atb n) = .outOfService := by split <;> exact h
    exact hset _ _ _ (Dev.setSvc_same _ _ _)

/-- A unit that is OUT_OF_SERVICE stays so to the end of the command. -/
theorem settled_out {d : Dev} {u : UnitId} (h : d.svcOf u = .outOfService) : (settle (svcReport d u)).svcOf u = .outOfService := by
  refine (settle_stands (Dev.stands_refl _)).out u ?_
  rw [Dev.svcOf, svcReport_svc]
  exact h

theorem completes_settle {c : Instr} {s : State} {d : Dev} {p : State → Prop} (hexec : exec c s = fin s d)
    (h : p { s with dev := settle d }) : Completes c s p := ⟨_, hexec, h⟩

end Sys2Proof.Machine
end


section
/-!
The statements of the Vestibule: live service (R132, R133, R544 to R548). This part settles the statement about its commands.
-/

namespace Sys2Proof.Machine

/-! The unit that a command names. -/

theorem unitOf_bank {ty idx b : Nat} (h : unitOf ty idx = some (.bank b)) : b < 6 := by
  unfold unitOf at h
  split at h <;> simp at h
  omega

theorem unitOf_col {ty idx c : Nat} (h : unitOf ty idx = some (.col c)) : idx = c ∧ c < 132 := by
  unfold unitOf at h
  split at h <;> simp at h
  omega

/-- The unit, the request and the reserved byte of SET_SERVICE and SELFTEST (Table VST.8). -/
theorem cmdUnit_of {d : Dev} {slot ty idx n : Nat} {u : UnitId} (hu : unitOf ty idx = some u) (hty : d.cmdAt slot 8 1 = ty)
    (hidx : d.cmdAt slot 9 1 = idx) (hn : d.cmdAt slot 10 2 = n) (hlt : n < 256) :
    d.cmdUnit slot = some u ∧ d.cmdAt slot 10 1 = n ∧ d.cmdAt slot 11 1 = 0 := by
  obtain ⟨hlow, hres⟩ := cmdAt_small (d := d) (slot := slot) (o := 10) (m := 1) (n := 1) (by rw [hn]; exact hlt)
  exact ⟨by rw [Dev.cmdUnit, hty, hidx, hu], hlow.trans hn, hres⟩

/-! SET_SERVICE. -/

/-- What the start of a drain does to the unit itself (R213). -/
def drainStart (d : Dev) (u : UnitId) (rxing : List Nat) : Dev :=
  match u with
  | .bank b => bankForce d b rxing
  | _ => d

theorem drainStart_portWork (d : Dev) (u : UnitId) (rxing : List Nat) : d.portWork (drainStart d u rxing) := by
  cases u with
  | bank b => exact bankForce_portWork d.portWork_refl b rxing
  | prog b => exact d.portWork_refl
  | col c => exact d.portWork_refl
  | lane l => exact d.portWork_refl
  | atb n => exact d.portWork_refl

section
variable {d : Dev} {slot ty idx : Nat} {u : UnitId} {rxing : List Nat} (hu : unitOf ty idx = some u)
  (hty : d.cmdAt slot 8 1 = ty) (hidx : d.cmdAt slot 9 1 = idx) (hreq : d.cmdAt slot 10 2 = 2) (hbusy : d.unitBusy u = false)
include hu hty hidx hreq hbusy

theorem vstSetService_drains (hin : d.svcOf u = .inService) (hok : d.svcPermits u .outOfService = true) :
    vstSetService d slot rxing = svcWait ((drainStart d u rxing).setSvc u .draining) u slot := by
  obtain ⟨hunit, hask, hres⟩ := cmdUnit_of hu hty hidx hreq (by decide)
  have hwant : svcAsked 2 = some .outOfService := rfl
  rw [vstSetService, hunit, hask, hwant]
  simp only [hres, hbusy, hok, ne_eq, not_true_eq_false, Bool.false_eq_true, Bool.not_true, if_false, svcStart, hin]
  cases u <;> rfl

theorem vstSetService_refused (hno : d.svcPermits u .outOfService = false) :
    vstSetService d slot rxing = complete d slot 6 (svcOut (d.svcOf u).code) true := by
  obtain ⟨hunit, hask, hres⟩ := cmdUnit_of hu hty hidx hreq (by decide)
  have hwant : svcAsked 2 = some .outOfService := rfl
  rw [vstSetService, hunit, hask, hwant]
  simp only [hres, hbusy, hno, ne_eq, not_true_eq_false, Bool.false_eq_true, Bool.not_false, if_false, if_true]

end

/-- The device after a command has started a drain. -/
structure Dev.drains (d e : Dev) (u : UnitId) (slot : Nat) : Prop where
  faults : e.faults = d.faults
  unit : e.svcOf u = .draining
  waits : tget (fun _ => []) e.wl.svcSlot u.key = [slot]
  busy : e.slot slot = d.slot slot
  others : ∀ v : UnitId, v.key ≠ u.key → e.svcOf v = d.svcOf v

theorem svcWait_drains {d e : Dev} {u : UnitId} (slot : Nat) (h : d.portWork e) :
    d.drains (svcWait (e.setSvc u .draining) u slot) u slot where
  faults := h.faults
  unit := e.setSvc_same u .draining
  waits := tget_tset_same (fun _ => []) e.wl.svcSlot u.key [slot]
  busy := by
    have hslot : (svcWait (e.setSvc u .draining) u slot).slot slot = e.slot slot := rfl
    rw [hslot, Dev.slot, h.vst, Dev.slot]
  others := fun v hv => (e.setSvc_other .draining hv).trans (by rw [Dev.svcOf, h.svc, Dev.svcOf])

/-! Drains. -/

theorem drainDone_drained {d : Dev} {ty idx : Nat} {u : UnitId} (hu : unitOf ty idx = some u) (hopen : d.niOpen 0 = true)
    (hdrain : d.svcOf u = .draining) (hdone : d.drained u = true) : drainDone d ty idx = svcReport (unitOut d u) u := by
  rw [drainDone, hu]
  exact if_pos ⟨hopen, hdrain, hdone⟩

theorem drainForce_out {d : Dev} {b : Nat} (sending : List Nat) (hb : b < 6) (hopen : d.niOpen 0 = true)
    (hdrain : d.svcOf (.bank b) = .draining) : ∃ e, drainForce d b sending = svcReport e (.bank b) ∧
      e.svcOf (.bank b) = .outOfService := by
  have hcut (g : Dev) (l : List Nat) : (l.foldl (fun d n => d.bump (PBK_CNT4.TXABORT n) 1) g).svc = g.svc :=
    foldl_keep Dev.svc (fun d n => d.bump (PBK_CNT4.TXABORT n) 1) (fun _ _ => rfl) l g
  rw [drainForce, if_neg (by simp [hopen, hdrain]; omega)]
  refine ⟨_, rfl, ?_⟩
  rw [Dev.svcOf, hcut]
  exact unitOut_out d (.bank b)

/-- An Atrium bank that has gone out of service. -/
structure Dev.atbGone (d e : Dev) (n : Nat) : Prop where
  only : e = { d with svc := e.svc, atrOff := e.atrOff }
  unit : e.svcOf (.atb n) = .outOfService

theorem atbOut_gone (d : Dev) (n : Nat) : d.atbGone (unitOut d (.atb n)) n where
  only := by
    unfold unitOut atbOut
    dsimp only
    split <;> rfl
  unit := unitOut_out d (.atb n)

/-- The command that waited for an Atrium bank is answered. -/
theorem svcReport_atb {d e : Dev} {n slot : Nat} (h : d.atbGone e n) (hopen : d.niOpen 0 = true) (hroom : d.evq.length < 240)
    (hwait : tget (fun _ => []) d.wl.svcSlot (UnitId.atb n).key = [slot]) (hslot : slot < 4) :
    (svcReport e (.atb n)).faults = d.faults ∧
      d.answered (svcReport e (.atb n)) slot 0 (d.rd EVQ_NEXTSEQ.SEQ) [2#8, 0#8, 0#8, 0#8] := by
  have hregs : Dev.sameRegs [] d (svcTaken e (.atb n)) := by
    rw [svcTaken, h.only]
    exact fun _ _ => rfl
  have hunit : (svcTaken e (.atb n)).svcOf (.atb n) = .outOfService := h.unit
  have hevq : (svcTaken e (.atb n)).evq = d.evq := by rw [svcTaken, h.only]
  have hfaults : (svcTaken e (.atb n)).faults = d.faults := by rw [svcTaken, h.only]
  have hopen' : e.niOpen 0 = true := by rw [h.only]; exact hopen
  have hwait' : tget (fun _ => []) e.wl.svcSlot (UnitId.atb n).key = [slot] := by rw [h.only]; exact hwait
  have hans := complete_answers (svcTaken e (.atb n)) slot 0 [2#8, 0#8, 0#8, 0#8] true (by decide) (by decide) hslot
    (by rw [hevq]; exact hroom)
  have hreport : svcReport e (.atb n) = complete (svcTaken e (.atb n)) slot 0 [2#8, 0#8, 0#8, 0#8] true := by
    rw [svcReport_open e _ hopen', hwait', List.foldl_cons, List.foldl_nil, svcAnswer, hunit]
    rfl
  rw [hreport]
  refine ⟨hans.1.trans hfaults, ?_⟩
  have hback := hans.2.before hregs sparesCommands_nil hslot
  rwa [hregs.rd EVQ_NEXTSEQ.SEQ (by decide)] at hback

/-! Column repair. -/

theorem Dev.sameBytes.trans {d e g : Dev} (h : d.sameBytes e) (k : e.sameBytes g) : d.sameBytes g :=
  ⟨fun a => (k.1 a).trans (h.1 a), fun a => (k.2.1 a).trans (h.2.1 a), fun a => (k.2.2 a).trans (h.2.2 a)⟩

section
variable {d : Dev} {slot col : Nat} (hcol : d.cmdAt slot 8 4 = col) (hlt : col < 128) (hfree : d.on GSQ_REPCTL.ARMED = false)
include hcol hlt hfree

/-- REPAIR_COLUMN with spare 0. -/
theorem vstRepairColumn_spare0 : vstRepairColumn d slot =
    if d.svcOf (.col 128) = .outOfService then repairArm d slot col 0
    else complete d slot 6 (svcOut (d.svcOf (.col 128)).code) true := by
  obtain ⟨hlow, hrest⟩ := cmdAt_small (d := d) (slot := slot) (o := 8) (m := 1) (n := 3) (by rw [hcol]; omega)
  have hsplit := cmdAt_add d slot 9 1 2
  have hspare : d.cmdAt slot 9 1 = 0 := by simp only [Nat.reduceAdd] at hsplit hrest; omega
  have hres : d.cmdAt slot 10 2 = 0 := by simp only [Nat.reduceAdd] at hsplit hrest; omega
  rw [vstRepairColumn, hlow, hcol, hspare, hres]
  simp only [hfree]
  rw [if_neg (by omega), if_neg Bool.false_ne_true, if_neg (by decide)]
  rfl

end

/-- The registers of an armed repair (R348). -/
def repairSet (d : Dev) (col : Nat) : Dev := ((d.wr GSQ_REPCTL.LCOL col).wr GSQ_REPCTL.SPARE 0).wr GSQ_REPCTL.ARMED 1

theorem repairSet_rd (d : Dev) (col : Nat) (hlt : col < 128) :
    (repairSet d col).rd GSQ_REPCTL.LCOL = col ∧ (repairSet d col).rd GSQ_REPCTL.SPARE = 0 ∧
      (repairSet d col).rd GSQ_REPCTL.ARMED = 1 := by
  have hwr (d : Dev) (f : Fld) (v : Nat) (hlo : f.lo ≤ f.hi) (hhi : f.hi < 32) (hv : v < 2 ^ (f.hi + 1 - f.lo)) :
      (d.wr f v).rd f = v := (d.wr_rd f v hlo hhi).trans (Nat.mod_eq_of_lt hv)
  have hbelow (d : Dev) (g f : Fld) (v : Nat) := d.wr_rd_below g f v
  refine ⟨?_, ?_, hwr _ GSQ_REPCTL.ARMED 1 (by decide) (by decide) (by decide)⟩
  · rw [repairSet, hbelow _ GSQ_REPCTL.ARMED GSQ_REPCTL.LCOL 1 (by decide) (by decide) (by decide) (by decide) rfl,
      hbelow _ GSQ_REPCTL.SPARE GSQ_REPCTL.LCOL 0 (by decide) (by decide) (by decide) (by decide) rfl]
    exact hwr d GSQ_REPCTL.LCOL col (by decide) (by decide) hlt
  · rw [repairSet, hbelow _ GSQ_REPCTL.ARMED GSQ_REPCTL.SPARE 1 (by decide) (by decide) (by decide) (by decide) rfl]
    exact hwr _ GSQ_REPCTL.SPARE 0 (by decide) (by decide) (by decide)

theorem repairSet_regs (d : Dev) (col : Nat) : Dev.sameRegs [GSQ_REPCTL.addr] d (repairSet d col) :=
  ((d.sameRegs_wr GSQ_REPCTL.LCOL col (by decide)).trans (Dev.sameRegs_wr _ GSQ_REPCTL.SPARE 0 (by decide))).trans
    (Dev.sameRegs_wr _ GSQ_REPCTL.ARMED 1 (by decide))

/-- The device after REPAIR_COLUMN has armed a repair. -/
structure Dev.repairs (d e : Dev) (slot col : Nat) : Prop where
  faults : e.faults = d.faults
  armed : e.rd GSQ_REPCTL.LCOL = col ∧ e.rd GSQ_REPCTL.SPARE = 0 ∧ e.rd GSQ_REPCTL.ARMED = 1
  waits : e.wl.repSlot = some slot
  busy : e.slot slot = d.slot slot
  regs : Dev.sameRegs [GSQ_REPCTL.addr] d e
  sameBytes : d.sameBytes e

/-- Wailith notes the command that armed a repair. -/
def repairWaits (d : Dev) (slot : Nat) : Dev :=
  { (d.setGal (fun g => { g with repReady := false })) with wl := { d.wl with repSlot := some slot } }

theorem repairWaits_rd (d : Dev) (slot : Nat) (f : Fld) : (repairWaits d slot).rd f = d.rd f := rfl

theorem repairArm_eq (d : Dev) (slot col : Nat) : repairArm d slot col 0 = repairWaits (repairSet d col) slot := rfl

theorem repairArm_repairs (d : Dev) (slot col : Nat) (hlt : col < 128) : d.repairs (repairArm d slot col 0) slot col := by
  have hnoted (e : Dev) : e.sameBytes (repairWaits e slot) ∧ (repairWaits e slot).wl.repSlot = some slot ∧
      (repairWaits e slot).slot slot = e.slot slot ∧ (repairWaits e slot).faults = e.faults ∧ (repairWaits e slot).regs = e.regs :=
    ⟨⟨fun _ => rfl, fun _ => rfl, fun _ => rfl⟩, rfl, rfl, rfl, rfl⟩
  have honly : d.onlyRegs (repairSet d col) := ((d.onlyRegs_wr _ _).trans (Dev.onlyRegs_wr _ _ _)).trans (Dev.onlyRegs_wr _ _ _)
  obtain ⟨hbytes, hwaits, hbusy, hfaults, hregs⟩ := hnoted (repairSet d col)
  obtain ⟨hcol, hspare, harmed⟩ := repairSet_rd d col hlt
  have hslot {e : Dev} (h : d.onlyRegs e) : e.slot slot = d.slot slot := by rw [h]; rfl
  rw [repairArm_eq]
  exact {
    faults := hfaults.trans honly.faults
    armed := ⟨(repairWaits_rd _ _ _).trans hcol, (repairWaits_rd _ _ _).trans hspare, (repairWaits_rd _ _ _).trans harmed⟩
    waits := hwaits
    busy := hbusy.trans (hslot honly)
    regs := fun a ha => (congrArg (fun r => tget regReset r a) hregs).trans (repairSet_regs d col a ha)
    sameBytes := honly.sameBytes.trans hbytes }

/-! Self-tests. -/

/-- The test of a unit is under way. -/
def testWaits (d : Dev) (u : UnitId) (slot t : Nat) : Dev :=
  { d with wl := { d.wl with testSlot := tset (fun _ => (0, 0)) d.wl.testSlot u.key (slot, t) } }

theorem vstSelftest_starts {d : Dev} {slot ty idx test : Nat} {u : UnitId} (hu : unitOf ty idx = some u)
    (hty : d.cmdAt slot 8 1 = ty) (hidx : d.cmdAt slot 9 1 = idx) (htest : d.cmdAt slot 10 2 = test)
    (hlisted : testListed u test = true) (hbusy : d.unitBusy u = false) (hunder : d.svcOf u = .underTest)
    (hblock : d.testBlocked u test = false) : vstSelftest d slot = testWaits (testLoops d u test) u slot test := by
  have hsmall := testListed_lt hlisted
  obtain ⟨hunit, hask, hres⟩ := cmdUnit_of hu hty hidx htest (by omega)
  rw [vstSelftest, hunit]
  simp only [hask, hres, hlisted, hbusy, hunder, hblock, ne_eq, not_true_eq_false, Bool.not_true, Bool.false_eq_true,
    or_self, if_false]
  rfl

/-- The device after SELFTEST has started a test. -/
structure Dev.testing (d e : Dev) (u : UnitId) (slot t : Nat) : Prop where
  faults : e.faults = d.faults
  waits : tget (fun _ => (0, 0)) e.wl.testSlot u.key = (slot, t)
  busy : e.slot slot = d.slot slot
  svc : e.svc = d.svc
  loops : ∀ b k, u = .bank b → k < 8 → e.rd (PBK_LOOP.DEPTH (8 * b + k)) = t
  sameBytes : d.sameBytes e

theorem testWaits_testing (d : Dev) (u : UnitId) (slot t : Nat) (ht : t < 8) :
    d.testing (testWaits (testLoops d u t) u slot t) u slot t := by
  have hwork := testLoops_portWork d.portWork_refl u t
  have hslot (e : Dev) : (testWaits e u slot t).slot slot = e.slot slot := rfl
  have hrd (e : Dev) (f : Fld) : (testWaits e u slot t).rd f = e.rd f := rfl
  have hbytes {e : Dev} (h : d.sameBytes e) : d.sameBytes (testWaits e u slot t) := h
  refine ⟨hwork.faults, tget_tset_same (fun _ => (0, 0)) _ _ _, ?_, hwork.svc, fun b k hb hk => ?_, hbytes hwork.sameBytes⟩
  · rw [hslot, Dev.slot, hwork.vst, Dev.slot]
  · rw [hrd, hb]
    exact testLoops_depth d b k t hk ht

/-- The test of a unit has ended: its loop-backs are cleared, and its command is no longer noted. -/
def testDropped (d : Dev) (u : UnitId) : Dev :=
  { d with wl := { d.wl with testSlot := tdrop (· == u.key) d.wl.testSlot } }

theorem testEnd_alone {d : Dev} {u : UnitId} {slot t : Nat} (h : d.wl.testSlot = [(u.key, (slot, t))]) (result detail : Nat) :
    testEnd d u result detail = complete (testDropped (testLoops (testAfter d u t detail) u 0) u) slot 0
      (leBytes 4 result ++ leBytes 4 detail) true := by
  have hfind : d.wl.testSlot.find? (fun e => e.1 == u.key) = some (u.key, (slot, t)) := by simp [h]
  rw [testEnd, hfind]
  rfl

/-- The device after the answer to a self-test. -/
structure Dev.testAnswers (d e : Dev) (slot : Nat) (pl : List Byte) : Prop where
  faults : e.faults = d.faults
  answered : d.answered e slot 0 (d.rd EVQ_NEXTSEQ.SEQ) pl
  noted : e.wl.testSlot = []
  svc : e.svc = d.svc

/-- A response to the command as it stood in a device with the same command words. -/
theorem Dev.answered.of_words {c d e : Dev} {slot status evseq : Nat} {pl : List Byte} (h : d.answered e slot status evseq pl)
    (hs : slot < 4) (hcmd : ∀ w, w < 256 → d.ld (VST_CMD.addr w) = c.ld (VST_CMD.addr w)) :
    c.answered e slot status evseq pl := by
  have hat {o k : Nat} (hk : o + k ≤ 256) : d.cmdAt slot o k = c.cmdAt slot o k := congrArg leNat (cmdBytes_congr hs hk hcmd)
  refine ⟨h.1, h.2.trans ?_⟩
  simp only [Dev.rspHeader, Dev.cmdOp, Dev.cmdTag, hat (show 0 + 1 ≤ 256 by omega), hat (show 2 + 2 ≤ 256 by omega)]

theorem testDropped_rd (d : Dev) (u : UnitId) (f : Fld) : (testDropped d u).rd f = d.rd f := rfl

theorem testDropped_alone {d : Dev} {u : UnitId} {x : Nat × Nat} (h : d.wl.testSlot = [(u.key, x)]) :
    (testDropped d u).wl.testSlot = [] := by
  have hdrop : (testDropped d u).wl.testSlot = tdrop (· == u.key) d.wl.testSlot := rfl
  rw [hdrop, h]
  simp [tdrop]

section
variable {d m : Dev} {u : UnitId} {slot t : Nat} (hend : d.testEnds m)
include hend

theorem Dev.testEnds.droppedRd (f : Fld) (hf : f.addr < 0x40010000) : (testDropped m u).rd f = d.rd f := by
  rw [testDropped_rd, Dev.rd, hend.regs _ hf, Dev.rd]

theorem testDropped_logs (pl : List Byte) (hpl : pl.length ≤ 248) (hslot : slot < 4) (hroom : d.evq.length < 240)
    (hserver : d.rd VST_FWSTAT.SERVER = 1) :
    ∃ c, (testDropped m u).logs (complete (testDropped m u) slot 0 pl true) slot 0 pl c := by
  refine complete_logs _ slot 0 pl true (by decide) hslot hpl ?_ ?_
  · have hevq : (testDropped m u).evq = m.evq := rfl
    rw [hevq, hend.only]
    exact hroom
  · rw [hend.droppedRd _ (by decide), hserver]
    decide

/-- The answer once the test's traces are gone. -/
theorem testDropped_answers (h : d.wl.testSlot = [(u.key, (slot, t))]) (pl : List Byte) (hpl : pl.length ≤ 248)
    (hslot : slot < 4) (hroom : d.evq.length < 240) (hserver : d.rd VST_FWSTAT.SERVER = 1) :
    d.testAnswers (complete (testDropped m u) slot 0 pl true) slot pl := by
  have hwords (w : Nat) (hw : w < 256) : (testDropped m u).ld (VST_CMD.addr w) = d.ld (VST_CMD.addr w) :=
    hend.regs _ (by simp only [VST_CMD.addr]; omega)
  have hframe : (testDropped m u).faults = m.faults ∧ (testDropped m u).svc = m.svc := ⟨rfl, rfl⟩
  have hkept : m.faults = d.faults ∧ m.svc = d.svc := by
    rw [hend.only]
    exact ⟨rfl, rfl⟩
  have hnoted : (testDropped m u).wl.testSlot = [] := testDropped_alone (by rw [hend.only]; exact h)
  obtain ⟨c, hlogs⟩ := testDropped_logs (u := u) hend pl hpl hslot hroom hserver
  refine ⟨hlogs.faults.trans (hframe.1.trans hkept.1), ?_, by rw [hlogs.wl]; exact hnoted,
    hlogs.svc.trans (hframe.2.trans hkept.2)⟩
  have hans := hlogs.answered.of_words hslot hwords
  rwa [hend.droppedRd EVQ_NEXTSEQ.SEQ (by decide)] at hans

end

theorem testEnd_answers {d : Dev} {u : UnitId} {slot t : Nat} (h : d.wl.testSlot = [(u.key, (slot, t))])
    (result detail : Nat) (hslot : slot < 4) (hroom : d.evq.length < 240) (hserver : d.rd VST_FWSTAT.SERVER = 1) :
    d.testAnswers (testEnd d u result detail) slot (leBytes 4 result ++ leBytes 4 detail) := by
  rw [testEnd_alone h]
  exact testDropped_answers ((testAfter_ends d u t detail).trans (testLoops_portWork (Dev.portWork_refl _) u 0).testEnds) h _
    (by simp) hslot hroom hserver

theorem testDone_ends {d : Dev} {ty idx : Nat} {u : UnitId} (hu : unitOf ty idx = some u) (hmode : d.mode = .run)
    (hserver : d.rd VST_FWSTAT.SERVER = 1) (hgap : ∀ c, u = .col c → d.inFrame = false) (result detail : Nat) :
    testDone d ty idx result detail = testEnd d u result detail := by
  rw [testDone, hu]
  simp only [hserver, hmode, ne_eq, not_true_eq_false, or_self, if_false]
  cases u with
  | col c => exact if_neg (by rw [hgap c rfl]; decide)
  | bank b => rfl
  | prog b => rfl
  | lane l => rfl
  | atb n => rfl

/-- The end of a column test without a gap touches no memory. -/
theorem testGap_answers {d : Dev} {c slot t : Nat} (hc : c < 132) (hmode : d.mode = .run) (hbank : d.activeBank.isSome = true)
    (h : d.wl.testSlot = [((UnitId.col c).key, (slot, t))]) (hslot : slot < 4) (hroom : d.evq.length < 240)
    (hserver : d.rd VST_FWSTAT.SERVER = 1) :
    ∃ detail, d.testAnswers (testGap d c) slot (leBytes 4 0xFFFFFFFF ++ leBytes 4 detail) ∧ d.sameBytes (testGap d c) := by
  have hsome : d.activeBank.isNone = false := by rw [Option.isNone_eq_false_iff]; exact hbank
  have hgap : testGap d c = testEnd d.draw (.col c) 0xFFFFFFFF (Config.freeWord d.seed).toNat :=
    if_neg (by simp only [hmode, hsome]; simp; omega)
  have hdraw : d.draw.testEnds d.draw := (Dev.portWork_refl _).testEnds
  have hans := testEnd_answers (d := d.draw) (u := .col c) h 0xFFFFFFFF (Config.freeWord d.seed).toNat hslot hroom hserver
  obtain ⟨k, hlogs⟩ := testDropped_logs (u := .col c) hdraw (leBytes 4 0xFFFFFFFF ++ leBytes 4 (Config.freeWord d.seed).toNat)
    (by simp) hslot hroom hserver
  have hbytes : d.sameBytes (testDropped d.draw (.col c)) := ⟨fun _ => rfl, fun _ => rfl, fun _ => rfl⟩
  rw [hgap]
  refine ⟨_, ⟨hans.faults, hans.answered, hans.noted, hans.svc⟩, ?_⟩
  rw [testEnd_alone (d := d.draw) (u := .col c) h]
  exact hbytes.trans hlogs.sameBytes

/-- Settles O43: what a drain, a repair and a test start and end with; what a drain that ends leaves OUT_OF_SERVICE stays so
through the answers and the integrity faults of its cycle. -/
theorem serviceCommandsStartAndFinish : Obligations.ServiceCommandsStartAndFinish := by
  intro slot ty idx rxing u s hquiet hmode hu
  obtain ⟨hf, hroom200, -⟩ := hquiet
  have hroom : s.dev.evq.length < 240 := lt_trans hroom200 (by decide)
  have hopen : s.dev.niOpen 0 = true := niOpen_core s.dev 0 (by simp [Dev.coreOn, hmode]) (by rw [hmode]; decide)
  refine ⟨fun hserve hty hidx hreq hbusy => ⟨fun hin hok => ?_, fun hno => ?_⟩, fun hdrain hdone => ?_, fun b sending hb hdrain => ?_,
    fun hserve hcol hb hlt hfree => ⟨fun hout => ?_, fun hin => ?_⟩,
    fun test hserve hty hidx htest hlisted hbusy hunder hblock => ?_,
    fun test result detail hslot hnoted hserver => ⟨fun hgap => ?_, fun hc hbank => ?_⟩⟩
  · have hset := vstSetService_drains (rxing := rxing) hu hty hidx hreq hbusy hin hok
    refine completes_serves_of (f := (vstSetService · slot rxing)) (r := (s.dev.drains · u slot)) rfl hserve ?_
      (fun e he => he.faults.trans hf) fun e he => ⟨he.unit, he.waits, he.busy.trans hserve.2.1, he.others⟩
    rw [hset]
    exact svcWait_drains slot (drainStart_portWork s.dev u rxing)
  · refine completes_reply (f := (vstSetService · slot rxing)) rfl hserve hf ?_ fun e he => ⟨he.answered, he.svc, he.regs, he.sameBytes⟩
    rw [vstSetService_refused hu hty hidx hreq hbusy hno]
    exact complete_replies s.dev slot 6 _ true (by decide) (by simp [svcOut])
  · have hexec : exec (.drainComplete ty idx) s = fin s (svcReport (unitOut s.dev u) u) :=
      congrArg (fin s) (drainDone_drained hu hopen hdrain hdone)
    refine completes_settle hexec ⟨settled_out (unitOut_out s.dev u), fun n hn hwait hslot => ?_⟩
    subst hn
    obtain ⟨hfaults, hans⟩ := svcReport_atb (atbOut_gone s.dev n) hopen hroom hwait hslot
    rw [settle_none _ (hfaults.trans hf)]
    exact ⟨hans.1, hans⟩
  · subst hb
    obtain ⟨e, hforce, hout⟩ := drainForce_out sending (unitOf_bank hu) hopen hdrain
    exact completes_settle (congrArg (fin s) hforce) (settled_out hout)
  · refine completes_serves_of (f := (vstRepairColumn · slot)) (r := (s.dev.repairs · slot idx)) rfl hserve ?_
      (fun e he => he.faults.trans hf) fun e he => ⟨he.armed.1, he.armed.2.1, he.armed.2.2, he.waits, he.busy.trans hserve.2.1,
        he.regs, he.sameBytes⟩
    rw [vstRepairColumn_spare0 hcol hlt hfree, if_pos hout]
    exact repairArm_repairs s.dev slot idx hlt
  · refine completes_reply (f := (vstRepairColumn · slot)) rfl hserve hf ?_ fun e he => ⟨he.answered, he.regs, he.sameBytes⟩
    rw [vstRepairColumn_spare0 hcol hlt hfree, if_neg hin]
    exact complete_replies s.dev slot 6 _ true (by decide) (by simp [svcOut])
  · refine completes_serves_of (f := (vstSelftest · slot)) (r := (s.dev.testing · u slot test)) rfl hserve ?_
      (fun e he => he.faults.trans hf) fun e he => ⟨he.waits, he.busy.trans hserve.2.1, he.svc, he.loops, he.sameBytes⟩
    rw [vstSelftest_starts hu hty hidx htest hlisted hbusy hunder hblock]
    exact testWaits_testing s.dev u slot test (lt_trans (testListed_lt hlisted) (by decide))
  · have hans := testEnd_answers hnoted result detail hslot hroom hserver
    have hdone : testDone s.dev ty idx result detail = testEnd s.dev u result detail :=
      testDone_ends hu hmode hserver hgap result detail
    have hexec : exec (.selftestComplete ty idx result detail) s = fin s (testEnd s.dev u result detail) :=
      congrArg (fin s) hdone
    exact completes_fin hexec (hans.faults.trans hf) ⟨hans.answered, hans.noted, hans.svc⟩
  · subst hc
    obtain ⟨detail, hans, hbytes⟩ := testGap_answers (unitOf_col hu).2 hmode hbank hnoted hslot hroom hserver
    exact completes_fin (c := .selftestGapTimeout idx) (s := s) rfl (hans.faults.trans hf)
      ⟨⟨detail, hans.answered⟩, hans.noted, hans.svc, hbytes⟩

end Sys2Proof.Machine
end


section
/-!
The statements of the Vestibule: the commands that act on modes, trips and the Logbook (R122 to R125, R134). This part says what
the records before a command and the cause flags of a trip leave.
-/

namespace Sys2Proof.Machine

/-! Records. -/

/-- `e` is `d` after Wailith has written records: the Logbook outside its header, Wailith's bookkeeping, and events taken from
the EVQ. -/
structure Dev.records (d e : Dev) : Prop where
  only : e = { d with evq := e.evq, log := e.log, logErr := e.logErr, wl := e.wl }
  header : ∀ a, a < 64 → e.logByte a = d.logByte a
  fewer : e.evq.length ≤ d.evq.length

theorem Dev.records_refl (d : Dev) : d.records d := ⟨rfl, fun _ _ => rfl, le_refl _⟩

theorem Dev.records.trans {d e g : Dev} (h : d.records e) (k : e.records g) : d.records g where
  only := by rw [k.only, h.only]
  header := fun a ha => (k.header a ha).trans (h.header a ha)
  fewer := k.fewer.trans h.fewer

theorem logAppend_records (d : Dev) (kind evseq : Nat) (soon : Bool) (body : List Word) :
    d.records (logAppend d kind evseq soon body) where
  only := by rw [logAppend_only]
  header := logAppend_header d kind evseq soon body
  fewer := by rw [logAppend_evq]

theorem logEvent_records (d : Dev) (e : Ev) : d.records (logEvent d e) := by
  have htaken (w : Wail) : d.records { d with wl := w } := ⟨rfl, fun _ _ => rfl, le_refl _⟩
  unfold logEvent
  split
  · split
    · exact (htaken _).trans (logAppend_records _ _ _ _ _)
    · exact d.records_refl
  · exact logAppend_records _ _ _ _ _

theorem logNext_records (d : Dev) : d.records (logNext d) := by
  have htaken (vs : List Ev) (h : vs.length ≤ d.evq.length) : d.records { d with evq := vs } := ⟨rfl, fun _ _ => rfl, h⟩
  unfold logNext
  split
  · exact htaken _ (Nat.zero_le _)
  · next e r hdrop =>
    have hlen : r.length ≤ d.evq.length := by
      have := (List.dropWhile_suffix (fun e => !d.selects e) (l := d.evq)).length_le
      rw [hdrop, List.length_cons] at this
      omega
    exact (htaken r hlen).trans (logEvent_records _ e)

theorem logAllN_records : ∀ (n : Nat) (d : Dev), d.records (logAllN n d)
  | 0, d => d.records_refl
  | n + 1, d => by
    rw [logAllN]
    split
    · exact d.records_refl
    · exact (logNext_records d).trans (logAllN_records n _)

theorem logSeal_records (d : Dev) : d.records (logSeal d) := by
  have htaken {e : Dev} (w : Wail) : e.records { e with wl := w } := ⟨rfl, fun _ _ => rfl, le_refl _⟩
  unfold logSeal
  split
  · exact d.records_refl
  · exact (logAppend_records _ _ _ _ _).trans (htaken _)

/-- `e` is `d` once a command's event and its record stand in the Logbook (R124). -/
structure Dev.logsBefore (d e : Dev) : Prop where
  only : e = { d with regs := e.regs, evq := e.evq, evGap := e.evGap, log := e.log, logErr := e.logErr, wl := e.wl }
  regs : Dev.sameRegs evRegs d e
  header : ∀ a, a < 64 → e.logByte a = d.logByte a
  room : e.evq.length ≤ d.evq.length + 1

theorem logBefore_eq (d : Dev) (slot : Nat) (hserver : d.rd VST_FWSTAT.SERVER ≠ 2) :
    logBefore d slot = (d.rd EVQ_NEXTSEQ.SEQ,
      logSeal (logAll (postCommand d 0x03 (fun seq => d.cmdRecord slot 0 0 seq (d.payload slot))).2)) := if_neg hserver

theorem logBefore_logs (d : Dev) (slot : Nat) (hserver : d.rd VST_FWSTAT.SERVER ≠ 2) (hroom : d.evq.length < 240) :
    (logBefore d slot).1 = d.rd EVQ_NEXTSEQ.SEQ ∧ d.logsBefore (logBefore d slot).2 := by
  have hposts := postCommand_posts d 0x03 (fun seq => d.cmdRecord slot 0 0 seq (d.payload slot)) hroom hserver
  rw [logBefore_eq d slot hserver]
  generalize (postCommand d 0x03 (fun seq => d.cmdRecord slot 0 0 seq (d.payload slot))).2 = e at hposts
  have hrec : e.records (logSeal (logAll e)) := (logAllN_records 256 e).trans (logSeal_records _)
  obtain ⟨v, hevq, -⟩ := hposts.event
  refine ⟨rfl, ?_⟩
  generalize logSeal (logAll e) = g at hrec
  have hg : g.regs = e.regs := by rw [hrec.only]
  exact {
    only := by rw [hrec.only, hposts.only]
    regs := fun a ha => (by rw [Dev.ld, hg, Dev.ld] : g.ld a = e.ld a).trans (hposts.regs a ha)
    header := fun a ha => (hrec.header a ha).trans (by rw [Dev.logByte, hposts.only, Dev.logByte])
    room := by
      have := hrec.fewer
      rw [hevq, List.length_append, List.length_singleton] at this
      exact this }

section
variable {d e : Dev} (h : d.logsBefore e)
include h

theorem Dev.logsBefore.faults : e.faults = d.faults := by rw [h.only]
theorem Dev.logsBefore.mode : e.mode = d.mode := by rw [h.only]
theorem Dev.logsBefore.vst : e.vst = d.vst := by rw [h.only]

end

/-! The cause flags of a trip. -/

/-- One channel's cause flags. -/
def causeStep (f : Nat → Nat) (d : Dev) (n : Nat) : Dev :=
  if (maskFrom 16 (fun n => f n != 0)).testBit n then d.put (BAL_TCAUSE.addr n) (d.ld (BAL_TCAUSE.addr n) ||| w32 (f n)) else d

/-- A cause flag is one bit of its register. -/
theorem rd_vcmd (d : Dev) (n : Nat) : d.rd (BAL_TCAUSE.VCMD n) = ((d.ld (BAL_TCAUSE.addr n)).getLsbD 7).toNat :=
  fld_bit _ 7

theorem causeStep_keeps (f : Nat → Nat) (d : Dev) (n m j : Nat) (h : (d.ld (BAL_TCAUSE.addr m)).getLsbD j = true) :
    ((causeStep f d n).ld (BAL_TCAUSE.addr m)).getLsbD j = true := by
  unfold causeStep
  split
  · by_cases hmn : m = n
    · rw [hmn, Dev.put_ld, BitVec.getLsbD_or, ← hmn, h, Bool.true_or]
    · rw [Dev.put_ld_ne _ _ _ _ (by simp only [BAL_TCAUSE.addr]; omega)]
      exact h
  · exact h

theorem causeStep_sets (f : Nat → Nat) (d : Dev) (m j : Nat) (hm : m < 16) (hf : f m ≠ 0) (hj : (w32 (f m)).getLsbD j = true) :
    ((causeStep f d m).ld (BAL_TCAUSE.addr m)).getLsbD j = true := by
  have hhit : (maskFrom 16 (fun n => f n != 0)).testBit m = true := by simp [testBit_maskFrom, hm, hf]
  rw [causeStep, if_pos hhit, Dev.put_ld, BitVec.getLsbD_or, hj, Bool.or_true]

theorem foldl_causeStep (f : Nat → Nat) (m j : Nat) (hm : m < 16) (hf : f m ≠ 0) (hj : (w32 (f m)).getLsbD j = true) :
    ∀ (l : List Nat) (d : Dev), m ∈ l ∨ (d.ld (BAL_TCAUSE.addr m)).getLsbD j = true →
      ((l.foldl (causeStep f) d).ld (BAL_TCAUSE.addr m)).getLsbD j = true
  | [], _, h => h.resolve_left List.not_mem_nil
  | n :: r, d, h => foldl_causeStep f m j hm hf hj r (causeStep f d n) (by
      by_cases hmn : m = n
      · rw [← hmn]
        exact .inr (causeStep_sets f d m j hm hf hj)
      · exact h.imp (fun hmem => (List.mem_cons.1 hmem).resolve_left hmn) (causeStep_keeps f d n m j))

theorem tripCauses_sets (d : Dev) (f : Nat → Nat) (n j : Nat) (hn : n < 16) (hf : f n ≠ 0) (hj : (w32 (f n)).getLsbD j = true) :
    ((tripCauses d f).ld (BAL_TCAUSE.addr n)).getLsbD j = true :=
  foldl_causeStep f n j hn hf hj (List.range 16) d (.inl (List.mem_range.2 hn))

/-- After its cause flags are set, a trip leaves them. -/
theorem tripWith_cause (d : Dev) (f : Nat → Nat) (n : Nat) (hn : n < 16) :
    (tripWith d f).ld (BAL_TCAUSE.addr n) = (tripCauses d f).ld (BAL_TCAUSE.addr n) := by
  obtain ⟨causes, heq⟩ := tripWith_eq d f
  rw [heq]
  split
  · rfl
  · rw [evqAppend_ld_ne _ _ _ _ _ _ _ (by simp only [BAL_TCAUSE.addr, EVQ_NEXTSEQ.addr]; omega)
      (by simp only [BAL_TCAUSE.addr, EVQ_LOST.addr]; omega)]
    refine tripPins_regs _ _ _ ?_
    simp only [List.mem_cons, List.not_mem_nil, or_false, not_or, BAL_TCAUSE.addr, BAL_STATE.addr, BAL_CNT.addr, ICU_PEND.addr]
    omega

theorem vcmdTrip_cause (d : Dev) (mask n : Nat) (hn : n < 16) (hm : mask.testBit n = true) :
    (vcmdTrip d mask).rd (BAL_TCAUSE.VCMD n) = 1 := by
  have hf : (if mask.testBit n then cVcmd else 0) = 128 := if_pos hm
  rw [rd_vcmd, vcmdTrip, tripMask, tripWith_cause d _ n hn,
    tripCauses_sets d _ n 7 hn (by rw [hf]; decide) (by rw [hf]; decide)]
  rfl

end Sys2Proof.Machine
end


section
/-!
The statements of the Vestibule: the commands that act on modes, trips and the Logbook (R122 to R125, R134). This part says what
TRIP_ACK releases (R134, R327, R483).
-/

namespace Sys2Proof.Machine

/-- The channels that an acknowledge releases. -/
def ackMask (d : Dev) (mask pulses : Nat) : Nat := maskFrom 16 (fun n => mask.testBit n && d.releasable pulses n)

/-- The channels that stay TRIPPED. -/
def ackLeft (d : Dev) (rel : Nat) : Nat := maskFrom 16 (fun n => (d.rd BAL_STATE.TRIPPED).testBit n && !rel.testBit n)

/-- The cause flags of the released channels are cleared. -/
def ackFlags (d : Dev) (rel : Nat) : Dev := (bitsOf 16 rel).foldl (fun d n => d.put (BAL_TCAUSE.addr n) 0#32) d

/-- The pins of released channels, and the AON mirror. -/
def Dev.raisePins (d : Dev) (rel left : Nat) : Dev :=
  { d with bal := { d.bal with outA := maskFrom 16 (fun n => rel.testBit n || d.bal.outA.testBit n),
                               outB := maskFrom 16 (fun n => !rel.testBit n && d.bal.outB.testBit n), aonTrip := left } }

/-- The released channels, before their event. -/
def ackPins (d : Dev) (rel left : Nat) : Dev :=
  (bitsOf 16 rel).foldl lifeNext (((((ackFlags d rel).wr BAL_STATE.TRIPPED left).raisePins rel left).bump BAL_CNT.RELEASES
    (bitsOf 16 rel).length).pulse 80)

theorem ackRelease_eq (d : Dev) (mask pulses : Nat) : ∃ causes, ackRelease d mask pulses =
    if ackMask d mask pulses = 0 then d
    else evqAppend (ackPins d (ackMask d mask pulses) (ackLeft d (ackMask d mask pulses))) 0x09
      (Config.evCode .release).toNat true (w32 (ackMask d mask pulses)) (w32 causes) := ⟨_, rfl⟩

theorem ackFlags_regs (d : Dev) (rel : Nat) : d.onlyRegs (ackFlags d rel) ∧ Dev.sameRegs tripRegs d (ackFlags d rel) := by
  refine ⟨foldl_relates (R := Dev.onlyRegs) Dev.onlyRegs_refl Dev.onlyRegs.trans _ _ d fun n _ e => e.onlyRegs_put _ _,
    foldl_relates (R := Dev.sameRegs tripRegs) (fun _ _ _ => rfl) Dev.sameRegs.trans _ _ d fun n hn e => ?_⟩
  refine e.sameRegs_put _ _ (List.mem_append_right _ (List.mem_map_of_mem (List.mem_range.2 ?_)))
  exact ((mem_bitsOf _ _ _).1 hn).1

/-- `e` is `d` after a change of registers and of the pins of the Balustrade. -/
def Dev.outputs (d e : Dev) : Prop := e = { d with regs := e.regs, bal := e.bal }

theorem Dev.outputs.trans {d e g : Dev} (h : d.outputs e) (k : e.outputs g) : d.outputs g := by
  unfold Dev.outputs at *
  rw [k, h]

theorem Dev.onlyRegs.outputs {d e : Dev} (h : d.onlyRegs e) : d.outputs e := by
  unfold Dev.outputs
  rw [h]

theorem foldl_lifeNext (l : List Nat) (d : Dev) : d.outputs (l.foldl lifeNext d) ∧ (l.foldl lifeNext d).regs = d.regs :=
  ⟨foldl_relates (R := Dev.outputs) (fun _ => rfl) Dev.outputs.trans lifeNext l d fun _ _ _ => rfl,
    foldl_keep Dev.regs lifeNext (fun _ _ => rfl) l d⟩

section
variable (d : Dev) (rel left : Nat)

theorem ackPins_outputs : d.outputs (ackPins d rel left) := by
  have hraise (e : Dev) : e.outputs (e.raisePins rel left) := rfl
  exact ((((ackFlags_regs d rel).1.trans (Dev.onlyRegs_wr _ BAL_STATE.TRIPPED left)).outputs.trans (hraise _)).trans
    ((Dev.onlyRegs_bump _ _ _).trans (Dev.onlyRegs_pulse _ 80)).outputs).trans (foldl_lifeNext _ _).1

/-- The registers before the event, but for those of the released channels' causes. -/
theorem ackPins_regs : Dev.sameRegs tripRegs d (ackPins d rel left) := by
  have hraise (e : Dev) : Dev.sameRegs tripRegs e (e.raisePins rel left) := fun _ _ => rfl
  exact (((((ackFlags_regs d rel).2.trans (Dev.sameRegs_wr _ BAL_STATE.TRIPPED left (by simp [tripRegs, BAL_STATE.TRIPPED]))).trans
    (hraise _)).trans (Dev.sameRegs_bump _ BAL_CNT.RELEASES _ (by simp [tripRegs, BAL_CNT.RELEASES]))).trans
    (Dev.sameRegs_pulse _ 80 (by simp [tripRegs]))).trans (Dev.sameRegs_of_regs (foldl_lifeNext _ _).2 _)

theorem ackPins_tripped (h : left < 2 ^ 16) : (ackPins d rel left).rd BAL_STATE.TRIPPED = left := by
  have hraise (e : Dev) : (e.raisePins rel left).rd BAL_STATE.TRIPPED = e.rd BAL_STATE.TRIPPED := rfl
  have hafter (e : Dev) (k : Nat) : ((e.bump BAL_CNT.RELEASES k).pulse 80).rd BAL_STATE.TRIPPED = e.rd BAL_STATE.TRIPPED :=
    ((Dev.sameRegs_pulse _ 80 (xs := [ICU_PEND.addr 2]) (by simp)).rd BAL_STATE.TRIPPED (by decide)).trans
      (Dev.wr_rd_ne _ _ _ _ (by decide))
  rw [ackPins, Dev.rd, Dev.ld, (foldl_lifeNext _ _).2, ← Dev.ld, ← Dev.rd, hafter, hraise,
    Dev.wr_rd _ _ _ (by decide) (by decide)]
  exact Nat.mod_eq_of_lt h

end

/-- `e` is `d` after an acknowledge that released the channels of `rel`. -/
structure Dev.acks (d e : Dev) (rel : Nat) : Prop where
  only : e = { d with regs := e.regs, evq := e.evq, evGap := e.evGap, bal := e.bal }
  regs : Dev.sameRegs tripRegs d e
  tripped : ∀ n, n < 16 → (e.rd BAL_STATE.TRIPPED).testBit n = ((d.rd BAL_STATE.TRIPPED).testBit n && !rel.testBit n)
  room : e.evq.length ≤ d.evq.length + 1

theorem ackRelease_acks (d : Dev) (mask pulses : Nat) (hroom : d.evq.length < 240) :
    d.acks (ackRelease d mask pulses) (ackMask d mask pulses) := by
  obtain ⟨causes, heq⟩ := ackRelease_eq d mask pulses
  rw [heq]
  split
  · next hz => exact ⟨rfl, fun _ _ => rfl, fun n _ => by simp [hz], Nat.le_succ _⟩
  · have hleft := maskFrom_lt (fun n => (d.rd BAL_STATE.TRIPPED).testBit n && !(ackMask d mask pulses).testBit n) 16
    have houts := ackPins_outputs d (ackMask d mask pulses) (ackLeft d (ackMask d mask pulses))
    have hregs := ackPins_regs d (ackMask d mask pulses) (ackLeft d (ackMask d mask pulses))
    have htripped := ackPins_tripped d (ackMask d mask pulses) (ackLeft d (ackMask d mask pulses)) hleft
    generalize ackPins d (ackMask d mask pulses) (ackLeft d (ackMask d mask pulses)) = e at houts hregs htripped
    have hevq : e.evq = d.evq := by rw [houts]
    have hev := evqAppend_room e 0x09 (Config.evCode .release).toNat true (w32 (ackMask d mask pulses)) (w32 causes)
      (by rw [hevq]; exact hroom)
    have hseq (a : Nat) (ha : a ≠ EVQ_NEXTSEQ.addr) : (evqAppend e 0x09 (Config.evCode .release).toNat true
        (w32 (ackMask d mask pulses)) (w32 causes)).ld a = e.ld a := by
      rw [hev]
      exact e.wr_ld_ne _ _ _ ha
    refine ⟨?_, fun a ha => (hseq a ?_).trans (hregs a ha), fun n hn => ?_, ?_⟩
    · rw [hev, houts]
      rfl
    · rintro rfl
      exact ha (by simp [tripRegs])
    · rw [Dev.rd, hseq _ (by decide), ← Dev.rd, htripped, ackLeft, testBit_maskFrom]
      simp [hn]
    · rw [hev, hevq]
      simp

/-! The twin acknowledge. -/

/-- The registers of BAL_ACK. -/
def ackRegs : List Nat := [BAL_ACK.addr, BAL_ACK.addr + 0x800]

section
variable {d e : Dev} (honly : d.onlyRegs e) (hregs : Dev.sameRegs ackRegs d e)
include honly hregs

/-- What BAL_ACK holds is no level of a source. -/
theorem levels_of_sameRegs (n : Nat) (hn : n < 16) : e.levels n = d.levels n := by
  have hsrc (f : Fld) (hf : f.addr = BAL_SRC.addr n) : e.rd f = d.rd f :=
    hregs.rd f (by simp only [hf, ackRegs, List.mem_cons, List.not_mem_nil, or_false, BAL_SRC.addr, BAL_ACK.addr]; omega)
  have hl := hsrc (BAL_SRC.LLATCH n) rfl
  have hp := hsrc (BAL_SRC.RPEER n) rfl
  have hr := hsrc (BAL_SRC.RLATCH n) rfl
  have hf := hsrc (BAL_SRC.FWD n) rfl
  have hs := hsrc (BAL_SRC.SWD n) rfl
  have hh := hsrc (BAL_SRC.HWD n) rfl
  have hwf := hregs.rd BAL_WDSTAT.FWDACT (by decide)
  have hws := hregs.rd BAL_WDSTAT.SWDACT (by decide)
  have hwh := hregs.rd BAL_WDSTAT.HWDACT (by decide)
  have hm := hregs.rd CNC_GRP.MEMBERS (by decide)
  have hc := hregs.rd CNC_GCFG.PEERPOL (by decide)
  have hpos := hregs.rd SYS_STRAP.POS (by decide)
  have hunits : e.gal = d.gal ∧ e.grp = d.grp ∧ e.bal = d.bal ∧ e.mode = d.mode := by
    rw [honly]
    exact ⟨rfl, rfl, rfl, rfl⟩
  obtain ⟨hgal, hgrp, hbal, hmode⟩ := hunits
  simp only [Dev.levels, Dev.remoteVec, Dev.on, Dev.pos, hl, hp, hr, hf, hs, hh, hwf, hws, hwh, hm, hc, hpos, hgal, hgrp,
    hbal, hmode]

theorem releasable_of_sameRegs (pulses n : Nat) (hn : n < 16) : e.releasable pulses n = d.releasable pulses n := by
  have hst := hregs.rd BAL_STATE.TRIPPED (by decide)
  have htwin (a : Nat) (ha : 0x40009100 ≤ a) (hlt : a < 0x40009180) : e.twinOk a = d.twinOk a := by
    refine hregs.twinOk a ?_ ?_ <;>
      (simp only [ackRegs, List.mem_cons, List.not_mem_nil, or_false, BAL_ACK.addr]; omega)
  have hsrc := htwin (BAL_SRC.addr n) (by simp only [BAL_SRC.addr]; omega) (by simp only [BAL_SRC.addr]; omega)
  have hlife := htwin (BAL_LIFE.addr n) (by simp only [BAL_LIFE.addr]; omega) (by simp only [BAL_LIFE.addr]; omega)
  simp only [Dev.releasable, Dev.chanTwinOk, hst, levels_of_sameRegs honly hregs n hn, honly.mode, hsrc, hlife]

theorem ackMask_of_sameRegs (mask pulses : Nat) : ackMask e mask pulses = ackMask d mask pulses := by
  refine Nat.eq_of_testBit_eq fun j => ?_
  rw [ackMask, ackMask, testBit_maskFrom, testBit_maskFrom]
  by_cases hj : j < 16
  · rw [releasable_of_sameRegs honly hregs pulses j hj]
  · simp [hj]

end

/-- The device once BAL_ACK holds the mask. -/
def ackSet (d : Dev) (mask : Nat) : Dev := d.putTwin BAL_ACK.addr (w32 mask)

theorem ackSet_regs (d : Dev) (mask : Nat) : d.onlyRegs (ackSet d mask) ∧ Dev.sameRegs ackRegs d (ackSet d mask) := by
  refine ⟨putTwin_onlyRegs d _ _, fun a ha => ?_⟩
  simp only [ackRegs, List.mem_cons, List.not_mem_nil, or_false, not_or] at ha
  exact putTwin_ld_ne d _ a _ ha.1 ha.2

theorem ackWrite_eq {d : Dev} {mask : Nat} (pulses : Nat) (hmode : d.mode = .run) (hpend : d.pendOf 9 = none)
    (hmask : mask < 2 ^ 16) : (ackWrite d (w32 mask) pulses).2 = ackRelease (ackSet d mask) mask pulses := by
  have hblock : blockOf BAL_ACK.addr = 9 := by decide
  have hexp : twinExpired d 9 = d := by simp only [twinExpired, hpend]
  have hfld : fld (w32 mask) 15 0 = mask := by
    rw [fld, w32_toNat]
    omega
  have hne : ¬ d.mode = .limp := by rw [hmode]; decide
  simp only [ackWrite, hne, hblock, hexp, hpend, hfld, if_false]
  rfl

/-- The acknowledge of TRIP_ACK: its channels that can be released are released. -/
theorem ackWrite_acks {d : Dev} {mask : Nat} (pulses : Nat) (hmode : d.mode = .run) (hpend : d.pendOf 9 = none)
    (hmask : mask < 2 ^ 16) (hroom : d.evq.length < 240) :
    (ackSet d mask).acks (ackWrite d (w32 mask) pulses).2 (ackMask d mask pulses) := by
  obtain ⟨honly, hregs⟩ := ackSet_regs d mask
  have hevq : (ackSet d mask).evq = d.evq := by rw [honly]
  rw [ackWrite_eq pulses hmode hpend hmask, ← ackMask_of_sameRegs honly hregs]
  exact ackRelease_acks _ mask pulses (by rw [hevq]; exact hroom)

end Sys2Proof.Machine
end


section
/-!
The statements of the Vestibule: the commands that act on modes, trips and the Logbook (R122 to R125, R134). This part settles the
statement about them.
-/

namespace Sys2Proof.Machine

/-! RESET. -/

theorem devReset_vst (d : Dev) (c : RstCause) (straps : Nat) : (devReset d c straps).vst = Dev.init.vst := by
  have hstart (e : Dev) : (startBoot e straps).vst = e.vst := by
    unfold startBoot chargerStart
    rfl
  have hbase : (devBase d c straps).vst = Dev.init.vst := rfl
  have hevent (e : Dev) (m : Nat) : (evqKind e 0x00 .modeChange true m Mode.boot.code).vst = e.vst := (evqAppend_units e _ _ _ _ _).1
  rw [devReset_eq]
  split
  · rw [hstart, hbase]
  · rw [hevent, hstart, hbase]

theorem init_slot (k : Nat) : nth 0 Dev.init.vst.st k = 0 := by
  have hst : Dev.init.vst.st = [0, 0, 0, 0] := by decide
  rw [hst]
  match k with
  | 0 | 1 | 2 | 3 => rfl
  | k + 4 => rfl

/-- A restart by RESET: the slots are FREE, and the header of the Logbook stays. -/
theorem vstReset_restarts {d : Dev} {slot : Nat} (hkey : d.cmdAt slot 8 1 = 0xA5) (hserver : d.rd VST_FWSTAT.SERVER ≠ 2)
    (hroom : d.evq.length < 240) : ∃ e, vstReset d slot = devReset e .vst d.pins.straps ∧ d.logsBefore e := by
  refine ⟨_, ?_, (logBefore_logs d slot hserver hroom).2⟩
  rw [vstReset, if_neg (by simp [hkey])]

/-! LIMP. -/

/-- What the response shows stays through the entry to LIMP and its integrity faults. -/
theorem answered_settled {d g : Dev} {slot status evseq : Nat} {pl : List Byte} (h : d.answered g slot status evseq pl)
    (hslot : slot < 4) (hpl : pl.length ≤ 248) {t : Dev} (ht : g.stands t) : d.answered t slot status evseq pl :=
  h.after hpl ((ht.done slot hslot h.1).trans h.1.symm) fun i hi => ht.shown slot i hslot h.1 hi

/-- A command that is logged, recorded and answered before it acts (R124, R125). -/
structure Dev.repliesFirst (d g : Dev) (slot : Nat) : Prop where
  mode : g.mode = d.mode
  faults : g.faults = d.faults
  room : g.evq.length ≤ d.evq.length + 1
  rd : ∀ f : Fld, (f.addr < 0x40003000 ∨ 0x40008000 ≤ f.addr) → g.rd f = d.rd f
  answered : d.answered g slot 0 (d.rd EVQ_NEXTSEQ.SEQ) []

theorem logBefore_repliesFirst {d : Dev} {slot : Nat} (hslot : slot < 4) (hserver : d.rd VST_FWSTAT.SERVER ≠ 2)
    (hroom : d.evq.length < 240) :
    d.repliesFirst (respond (logBefore d slot).2 slot 0 (logBefore d slot).1 [] false) slot := by
  obtain ⟨hseq, hlog⟩ := logBefore_logs d slot hserver hroom
  have hreply := respond_replies (logBefore d slot).2 slot 0 (d.rd EVQ_NEXTSEQ.SEQ) [] false (by decide)
  rw [hseq]
  refine ⟨hreply.mode.trans hlog.mode, hreply.faults.trans hlog.faults, by rw [hreply.evq]; exact hlog.room, fun f hf => ?_,
    hreply.answered.before hlog.regs sparesCommands_evRegs hslot⟩
  rw [hreply.regs.rd f (outside_rspRegs hslot (by omega)), hlog.regs.rd f (by
    simp only [evRegs, List.mem_cons, List.not_mem_nil, or_false, EVQ_NEXTSEQ.addr, EVQ_POSTSEQ.addr]
    omega)]

/-- The device after LIMP, before the integrity faults of the cycle. -/
theorem vstLimp_limped {d : Dev} {slot : Nat} (hmode : d.mode = .run) (hslot : slot < 4)
    (hserver : d.rd VST_FWSTAT.SERVER ≠ 2) (hroom : d.evq.length < 240) (h0 : d.rd SYS_LIMP.REASON = 0) :
    (settle (vstLimp d slot)).mode = .limp ∧ (settle (vstLimp d slot)).rd SYS_LIMP.REASON = 0x0A ∧
      (settle (vstLimp d slot)).rd SYS_LIMP.DETAIL = d.cmdTag slot ∧
      d.answered (settle (vstLimp d slot)) slot 0 (d.rd EVQ_NEXTSEQ.SEQ) [] := by
  have hfirst := logBefore_repliesFirst hslot hserver hroom
  have hlimp : vstLimp d slot = limpEntry (respond (logBefore d slot).2 slot 0 (logBefore d slot).1 [] false) 0x0A
    (d.cmdTag slot) := rfl
  rw [hlimp]
  generalize respond (logBefore d slot).2 slot 0 (logBefore d slot).1 [] false = g at hfirst
  have hend := (limpEntry_limped g 0x0A (d.cmdTag slot) (.inr (.inl (hfirst.mode.trans hmode)))).settle
  obtain ⟨hreason, hdetail⟩ := hend.cause ((hfirst.rd _ (by decide)).trans h0)
  have htag : d.cmdTag slot < 256 ^ 2 := cmdAt_lt d slot 2 2
  refine ⟨hend.mode, hreason, hdetail.trans (Nat.mod_eq_of_lt (by omega)), ?_⟩
  exact answered_settled hfirst.answered hslot (by decide) (settle_stands (limpEntry_stands g.stands_refl _ _))

/-! DOZE. -/

/-- Entry to DOZE begins. -/
def dozeBegin (d : Dev) (mask : Nat) : Dev :=
  { vcmdTrip (wakeMask d mask) 0xFFFF with wl := { (vcmdTrip (wakeMask d mask) 0xFFFF).wl with dozeWait := some mask } }

theorem vstDoze_enters {d : Dev} {slot : Nat} (hmag : d.cmdAt slot 14 2 = 0) (hok : d.dozeOk = true) : vstDoze d slot =
    dozeBegin (respond (logBefore d slot).2 slot 0 (logBefore d slot).1 [] false) (d.cmdAt slot 8 6) := by
  rw [vstDoze, if_neg (by simp [hmag]), if_neg (by simp [hok])]
  rfl

theorem wakeMask_onlyRegs (d : Dev) (mask : Nat) : d.onlyRegs (wakeMask d mask) := by
  refine foldl_relates (R := Dev.onlyRegs) Dev.onlyRegs_refl Dev.onlyRegs.trans _ _ d fun n _ e => ?_
  split
  · exact e.onlyRegs_refl
  · exact e.onlyRegs_wr _ _

theorem wakeMask_stands (d : Dev) (mask : Nat) : d.stands (wakeMask d mask) :=
  foldl_stands d.stands_refl fun n _ _ hg => ite_stands _ hg
    (hg.wr _ _ (notRsp_of_le (by simp only [PBK_WAKE.EN, PBK_WAKE.addr]; omega)))

theorem or_full {x : Nat} (h : x < 2 ^ 16) : x ||| 0xFFFF = 0xFFFF := by
  refine Nat.eq_of_testBit_eq fun j => ?_
  have hfull : Nat.testBit 0xFFFF j = decide (j < 16) := Nat.testBit_two_pow_sub_one 16 j
  rw [Nat.testBit_or, hfull]
  by_cases hj : j < 16
  · simp [hj]
  · have hlt : x < 2 ^ j := h.trans_le (Nat.pow_le_pow_right (by decide) (by omega))
    simp [hj, Nat.testBit_lt_two_pow hlt]

/-- `e` is `d` after the entry to DOZE has begun. -/
structure Dev.dozing (d e : Dev) (mask : Nat) : Prop where
  faults : e.faults = d.faults
  mode : e.mode = d.mode
  waits : e.wl.dozeWait = some mask
  tripped : e.rd BAL_STATE.TRIPPED = 0xFFFF
  cause : ∀ n, n < 16 → e.rd (BAL_TCAUSE.VCMD n) = 1
  stands : d.stands e

theorem dozeBegin_dozing (d : Dev) (mask : Nat) (hroom : d.evq.length < 240) : d.dozing (dozeBegin d mask) mask := by
  have honly := wakeMask_onlyRegs d mask
  have hstands := wakeMask_stands d mask
  have hentry : dozeBegin d mask = { vcmdTrip (wakeMask d mask) 0xFFFF with
    wl := { (vcmdTrip (wakeMask d mask) 0xFFFF).wl with dozeWait := some mask } } := rfl
  rw [hentry]
  generalize wakeMask d mask = g at honly hstands
  have hg : g.faults = d.faults ∧ g.mode = d.mode ∧ g.evq = d.evq := by
    rw [honly]
    exact ⟨rfl, rfl, rfl⟩
  obtain ⟨hfaults, hmode, hevq⟩ := hg
  have hroomed : g.evq.length < 240 := by rw [hevq]; exact hroom
  have htrip : g.onlyFrame (vcmdTrip g 0xFFFF) := (tripWith_trips g _ hroomed).only
  have htripped : (vcmdTrip g 0xFFFF).rd BAL_STATE.TRIPPED = 0xFFFF :=
    (tripMask_tripped g 0xFFFF cVcmd (by decide) (by decide) hroomed).trans (or_full (Dev.rd_lt g _))
  have hstand : d.stands (vcmdTrip g 0xFFFF) := tripWith_stands hstands _
  have hcause (n : Nat) (hn : n < 16) : (vcmdTrip g 0xFFFF).rd (BAL_TCAUSE.VCMD n) = 1 :=
    vcmdTrip_cause g 0xFFFF n hn (by rw [Nat.testBit_two_pow_sub_one 16 n]; simpa using hn)
  exact {
    faults := htrip.faults.trans hfaults
    mode := htrip.mode.trans hmode
    waits := rfl
    tripped := htripped
    cause := hcause
    stands := hstand.setWl _ rfl }

/-! A command that acts on the Balustrade and is then answered and logged. -/

/-- `e` is `d` after a logged command has changed registers of a list and is answered; `g` is the device in between. -/
structure Dev.actsLogged (d g e : Dev) (xs : List Nat) (slot : Nat) (pl : List Byte) : Prop where
  faults : e.faults = d.faults
  kept : ∀ f : Fld, (f.addr < 0x40003000 ∨ 0x40008000 ≤ f.addr) → e.rd f = g.rd f
  regs : Dev.sameRegs (rspRegs slot ++ evRegs ++ xs) d e
  answered : ∃ k, d.answered e slot 0 k pl
  sameBytes : d.sameBytes e

theorem complete_actsLogged {d g : Dev} {xs : List Nat} {slot : Nat} {pl : List Byte} (hslot : slot < 4) (hpl : pl.length ≤ 248)
    (hregs : Dev.sameRegs xs d g) (hx : sparesCommands xs) (hserver : g.rd VST_FWSTAT.SERVER ≠ 2) (hroom : g.evq.length < 240)
    (hfaults : g.faults = d.faults) (hbytes : d.sameBytes g) :
    d.actsLogged g (complete g slot 0 pl false) xs slot pl := by
  obtain ⟨c, hlogs⟩ := complete_logs g slot 0 pl false (by decide) hslot hpl hroom hserver
  exact {
    faults := hlogs.faults.trans hfaults
    kept := fun f hf => hlogs.regs.rd f (by
      simp only [List.mem_append, not_or]
      refine ⟨outside_rspRegs hslot (by omega), ?_⟩
      simp only [evRegs, List.mem_cons, List.not_mem_nil, or_false, EVQ_NEXTSEQ.addr, EVQ_POSTSEQ.addr]
      omega)
    regs := (hregs.mono (List.subset_append_right _ _)).trans (hlogs.regs.mono (List.subset_append_left _ _))
    answered := ⟨_, hlogs.answered.before hregs hx hslot⟩
    sameBytes := hbytes.trans hlogs.sameBytes }

theorem maskOk_lt (d : Dev) (slot : Nat) : d.cmdAt slot 8 2 < 2 ^ 16 := cmdAt_lt d slot 8 2

theorem vcmdTrip_tripped (d : Dev) {mask : Nat} (hm : mask < 2 ^ 16) (hroom : d.evq.length < 240) :
    (vcmdTrip d mask).rd BAL_STATE.TRIPPED = d.rd BAL_STATE.TRIPPED ||| mask := tripMask_tripped d mask cVcmd hm (by decide) hroom

theorem vstTrip_trips {d : Dev} {slot : Nat} (hslot : slot < 4) (hserver : d.rd VST_FWSTAT.SERVER ≠ 2)
    (hroom : d.evq.length < 200) (hok : d.maskOk slot = true) :
    d.actsLogged (vcmdTrip d (d.cmdAt slot 8 2)) (vstTrip d slot) tripRegs slot [] := by
  have htrips : d.trips (vcmdTrip d (d.cmdAt slot 8 2)) := tripWith_trips d _ (by omega)
  obtain ⟨r, hevq, hlen, -⟩ := htrips.evq
  rw [vstTrip, if_neg (by simp [hok])]
  refine complete_actsLogged hslot (by decide) htrips.regs sparesCommands_tripRegs ?_ ?_ htrips.only.faults htrips.only.sameBytes
  · rwa [htrips.regs.rd VST_FWSTAT.SERVER (by decide)]
  · rw [hevq, List.length_append]
    omega

/-- The acknowledge of TRIP_ACK. -/
def ackDone (d : Dev) (slot pulses : Nat) : Dev := (ackWrite d (w32 (d.cmdAt slot 8 2)) pulses).2

/-- The channels that TRIP_ACK reports as released. -/
def ackReport (d : Dev) (slot pulses : Nat) : Nat :=
  maskFrom 16 (fun n => (d.cmdAt slot 8 2).testBit n && (d.rd BAL_STATE.TRIPPED).testBit n &&
    !((ackDone d slot pulses).rd BAL_STATE.TRIPPED).testBit n)

/-- The payload of TRIP_ACK (Table VST.7). -/
def ackPayload (d : Dev) (slot pulses : Nat) : List Byte :=
  leBytes 2 (ackReport d slot pulses) ++ leBytes 2 (d.cmdAt slot 8 2 &&& (ackDone d slot pulses).rd BAL_STATE.TRIPPED)

theorem vstTripAck_eq {d : Dev} {slot : Nat} (pulses : Nat) (hok : d.maskOk slot = true) :
    vstTripAck d slot pulses = complete (ackDone d slot pulses) slot 0 (ackPayload d slot pulses) false := by
  rw [vstTripAck, if_neg (by simp [hok])]
  rfl

/-- The registers that TRIP_ACK may write before its response. -/
def tripAckRegs : List Nat := BAL_ACK.addr :: (BAL_ACK.addr + 0x800) :: tripRegs

theorem sparesCommands_tripAckRegs : sparesCommands tripAckRegs :=
  (sparesCommands_tripRegs.cons (by decide)).cons (by decide)

section
variable {d : Dev} {slot : Nat} (pulses : Nat) (hmode : d.mode = .run) (hpend : d.pendOf 9 = none) (hroom : d.evq.length < 200)
include hmode hpend hroom

theorem ackDone_tripped (n : Nat) (hn : n < 16) : ((ackDone d slot pulses).rd BAL_STATE.TRIPPED).testBit n =
    ((d.rd BAL_STATE.TRIPPED).testBit n && !((d.cmdAt slot 8 2).testBit n && d.releasable pulses n)) := by
  have hacks := ackWrite_acks pulses hmode hpend (maskOk_lt d slot) (by omega)
  rw [ackDone, hacks.tripped n hn, (ackSet_regs d _).2.rd BAL_STATE.TRIPPED (by decide), ackMask, testBit_maskFrom]
  simp [hn]

theorem ackReport_released (n : Nat) (hn : n < 16) :
    (ackReport d slot pulses).testBit n = ((d.cmdAt slot 8 2).testBit n && d.releasable pulses n) := by
  have hrel : d.releasable pulses n = true → (d.rd BAL_STATE.TRIPPED).testBit n = true := by
    simp only [Dev.releasable, Bool.and_eq_true]
    rintro ⟨⟨⟨⟨h, -⟩, -⟩, -⟩, -⟩
    exact h
  rw [ackReport, testBit_maskFrom, ackDone_tripped pulses hmode hpend hroom n hn]
  cases hr : d.releasable pulses n with
  | false => simp
  | true => simp [hrel hr, hn]

theorem ackDone_regs : Dev.sameRegs tripAckRegs d (ackDone d slot pulses) := by
  have hacks := ackWrite_acks pulses hmode hpend (maskOk_lt d slot) (by omega)
  exact ((ackSet_regs d _).2.mono (by simp [ackRegs, tripAckRegs])).trans
    (hacks.regs.mono (List.subset_cons_of_subset _ (List.subset_cons_self _ _)))

theorem vstTripAck_acts (hslot : slot < 4) (hserver : d.rd VST_FWSTAT.SERVER ≠ 2) (hok : d.maskOk slot = true) :
    d.actsLogged (ackDone d slot pulses) (vstTripAck d slot pulses) tripAckRegs slot (ackPayload d slot pulses) := by
  have hacks := ackWrite_acks pulses hmode hpend (maskOk_lt d slot) (by omega)
  have hregs := ackDone_regs (slot := slot) pulses hmode hpend hroom
  have hset := (ackSet_regs d (d.cmdAt slot 8 2)).1
  rw [vstTripAck_eq pulses hok]
  generalize hpl : ackPayload d slot pulses = pl
  have hlen : pl.length ≤ 248 := by simp [← hpl, ackPayload]
  unfold ackDone at hregs ⊢
  generalize (ackWrite d (w32 (d.cmdAt slot 8 2)) pulses).2 = g at hacks hregs
  generalize ackSet d (d.cmdAt slot 8 2) = e at hacks hset
  have hevq : e.evq = d.evq := by rw [hset]
  refine complete_actsLogged hslot hlen hregs sparesCommands_tripAckRegs ?_ ?_ ?_ ?_
  · rwa [hregs.rd VST_FWSTAT.SERVER (by decide)]
  · have := hacks.room
    rw [hevq] at this
    omega
  · rw [hacks.only, hset]
  · rw [hacks.only, hset]
    exact ⟨fun _ => rfl, fun _ => rfl, fun _ => rfl⟩

end

/-! The Logbook. -/

theorem vstLogMark_logs {d : Dev} {slot : Nat} (hslot : slot < 4) (hserver : d.rd VST_FWSTAT.SERVER ≠ 2)
    (hroom : d.evq.length < 240) : d.logs (vstLogMark d slot) slot 0 []
      { seq := d.rd EVQ_NEXTSEQ.SEQ, kind := 0x04, body := bytesWords (d.payload slot) } :=
  (postCommand_posts d 0x04 (fun _ => bytesWords (d.payload slot)) hroom hserver).reply hslot
    (respond_replies _ slot 0 _ [] false (by decide))

/-- A seal that is due leaves what it seals and nothing outside the Logbook. -/
theorem logSeal_seals {d : Dev} (h : d.canSeal = true) : (logSeal d).regs = d.regs ∧ (logSeal d).evq = d.evq ∧
    (logSeal d).faults = d.faults ∧ (logSeal d).wl.logOpen = 0 ∧
    (logSeal d).wl.logSealNo = (d.wl.logSealNo + 1) % 2 ^ 32 := by
  rw [logSeal_eq d h]
  have hregs : (logAppend d 5 0 false d.sealBody).regs = d.regs := by rw [logAppend_only]
  exact ⟨hregs, logAppend_evq d _ _ _ _, logAppend_faults d _ _ _ _, rfl, rfl⟩

/-- What LOG_SEAL leaves. -/
structure Dev.sealsLogged (d e : Dev) (slot : Nat) : Prop where
  faults : e.faults = d.faults
  regs : Dev.sameRegs (rspRegs slot ++ evRegs) d e
  answered : d.answered e slot 0 (d.rd EVQ_NEXTSEQ.SEQ) []
  event : d.oneCommandEvent e
  opens : e.wl.logOpen = 0
  number : e.wl.logSealNo = (d.wl.logSealNo + 1) % 2 ^ 32
  header : ∀ a, a < 64 → e.logByte a = d.logByte a

theorem vstLogSeal_seals {d : Dev} {slot : Nat} (hslot : slot < 4) (hserver : d.rd VST_FWSTAT.SERVER ≠ 2)
    (hroom : d.evq.length < 240) (hseal : d.canSeal = true) : d.sealsLogged (vstLogSeal d slot) slot := by
  obtain ⟨hregs, hevq, hfaults, hopen, hno⟩ := logSeal_seals hseal
  have hheader := (logSeal_records d).header
  unfold vstLogSeal
  generalize logSeal d = g at hregs hevq hfaults hopen hno hheader
  have hrd (f : Fld) : g.rd f = d.rd f := by rw [Dev.rd, Dev.ld, hregs, Dev.rd, Dev.ld]
  have hsame : Dev.sameRegs [] d g := Dev.sameRegs_of_regs hregs _
  obtain ⟨c, hlogs⟩ := complete_logs g slot 0 [] false (by decide) hslot (by decide) (by rwa [hevq])
    (by rwa [hrd VST_FWSTAT.SERVER])
  obtain ⟨v, hv, hseq, hrest⟩ := hlogs.event
  have hans := hlogs.answered.before hsame sparesCommands_nil hslot
  rw [hrd EVQ_NEXTSEQ.SEQ] at hans hseq
  exact {
    faults := hlogs.faults.trans hfaults
    regs := (Dev.sameRegs_of_regs hregs _).trans hlogs.regs
    answered := hans
    event := ⟨v, by rw [hv, hevq], hseq, hrest⟩
    opens := by rw [hlogs.wl]; exact hopen
    number := by rw [hlogs.wl]; exact hno
    header := fun a ha => (hlogs.sameBytes.2.1 a).trans (hheader a ha) }

/-- Wailith serves, so the BootROM does not. -/
theorem Dev.serves.server {d : Dev} {slot op : Nat} (h : d.serves slot op) : d.rd VST_FWSTAT.SERVER ≠ 2 := by
  obtain ⟨-, -, -, hserver, -⟩ := h
  rw [hserver]
  decide

/-- Settles O41: each command is answered and logged around its act on modes, trips or the Logbook; what it has answered stands
through the act. -/
theorem modeTripAndLogCommandsAct : Obligations.ModeTripAndLogCommandsAct := by
  intro slot n pulses s hquiet hmode hn
  obtain ⟨hf, hroom200, -⟩ := hquiet
  have hroom : s.dev.evq.length < 240 := lt_trans hroom200 (by decide)
  refine ⟨fun hserve => ⟨fun hkey => ?_, fun hkey => ?_⟩, fun hserve h0 => ?_, fun hserve hmag => ⟨fun hok => ?_, fun hno => ?_⟩,
    fun hserve => ⟨fun hok => ?_, fun hno => ?_⟩, fun hserve hok hpend => ?_, fun hserve => ?_, fun hserve hseal => ?_⟩
  · obtain ⟨e, heq, hlog⟩ := vstReset_restarts hkey hserve.server hroom
    obtain ⟨hboot, hstep, -, hheld, -, htripped, -, -, -, hbytes⟩ := devReset_restarted e .vst s.dev.pins.straps
    refine completes_serves (f := (vstReset · slot)) rfl hserve ?_ ?_
    · rw [heq]
      exact (devReset_resetTo e .vst _).faults
    · rw [heq]
      have hvst := devReset_vst e .vst s.dev.pins.straps
      refine ⟨hboot, hstep, devReset_flag e .vst _, fun k => ?_, ?_, htripped, hheld, fun a ha => (hbytes a).trans (hlog.header a ha)⟩
      · show nth 0 (devReset e .vst _).vst.st k = 0
        rw [hvst]
        exact init_slot k
      · show (devReset e .vst _).vst.order = []
        rw [hvst]
        rfl
  · refine completes_reply (f := (vstReset · slot)) rfl hserve hf ?_ fun e he => ⟨he.answered, he.regs, he.mode.trans hmode, he.sameBytes⟩
    rw [vstReset, if_pos hkey]
    exact respond_replies s.dev slot 4 0 [] false (by decide)
  · have hexec : exec (.vstLimp slot) s = fin s (vstLimp s.dev slot) := congrArg (fin s) (serve_serves hserve _)
    exact completes_settle hexec (vstLimp_limped hmode hserve.1 hserve.server hroom h0)
  · have hfirst := logBefore_repliesFirst hserve.1 hserve.server hroom
    have heq := vstDoze_enters hmag hok
    generalize respond (logBefore s.dev slot).2 slot 0 (logBefore s.dev slot).1 [] false = g at hfirst heq
    have hdoze := dozeBegin_dozing g (s.dev.cmdAt slot 8 6) (by have := hfirst.room; omega)
    refine completes_serves (f := (vstDoze · slot)) rfl hserve ?_ ?_
    · rw [heq, hdoze.faults, hfirst.faults, hf]
    · rw [heq]
      exact ⟨⟨_, answered_settled hfirst.answered hserve.1 (by decide) hdoze.stands⟩, hdoze.waits, hdoze.tripped, hdoze.cause n hn,
        (hdoze.mode.trans hfirst.mode).trans hmode⟩
  · refine completes_reply (f := (vstDoze · slot)) rfl hserve hf ?_ fun e he => ⟨he.answered, he.regs, he.wl⟩
    rw [vstDoze, if_neg (by simp [hmag]), if_pos (by simp [hno])]
    exact respond_replies s.dev slot 6 0 [] false (by decide)
  · have htripped := vcmdTrip_tripped s.dev (maskOk_lt s.dev slot) hroom
    have hcause := vcmdTrip_cause s.dev (s.dev.cmdAt slot 8 2) n hn
    have hflag : 0x40008000 ≤ (BAL_TCAUSE.VCMD n).addr := by simp only [BAL_TCAUSE.VCMD, BAL_TCAUSE.addr]; omega
    refine completes_serves_of (f := (vstTrip · slot)) (r := (s.dev.actsLogged (vcmdTrip s.dev (s.dev.cmdAt slot 8 2)) · tripRegs slot []))
      rfl hserve (vstTrip_trips hserve.1 hserve.server hroom200 hok) (fun e he => he.faults.trans hf) fun e he => ⟨?_, fun hm => ?_,
      he.answered, he.regs, he.sameBytes⟩
    · exact (he.kept BAL_STATE.TRIPPED (by decide)).trans htripped
    · exact (he.kept (BAL_TCAUSE.VCMD n) (.inr hflag)).trans (hcause hm)
  · refine completes_reply (f := (vstTrip · slot)) rfl hserve hf ?_ fun e he => ⟨he.answered, he.regs, he.sameBytes⟩
    rw [vstTrip, if_pos (by simp [hno])]
    exact respond_replies s.dev slot 4 0 [] false (by decide)
  · refine completes_serves_of (f := (vstTripAck · slot pulses)) (r := (s.dev.actsLogged (ackDone s.dev slot pulses) · tripAckRegs slot
      (ackPayload s.dev slot pulses))) rfl hserve (vstTripAck_acts pulses hmode hpend hroom200 hserve.1 hserve.server hok)
      (fun e he => he.faults.trans hf) fun e he => ?_
    have htripped := he.kept BAL_STATE.TRIPPED (by decide)
    obtain ⟨k, hans⟩ := he.answered
    rw [ackPayload, ← htripped] at hans
    refine ⟨?_, ⟨k, ackReport s.dev slot pulses, hans, ackReport_released pulses hmode hpend hroom200 n hn⟩, he.regs.mono fun a ha => ?_,
      he.sameBytes⟩
    · rw [htripped]
      exact ackDone_tripped pulses hmode hpend hroom200 n hn
    · simp only [tripAckRegs, List.mem_append, List.mem_cons] at ha ⊢
      tauto
  · have hlogs := vstLogMark_logs hserve.1 hserve.server hroom
    exact completes_serves (f := (vstLogMark · slot)) rfl hserve (hlogs.faults.trans hf) ⟨hlogs.answered, hlogs.event,
      by rw [hlogs.wl], hlogs.regs, hlogs.sameBytes⟩
  · have hseals := vstLogSeal_seals hserve.1 hserve.server hroom hseal
    exact completes_serves (f := (vstLogSeal · slot)) rfl hserve (hseals.faults.trans hf) ⟨hseals.answered, hseals.event, hseals.opens,
      hseals.number, hseals.header, hseals.regs⟩

end Sys2Proof.Machine
end


section
/-!
The statements of the Vestibule: images, tables and frames (R127 to R131, R330 to R342). This part says what a command that has
read the Atrium leaves once it is answered, and what an image loads.
-/

namespace Sys2Proof.Machine

/-! A command that is prepared and then answered. -/

/-- The device after reads of the Atrium that changed nothing else. -/
def Dev.readBy (d : Dev) (n : Noc) (x : Nat) : Dev := { d with noc := n, seed := x }

/-- `g` is `d` after the work of a command before its answer, which is on the Gallery or on Wailith's bookkeeping. -/
structure Dev.prepared (d g : Dev) : Prop where
  below : ∀ a, a < 0x4000E000 → g.ld a = d.ld a
  evq : g.evq = d.evq
  faults : g.faults = d.faults
  sameBytes : d.sameBytes g

theorem Dev.prepared.trans {d e g : Dev} (h : d.prepared e) (k : e.prepared g) : d.prepared g where
  below := fun a ha => (k.below a ha).trans (h.below a ha)
  evq := k.evq.trans h.evq
  faults := k.faults.trans h.faults
  sameBytes := h.sameBytes.trans k.sameBytes

theorem readBy_prepared (d : Dev) (n : Noc) (x : Nat) : d.prepared (d.readBy n x) :=
  ⟨fun _ _ => rfl, rfl, rfl, fun _ => rfl, fun _ => rfl, fun _ => rfl⟩

/-- A change of the registers of the Gallery. -/
theorem Dev.onlyRegs.prepared {d e : Dev} (h : d.onlyRegs e) (hld : ∀ a, a < 0x4000E000 → e.ld a = d.ld a) : d.prepared e where
  below := hld
  evq := by rw [h]
  faults := by rw [h]
  sameBytes := by rw [h]; exact ⟨fun _ => rfl, fun _ => rfl, fun _ => rfl⟩

theorem wr_prepared (d : Dev) (f : Fld) (v : Nat) (hf : 0x4000E000 ≤ f.addr) : d.prepared (d.wr f v) :=
  (d.onlyRegs_wr f v).prepared fun a ha => d.put_ld_ne f.addr a _ (by omega)

theorem put_prepared (d : Dev) (a : Nat) (v : Word) (ha : 0x4000E000 ≤ a) : d.prepared (d.put a v) :=
  (d.onlyRegs_put a v).prepared fun b hb => d.put_ld_ne a b v (by omega)

theorem setGal_prepared (d : Dev) (f : Gal → Gal) : d.prepared (d.setGal f) :=
  ⟨fun _ _ => rfl, rfl, rfl, fun _ => rfl, fun _ => rfl, fun _ => rfl⟩

theorem setWl_prepared (d : Dev) (w : Wail) : d.prepared { d with wl := w } :=
  ⟨fun _ _ => rfl, rfl, rfl, fun _ => rfl, fun _ => rfl, fun _ => rfl⟩

theorem setSvc_prepared (d : Dev) (u : UnitId) (x : Svc) : d.prepared (d.setSvc u x) :=
  ⟨fun _ _ => rfl, rfl, rfl, fun _ => rfl, fun _ => rfl, fun _ => rfl⟩

/-- `e` is `g` after the answer of the command that `d` took. -/
structure Dev.concludes (d g e : Dev) (slot status evseq : Nat) (pl : List Byte) (xs : List Nat) : Prop where
  faults : e.faults = d.faults
  answered : d.answered e slot status evseq pl
  regs : Dev.sameRegs (rspRegs slot ++ xs) g e
  gal : e.gal = g.gal
  svc : e.svc = g.svc
  parse : e.wl.parse = g.wl.parse
  sameBytes : d.sameBytes e

section
variable {d g : Dev} {slot status : Nat} {pl : List Byte} (h : d.prepared g)
include h

theorem Dev.prepared.rd (f : Fld) (hf : f.addr < 0x4000E000 := by decide) : g.rd f = d.rd f := by
  rw [Dev.rd, h.below _ hf, Dev.rd]

theorem Dev.prepared.words (w : Nat) (hw : w < 256) : g.ld (VST_CMD.addr w) = d.ld (VST_CMD.addr w) :=
  h.below _ (by simp only [VST_CMD.addr]; omega)

/-- The command is answered and logged. -/
theorem Dev.prepared.complete (hst : status < 2) (hslot : slot < 4) (hpl : pl.length ≤ 248) (hroom : d.evq.length < 240)
    (hserver : d.rd VST_FWSTAT.SERVER ≠ 2) : d.concludes g (Sys2Proof.Machine.complete g slot status pl true) slot status
      (d.rd EVQ_NEXTSEQ.SEQ) pl evRegs ∧ d.oneCommandEvent (Sys2Proof.Machine.complete g slot status pl true) := by
  obtain ⟨c, hlogs⟩ := complete_logs g slot status pl true hst hslot hpl (by rwa [h.evq])
    (by rwa [h.rd VST_FWSTAT.SERVER])
  have hans := hlogs.answered.of_words hslot h.words
  obtain ⟨v, hv, hseq, hrest⟩ := hlogs.event
  rw [h.rd EVQ_NEXTSEQ.SEQ] at hans hseq
  rw [h.evq] at hv
  refine ⟨?_, ⟨v, hv, hseq, hrest⟩⟩
  exact {
    faults := hlogs.faults.trans h.faults
    answered := hans
    regs := hlogs.regs
    gal := hlogs.gal
    svc := hlogs.svc
    parse := by rw [hlogs.wl]
    sameBytes := h.sameBytes.trans hlogs.sameBytes }

/-- The command is refused. -/
theorem Dev.prepared.refuse (hst : 2 ≤ status) (hslot : slot < 4) (hpl : pl.length ≤ 248) :
    d.concludes g (Sys2Proof.Machine.complete g slot status pl true) slot status 0 pl [] := by
  have hr := complete_replies g slot status pl true hst hpl
  exact {
    faults := hr.faults.trans h.faults
    answered := hr.answered.of_words hslot h.words
    regs := by rw [List.append_nil]; exact hr.regs
    gal := hr.gal
    svc := hr.svc
    parse := by rw [hr.wl]
    sameBytes := h.sameBytes.trans hr.sameBytes }

end

theorem Dev.concludes.kept {d g e : Dev} {slot status evseq : Nat} {pl : List Byte}
    (h : d.concludes g e slot status evseq pl evRegs) (hslot : slot < 4) (f : Fld) (hf : 0x4000E000 ≤ f.addr) :
    e.rd f = g.rd f := by
  refine h.regs.rd f ?_
  simp only [List.mem_append, not_or]
  refine ⟨outside_rspRegs hslot (.inr (by omega)), ?_⟩
  simp only [evRegs, List.mem_cons, List.not_mem_nil, or_false, EVQ_NEXTSEQ.addr, EVQ_POSTSEQ.addr]
  omega

/-- A refusal after reads changes no register but those of the response. -/
theorem Dev.concludes.refusedRegs {d g e : Dev} {slot status evseq : Nat} {pl : List Byte}
    (h : d.concludes g e slot status evseq pl []) (hg : g.regs = d.regs) : Dev.sameRegs (rspRegs slot) d e := by
  have hregs := h.regs
  rw [List.append_nil] at hregs
  exact (Dev.sameRegs_of_regs hg _).trans hregs

section
variable {c : Instr} {s : State} {slot op status : Nat} {pl : List Byte} {p : State → Prop} {g : Dev} (f : Dev → Dev)
  (hexec : exec c s = fin s (serve s.dev slot op f)) (hserve : s.dev.serves slot op) (hf : s.dev.faults = [])
  (heq : f s.dev = complete g slot status pl true) (hprep : s.dev.prepared g) (hpl : pl.length ≤ 248)
include hexec hserve hf heq hprep hpl

/-- A command that Wailith refuses. -/
theorem completes_refused (hst : 2 ≤ status) (hp : ∀ e, s.dev.concludes g e slot status 0 pl [] → p { s with dev := e }) :
    Completes c s p := by
  refine completes_serves_of (f := f) (r := (s.dev.concludes g · slot status 0 pl [])) hexec hserve ?_
    (fun e he => he.faults.trans hf) hp
  rw [heq]
  exact hprep.refuse hst hserve.1 hpl

/-- A command that Wailith has carried out and logs. -/
theorem completes_logged (hst : status < 2) (hroom : s.dev.evq.length < 240)
    (hp : ∀ e, s.dev.concludes g e slot status (s.dev.rd EVQ_NEXTSEQ.SEQ) pl evRegs → s.dev.oneCommandEvent e → p { s with dev := e }) :
    Completes c s p := by
  refine completes_serves_of (f := f) (r := fun e => s.dev.concludes g e slot status (s.dev.rd EVQ_NEXTSEQ.SEQ) pl evRegs ∧
    s.dev.oneCommandEvent e) hexec hserve ?_ (fun e he => he.1.faults.trans hf) fun e he => hp e he.1 he.2
  rw [heq]
  exact hprep.complete hst hserve.1 hpl hroom hserve.server

end

/-! Images. -/

theorem readBy_imgReason (d : Dev) (n : Noc) (x : Nat) (bs : List Byte) (len : Nat) :
    (d.readBy n x).imgReason bs len = d.imgReason bs len := rfl

theorem readBy_imgOut (d : Dev) (n : Noc) (x : Nat) (bs : List Byte) (r : Nat) :
    (d.readBy n x).imgOut bs r = d.imgOut bs r := rfl

theorem imgOut_length (d : Dev) (bs : List Byte) (r : Nat) : (d.imgOut bs r).length ≤ 248 := by
  unfold Dev.imgOut
  split
  · decide
  · simp [sliceB_length]

/-- What a program bank holds of an image. -/
def imgBank (bs : List Byte) : PBank := { code := imgCode bs, ndesc := imgDescs bs, digest := bs.drop (bs.length - 32) }

/-- The bank holds the image. -/
def bankHeld (d : Dev) (b : Nat) (bs : List Byte) : Dev :=
  d.setGal (fun g => { g with banks := setNth PBank.empty g.banks b (imgBank bs) })

/-- GSQ_BANKINFO shows the image. -/
def bankInfo (d : Dev) (b : Nat) (w : Nat → Word) (safe : Word) : Dev :=
  (((((d.put (GSQ_BI_ENTRY.addr b) (w 0x28)).put (GSQ_BI_B0.addr b) (w 0x2C)).put (GSQ_BI_N.addr b) (w 0x30)).put
    (GSQ_BI_YB0.addr b) (w 0x34)).put (GSQ_BI_YN.addr b) (w 0x38)).put (GSQ_BI_SAFE.addr b) safe

/-- The descriptor store of the bank holds those of the image. -/
def bankDescs (d : Dev) (b : Nat) (v : Nat → Word) : Dev :=
  (List.range 256).foldl (fun d i => d.put (RSR_DESC.addr (256 * b + i)) (v i)) d

/-- The bank is LOADED and in service. -/
def bankServes (d : Dev) (b : Nat) : Dev :=
  (d.wr GSQ_BANK.LOADED (setBit (d.rd GSQ_BANK.LOADED) b)).setSvc (.prog b) .inService

theorem bankLoad_eq (d : Dev) (b : Nat) (bs : List Byte) : ∃ w safe v, bankLoad d b bs =
    bankServes (bankDescs (bankInfo (bankHeld d b bs) b w safe) b v) b :=
  ⟨fun o => w32 (leAt bs o 4), w32 (2 ^ 16 * leAt bs 0x3E 2 + leAt bs 0x3C 2 % 2),
    fun i => if i < 4 * imgDescs bs then w32 (leAt bs (0x60 + 8 * imgWords bs + 4 * i) 4) else 0#32, rfl⟩

/-- The registers of an image change no other part of the device. -/
structure Dev.imageRegs (d e : Dev) : Prop where
  prepared : d.prepared e
  gal : e.gal = d.gal

theorem Dev.imageRegs.trans {d e g : Dev} (h : d.imageRegs e) (k : e.imageRegs g) : d.imageRegs g :=
  ⟨h.prepared.trans k.prepared, k.gal.trans h.gal⟩

theorem put_imageRegs (d : Dev) (a : Nat) (v : Word) (ha : 0x4000E000 ≤ a) : d.imageRegs (d.put a v) :=
  ⟨put_prepared d a v ha, rfl⟩

theorem bankInfo_imageRegs (d : Dev) (b : Nat) (w : Nat → Word) (safe : Word) : d.imageRegs (bankInfo d b w safe) := by
  have hput (e : Dev) (k : Nat) (v : Word) : e.imageRegs (e.put (0x4000E000 + k + 0x20 * b) v) := put_imageRegs e _ v (by omega)
  exact (((((hput d 0x80 _).trans (hput _ 0x84 _)).trans (hput _ 0x88 _)).trans (hput _ 0x8C _)).trans (hput _ 0x90 _)).trans
    (hput _ 0x94 _)

theorem bankDescs_imageRegs (d : Dev) (b : Nat) (v : Nat → Word) : d.imageRegs (bankDescs d b v) :=
  foldl_relates (R := Dev.imageRegs) (fun e => ⟨readBy_prepared e e.noc e.seed, rfl⟩) Dev.imageRegs.trans _ _ d fun i _ e =>
    put_imageRegs e _ _ (by simp only [RSR_DESC.addr]; omega)

theorem bankServes_loaded (d : Dev) (b : Nat) (hb : b < 2) : ((bankServes d b).rd GSQ_BANK.LOADED).testBit b = true := by
  have hset : (bankServes d b).rd GSQ_BANK.LOADED = (d.wr GSQ_BANK.LOADED (setBit (d.rd GSQ_BANK.LOADED) b)).rd GSQ_BANK.LOADED := rfl
  rw [hset, Dev.wr_rd _ _ _ (by decide) (by decide), setBit, Nat.testBit_mod_two_pow, Nat.testBit_or, Nat.testBit_two_pow_self,
    Bool.or_true, Bool.and_true]
  exact decide_eq_true hb

/-- `e` is `d` after an image has been loaded into a bank (R332). -/
structure Dev.loads (d e : Dev) (b : Nat) (bs : List Byte) : Prop where
  prepared : d.prepared e
  loaded : (e.rd GSQ_BANK.LOADED).testBit b = true
  unit : e.svcOf (.prog b) = .inService
  bank : nth PBank.empty e.gal.banks b = imgBank bs
  other : nth PBank.empty e.gal.banks (1 - b) = nth PBank.empty d.gal.banks (1 - b)

theorem bankLoad_loads (d : Dev) {b : Nat} (bs : List Byte) (hb : b < 2) : d.loads (bankLoad d b bs) b bs := by
  obtain ⟨w, safe, v, heq⟩ := bankLoad_eq d b bs
  have himage := (bankInfo_imageRegs (bankHeld d b bs) b w safe).trans (bankDescs_imageRegs _ b v)
  rw [heq]
  generalize bankDescs (bankInfo (bankHeld d b bs) b w safe) b v = g at himage
  have hheld : (bankHeld d b bs).gal.banks = setNth PBank.empty d.gal.banks b (imgBank bs) := rfl
  have hbanks : (bankServes g b).gal.banks = setNth PBank.empty d.gal.banks b (imgBank bs) := by
    rw [← hheld, ← himage.gal]
    rfl
  exact {
    prepared := ((setGal_prepared d _).trans himage.prepared).trans
      ((wr_prepared g GSQ_BANK.LOADED _ (by decide)).trans (setSvc_prepared _ _ _))
    loaded := bankServes_loaded g b hb
    unit := Dev.setSvc_same _ _ _
    bank := by rw [hbanks, nth_setNth]
    other := by rw [hbanks, nth_setNth_ne _ _ _ _ _ (by omega)] }

/-- LOAD_GALLERY of a bank that exists. -/
theorem loadGallery_bank {d : Dev} {slot b : Nat} (hbank : d.cmdAt slot 16 4 = b) (hb : b < 2) :
    d.cmdAt slot 16 1 = b ∧ ¬ (d.cmdAt slot 17 3 ≠ 0 ∨ 2 ≤ d.cmdAt slot 16 1) := by
  obtain ⟨hlow, hhigh⟩ := cmdAt_small (d := d) (slot := slot) (o := 16) (m := 1) (n := 3) (by rw [hbank]; omega)
  have heq : d.cmdAt slot 16 1 = b := hlow.trans hbank
  exact ⟨heq, by rw [heq]; simp only [hhigh]; omega⟩

theorem vstLoadGallery_outside {d : Dev} {slot b : Nat} (hbank : d.cmdAt slot 16 4 = b) (hb : b < 2)
    (hregion : regionOk (d.cmdAt slot 8 4) (d.cmdAt slot 12 4) 8 = false) :
    vstLoadGallery d slot = complete d slot 0x0A [] true := by
  rw [vstLoadGallery, if_neg (loadGallery_bank hbank hb).2, if_pos (by simp [hregion])]

theorem vstLoadGallery_reads {d e : Dev} {slot b : Nat} {bs : List Byte} (hbank : d.cmdAt slot 16 4 = b) (hb : b < 2)
    (hregion : regionOk (d.cmdAt slot 8 4) (d.cmdAt slot 12 4) 8 = true) (hidle : d.bankActive b = false)
    (harmed : d.bankArmed b = false) (htest : d.svcOf (.prog b) ≠ .underTest)
    (hread : readSource d slot (d.cmdAt slot 8 4) (d.cmdAt slot 12 4) = (some bs, e)) :
    vstLoadGallery d slot =
      if e.imgReason bs (d.cmdAt slot 12 4) = 0 then complete (bankLoad e b bs) slot 0 (e.imgOut bs 0) true
      else complete e slot 9 (e.imgOut bs (e.imgReason bs (d.cmdAt slot 12 4))) true := by
  obtain ⟨hlow, hexists⟩ := loadGallery_bank hbank hb
  rw [vstLoadGallery, if_neg hexists, if_neg (by simp [hregion]), if_neg (by rw [hlow]; simp [hidle, harmed, htest]), hread, hlow]

end Sys2Proof.Machine
end


section
/-!
The statements of the Vestibule: images, tables and frames (R127 to R131, R330 to R342). This part settles the statement about
them.
-/

namespace Sys2Proof.Machine

/-! Bank switches. -/

/-- The registers of an armed switch. -/
def switchArmRegs : List Nat := [GSQ_SWCTL.addr, GSQ_SWREQ.addr, GSQ_SWAT.addr]

/-- The target of a switch, armed. -/
def switchSet (d : Dev) (bank at_ yen : Nat) : Dev :=
  (((d.wr GSQ_SWCTL.TARGET bank).wr GSQ_SWCTL.YEN yen).wr GSQ_SWCTL.ARMED 1).put GSQ_SWAT.addr (w32 at_)

theorem armSwitch_eq (d : Dev) (bank at_ yen : Nat) : armSwitch d bank at_ yen =
    (switchSet d bank at_ yen).wr GSQ_SWREQ.REQ ((switchSet d bank at_ yen).rd GSQ_SWREQ.REQ + 1) := rfl

/-- `e` is `d` after a switch to a bank has been armed (R334). -/
structure Dev.arms (d e : Dev) (bank : Nat) : Prop where
  prepared : d.prepared e
  regs : Dev.sameRegs switchArmRegs d e
  req : e.rd GSQ_SWREQ.REQ = (d.rd GSQ_SWREQ.REQ + 1) % 2 ^ 16
  armed : e.rd GSQ_SWCTL.ARMED = 1
  target : e.rd GSQ_SWCTL.TARGET = bank

theorem switchSet_arms (d : Dev) {bank : Nat} (at_ yen : Nat) (hb : bank < 2) : d.prepared (switchSet d bank at_ yen) ∧
    Dev.sameRegs switchArmRegs d (switchSet d bank at_ yen) ∧ (switchSet d bank at_ yen).rd GSQ_SWREQ.REQ = d.rd GSQ_SWREQ.REQ ∧
    (switchSet d bank at_ yen).rd GSQ_SWCTL.ARMED = 1 ∧ (switchSet d bank at_ yen).rd GSQ_SWCTL.TARGET = bank := by
  unfold switchSet
  refine ⟨?_, ?_, ?_, ?_, ?_⟩
  · exact (((wr_prepared _ _ _ (by decide)).trans (wr_prepared _ _ _ (by decide))).trans (wr_prepared _ _ _ (by decide))).trans
      (put_prepared _ _ _ (by decide))
  · exact (((Dev.sameRegs_wr _ _ _ (by decide)).trans (Dev.sameRegs_wr _ _ _ (by decide))).trans
      (Dev.sameRegs_wr _ _ _ (by decide))).trans (Dev.sameRegs_put _ _ _ (by decide))
  · rw [Dev.put_rd_ne _ _ _ _ (by decide), Dev.wr_rd_ne _ _ _ _ (by decide), Dev.wr_rd_ne _ _ _ _ (by decide),
      Dev.wr_rd_ne _ _ _ _ (by decide)]
  · rw [Dev.put_rd_ne _ _ _ _ (by decide), Dev.wr_rd _ _ _ (by decide) (by decide)]
    rfl
  · rw [Dev.put_rd_ne _ _ _ _ (by decide), Dev.wr_rd_below _ _ _ _ (by decide) (by decide) (by decide) (by decide) (by rfl),
      Dev.wr_rd_above _ _ _ _ (by decide) (by decide) (by decide) (by rfl), Dev.wr_rd _ _ _ (by decide) (by decide)]
    exact Nat.mod_eq_of_lt hb

theorem armSwitch_arms (d : Dev) {bank : Nat} (at_ yen : Nat) (hb : bank < 2) : d.arms (armSwitch d bank at_ yen) bank := by
  obtain ⟨hprep, hregs, hreq, harmed, htarget⟩ := switchSet_arms d at_ yen hb
  rw [armSwitch_eq]
  generalize switchSet d bank at_ yen = g at hprep hregs hreq harmed htarget
  exact {
    prepared := hprep.trans (wr_prepared _ _ _ (by decide))
    regs := hregs.trans (Dev.sameRegs_wr _ _ _ (by decide))
    req := by rw [Dev.wr_rd _ _ _ (by decide) (by decide), hreq]; rfl
    armed := by rw [Dev.wr_rd_ne _ _ _ _ (by decide), harmed]
    target := by rw [Dev.wr_rd_ne _ _ _ _ (by decide), htarget] }

/-- SWITCH_BANK of a bank that exists. -/
theorem switchBank_bank {d : Dev} {slot b : Nat} (hbank : d.cmdAt slot 8 4 = b) (hb : b < 2) :
    d.cmdAt slot 8 1 = b ∧ ¬ (d.cmdAt slot 9 3 ≠ 0 ∨ 2 ≤ d.cmdAt slot 8 1) := by
  obtain ⟨hlow, hhigh⟩ := cmdAt_small (d := d) (slot := slot) (o := 8) (m := 1) (n := 3) (by rw [hbank]; omega)
  have heq : d.cmdAt slot 8 1 = b := hlow.trans hbank
  exact ⟨heq, by rw [heq]; simp only [hhigh]; omega⟩

theorem vstSwitchBank_unloaded {d : Dev} {slot b : Nat} (hbank : d.cmdAt slot 8 4 = b) (hb : b < 2) (hl : d.loaded b = false) :
    vstSwitchBank d slot = complete d slot 6 [] true := by
  obtain ⟨hlow, hexists⟩ := switchBank_bank hbank hb
  rw [vstSwitchBank, if_neg hexists, if_pos (by simp [hlow, hl])]

/-- The switch of a device alone. -/
def switchArmed (d : Dev) (b : Nat) : Dev := armSwitch d b (d.rd GSQ_FCNTLO.FCNT) 1

theorem vstSwitchBank_alone {d : Dev} {slot b : Nat} (hbank : d.cmdAt slot 8 4 = b) (hb : b < 2) (halone : d.otherMembers = [])
    (hl : d.loaded b = true) (hidle : d.bankActive b = false) (harmed : d.on GSQ_SWCTL.ARMED = false)
    (hgroup : d.wl.swGroup = none) :
    vstSwitchBank d slot = complete (switchArmed d b) slot 0 (leBytes 4 ((switchArmed d b).rd GSQ_SWREQ.REQ)) true := by
  obtain ⟨hlow, hexists⟩ := switchBank_bank hbank hb
  rw [vstSwitchBank, if_neg hexists, if_neg (by simp [hlow, hl, hidle, harmed, hgroup]), if_pos (by simp [halone]), hlow]
  rfl

/-! The map. -/

/-- An entry of a table that lists what differs from its default. -/
theorem tget_listed (f : Nat → Nat) (x n i : Nat) (hi : i < n) :
    tget (fun _ => x) (((List.range n).map (fun i => (i, f i))).filter (fun e => e.2 != x)) i = f i := by
  have hmem (e : Nat × Nat) : e ∈ ((List.range n).map (fun i => (i, f i))).filter (fun e => e.2 != x) ↔
      e.1 < n ∧ e.2 = f e.1 ∧ e.2 ≠ x := by
    simp only [List.mem_filter, List.mem_map, List.mem_range, bne_iff_ne]
    constructor
    · rintro ⟨⟨k, hk, rfl⟩, hne⟩
      exact ⟨hk, rfl, hne⟩
    · rintro ⟨hk, hv, hne⟩
      exact ⟨⟨e.1, hk, Prod.ext rfl hv.symm⟩, hne⟩
  generalize ((List.range n).map (fun i => (i, f i))).filter (fun e => e.2 != x) = t at hmem
  unfold tget
  cases hfind : t.find? (fun e => e.1 == i) with
  | none =>
    by_contra hne
    have hnone := List.find?_eq_none.1 hfind (i, f i) ((hmem _).2 ⟨hi, rfl, fun he => hne he.symm⟩)
    simp at hnone
  | some e =>
    obtain ⟨-, hv, -⟩ := (hmem e).1 (List.mem_of_find?_eq_some hfind)
    have hkey : e.1 = i := by simpa using List.find?_some hfind
    exact hv.trans (by rw [hkey])

/-- An entry of the map names no channel and is not the mark of an unused bay. -/
def mapBad (bs : List Byte) (i : Nat) : Bool := decide (0x3FFF ≤ leAt bs (2 * i) 2) && decide (leAt bs (2 * i) 2 ≤ 0xFFFE)

theorem mapBad_none {bs : List Byte} {n : Nat} (h : ∀ i, i < n → leAt bs (2 * i) 2 < 0x3FFF ∨ leAt bs (2 * i) 2 = 0xFFFF) :
    (List.range n).any (mapBad bs) = false := by
  rw [List.any_eq_false]
  intro i hi
  have := h i (List.mem_range.1 hi)
  simp only [mapBad, Bool.and_eq_true, decide_eq_true_eq]
  omega

/-- The second map is written and pending (R342). -/
def mapTaken (d : Dev) (bs : List Byte) : Dev :=
  (d.setGal (fun g => { g with map2 := some (mapTable bs) })).wr RSR_MAPCTL.PEND 1

/-- `e` is `d` with a map pending. -/
structure Dev.mapped (d e : Dev) (bs : List Byte) : Prop where
  prepared : d.prepared e
  regs : Dev.sameRegs [RSR_MAPCTL.addr] d e
  pend : e.rd RSR_MAPCTL.PEND = 1
  map : e.gal.map = d.gal.map
  map2 : e.gal.map2 = some (mapTable bs)

theorem mapTaken_mapped (d : Dev) (bs : List Byte) : d.mapped (mapTaken d bs) bs where
  prepared := (setGal_prepared d _).trans (wr_prepared _ _ _ (by decide))
  regs := (d.sameRegs_setGal _ _).trans (Dev.sameRegs_wr _ _ _ (by decide))
  pend := Dev.wr_rd _ _ _ (by decide) (by decide)
  map := rfl
  map2 := rfl

theorem vstLoadMap_size {d : Dev} {slot : Nat} (hmag : d.cmdAt slot 16 4 = 0) (hlen : d.cmdAt slot 12 4 ≠ 32768) :
    vstLoadMap d slot = complete d slot 0x0A [] true := by
  rw [vstLoadMap, if_neg (by simp only [hmag, ne_eq, not_true_eq_false, not_false_eq_true]), if_pos (.inl hlen)]

theorem vstLoadMap_takes {d e : Dev} {slot : Nat} {bs : List Byte} (hmag : d.cmdAt slot 16 4 = 0)
    (hlen : d.cmdAt slot 12 4 = 32768) (hregion : regionOk (d.cmdAt slot 8 4) (d.cmdAt slot 12 4) 8 = true)
    (hread : readSource d slot (d.cmdAt slot 8 4) (d.cmdAt slot 12 4) = (some bs, e))
    (hbs : ∀ i, i < 16384 → leAt bs (2 * i) 2 < 0x3FFF ∨ leAt bs (2 * i) 2 = 0xFFFF) :
    vstLoadMap d slot = complete (mapTaken e bs) slot 0 [] true := by
  have hsize : ¬ (d.cmdAt slot 12 4 ≠ 32768 ∨ (!regionOk (d.cmdAt slot 8 4) (d.cmdAt slot 12 4) 8) = true) := by
    rw [hregion]
    rintro (h | h)
    · exact h hlen
    · exact absurd h (by decide)
  have hgood : ¬ (List.range 16384).any (mapBad bs) = true := by
    rw [mapBad_none hbs]
    decide
  rw [vstLoadMap, if_neg (fun h => h hmag), if_neg hsize, hread]
  exact if_neg hgood

/-! The parse table. -/

/-- A parse table that is taken. -/
def parseTaken (d : Dev) (a r f : Nat) : Dev := { d with wl := { d.wl with parse := some (a, r, f) } }

section
variable {d e : Dev} {slot : Nat} {bs : List Byte} (hmag : d.cmdAt slot 16 4 = 0)
  (hregion : regionOk (d.cmdAt slot 8 4) (d.cmdAt slot 12 4) 16 = true)
  (hread : readRegion d (d.cmdAt slot 8 4) (d.cmdAt slot 12 4) = (some bs, e))
include hmag hregion hread

theorem vstLoadParse_takes {r f : Nat} (hcheck : parseCheck bs (d.cmdAt slot 12 4) = (r, f, none)) :
    vstLoadParse d slot = complete (parseTaken e (d.cmdAt slot 8 4) r f) slot 0 (parseOut r f none) true := by
  rw [vstLoadParse, if_neg (by simp [hmag]), if_neg (by simp [hregion]), hread]
  dsimp only
  rw [hcheck]
  rfl

theorem vstLoadParse_refuses {r f o : Nat} (hcheck : parseCheck bs (d.cmdAt slot 12 4) = (r, f, some o)) :
    vstLoadParse d slot = complete e slot 4 (parseOut r f (some o)) true := by
  rw [vstLoadParse, if_neg (by simp [hmag]), if_neg (by simp [hregion]), hread]
  dsimp only
  rw [hcheck]

end

theorem parseOut_length (r f : Nat) (o : Option Nat) : (parseOut r f o).length ≤ 248 := by simp [parseOut]

/-! Frames. -/

/-- A count of the parser, saturated. -/
def parseSat (n : Nat) : Nat := min (n + 1) 0xFFFFFFFF

/-- The counters of the parser, one by one. -/
theorem parseCounts_iff (w : Wail) (a b c e : Nat) :
    w.parseCounts = (a, b, c, e) ↔ w.parsed = a ∧ w.unmatched = b ∧ w.refused = c ∧ w.lastPort = e := by
  simp only [Wail.parseCounts, Prod.mk.injEq]

theorem parseField_stands {d e : Dev} (h : d.stands e) (a : Nat) (f : TakenFrame) : d.stands (parseField e a f) := by
  have hread := atriumAccess_stands h 0 false a 16 []
  unfold parseField
  split
  · next heq => rwa [heq] at hread
  · next heq =>
    rw [heq] at hread
    split
    · exact hread
    · exact atriumAccess_stands hread _ _ _ _ _

section
variable {d : Dev} {port : Nat} {f : TakenFrame}

theorem parseFrame_unmatched (h : d.wl.parse = none) : (parseFrame d port f).faults = d.faults ∧
    (parseFrame d port f).wl.parseCounts = (d.wl.parsed, parseSat d.wl.unmatched, d.wl.refused, port) := by
  rw [parseFrame, h]
  exact ⟨rfl, rfl⟩

/-- A frame that the FLAGS of its rule refuse. -/
def frameRefused (d : Dev) : Dev := { d with wl := { d.wl with refused := parseSat d.wl.refused } }

/-- A frame whose fields have been written. -/
def frameParsed (d : Dev) : Dev := { d with wl := { d.wl with parsed := parseSat d.wl.parsed } }

theorem parseFrame_eq {base nr nf : Nat} {r : List Byte} {e : Dev} (h : d.wl.parse = some (base, nr, nf))
    (hfind : findRule nr d base 0 port f = (some r, e)) : ∃ g, g.wl.parseCounts = e.wl.parseCounts ∧
      parseFrame d port f = if ruleRefuses r f then frameRefused e else frameParsed g := by
  have hstands := foldl_stands (f := fun d i => parseField d (base + 16 + 16 * (nr + leAt r 0x0C 2 + i)) f)
    (l := List.range (leAt r 0x0E 2)) e.stands_refl fun _ _ _ hg => parseField_stands hg _ f
  refine ⟨_, hstands.parse, ?_⟩
  rw [parseFrame, h]
  dsimp only
  rw [hfind]
  rfl

/-- A rule that meets the frame decides which counter counts it (R130, R131). -/
theorem parseFrame_counts {base nr nf : Nat} {r : List Byte} {e : Dev} (h : d.wl.parse = some (base, nr, nf))
    (hfind : findRule nr d base 0 port f = (some r, e)) : (parseFrame d port f).wl.parseCounts =
      (if ruleRefuses r f then e.wl.parsed else parseSat e.wl.parsed, e.wl.unmatched,
        if ruleRefuses r f then parseSat e.wl.refused else e.wl.refused, e.wl.lastPort) := by
  obtain ⟨g, hg, heq⟩ := parseFrame_eq h hfind
  rw [heq]
  cases hr : ruleRefuses r f with
  | true => rfl
  | false =>
    obtain ⟨hparsed, hun, href, hlast⟩ := (parseCounts_iff _ _ _ _ _).1 hg
    exact (parseCounts_iff _ _ _ _ _).2 ⟨congrArg parseSat hparsed, hun, href, hlast⟩

end

/-- A frame of the flows that was given to Wailith is parsed and its chain freed. -/
theorem frameParse_takes {d e : Dev} {port p : Nat} {w : Word} {rest : List Word} {f : TakenFrame} (hport : port < 48)
    (hserver : d.rd VST_FWSTAT.SERVER = 1) (hmode : d.mode = .run) (hbank : d.svcOf (.bank (port / 8)) = .inService)
    (hq : (d.port port).closedQ = w :: rest) (hpool : d.poolOf (fld w 31 5 * 32) = some p)
    (howner : d.ownerAt (bufKey p ((fld w 31 5 * 32 - d.poolBase p) / bufSize p)) = 1)
    (htake : takeFrame (frmqPop d port).2 (fld w 31 5 * 32) = (some f, e)) :
    frameParse d port = (bpmMove (parseFrame e port f) (some 1) w none).2 := by
  rw [frameParse, if_neg (by simp [hserver, hmode, hbank]; omega), hq]
  dsimp only
  rw [hpool, if_neg (by simp [howner]), htake]

/-- The counters stand through the free of the chain and the integrity faults of the cycle. -/
theorem frameParse_settles (d : Dev) (w : Word) :
    (settle (bpmMove d (some 1) w none).2).wl.parseCounts = d.wl.parseCounts :=
  (settle_stands (bpmMove_stands d.stands_refl (some 1) w none)).parse

/-- The reads of a command, as the statement names them. -/
theorem readBy_of {d : Dev} {r : Option (List Byte) × Dev} {bs : List Byte}
    (h : r = (some bs, { d with noc := r.2.noc, seed := r.2.seed })) : ∃ n x, r = (some bs, d.readBy n x) := ⟨_, _, h⟩

/-- Settles O42: images, switches and tables are taken before their answers, and what the parser counts stands through the free
of the chain and the integrity faults of the cycle. -/
theorem imagesTablesAndFramesLoad : Obligations.ImagesTablesAndFramesLoad := by
  intro slot b bs s hquiet hmode
  obtain ⟨hf, hroom200, -⟩ := hquiet
  have hroom : s.dev.evq.length < 240 := lt_trans hroom200 (by decide)
  have hself : s.dev.prepared s.dev := readBy_prepared s.dev s.dev.noc s.dev.seed
  refine ⟨fun hserve hbank hb => ⟨fun hregion => ?_, fun hregion hidle harmed htest hread => ?_⟩,
    fun hserve hbank hb halone => ⟨fun hl hidle harmed hgroup => ?_, fun hl => ?_⟩,
    fun hserve hmag => ⟨fun hlen => ?_, fun hlen hregion hread hbs => ?_⟩,
    fun hserve hmag hregion hread => ⟨fun r f hcheck => ?_, fun r f o hcheck => ?_⟩,
    fun port w rest p f d1 hport hserver hsvc hq hpool howner htake hfaults => ⟨fun hnone hwl => ?_,
      fun base nr nf r d2 hparse hwl hfind hwl2 => ?_⟩⟩
  · exact completes_refused (vstLoadGallery · slot) rfl hserve hf (vstLoadGallery_outside hbank hb hregion) hself (by decide) (by decide)
      fun e he => ⟨he.answered, he.refusedRegs rfl, he.gal⟩
  · obtain ⟨n, x, hread⟩ := readBy_of hread
    have hbranch := vstLoadGallery_reads hbank hb hregion hidle harmed htest hread
    have hprep := readBy_prepared s.dev n x
    rw [readBy_imgReason, readBy_imgOut, readBy_imgOut] at hbranch
    refine ⟨fun hzero => ?_, fun hne => ?_⟩
    · have hloads := bankLoad_loads (s.dev.readBy n x) bs hb
      rw [if_pos hzero] at hbranch
      generalize bankLoad (s.dev.readBy n x) b bs = g at hloads hbranch
      refine completes_logged (vstLoadGallery · slot) rfl hserve hf hbranch (hprep.trans hloads.prepared) (imgOut_length _ _ _)
        (by decide) hroom fun e he hevent => ⟨he.answered, ?_, ?_, ?_, ?_, hevent, he.sameBytes⟩
      · exact (congrArg (Nat.testBit · b) (he.kept hserve.1 GSQ_BANK.LOADED (by decide))).trans hloads.loaded
      · exact (congrArg (tget svcReset · (UnitId.prog b).key) he.svc).trans hloads.unit
      · exact (congrArg (fun x : Gal => nth PBank.empty x.banks b) he.gal).trans hloads.bank
      · exact (congrArg (fun x : Gal => nth PBank.empty x.banks (1 - b)) he.gal).trans hloads.other
    · rw [if_neg hne] at hbranch
      exact completes_refused (vstLoadGallery · slot) rfl hserve hf hbranch hprep (imgOut_length _ _ _) (by omega)
        fun e he => ⟨he.answered, he.refusedRegs rfl, he.gal, he.svc, he.sameBytes⟩
  · have harms := armSwitch_arms s.dev (s.dev.rd GSQ_FCNTLO.FCNT) 1 hb
    have heq := vstSwitchBank_alone hbank hb halone hl hidle harmed hgroup
    rw [switchArmed] at heq
    generalize armSwitch s.dev b (s.dev.rd GSQ_FCNTLO.FCNT) 1 = g at harms heq
    refine completes_logged (vstSwitchBank · slot) rfl hserve hf heq harms.prepared (by simp) (by decide) hroom fun e he _ => ?_
    have hreq := he.kept hserve.1 GSQ_SWREQ.REQ (by decide)
    have hans := he.answered
    rw [← hreq] at hans
    exact ⟨hans, hreq.trans harms.req, (he.kept hserve.1 GSQ_SWCTL.ARMED (by decide)).trans harms.armed,
      (he.kept hserve.1 GSQ_SWCTL.TARGET (by decide)).trans harms.target,
      (harms.regs.mono (List.subset_append_left switchArmRegs (rspRegs slot ++ evRegs))).trans
        (he.regs.mono (List.subset_append_right switchArmRegs _)), he.sameBytes⟩
  · exact completes_refused (vstSwitchBank · slot) rfl hserve hf (vstSwitchBank_unloaded hbank hb hl) hself (by decide) (by decide)
      fun e he => ⟨he.answered, he.refusedRegs rfl, he.sameBytes⟩
  · exact completes_refused (vstLoadMap · slot) rfl hserve hf (vstLoadMap_size hmag hlen) hself (by decide) (by decide)
      fun e he => ⟨he.answered, he.refusedRegs rfl, he.gal⟩
  · obtain ⟨n, x, hread⟩ := readBy_of hread
    have hmapped := mapTaken_mapped (s.dev.readBy n x) bs
    have heq := vstLoadMap_takes hmag hlen hregion (by rw [hlen]; exact hread) hbs
    generalize mapTaken (s.dev.readBy n x) bs = g at hmapped heq
    have hregs : Dev.sameRegs [RSR_MAPCTL.addr] s.dev g := hmapped.regs
    refine completes_logged (vstLoadMap · slot) rfl hserve hf heq ((readBy_prepared s.dev n x).trans hmapped.prepared) (by decide)
      (by decide) hroom fun e he _ => ⟨he.answered, (he.kept hserve.1 RSR_MAPCTL.PEND (by decide)).trans hmapped.pend,
        (congrArg Gal.map he.gal).trans hmapped.map, ⟨mapTable bs, (congrArg Gal.map2 he.gal).trans hmapped.map2, fun i hi => ?_⟩,
        (hregs.mono (List.subset_append_left _ (rspRegs slot ++ evRegs))).trans (he.regs.mono (List.subset_append_right _ _)),
        he.sameBytes⟩
    exact tget_listed (fun i => leAt bs (2 * i) 2) 0xFFFF 16384 i hi
  · obtain ⟨n, x, hread⟩ := readBy_of hread
    have hregs (k : Nat) : Dev.sameRegs (rspRegs slot ++ evRegs) s.dev (parseTaken (s.dev.readBy n x) k r f) := fun _ _ => rfl
    exact completes_logged (vstLoadParse · slot) rfl hserve hf (vstLoadParse_takes hmag hregion hread hcheck)
      ((readBy_prepared s.dev n x).trans (setWl_prepared _ _)) (parseOut_length _ _ _) (by decide) hroom fun e he _ =>
      ⟨he.answered, he.parse, (hregs _).trans he.regs, he.sameBytes⟩
  · obtain ⟨n, x, hread⟩ := readBy_of hread
    exact completes_refused (vstLoadParse · slot) rfl hserve hf (vstLoadParse_refuses hmag hregion hread hcheck)
      (readBy_prepared s.dev n x) (parseOut_length _ _ _) (by decide) fun e he =>
      ⟨he.answered, he.parse, he.refusedRegs rfl, he.sameBytes⟩
  · have hexec : exec (.frameParse port) s = fin s (bpmMove (parseFrame d1 port f) (some 1) w none).2 :=
      congrArg (fin s) (frameParse_takes hport hserver hmode hsvc hq hpool howner htake)
    have hcounts := (frameParse_settles (parseFrame d1 port f) w).trans (parseFrame_unmatched (port := port) (f := f) (hwl ▸ hnone)).2
    rw [hwl, parseCounts_iff] at hcounts
    obtain ⟨hparsed, hun, href, hlast⟩ := hcounts
    exact completes_settle hexec ⟨hun, hlast, hparsed, href⟩
  · have hexec : exec (.frameParse port) s = fin s (bpmMove (parseFrame d1 port f) (some 1) w none).2 :=
      congrArg (fin s) (frameParse_takes hport hserver hmode hsvc hq hpool howner htake)
    have hcounts := (frameParse_settles (parseFrame d1 port f) w).trans (parseFrame_counts (port := port) (hwl ▸ hparse) hfind)
    rw [hwl2, parseCounts_iff] at hcounts
    obtain ⟨hparsed, hun, href, -⟩ := hcounts
    refine completes_settle hexec ⟨hun, fun hr => ?_, fun hr => ?_⟩
    · rw [hr] at hparsed href
      exact ⟨href, hparsed⟩
    · rw [hr] at hparsed href
      exact ⟨hparsed, href⟩

end Sys2Proof.Machine
end
